-- ==== Sys2Proof/Word.lean ====
section
/-! DEFINITION. The plain words of the T9: bytes, byte strings and entry values. -/

namespace Sys2Proof

/-- A byte. -/
abbrev Byte := BitVec 8

/-- A byte string, byte 0 first. -/
abbrev Bytes := List Byte

/-- The value of a dictionary entry, element by element: a scalar is one element, an OCTETS value its bytes, an ARRAY
value its elements; a signed element is held in two's complement (R266). -/
abbrev Val := List Nat

end Sys2Proof
end

