-- ==== Sys2Proof/Syntax.lean ====
section
/-! DEFINITION. The commands of the T9: one constructor for each row of the table of operations and events, with the
row's operands. Numbers that name a part of the device (port, lane, view, context, domain ...) are Fin, so that no
command names a part that is not there. Values that a command brings from outside (a block, a packet, a stamp, a
measured eye, a sensor count) are its operands. -/

namespace Sys2Proof

/-- Destination modes of Table 3.1. -/
inductive DestMode where | unicast | group | broadcast | linkLocal
  deriving DecidableEq, Repr, Inhabited

/-- How a dictionary message reached the management core (R271): over an Izsor port or over the SPI port. -/
inductive Via where | izsor (port : Fin 4) | spi
  deriving DecidableEq, Repr

/-- The envelope of a dictionary request: its way in, and, over Izsor, the packet's Source, DestMode, Channel (the
session) and Sequence (R271). Over SPI only `via` is used (R289). -/
structure Env where
  via : Via
  source : BitVec 16
  mode : DestMode
  channel : Fin 256
  seq : BitVec 16
  deriving DecidableEq, Repr

/-- The header fields of a message that names an entry (Table 12.4) and its body. -/
structure EntryMsg where
  index : BitVec 16
  sub : BitVec 8
  segFirst : Bool
  segLast : Bool
  stagedView : Bool
  offset : Nat
  total : Nat
  body : Bytes
  deriving DecidableEq, Repr

/-- The binding fields of a context (R110). -/
inductive CtxField where
  | owner | window | launchMode | layerSync | format | width | height | unitBytes | bufferSet
  deriving DecidableEq, Repr

/-- The trims that phase 2 measures for one lane (R376), in trim codes. -/
structure TrimSet where
  deskew : Int
  swing : Nat
  impedance : Nat
  deriving DecidableEq, Repr

/-- The commands. -/
inductive Instr where
  /-- PORT_ENABLE_WRITE (R36): A write of PortEnable moves a port to DISABLED, or from DISABLED into DETECT. -/
  | portEnableWrite (e : Env) (port : Fin 4) (v : Bytes)
  /-- DETECT_PULSE (R36): Each 1 ms detect pulse in DETECT senses far-end termination and, on success, starts the 2 ms of electrical idle. -/
  | detectPulse (port : Fin 4) (terminated : Bool)
  /-- RATE_STEP_START (R40): The end of the DETECT idle or of the previous 26 ms step starts a rate step: the scrambler is seeded, or the transmitter idles if the rate is not in RateMask. -/
  | rateStepStart (port : Fin 4)
  /-- SERDES_PLL_LOCK (R36): The SerDes PLL locks at the start of a rate step and the port enters QUARTZ. -/
  | serdesPllLock (port : Fin 4)
  /-- STATE_TIME_LIMIT (R40): A training state exceeds its time limit; the port idles until the step ends and counts a fallback. -/
  | stateTimeLimit (port : Fin 4)
  /-- TRAIN_IDLE_END (R41): The 100 ms of electrical idle after a failed cycle ends and the port returns to DETECT. -/
  | trainIdleEnd (port : Fin 4)
  /-- BLOCK_RECEIVED (R26): A 66-bit block is received on a lane; it is descrambled, its header is judged and lock is tracked. -/
  | blockReceived (port : Fin 4) (lane : Fin 4) (blk : BitVec 66)
  /-- ALIGN_RECEIVED (R35): An ALIGN block is received; lanes are aligned by MarkerCount and BIP8 errors are added to BipErrors. -/
  | alignReceived (port : Fin 4) (lane : Fin 4) (payload : BitVec 64) (arrival : Nat)
  /-- ORDERED_SET_RECEIVED (R37): A Quartz, Basalt or Granite ordered set is received and advances training: RX_LOCKED, coefficient requests and responses, capability and ACK. -/
  | orderedSetReceived (port : Fin 4) (lane : Fin 4) (payload : BitVec 64) (eye : BitVec 8)
  /-- LINK_DOWN_IDLE_END (R42): The 2 ms of electrical idle after leaving ACTIVE ends, and the port enters DETECT or DISABLED. -/
  | linkDownIdleEnd (port : Fin 4)
  /-- RETRAIN (R42): A write of 1 to Retrain makes the port leave ACTIVE. -/
  | retrain (e : Env) (port : Fin 4) (v : Bytes)
  /-- PACKET_RECEIVED (R28): A packet ends with its TERM_k (or is ended bad); it is checked by R59 and delivered, forwarded or dropped by R71. -/
  | packetReceived (port : Fin 4) (bytes : Bytes) (bad : Bool)
  /-- EGRESS_TRANSMIT (R72): An egress port starts sending the next queued packet by strict class priority, inserting time stamps and sending ERROR for a packet that proves bad. -/
  | egressTransmit (port : Fin 4)
  /-- BER_WINDOW_END (R55): A window of 1,048,576 blocks ends and the bad-header count of the lane restarts. -/
  | berWindowEnd (port : Fin 4) (lane : Fin 4)
  /-- BIP_SECOND_END (R56): A second of calendar time ends; a lane whose BIP errors exceeded BipWarnThreshold raises EV_LINK_BIP once. -/
  | bipSecondEnd
  /-- ADAPT_WINDOW_END (R46): An adaptation window of 65,536 blocks ends, and a data-carrying window updates the lane's snapshot. -/
  | adaptWindowEnd (port : Fin 4) (lane : Fin 4) (coef : Nat)
  /-- EYE_BELOW_FLOOR (R47): The eye margin falls below EyeFloor in a window that is not data-carrying; the snapshot is reloaded and EV_ADAPT_REVERT is raised. -/
  | eyeBelowFloor (port : Fin 4) (lane : Fin 4) (eye : BitVec 8)
  /-- SLEEP_REQUEST (R49): A write of 1 to SleepRequest, or a DOMAIN_DOWN of the port's domain, sends SLEEP_REQ on all lanes. -/
  | sleepRequest (e : Env) (port : Fin 4) (v : Bytes)
  /-- SLEEP_REQ_RECEIVED (R49): A SLEEP_REQ is received and answered with SLEEP_ACK, or with SLEEP_NAK when packets are queued; crossed requests count as ACK. -/
  | sleepReqReceived (port : Fin 4)
  /-- SLEEP_ACK_RECEIVED (R49): A SLEEP_ACK is received; the packet in progress completes, 64 IDLE blocks are sent and electrical idle follows. -/
  | sleepAckReceived (port : Fin 4)
  /-- SLEEP_NAK_RECEIVED (R50): A SLEEP_NAK ends the request, which is answered E_BUSY or refused as a domain entry. -/
  | sleepNakReceived (port : Fin 4)
  /-- SLEEP_REQ_TIMEOUT (R50): No answer arrives within 100 µs of a SLEEP_REQ, and the T9 enters LINK_SLEEP alone. -/
  | sleepReqTimeout (port : Fin 4)
  /-- SLEEP_ENTRY_DONE (R49): Electrical idle is reached, termination is turned off, the port enters LINK_SLEEP and EV_LINK_SLEEP is raised. -/
  | sleepEntryDone (port : Fin 4)
  /-- WAKE_BEACON_QUALIFIED (R52): The AON detector qualifies a beacon after 200 cycles on a port in LINK_SLEEP and holds the port's wake level. -/
  | wakeBeaconQualified (port : Fin 4)
  /-- PORT_RESUME (R53): A woken port whose domain is ON enters RESUME and runs one fast step at the stored rate from the snapshot. -/
  | portResume (port : Fin 4)
  /-- HELLO_TIMER (R64): Every 1 ms the T9 sends HELLO on every ACTIVE port. -/
  | helloTimer
  /-- HELLO_RECEIVED (R66): A HELLO is received and updates the port's path offer, the child status and the neighbour's known values. -/
  | helloReceived (port : Fin 4) (payload : Bytes)
  /-- HELLO_TIMEOUT (R65): No valid HELLO arrives on a port for 3 ms; the port offers no path and EV_NET_HELLO_TIMEOUT is raised. -/
  | helloTimeout (port : Fin 4)
  /-- ASSIGN_RECEIVED (R69): An ASSIGN is accepted, which sets the address and Assigner and recomputes distance, or it is refused and counted. -/
  | assignReceived (port : Fin 4) (payload : Bytes)
  /-- RELAY_ASSIGN_RECEIVED (R70): A RELAY_ASSIGN makes the T9 send ASSIGN on the named port, or count NoRouteDrops if that port is not ACTIVE. -/
  | relayAssignReceived (source : BitVec 16) (payload : Bytes)
  /-- UNASSIGN (R69): A write of 1 to Unassign clears the address, the route table and the distance. -/
  | unassign (e : Env) (v : Bytes)
  /-- SWEEP_RECEIVED (R77): A SWEEP from upstream sets this device's map bits, is forwarded to the children and arms the return time. -/
  | sweepReceived (port : Fin 4) (payload : Bytes)
  /-- SWEEP_RETURN_RECEIVED (R77): A child's SWEEP_RETURN is OR-ed into the maps, or counted late; when all children have returned, the return is sent. -/
  | sweepReturnReceived (port : Fin 4) (payload : Bytes)
  /-- SWEEP_RETURN_TIME (R77): The return time R is reached and the SWEEP_RETURN is sent upstream with the maps gathered so far. -/
  | sweepReturnTime (tagSource : BitVec 16) (tagSequence : BitVec 16)
  /-- BULK_PACKET_RECEIVED (R74): A bulk data packet is accepted in order and written or decoded into its target, or it is discarded after a gap. -/
  | bulkPacketReceived (source : BitVec 16) (channel : BitVec 16) (seq : BitVec 16) (payload : Bytes)
  /-- BULK_ACK_TIMER (R74): 100 µs after a discarded bulk packet the T9 sends a bulk ACK showing the gap. -/
  | bulkAckTimer (transfer : Fin 16)
  /-- BULK_ACK_RECEIVED (R74): A bulk ACK for an outgoing transfer updates the credit and the resend point. -/
  | bulkAckReceived (source : BitVec 16) (transfer : Fin 16) (payload : Bytes)
  /-- BULK_SEND (R306): Within its credit, an outgoing transfer sends its next packet of target bytes. -/
  | bulkSend (transfer : Fin 16)
  /-- SYNC_SEND (R87): Every SyncInterval the time unit sends SYNC on each child port. -/
  | syncSend
  /-- SYNC_RECEIVED (R89): A SYNC from upstream sets the calendar offset and runs the servo: offset, step or clamp, increment and lock count. -/
  | syncReceived (port : Fin 4) (payload : Bytes) (rx : BitVec 96)
  /-- DELAY_EXCHANGE_TIMER (R88): The exchange schedule (4 exchanges 50 µs apart, then one every 16 SyncIntervals) sends DELAY_REQ on the upstream port. -/
  | delayExchangeTimer
  /-- DELAY_REQ_RECEIVED (R87): A DELAY_REQ on a child port is answered with DELAY_RESP carrying t2 and t3. -/
  | delayReqReceived (port : Fin 4) (seq : BitVec 16) (payload : Bytes) (rx : BitVec 96)
  /-- DELAY_RESP_RECEIVED (R88): A DELAY_RESP completes an exchange and updates MeanPathDelay, or is discarded when it matches no outstanding request. -/
  | delayRespReceived (port : Fin 4) (payload : Bytes) (rx : BitVec 96)
  /-- DELAY_RESP_TIMEOUT (R88): No DELAY_RESP arrives within 100 µs and the exchange is void. -/
  | delayRespTimeout
  /-- SYNC_LOSS (R85): No SYNC arrives for 8 SyncIntervals and a LOCKED time unit enters HOLDOVER. -/
  | syncLoss
  /-- HOLDOVER_LIMIT (R85): ErrorBound in HOLDOVER exceeds HoldoverLimit and the time unit enters FREE, raising EV_TIME_FREE. -/
  | holdoverLimit
  /-- SLOW_WINDOW_END (R94): A window of 1,024 slow periods ends and SlowPeriod and the oscillator source are updated. -/
  | slowWindowEnd (period : BitVec 64)
  /-- SLEEP_ACCOUNTING (R96): On the first slow edge after D5 returns and TIME locks, display time is advanced by n × P and the state and bound are set. -/
  | sleepAccounting
  /-- LAUNCH_PUSH (R99): A launch entry is written to LaunchPush, checked and queued, squashing computed bursts if it comes late. -/
  | launchPush (e : Env) (view : Fin 8) (v : Bytes)
  /-- LAUNCH_FLUSH (R105): A write of 1 to LaunchFlush empties the view's launch queue and counts LaunchFlushes. -/
  | launchFlush (e : Env) (view : Fin 8) (v : Bytes)
  /-- LAUNCH_INSTANT (R101): A launch entry's instant arrives; it is consumed and LastLaunch is set, and while stopped it is decided here. -/
  | launchInstant (view : Fin 8)
  /-- SYNCI_EDGE (R102): An enabled edge on a SYNCI input is captured with display stamp and calendar time, or counted as an overflow. -/
  | synciEdge (input : Fin 4) (falling : Bool) (stamp : BitVec 96)
  /-- CAPTURE_POP (R102): A read of CapturePop returns and removes the oldest capture. -/
  | capturePop (e : Env) (input : Fin 4)
  /-- SYNCO_PULSE (R104): A scheduled SYNCO pulse of the output's mode begins or ends at its instant. -/
  | syncoPulse (output : Fin 4) (begins : Bool)
  /-- VIDEO_UNIT (R114): A video unit reaches its context and is checked and written into the assembling buffer by the ingest procedure. -/
  | videoUnit (source : BitVec 16) (channel : BitVec 16) (seq : BitVec 16) (payload : Bytes)
  /-- CONTEXT_FIELD_WRITE (R110): A write to a context binding field is checked for state and combination, and FrameBytes and UnitCount follow. -/
  | contextFieldWrite (e : Env) (ctx : Fin 16384) (field : CtxField) (v : Bytes)
  /-- BIND (R111): Command Bind checks a context in order and binds it to its window and buffers. -/
  | bindContext (e : Env) (ctx : Fin 16384)
  /-- PARK (R122): Command Park parks a BOUND or ASSEMBLING context. -/
  | park (e : Env) (ctx : Fin 16384)
  /-- RELEASE (R124): Command Release frees a context in any state but FREE. -/
  | release (e : Env) (ctx : Fin 16384)
  /-- PARK_TIMEOUT (R122): Display time passes LastUnitTime plus ParkTimeout and the context parks. -/
  | parkTimeout (ctx : Fin 16384)
  /-- EVICT_TIMEOUT (R124): An OPEN or PARKED context stays in its state longer than EvictTimeout and enters FREE. -/
  | evictTimeout (ctx : Fin 16384)
  /-- ALLOCATE (R153): Command Allocate gives a handle the lowest free pages. -/
  | allocate (e : Env) (handle : Fin 1024)
  /-- FREE (R154): Command Free returns a handle's pages, or moves a SHOWING handle to RETIRE_PENDING. -/
  | free (e : Env) (handle : Fin 1024)
  /-- STORE_PLACEMENT_WRITE (R20): A store placement write is checked and clears every store whose base or count changes. -/
  | storePlacementWrite (e : Env) (store : Fin 6) (v : Bytes)
  /-- CAPTURE_ARM (R182): A write to CaptureAt arms a capture after the ordered checks, putting the handle in WRITING. -/
  | captureArm (e : Env) (v : Bytes)
  /-- CAPTURE_BOUNDARY (R182): The capture's boundary arrives; the refresh or one-off output is captured, or the capture aborts if D12 is not ON. -/
  | captureBoundary
  /-- CAPTURE_DONE (R182): The capture image is complete; the handle becomes READY and EV_CAPTURE_DONE is raised. -/
  | captureDone
  /-- CAPTURE_ABORT (R182): A write of 1 to CaptureAbort returns the handle to FREE and raises EV_CAPTURE_ABORTED. -/
  | captureAbort (e : Env) (v : Bytes)
  /-- PRIMARY_COUNT_WRITE (R191): A change of PrimaryCount while stopped clears CoefValid, resets the defect states and empties ConcealList. -/
  | primaryCountWrite (e : Env) (v : Bytes)
  /-- LRB_FRAME (R251): A readback frame on LRB is judged, and its flags become defect observations or count errors. -/
  | lrbFrame (group : Fin 64) (bits : List Bool)
  /-- DEFECT_VERDICT (R197): At each frame boundary each lamp's verdict advances its defect state. -/
  | defectVerdict
  /-- BURST_COMPUTE (R223): With room in the lane's run-ahead, the modulator starts computing a new or squashed burst through composition, compensation, overdrive and dither. -/
  | burstCompute (lane : Fin 512)
  /-- BURST_COMPUTED (R223): A burst's computation ends and its ledger entry becomes COMPUTED, or the result is discarded if it was squashed. -/
  | burstComputed (lane : Fin 512)
  /-- LAUNCH_LINE (R214): A burst passes its launch line; its entry is freed and its shift begins, or it is shifted dark or dropped. -/
  | launchLine (lane : Fin 512)
  /-- COMMIT_EFFECT (R226): A commit's effect time arrives and its parameters apply, with launch flushes, view disables and Slate frames as its changes require. -/
  | commitEffect
  /-- SLATE_FRAME_END (R231): The Slate frame ends at the next new-grid boundary and lighting resumes. -/
  | slateFrameEnd
  /-- MODULATOR_START (R232): A write of 1 to ModulatorRun is checked by R221 and schedules a start at a frame boundary. -/
  | modulatorStart (e : Env)
  /-- MODULATOR_STOP (R232): A write of 0 to ModulatorRun schedules a stop at the first frame boundary at or after acceptance plus H. -/
  | modulatorStop (e : Env)
  /-- MODULATOR_START_EFFECT (R232): The start's boundary arrives; generations restart and a Slate frame begins. -/
  | modulatorStartEffect
  /-- MODULATOR_STOP_EFFECT (R232): The stop's boundary arrives; pending commits apply, the ledger is emptied and the lanes go dark. -/
  | modulatorStopEffect
  /-- TE_EDGE (R254): A TE rising edge in grey mode fixes W_f, and the frame's loads and ARM follow. -/
  | teEdge (input : Fin 16)
  /-- TE_TIMEOUT (R255): No TE edge arrives in FramePeriod ÷ 20; the frame is skipped and EV_TE_MISSING is raised. -/
  | teTimeout (input : Fin 16)
  /-- LANE_PLL_UNLOCK (R261): A lane-quadrant PLL loses lock; its quadrant goes dark and EV_LANE_PLL_UNLOCK is raised. -/
  | lanePllUnlock (quadrant : Fin 4)
  /-- LANE_PLL_RELOCK (R261): The PLL relocks, EV_LANE_PLL_RELOCK is raised, and CONFIG and levels are sent. -/
  | lanePllRelock (quadrant : Fin 4)
  /-- QUADRANT_RESUME (R261): The first frame boundary at least 100 µs + τ after relock, or after another dark interval ends, resumes the quadrant's loads. -/
  | quadrantResume (quadrant : Fin 4)
  /-- OPEN (R274): OPEN opens or reopens a session with the sender as partner. -/
  | openSession (e : Env) (body : Bytes)
  /-- CLOSE (R276): CLOSE closes a session and discards its staged writes and open transfer. -/
  | closeSession (e : Env) (body : Bytes)
  /-- READ (R283): READ returns an entry's value from Offset, with TotalLength and Revision. -/
  | read (e : Env) (m : EntryMsg)
  /-- WRITE (R279): WRITE, or one of its segments, to an entry with no row of its own is checked and applied, or staged for REFRESH and FRAME entries. -/
  | write (e : Env) (m : EntryMsg)
  /-- WRITE_STAGED (R280): WRITE_STAGED stages a value and makes the session the staging owner. -/
  | writeStaged (e : Env) (m : EntryMsg)
  /-- COMMIT (R225): COMMIT checks the staged configuration and accepts it with an effect time and a generation, squashing as needed. -/
  | commit (e : Env) (body : Bytes)
  /-- DISCARD (R281): DISCARD drops the owner's staged writes and releases staging. -/
  | discard (e : Env) (body : Bytes)
  /-- STORE (R285): STORE begins saving the masked areas in order into the secure store. -/
  | store (e : Env) (body : Bytes)
  /-- RESTORE (R286): RESTORE checks an area and stages its stored values, or decodes the archive into the coefficient store. -/
  | restore (e : Env) (body : Bytes)
  /-- DOMAIN_UP (R287): DOMAIN_UP requests a domain's exit to ON after the dependency check. -/
  | domainUp (e : Env) (body : Bytes)
  /-- DOMAIN_DOWN (R287): DOMAIN_DOWN requests a domain's entry to RET or OFF after the dependency check. -/
  | domainDown (e : Env) (body : Bytes)
  /-- SESSION_EXPIRY (R276): A session with no accepted request for its timeout expires and raises EV_SESSION_EXPIRED. -/
  | sessionExpiry (session : Fin 256)
  /-- SEGMENT_TIMEOUT (R282): 100 ms without a segment discards an open transfer and raises EV_SEGMENT_FAILED. -/
  | segmentTimeout (session : Fin 257)
  /-- SPI_SEND (R288): A SEND transaction delivers a checked message to the local session, or is discarded with FAULT. -/
  | spiSend (bytes : Bytes) (early : Bool)
  /-- SPI_FETCH (R289): A FETCH clocks out the waiting reply and removes it once it has been clocked whole. -/
  | spiFetch (clocked : Nat)
  /-- SPI_STATUS (R288): A STATUS transaction returns the READY, BUSY and FAULT bits. -/
  | spiStatus
  /-- EVENT_POP (R293): A read of EventPop returns and removes the oldest event record. -/
  | eventPop (e : Env)
  /-- HOST_RESET (R291): A write of 1 to Reset resets the device once its reply has left the port. -/
  | hostReset (e : Env) (v : Bytes)
  /-- TRANSFER_OPEN (R307): A write of TransferOpen is checked and opens a bulk transfer. -/
  | transferOpen (e : Env) (v : Bytes)
  /-- TRANSFER_ABORT (R308): A write of a transfer id to TransferAbort fails that transfer with E_STATE. -/
  | transferAbort (e : Env) (v : Bytes)
  /-- TRANSFER_TIMEOUT (R308): TransferTimeout passes with no accepted packet or ACK, and the transfer fails with E_TIMEOUT. -/
  | transferTimeout (transfer : Fin 16)
  /-- JOB_START (R302): JobCommand Start is checked and starts a Shale job. -/
  | jobStart (e : Env) (job : Fin 4)
  /-- JOB_RESUME (R302): JobCommand Resume continues a SUSPENDED job from its saved state. -/
  | jobResume (e : Env) (job : Fin 4)
  /-- JOB_ABORT (R301): JobCommand Abort returns a job to IDLE. -/
  | jobAbort (e : Env) (job : Fin 4)
  /-- SAVED_STATE_WRITE (R300): A write of SavedState to an IDLE job is checked and leaves the job SUSPENDED. -/
  | savedStateWrite (e : Env) (job : Fin 4) (m : EntryMsg)
  /-- SHALE_BLOCK (R299): The codec serves one block of an active slot, advancing the job or coded transfer to done, suspended or failed. -/
  | shaleBlock (slot : Fin 8)
  /-- ARCHIVE_AUTOLOAD (R321): With ArchiveAutoLoad set, the T9 starts decoding the archive once D8 and the coefficient store are ON after a loss. -/
  | archiveAutoload
  /-- NVM_LINE_DONE (R314): An MRAM line write completes and the write path takes its next line by service order, advancing bank writes, clears and boot counts. -/
  | nvmLineDone
  /-- NVM_HOLD_LIMIT (R315): Lines held without a break for StoreHoldLimit fail their operation with E_TEMP_WINDOW or E_SUPPLY. -/
  | nvmHoldLimit
  /-- BLACKBOX_RECORD_WRITE (R326): Within the rate of 2,000 per second, a pending black-box record, or a summary first, is written to the next slot. -/
  | blackboxRecordWrite
  /-- BLACKBOX_SCAN_DONE (R324): The 12 ms scan after D10 enters ON finds the next free slot and the frozen heads. -/
  | blackboxScanDone
  /-- HEAD_RELEASE (R327): A write to HeadRelease writes a Kind 4 record and unfreezes the head. -/
  | headRelease (e : Env) (v : Bytes)
  /-- BLACKBOX_CLEAR (R327): A write of 1 to BlackBoxClear empties every slot and then writes a Kind 5 record. -/
  | blackboxClear (e : Env) (v : Bytes)
  /-- OWNER_ENROL (R330): A write to OwnerEnrol claims an unclaimed T9 with the given key. -/
  | ownerEnrol (e : Env) (v : Bytes)
  /-- AUTH_CHALLENGE (R331): A read of AuthChallenge returns a fresh 32-byte challenge for the session. -/
  | authChallenge (e : Env)
  /-- AUTHORISE_SESSION (R331): An OwnerToken of Kind 1 is checked and sets AUTHORISED on the session. -/
  | authoriseSession (e : Env) (v : Bytes)
  /-- REPLACE_OWNER_KEY (R331): An OwnerToken of Kind 2 is checked and replaces OwnerKey. -/
  | replaceOwnerKey (e : Env) (v : Bytes)
  /-- REMOVE_OWNER_KEY (R331): An OwnerToken of Kind 3 is checked and removes the owner key. -/
  | removeOwnerKey (e : Env) (v : Bytes)
  /-- FIRMWARE_ACTIVATE (R337): A write to FirmwareActivate makes a valid slot the trial for the next reset. -/
  | firmwareActivate (e : Env) (v : Bytes)
  /-- FIRMWARE_CONFIRM (R337): A write of 1 to FirmwareConfirm makes the running trial preferred and raises the anti-rollback counter. -/
  | firmwareConfirm (e : Env) (v : Bytes)
  /-- ATTEST_NONCE (R338): A write to AttestNonce starts composing a signed attestation report. -/
  | attestNonce (e : Env) (v : Bytes)
  /-- ATTEST_REPORT_READY (R338): The signed report becomes ready for AttestReport. -/
  | attestReportReady (session : Fin 257)
  /-- DOMAIN_QUIESCE_DONE (R344): The blocks of an entering domain finish or refuse their quiesce; isolation follows, or the entry ends refused. -/
  | domainQuiesceDone (domain : Fin 24)
  /-- DOMAIN_ENTRY_WINDOW_END (R344): The 4-cycle entry window ends and the domain reaches RET or OFF, starting the pending request or next plan layer. -/
  | domainEntryWindowEnd (domain : Fin 24)
  /-- DOMAIN_EXIT_DONE (R344): Power-good, lock and repair complete and a domain reaches ON, with its owners' return actions. -/
  | domainExitDone (domain : Fin 24)
  /-- POWER_GOOD_TIMEOUT (R348): Power-good is not reached within 2 ms because a rail is low, and the transition aborts with E_SUPPLY. -/
  | powerGoodTimeout (domain : Fin 24)
  /-- PLAN_ENTER (R351): A write of 1 to PlanEnter checks the plan and answers E_OK. -/
  | planEnter (e : Env) (v : Bytes)
  /-- PLAN_EXECUTE (R351): Once the reply has left its port, the plan starts its first layer. -/
  | planExecute
  /-- WAKE_BALL_EDGE (R352): An edge on the WAKE ball is latched by its AON detector, unless it falls in an entry window. -/
  | wakeBallEdge (rising : Bool)
  /-- SPI_CS_WAKE (R352): A falling chip-select edge while D9 is not ON is latched as a wake source. -/
  | spiCsWake
  /-- ALARM_EXPIRY (R352): The AON slow-tick count reaches AlarmTicks and the alarm wake level is held. -/
  | alarmExpiry
  /-- WAKE (R354): A wake source is taken at a slow edge; it supersedes pending entries and brings domains up in reverse layer order. -/
  | wake
  /-- REGULATOR_ACK (R355): A regulator request is acknowledged, or shows a fault that raises EV_REGULATOR_FAULT and sends CLEAR_FAULTS. -/
  | regulatorAck (rail : Fin 7) (statusWord : BitVec 16)
  /-- REGULATOR_TIMEOUT (R357): A regulator request is not acknowledged in RegulatorTimeout; it is retried, or after three failures the transition fails with E_TIMEOUT. -/
  | regulatorTimeout (rail : Fin 7)
  /-- SUPPLY_WARNING (R360): A rail stays below its warning level for 1 µs and a dip begins. -/
  | supplyWarning (rail : Fin 7) (mv : BitVec 16)
  /-- SUPPLY_DARK (R360): A dip lasts 10 ms and every quadrant is driven dark, raising EV_SUPPLY_DARK. -/
  | supplyDark
  /-- SUPPLY_RECOVER (R360): The last dipping rail recovers; held lines and exits proceed and EV_SUPPLY_DIP is raised. -/
  | supplyRecover (rail : Fin 7)
  /-- SUPPLY_RESET (R383): A monitored rail below its reset level for 1 µs triggers a SUPPLY warm reset. -/
  | supplyReset (rail : Fin 7) (mv : BitVec 16)
  /-- SENSOR_CONVERSION (R365): Each millisecond, or each 10 ms while shut down, all die sensors convert and are judged for plausibility and J. -/
  | sensorConversion (counts : List Nat)
  /-- SLOW_ROUND (R369): Each SlowRound the thermal block judges warning, rate of rise, throttle and AVS band, and converts the analog inputs. -/
  | slowRound (ain : List Nat)
  /-- CAL_PHASE1_STEP (R374): A step of phase 1 calibration ends at its scheduled time and the next begins. -/
  | calPhase1Step (reading : List Nat)
  /-- CAL_PHASE2_MEASURED (R376): A lane's sampler has taken 256 edges and new trims are computed. -/
  | calPhase2Measured (lane : Fin 512) (trim : TrimSet)
  /-- CAL_PHASE2_APPLY (R376): In a gap, each group applies the new trims of one lane in its idle time. -/
  | calPhase2Apply
  /-- CAL_REPEAT (R376): Every CalRepeat seconds a repeat pass of phase 2 starts. -/
  | calRepeat
  /-- POWER_ON_RESET (R383): VAON falls below its reset level, or power first comes up, and a full reset begins. -/
  | powerOnReset
  /-- CRYSTAL_DETECTED (R382): After 1,024 consecutive crystal cycles the slow clock changes from RC to the crystal. -/
  | crystalDetected
  /-- RESET_RELEASE (R382): Rails, RESET_N and the slow clock hold, and reset is released as time 0 of the boot. -/
  | resetRelease
  /-- RESET_BALL (R386): RESET_N held low for 1 µs gives a RESET_BALL warm reset. -/
  | resetBall (lowNs : Nat)
  /-- WATCHDOG_EXPIRY (R387): No renewal arrives within 1,000 ms and a WATCHDOG reset follows. -/
  | watchdogExpiry
  /-- BOOT_ROM (R336): When D9 first enters ON after reset, the boot ROM counts the boot, chooses and verifies a slot and starts it. -/
  | bootRom
  /-- FIRMWARE_BOOT (R388): The started firmware loads settings, queues the reset-cause record and brings up BootTargets. -/
  | firmwareBoot
  /-- BOOT_COMPLETE (R388): Every domain of BootTargets is ON or refused, and EV_BOOT_COMPLETE is raised with BootTime. -/
  | bootComplete
  /-- AUTOSTART (R390): With AutoStart set, once booted, coefficients valid and time locked, the T9 writes 1 to ModulatorRun itself. -/
  | autostart
  /-- JTAG_BYPASS (R408): The BYPASS instruction, or an unknown code, selects the bypass register. -/
  | jtagBypass (tdi : Bool)
  /-- JTAG_IDCODE (R408): The IDCODE instruction shifts out 0x1951_26B5. -/
  | jtagIdcode (tdi : Bool)
  /-- JTAG_SAMPLE_PRELOAD (R408): The SAMPLE/PRELOAD instruction samples or preloads the boundary register. -/
  | jtagSamplePreload (sample : List Bool) (preload : List Bool)
  /-- JTAG_EXTEST (R408): The EXTEST instruction drives the boundary cells onto the balls. -/
  | jtagExtest
  /-- JTAG_CLAMP (R408): The CLAMP instruction holds the balls at the boundary values with bypass selected. -/
  | jtagClamp
  /-- JTAG_HIGHZ (R408): The HIGHZ instruction floats the covered outputs. -/
  | jtagHighz
  /-- TEST_RESET (R383): Exit from EXTEST, CLAMP or HIGHZ gives a TEST warm reset. -/
  | testReset
  /-- CRYSTAL_OSCILLATION_LOST (R17): The slow clock's crystal stops oscillating and the slow clock falls back to the internal RC, and the switch is recorded for sleep accounting. -/
  | crystalOscillationLost
  /-- REFCLK_CLOCK_CHANGE (R16): A clock appears on or disappears from the REFCLK input, changing which reference the fast PLLs may select. -/
  | refclkClockChange (present : Bool)
  /-- LRB_START_BIT_LATE (R251): No start bit arrives on LRB by 100 ns after edge 0 of the row following a requested readback, so the requested frame is judged an error. -/
  | lrbStartBitLate (group : Fin 64)
  deriving DecidableEq, Repr

end Sys2Proof
end

