-- ==== Sys2Proof/Machine/Codes.lean ====
section
/-! DEFINITION. The events of the chapters' event tables (code, class and severity fixed per event, R10), and the
status codes of Table 12.13. -/

namespace Sys2Proof.Machine

/-- R294, Table 12.13. -/
inductive Status where
  | ok | noObject | noSub | access | type | range | busy | state | late | budget | retirePending | noSpace | noGain | overflow | code | distance | length | check | auth | signature | rollback | tempWindow | supply | session | segment | timeout
  deriving DecidableEq, Repr, Inhabited

/-- R294: the value of a status code. -/
def Status.value : Status → Nat
  | .ok => 0x0000
  | .noObject => 0x0001
  | .noSub => 0x0002
  | .access => 0x0003
  | .type => 0x0004
  | .range => 0x0005
  | .busy => 0x0006
  | .state => 0x0007
  | .late => 0x0008
  | .budget => 0x0009
  | .retirePending => 0x000A
  | .noSpace => 0x000B
  | .noGain => 0x000C
  | .overflow => 0x000D
  | .code => 0x000E
  | .distance => 0x000F
  | .length => 0x0010
  | .check => 0x0011
  | .auth => 0x0012
  | .signature => 0x0013
  | .rollback => 0x0014
  | .tempWindow => 0x0015
  | .supply => 0x0016
  | .session => 0x0017
  | .segment => 0x0018
  | .timeout => 0x0019

/-- Severities (R10, Table 12.11). -/
inductive Severity where | info | warn | fault | fatal
  deriving DecidableEq, Repr

/-- Table 12.11: the code of a severity. -/
def Severity.code : Severity → Nat | .info => 0 | .warn => 1 | .fault => 2 | .fatal => 3

/-- The events of the T9. -/
inductive Event where
  | linkUp | linkDown | linkRateFallback | linkTrainFail | linkSleep | linkWake | linkHighBer | linkBip
  | adaptRevert | linkSkew | netAssigned | netUpstreamChange | netNoRoot | netAddrConflict | netAssignRefused
  | netHelloTimeout | timeLocked | timeHoldover | timeFree | timeStep | timeStepBlocked | syncCaptureOverflow
  | launchMiss | streamAdmitted | streamBound | streamParked | streamResumed | streamEvicted | frameIncomplete
  | streamNoBuffer | streamLaunchRefused | garnetRowRejected | bufferEarlyFree | bufferRetired | quarryContentLost
  | captureDone | captureAborted | defectSuspect | defectConfirmed | defectConcealed | defectCapacity | coefInvalid
  | commitLate | slateFrame | throttleStep | throttleRelease | burstMissed | modulatorRun | teMissing
  | readbackLost | lanePllUnlock | lanePllRelock | overflowSummary | sessionOpened | sessionExpired | segmentFailed
  | bulkDone | bulkFailed | shaleJobDone | shaleJobSuspended | shaleJobFailed | resetCause | storeFailed
  | fwRejected | fwTrial | fwFallback | fwConfirmed | ownerChanged | authFailed | settingsSkipped | archiveLoaded
  | domainRefused | domainAborted | planDone | wake | supplyDip | supplyDark | regulatorTimeout | regulatorFault
  | thermalWarning | thermalWarningClear | thermalShutdown | sensorFailed | sensorRecovered | rateHold
  | rateRelease | ainFault | vrefcalFault | calPhase1Done | calPhase2Done | bootComplete | autostartRefused
  deriving DecidableEq, Repr, Inhabited

/-- R10: the code, class and severity of each event, by the event tables (R129, R148, R165, R185, R210, R236, R295, R340,
R363, R381, R396). -/
def Event.info : Event → Nat × Nat × Severity
  | .linkUp => (0x0801, 8, .info)
  | .linkDown => (0x0802, 8, .warn)
  | .linkRateFallback => (0x0803, 8, .warn)
  | .linkTrainFail => (0x0804, 8, .fault)
  | .linkSleep => (0x0805, 8, .info)
  | .linkWake => (0x0806, 8, .info)
  | .linkHighBer => (0x0901, 9, .warn)
  | .linkBip => (0x0902, 9, .warn)
  | .adaptRevert => (0x0903, 9, .info)
  | .linkSkew => (0x0904, 9, .fault)
  | .netAssigned => (0x0A01, 10, .info)
  | .netUpstreamChange => (0x0A02, 10, .info)
  | .netNoRoot => (0x0A03, 10, .warn)
  | .netAddrConflict => (0x0A04, 10, .fault)
  | .netAssignRefused => (0x0A05, 10, .warn)
  | .netHelloTimeout => (0x0A06, 10, .warn)
  | .timeLocked => (0x0B01, 11, .info)
  | .timeHoldover => (0x0B02, 11, .warn)
  | .timeFree => (0x0B03, 11, .fault)
  | .timeStep => (0x0B04, 11, .info)
  | .timeStepBlocked => (0x0B05, 11, .warn)
  | .syncCaptureOverflow => (0x0B06, 11, .warn)
  | .launchMiss => (0x0C01, 12, .warn)
  | .streamAdmitted => (0x0D01, 13, .info)
  | .streamBound => (0x0D02, 13, .info)
  | .streamParked => (0x0D03, 13, .info)
  | .streamResumed => (0x0D04, 13, .info)
  | .streamEvicted => (0x0D05, 13, .info)
  | .frameIncomplete => (0x0D06, 13, .warn)
  | .streamNoBuffer => (0x0D07, 13, .warn)
  | .streamLaunchRefused => (0x0D08, 13, .warn)
  | .garnetRowRejected => (0x0E01, 14, .warn)
  | .bufferEarlyFree => (0x0F01, 15, .warn)
  | .bufferRetired => (0x0F02, 15, .info)
  | .quarryContentLost => (0x0F03, 15, .warn)
  | .captureDone => (0x1001, 16, .info)
  | .captureAborted => (0x1002, 16, .warn)
  | .defectSuspect => (0x1101, 17, .info)
  | .defectConfirmed => (0x1102, 17, .warn)
  | .defectConcealed => (0x1103, 17, .info)
  | .defectCapacity => (0x1104, 17, .fault)
  | .coefInvalid => (0x1105, 17, .warn)
  | .commitLate => (0x1201, 18, .warn)
  | .slateFrame => (0x1202, 18, .info)
  | .throttleStep => (0x1203, 18, .warn)
  | .throttleRelease => (0x1204, 18, .info)
  | .burstMissed => (0x1205, 18, .fault)
  | .modulatorRun => (0x1206, 18, .info)
  | .teMissing => (0x1301, 19, .warn)
  | .readbackLost => (0x1302, 19, .warn)
  | .lanePllUnlock => (0x1303, 19, .fault)
  | .lanePllRelock => (0x1304, 19, .info)
  | .overflowSummary => (0x0001, 0, .warn)
  | .sessionOpened => (0x0101, 1, .info)
  | .sessionExpired => (0x0102, 1, .warn)
  | .segmentFailed => (0x0103, 1, .warn)
  | .bulkDone => (0x1401, 20, .info)
  | .bulkFailed => (0x1402, 20, .warn)
  | .shaleJobDone => (0x1403, 20, .info)
  | .shaleJobSuspended => (0x1404, 20, .info)
  | .shaleJobFailed => (0x1405, 20, .warn)
  | .resetCause => (0x1501, 21, .info)
  | .storeFailed => (0x1502, 21, .warn)
  | .fwRejected => (0x1503, 21, .warn)
  | .fwTrial => (0x1504, 21, .info)
  | .fwFallback => (0x1505, 21, .fault)
  | .fwConfirmed => (0x1506, 21, .info)
  | .ownerChanged => (0x1507, 21, .warn)
  | .authFailed => (0x1508, 21, .warn)
  | .settingsSkipped => (0x1509, 21, .warn)
  | .archiveLoaded => (0x150A, 21, .info)
  | .domainRefused => (0x1601, 22, .warn)
  | .domainAborted => (0x1602, 22, .warn)
  | .planDone => (0x1603, 22, .info)
  | .wake => (0x1604, 22, .info)
  | .supplyDip => (0x1605, 22, .warn)
  | .supplyDark => (0x1606, 22, .fault)
  | .regulatorTimeout => (0x1607, 22, .fault)
  | .regulatorFault => (0x1608, 22, .fault)
  | .thermalWarning => (0x1701, 23, .warn)
  | .thermalWarningClear => (0x1702, 23, .info)
  | .thermalShutdown => (0x1703, 23, .fatal)
  | .sensorFailed => (0x1704, 23, .warn)
  | .sensorRecovered => (0x1705, 23, .info)
  | .rateHold => (0x1706, 23, .info)
  | .rateRelease => (0x1707, 23, .info)
  | .ainFault => (0x1708, 23, .warn)
  | .vrefcalFault => (0x1709, 23, .fault)
  | .calPhase1Done => (0x170A, 23, .info)
  | .calPhase2Done => (0x170B, 23, .info)
  | .bootComplete => (0x1801, 24, .info)
  | .autostartRefused => (0x1802, 24, .warn)

end Sys2Proof.Machine
end

