-- ==== Sys2Proof/Config.lean ====
section
/-! DEFINITION. What a part or an implementation fixes, and the free values: constants with no body, so that no proof
can lean on a number the manual does not state (assumption log 2). -/

namespace Sys2Proof.Config

/-- R412: the junction range of the part, 0 for -C and 1 for -E. -/
opaque junctionRange : BitVec 1

/-- R38: the request that lane l's receiver puts into the n-th Basalt set it sends; the manual leaves adaptation to the
receiver. -/
opaque basaltRequest : Nat → Nat → Nat → BitVec 6

/-- R37 (log 145): the filling blocks of a port that have gone out since its transmitter was last looked at, of those
the time allows, by the number of the draw. -/
opaque fillBlocks : Nat → Nat

/-- R290: byte i of the part's SerialNumber. -/
opaque serial : Nat → Byte

/-- R328: byte i of the part's DeviceCertificate, where the manual does not fix it: when it was issued, by which production
key, the public key and the signature. -/
opaque certificate : Nat → Byte

/-- R162: the columns replaced in section q of the part. -/
opaque repairedColumns : Nat → BitVec 16

/-- R378: the factory gain of the housekeeping ADC. -/
opaque fusedAdcGain : BitVec 32

/-- R378: the factory offset of the housekeeping ADC. -/
opaque fusedAdcOffset : BitVec 16

/-- R378: the factory latency trim of quadrant q. -/
opaque fusedLatencyTrim : Nat → BitVec 16

/-- R375: the fused code of the internal reference. -/
opaque fusedVrefCode : BitVec 32

/-- R371: the scale of a rail's internal sense, Q16.16, in Table 15.8's order: the manual gives none. -/
opaque senseGain : Nat → BitVec 32

/-- R364: the fused count of sensor s at 30 degrees. -/
opaque sensorC30 : Nat → BitVec 32

/-- R364: the fused count of sensor s at 100 degrees. -/
opaque sensorC100 : Nat → BitVec 32

/-- R356: the fused AVS voltage of die band b, in 5 mV steps above 700 mV. -/
opaque avsStep : Nat → Fin 21

/-- R334: byte i of the firmware key k held in boot ROM. -/
opaque romKey : Nat → Nat → Byte

/-- R334: the revocation fuses of the four ROM keys. -/
opaque keyRevoked : BitVec 4

/-- R218: the built-in dither matrix: element i, each value 0 to 4,095 once. -/
opaque builtinDither : Equiv.Perm (BitVec 12)

/-- R328, R338: byte i of the device key's signature over a byte string (the private key never leaves the part). -/
opaque deviceSignature : Bytes → Nat → Byte

/-- R331: byte i of the n-th random string of the entropy source. -/
opaque entropy : Nat → Nat → Byte

/-- R292: the bytes of Detail that an event of the given code uses; the rest are 0. -/
opaque detailLength : Nat → Fin 25

/-- R292: byte i (0 to 23) of the Detail of an event of the given code that names the given things; the manual gives
the layout of two events only. -/
opaque detailByte : Nat → List Nat → Nat → Byte

/-- R34: the receive latency in ps that the n-th bring-up of a port settles on. -/
opaque rxLatency : Nat → BitVec 32

/-- R283: the Revision that the n-th read of a derived entry shows. -/
opaque revision : Nat → BitVec 32

/-- R298: the n-th open choice of the Shale encoder. -/
opaque shaleChoice : Nat → Nat

/-- R408: the level at boundary ball c at the n-th capture whose levels no operand gives. -/
opaque ballLevel : Nat → Nat → Bool

/-- R304: byte i of what a buffer holds after the n-th compress job that ended without gain. -/
opaque undefinedByte : Nat → Nat → Byte

/-- R413: the layout of a table store of n bytes, the device's own: the bytes that hold a content, one to one, so that
bytes read out and written back give the same content, and what any other bytes hold is open. -/
opaque tableLayout : (n : Nat) → Equiv.Perm (Vector Byte n)

/-- R402: the preset of a lane's transmit coefficients: pre-cursor, main and post-cursor steps. -/
opaque txPreset : Nat → BitVec 8

/-- R159: the stalls that the n-th group of accesses met in section q: when requesters meet in a bank is cycle timing. -/
opaque bankStalls : Nat → Nat → BitVec 16

/-- R160: the writes of both ports to one word in one cycle that the n-th group of accesses met. -/
opaque sameWordWrites : Nat → BitVec 16

/-- R314: the words that the n-th read of the MRAM corrected. -/
opaque mramCorrected : Nat → BitVec 16

/-- R314: where in its range the n-th read of the MRAM met a word with an uncorrectable error, if it did, and what one of
its bytes reads as from then on. -/
opaque mramWorn : Nat → Option (BitVec 32 × Byte)

/-- R88: the fixed transmit latency, in ps. -/
opaque txLatency : BitVec 32

/-- R402: the greatest step of the main cursor, which takes the remainder of the swing. -/
opaque mainSteps : BitVec 8

/-- R58: the HopLimit that the T9 puts into packets of its own. -/
opaque originHop : BitVec 8

/-- The n-th free value of 64 bits, where a rule leaves a number open and names no operand for it. -/
opaque freeValue : Nat → BitVec 64

end Sys2Proof.Config
end

