-- ==== Sys2Proof/Machine/Entries.lean ====
section
/-! DEFINITION. The object dictionary: one constructor per entry of the chapters' entry tables, and for each entry
its address, type, access right, commit class, default and simple range (R265 to R270, Table 12.1, Table 12.2). -/

namespace Sys2Proof.Machine

/-- The entries of the dictionary, each named as its table names it (the two entries called State and the two
called Command carry the name of their owner). -/
inductive Ent where
  | vendorId | familyId | memberCode | siliconRevision | junctionRange | paramTableVersion | driverLanes
  | maxPixels | maxPixels4P | maxLamps | maxWidth | maxHeight | maxScan | maxPlanes | maxDitherBits | maxLaneRate
  | maxRefresh | maxViews | layersPerView | maxWindows | contexts | boundContexts | quarryBytes | ledgerEntries
  | maxRunAhead | izsorPorts | maxIngest | maxDevices | groupsPerDevice | sessions | coefStorePlace
  | prevOutStorePlace | contextStorePlace | tableStorePlace | stagingPlace | frameStorePlace | planeDemand
  | planeLimit | ledgerDemand | stagingDemand | ingestDemand | portEnable | rateMask | portState | lineRate
  | isUpstream | farCapability | retrain | sleepRequest | eyeFloor | highBerThreshold | bipWarnThreshold
  | trainFailures | rateFallbacks | linkDowns | badPackets | sleepNaks | rxLatency | invalidHeaders
  | blockLockLosses | bipErrors | adaptReverts | eyeMargin | skew | snapshotValid | deviceAddress | unassign
  | rootDistance | upstreamPort | rootAddress | childPorts | assigner | upstreamChanges | headerCheckErrors
  | packetCheckErrors | noRouteDrops | hopLimitDrops | mgmtQueueDrops | videoQueueDrops | bulkQueueDrops
  | deliveryDrops | assignRefusals | lateSweepReturns | groupSlot | routeTable | displayTime | calendarTime
  | calendarValid | timeState | errorBound | increment | lastOffset | meanPathDelay | syncInterval | lockThreshold
  | unlockThreshold | servoTau | holdoverRate | holdoverLimit | sleepCrystalPpm | sleepRcPpm | freeRunPermit
  | slowPeriod | sleepTicks | taiUtcOffset | frameEpoch | framePeriod | steps | lockLosses | timeMessageErrors
  | launchFlushes | portAsymmetry | launchPush | queueDepth | launchMisses | launchFlush | lastLaunch
  | captureEnable | capturePop | captureCount | captureOverflows | outputMode | outputStart | outputPeriod
  | outputWidth | outputOffset | outputView | outputInvert | autoAdmit | parkTimeout | evictTimeout | boundCount
  | openCount | parkedCount | unadmittedDrops | contextStoreResets | ctxState | ctxCommand | owner | window
  | launchMode | layerSync | format | width | height | unitBytes | frameBytes | unitCount | bufferSet
  | assemblingFrame | unitsReceived | newestFrame | lastUnitTime | assemblyMap | flags | framesCompleted
  | framesIncomplete | sequenceGaps | duplicateUnits | staleUnits | foreignDrops | formatDrops | noBufferDrops
  | launchRefusals | discards | rejectedRows | shiftFaultRows | concealedBlocks | lastRejection | framePages
  | freePages | retirePendingCount | retentionMask | bankConflictStalls | sameWordConflicts | repairedColumns
  | earlyFrees | contentLosses | handleState | handleCommand | pageRequest | pageCount | bytes | frameTag
  | lastWriter | pageList | lastStateChange | viewCount | refreshesPerView | slotPattern | slotMap | captureView
  | captureHandle | captureTarget | captureAt | captureAbort | captureState | captureNumber | layerEnable | dimmer
  | brightnessLimit | pattern | patternLevel | toneCurve | primaryCount | tilePeak | hlgGamma | matrix709
  | matrix2020 | matrixCustom | customTransfer0 | customTransfer1 | control | crop | destination | alpha | encoding
  | nominalPeak | compControl | coefValid | omitMap | zoneGrid | driftCurves | seamColumn | seamRow | spreadWeights
  | concealCeiling | detectMinDrive | concealList | suspectCount | concealedCount | overflowCount
  | concealedClipped | overdriveControl | overdriveTable | firstRowGain | squashSkips | modulatorRun | driveMode
  | tileWidth | tileHeight | laneCount | outputsPerLane | laneMap | primaryOrder | scanRatio | rowOrder
  | rowDeadTime | laneRate | planeCount | planeTable | runAhead | ditherBits | ditherControl | ditherOrigin
  | ditherMatrix | planeDurations | effectiveDitherBits | effectiveRefreshes | throttleStep | timingState
  | slateFrames | missedBursts | generation | pendingCommits | squashHorizon | lastCommit | lateCommits
  | squashedEntries | ledgerSelect | ledgerEntry | ledgerLive | rowPortEnable | rowOnLead | readbackEnable
  | readbackFits | teEnable | teMisses | teLastSwap | quadrantLocked | unlockDrops | readbackLost | boardDelay
  | deskewTrim | swingTrim | impedanceTrim | readbackFrames | readbackErrors | serialNumber | firmwareVersion
  | activeSlot | sessionTimeout | openSessions | stagingOwner | stagedBytes | sessionRefusals | sessionExpiries
  | resendReplies | segmentFailures | sessionTable | reset | eventCount | eventPop | eventsRaised | eventsCoalesced
  | coalesceCounts | transferOpen | transferAbort | transferTimeout | openTransfers | decodeErrors | transferState
  | transferStatus | bytesDone | failedSection | jobSpec | jobCommand | jobState | jobStatus | inputDone
  | outputDone | chainUsed | savedState | blackBoxSeverity | blackBoxLast | blackBoxSelect | blackBoxRecord
  | frozenHeads | headRelease | blackBoxClear | blackBoxCoalesced | bootCount | storeHoldLimit | settingsSequence
  | calibrationSequence | archiveSequence | archiveAutoLoad | storeFailures | nvmHolds | nvmCorrected
  | settingsSkipped | deviceCertificate | antiRollbackCounter | vendorKeyRevoked | slotInfo | firmwareActivate
  | firmwareConfirm | bootControl | ownerKeyId | ownerEnrol | ownerToken | authChallenge | ownerSignsFirmware
  | attestNonce | attestReport | domainState | planTargets | planEnter | planOutcome | wakeEnable | wakeBallMode
  | wakeMode | wakeTargets | alarmTicks | lastWake | supplyWarning | supplyMin | vcoreTarget | railAddress
  | railSleepMask | regulatorTimeout | supplyDips | darkDips | regulatorTimeouts | transitions | refusals | aborts
  | superseded | lastRefuser | lastChange | junctionTemp | sensorTemps | sensorFailed | warningLevel
  | throttleLevel | shutdownLevel | restartLevel | slowRound | riseRate | thermalStatus | throttleDecisions
  | shutdownCount | bandEdges | bandChanges | calPhase | calRepeat | adcGain | adcOffset | latencyTrim | calSource
  | phase2Lanes | channelKind | thermistorTable | voltageGain | value | band | channelFault | lastResetCause
  | resetCauseSet | resetCounts | bootTargets | autoStart | bootTime
  deriving DecidableEq, Repr, Inhabited

/-- Data types (Table 12.1); an OCTETS or ARRAY value has `elt` bytes per element. -/
inductive Ty where | bool | u8 | u16 | u32 | u64 | i16 | i32 | q | time64 | cal80 | octets | array
  deriving DecidableEq, Repr

/-- Access rights (Table 12.2). -/
inductive Acc where | ro | rw | wo | const
  deriving DecidableEq, Repr

/-- Commit classes (Table 12.2); `none` is the dash of RO and CONST entries. -/
inductive Cls where | none | immediate | refresh | frame
  deriving DecidableEq, Repr

/-- What a row of an entry table says of an entry. `sub` tells that the instances differ in the subindex and not in
the index; `len` 0 stands for a length that varies; `lo` and `hi` bound a scalar (R278, the chapters' ranges). -/
structure EntInfo where
  index : Nat
  sub : Nat
  count : Nat
  bySub : Bool
  ty : Ty
  elt : Nat
  len : Nat
  acc : Acc
  stored : Bool
  cls : Cls
  lo : Nat
  hi : Nat
  deriving DecidableEq, Repr

/-- Table 1.7: a store placement word from its base and count. -/
def placeWord (base count : Nat) : Nat := count * 65536 + base

/-- R179: the identity tone curve, 33 knots as x, y pairs. -/
def identityTone : List Nat :=
  (List.range 33).flatMap (fun k => let v := if k = 32 then 4294967295 else k * 134217728; [v, v])

/-- R184: the identity matrix, 65,536 on the diagonal of rows 0 to 2. -/
def identityMatrix : List Nat := [65536, 0, 0, 0, 65536, 0, 0, 0, 65536, 0, 0, 0]

/-- R175: the LINEAR table, entry i at (i / 1,024) x 2^31. -/
def linearTransfer : List Nat := (List.range 1025).map (2097152 * ·)

/-- R328, Table 14.4: the device certificate: what the manual fixes, and the part's own bytes. -/
def certificate : List Nat :=
  let part := fun a n => (List.range n).map (fun i => (Config.certificate (a + i)).toNat)
  [1, 0, 0, 0] ++ (List.range 16).map (fun i => (Config.serial i).toNat) ++ [0x01, 0x7A, 9, 0xB0] ++ part 24 10 ++ [0, 0]
    ++ part 36 136

/-- R218: the built-in dither matrix, each value once; its order is a part's own (a free value). -/
def builtinDither : List Nat := (List.range 4096).map (fun i => (Config.builtinDither (BitVec.ofNat 12 i)).toNat)

/-- The row of each entry. -/
@[irreducible] def Ent.info : Ent → EntInfo
  | .vendorId => ⟨0x1000, 0x01, 1, false, .u16, 2, 1, .const, false, .none, 0, 65535⟩
  | .familyId => ⟨0x1000, 0x02, 1, false, .u16, 2, 1, .const, false, .none, 0, 65535⟩
  | .memberCode => ⟨0x1000, 0x03, 1, false, .u8, 1, 1, .const, false, .none, 0, 255⟩
  | .siliconRevision => ⟨0x1000, 0x04, 1, false, .u8, 1, 1, .const, false, .none, 0, 255⟩
  | .junctionRange => ⟨0x1000, 0x05, 1, false, .u8, 1, 1, .const, false, .none, 0, 255⟩
  | .paramTableVersion => ⟨0x1000, 0x06, 1, false, .u16, 2, 1, .const, false, .none, 0, 65535⟩
  | .driverLanes => ⟨0x1001, 0x01, 1, false, .u16, 2, 1, .const, false, .none, 0, 65535⟩
  | .maxPixels => ⟨0x1001, 0x02, 1, false, .u32, 4, 1, .const, false, .none, 0, 4294967295⟩
  | .maxPixels4P => ⟨0x1001, 0x03, 1, false, .u32, 4, 1, .const, false, .none, 0, 4294967295⟩
  | .maxLamps => ⟨0x1001, 0x04, 1, false, .u32, 4, 1, .const, false, .none, 0, 4294967295⟩
  | .maxWidth => ⟨0x1001, 0x05, 1, false, .u16, 2, 1, .const, false, .none, 0, 65535⟩
  | .maxHeight => ⟨0x1001, 0x06, 1, false, .u16, 2, 1, .const, false, .none, 0, 65535⟩
  | .maxScan => ⟨0x1001, 0x07, 1, false, .u8, 1, 1, .const, false, .none, 0, 255⟩
  | .maxPlanes => ⟨0x1001, 0x08, 1, false, .u8, 1, 1, .const, false, .none, 0, 255⟩
  | .maxDitherBits => ⟨0x1001, 0x09, 1, false, .u8, 1, 1, .const, false, .none, 0, 255⟩
  | .maxLaneRate => ⟨0x1001, 0x0A, 1, false, .u16, 2, 1, .const, false, .none, 0, 65535⟩
  | .maxRefresh => ⟨0x1001, 0x0B, 1, false, .u16, 2, 1, .const, false, .none, 0, 65535⟩
  | .maxViews => ⟨0x1001, 0x0C, 1, false, .u8, 1, 1, .const, false, .none, 0, 255⟩
  | .layersPerView => ⟨0x1001, 0x0D, 1, false, .u8, 1, 1, .const, false, .none, 0, 255⟩
  | .maxWindows => ⟨0x1001, 0x0E, 1, false, .u16, 2, 1, .const, false, .none, 0, 65535⟩
  | .contexts => ⟨0x1001, 0x0F, 1, false, .u16, 2, 1, .const, false, .none, 0, 65535⟩
  | .boundContexts => ⟨0x1001, 0x10, 1, false, .u16, 2, 1, .const, false, .none, 0, 65535⟩
  | .quarryBytes => ⟨0x1001, 0x11, 1, false, .u32, 4, 1, .const, false, .none, 0, 4294967295⟩
  | .ledgerEntries => ⟨0x1001, 0x12, 1, false, .u32, 4, 1, .const, false, .none, 0, 4294967295⟩
  | .maxRunAhead => ⟨0x1001, 0x13, 1, false, .u8, 1, 1, .const, false, .none, 0, 255⟩
  | .izsorPorts => ⟨0x1001, 0x14, 1, false, .u8, 1, 1, .const, false, .none, 0, 255⟩
  | .maxIngest => ⟨0x1001, 0x15, 1, false, .u32, 4, 1, .const, false, .none, 0, 4294967295⟩
  | .maxDevices => ⟨0x1001, 0x16, 1, false, .u16, 2, 1, .const, false, .none, 0, 65535⟩
  | .groupsPerDevice => ⟨0x1001, 0x17, 1, false, .u8, 1, 1, .const, false, .none, 0, 255⟩
  | .sessions => ⟨0x1001, 0x18, 1, false, .u16, 2, 1, .const, false, .none, 0, 65535⟩
  | .coefStorePlace => ⟨0x8200, 0x01, 1, false, .u32, 4, 1, .rw, true, .immediate, 0, 4294967295⟩
  | .prevOutStorePlace => ⟨0x8200, 0x02, 1, false, .u32, 4, 1, .rw, true, .immediate, 0, 4294967295⟩
  | .contextStorePlace => ⟨0x8200, 0x03, 1, false, .u32, 4, 1, .rw, true, .immediate, 0, 4294967295⟩
  | .tableStorePlace => ⟨0x8200, 0x04, 1, false, .u32, 4, 1, .rw, true, .immediate, 0, 4294967295⟩
  | .stagingPlace => ⟨0x8200, 0x05, 1, false, .u32, 4, 1, .rw, true, .immediate, 0, 4294967295⟩
  | .frameStorePlace => ⟨0x8200, 0x06, 1, false, .u32, 4, 1, .rw, true, .immediate, 0, 4294967295⟩
  | .planeDemand => ⟨0x9500, 0x20, 1, false, .u32, 4, 1, .ro, false, .none, 0, 4294967295⟩
  | .planeLimit => ⟨0x9500, 0x21, 1, false, .u32, 4, 1, .ro, false, .none, 0, 4294967295⟩
  | .ledgerDemand => ⟨0x9500, 0x22, 1, false, .u16, 2, 1, .ro, false, .none, 0, 65535⟩
  | .stagingDemand => ⟨0x9500, 0x23, 1, false, .u16, 2, 1, .ro, false, .none, 0, 65535⟩
  | .ingestDemand => ⟨0x8000, 0x20, 1, false, .u32, 4, 1, .ro, false, .none, 0, 4294967295⟩
  | .portEnable => ⟨0x2000, 0x01, 4, false, .bool, 1, 1, .rw, true, .immediate, 0, 1⟩
  | .rateMask => ⟨0x2000, 0x02, 4, false, .u8, 1, 1, .rw, true, .immediate, 1, 7⟩
  | .portState => ⟨0x2000, 0x03, 4, false, .u8, 1, 1, .ro, false, .none, 0, 255⟩
  | .lineRate => ⟨0x2000, 0x04, 4, false, .u8, 1, 1, .ro, false, .none, 0, 255⟩
  | .isUpstream => ⟨0x2000, 0x05, 4, false, .bool, 1, 1, .ro, false, .none, 0, 1⟩
  | .farCapability => ⟨0x2000, 0x06, 4, false, .octets, 1, 20, .ro, false, .none, 0, 0⟩
  | .retrain => ⟨0x2000, 0x07, 4, false, .bool, 1, 1, .wo, false, .immediate, 0, 1⟩
  | .sleepRequest => ⟨0x2000, 0x08, 4, false, .bool, 1, 1, .wo, false, .immediate, 0, 1⟩
  | .eyeFloor => ⟨0x2000, 0x09, 4, false, .u8, 1, 1, .rw, true, .immediate, 0, 255⟩
  | .highBerThreshold => ⟨0x2000, 0x0A, 4, false, .u16, 2, 1, .rw, true, .immediate, 0, 65535⟩
  | .bipWarnThreshold => ⟨0x2000, 0x0B, 4, false, .u16, 2, 1, .rw, true, .immediate, 0, 65535⟩
  | .trainFailures => ⟨0x2000, 0x0C, 4, false, .u32, 4, 1, .rw, false, .immediate, 0, 4294967295⟩
  | .rateFallbacks => ⟨0x2000, 0x0D, 4, false, .u32, 4, 1, .rw, false, .immediate, 0, 4294967295⟩
  | .linkDowns => ⟨0x2000, 0x0E, 4, false, .u32, 4, 1, .rw, false, .immediate, 0, 4294967295⟩
  | .badPackets => ⟨0x2000, 0x0F, 4, false, .u32, 4, 1, .rw, false, .immediate, 0, 4294967295⟩
  | .sleepNaks => ⟨0x2000, 0x10, 4, false, .u32, 4, 1, .rw, false, .immediate, 0, 4294967295⟩
  | .rxLatency => ⟨0x2000, 0x11, 4, false, .u32, 4, 1, .ro, false, .none, 0, 4294967295⟩
  | .invalidHeaders => ⟨0x2100, 0x01, 16, false, .u32, 4, 1, .rw, false, .immediate, 0, 4294967295⟩
  | .blockLockLosses => ⟨0x2100, 0x02, 16, false, .u32, 4, 1, .rw, false, .immediate, 0, 4294967295⟩
  | .bipErrors => ⟨0x2100, 0x03, 16, false, .u32, 4, 1, .rw, false, .immediate, 0, 4294967295⟩
  | .adaptReverts => ⟨0x2100, 0x04, 16, false, .u32, 4, 1, .rw, false, .immediate, 0, 4294967295⟩
  | .eyeMargin => ⟨0x2100, 0x05, 16, false, .u8, 1, 1, .ro, false, .none, 0, 255⟩
  | .skew => ⟨0x2100, 0x06, 16, false, .u16, 2, 1, .ro, false, .none, 0, 65535⟩
  | .snapshotValid => ⟨0x2100, 0x07, 16, false, .bool, 1, 1, .ro, false, .none, 0, 1⟩
  | .deviceAddress => ⟨0x2300, 0x01, 1, false, .u16, 2, 1, .ro, false, .none, 0, 65535⟩
  | .unassign => ⟨0x2300, 0x02, 1, false, .bool, 1, 1, .wo, false, .immediate, 0, 1⟩
  | .rootDistance => ⟨0x2300, 0x03, 1, false, .u8, 1, 1, .ro, false, .none, 0, 255⟩
  | .upstreamPort => ⟨0x2300, 0x04, 1, false, .u8, 1, 1, .ro, false, .none, 0, 255⟩
  | .rootAddress => ⟨0x2300, 0x05, 1, false, .u16, 2, 1, .ro, false, .none, 0, 65535⟩
  | .childPorts => ⟨0x2300, 0x06, 1, false, .u8, 1, 1, .ro, false, .none, 0, 255⟩
  | .assigner => ⟨0x2300, 0x07, 1, false, .u16, 2, 1, .ro, false, .none, 0, 65535⟩
  | .upstreamChanges => ⟨0x2300, 0x08, 1, false, .u32, 4, 1, .rw, false, .immediate, 0, 4294967295⟩
  | .headerCheckErrors => ⟨0x2300, 0x09, 1, false, .u32, 4, 1, .rw, false, .immediate, 0, 4294967295⟩
  | .packetCheckErrors => ⟨0x2300, 0x0A, 1, false, .u32, 4, 1, .rw, false, .immediate, 0, 4294967295⟩
  | .noRouteDrops => ⟨0x2300, 0x0B, 1, false, .u32, 4, 1, .rw, false, .immediate, 0, 4294967295⟩
  | .hopLimitDrops => ⟨0x2300, 0x0C, 1, false, .u32, 4, 1, .rw, false, .immediate, 0, 4294967295⟩
  | .mgmtQueueDrops => ⟨0x2300, 0x0D, 1, false, .u32, 4, 1, .rw, false, .immediate, 0, 4294967295⟩
  | .videoQueueDrops => ⟨0x2300, 0x0E, 1, false, .u32, 4, 1, .rw, false, .immediate, 0, 4294967295⟩
  | .bulkQueueDrops => ⟨0x2300, 0x0F, 1, false, .u32, 4, 1, .rw, false, .immediate, 0, 4294967295⟩
  | .deliveryDrops => ⟨0x2300, 0x10, 1, false, .u32, 4, 1, .rw, false, .immediate, 0, 4294967295⟩
  | .assignRefusals => ⟨0x2300, 0x11, 1, false, .u32, 4, 1, .rw, false, .immediate, 0, 4294967295⟩
  | .lateSweepReturns => ⟨0x2300, 0x12, 1, false, .u32, 4, 1, .rw, false, .immediate, 0, 4294967295⟩
  | .groupSlot => ⟨0x2301, 0x01, 16, true, .u16, 2, 1, .rw, true, .immediate, 0, 65535⟩
  | .routeTable => ⟨0x2400, 0x01, 1, false, .array, 1, 4096, .rw, false, .immediate, 0, 0⟩
  | .displayTime => ⟨0x3000, 0x01, 1, false, .time64, 8, 1, .ro, false, .none, 0, 18446744073709551615⟩
  | .calendarTime => ⟨0x3000, 0x02, 1, false, .cal80, 10, 1, .ro, false, .none, 0, 1208925819614629174706175⟩
  | .calendarValid => ⟨0x3000, 0x03, 1, false, .bool, 1, 1, .ro, false, .none, 0, 1⟩
  | .timeState => ⟨0x3000, 0x04, 1, false, .u8, 1, 1, .ro, false, .none, 0, 255⟩
  | .errorBound => ⟨0x3000, 0x05, 1, false, .u32, 4, 1, .ro, false, .none, 0, 4294967295⟩
  | .increment => ⟨0x3000, 0x06, 1, false, .u64, 8, 1, .ro, false, .none, 0, 18446744073709551615⟩
  | .lastOffset => ⟨0x3000, 0x07, 1, false, .i32, 4, 1, .ro, false, .none, 0, 4294967295⟩
  | .meanPathDelay => ⟨0x3000, 0x08, 1, false, .u32, 4, 1, .ro, false, .none, 0, 4294967295⟩
  | .syncInterval => ⟨0x3000, 0x09, 1, false, .u32, 4, 1, .rw, true, .immediate, 125, 4000⟩
  | .lockThreshold => ⟨0x3000, 0x0A, 1, false, .u16, 2, 1, .rw, true, .immediate, 0, 65535⟩
  | .unlockThreshold => ⟨0x3000, 0x0B, 1, false, .u32, 4, 1, .rw, true, .immediate, 0, 4294967295⟩
  | .servoTau => ⟨0x3000, 0x0C, 1, false, .u16, 2, 1, .rw, true, .immediate, 4, 256⟩
  | .holdoverRate => ⟨0x3000, 0x0D, 1, false, .u16, 2, 1, .rw, true, .immediate, 0, 65535⟩
  | .holdoverLimit => ⟨0x3000, 0x0E, 1, false, .u32, 4, 1, .rw, true, .immediate, 0, 4294967295⟩
  | .sleepCrystalPpm => ⟨0x3000, 0x0F, 1, false, .u16, 2, 1, .rw, true, .immediate, 1, 1000⟩
  | .sleepRcPpm => ⟨0x3000, 0x10, 1, false, .u16, 2, 1, .rw, true, .immediate, 100, 10000⟩
  | .freeRunPermit => ⟨0x3000, 0x11, 1, false, .bool, 1, 1, .rw, true, .immediate, 0, 1⟩
  | .slowPeriod => ⟨0x3000, 0x12, 1, false, .q, 8, 1, .ro, false, .none, 0, 18446744073709551615⟩
  | .sleepTicks => ⟨0x3000, 0x13, 1, false, .u64, 8, 1, .ro, false, .none, 0, 18446744073709551615⟩
  | .taiUtcOffset => ⟨0x3000, 0x14, 1, false, .i16, 2, 1, .ro, false, .none, 0, 65535⟩
  | .frameEpoch => ⟨0x3000, 0x15, 1, false, .time64, 8, 1, .rw, true, .frame, 0, 18446744073709551615⟩
  | .framePeriod => ⟨0x3000, 0x16, 1, false, .q, 8, 1, .rw, true, .frame, 0, 18446744073709551615⟩
  | .steps => ⟨0x3000, 0x17, 1, false, .u32, 4, 1, .rw, false, .immediate, 0, 4294967295⟩
  | .lockLosses => ⟨0x3000, 0x18, 1, false, .u32, 4, 1, .rw, false, .immediate, 0, 4294967295⟩
  | .timeMessageErrors => ⟨0x3000, 0x19, 1, false, .u32, 4, 1, .rw, false, .immediate, 0, 4294967295⟩
  | .launchFlushes => ⟨0x3000, 0x1A, 1, false, .u32, 4, 1, .rw, false, .immediate, 0, 4294967295⟩
  | .portAsymmetry => ⟨0x3001, 0x01, 4, true, .i32, 4, 1, .rw, true, .immediate, 0, 4294967295⟩
  | .launchPush => ⟨0x3010, 0x01, 8, false, .octets, 1, 16, .wo, false, .immediate, 0, 0⟩
  | .queueDepth => ⟨0x3010, 0x02, 8, false, .u8, 1, 1, .ro, false, .none, 0, 255⟩
  | .launchMisses => ⟨0x3010, 0x03, 8, false, .u32, 4, 1, .rw, false, .immediate, 0, 4294967295⟩
  | .launchFlush => ⟨0x3010, 0x04, 8, false, .bool, 1, 1, .wo, false, .immediate, 0, 1⟩
  | .lastLaunch => ⟨0x3010, 0x05, 8, false, .time64, 8, 1, .ro, false, .none, 0, 18446744073709551615⟩
  | .captureEnable => ⟨0x3020, 0x01, 4, false, .u8, 1, 1, .rw, true, .immediate, 0, 3⟩
  | .capturePop => ⟨0x3020, 0x02, 4, false, .octets, 1, 28, .ro, false, .none, 0, 0⟩
  | .captureCount => ⟨0x3020, 0x03, 4, false, .u8, 1, 1, .ro, false, .none, 0, 255⟩
  | .captureOverflows => ⟨0x3020, 0x04, 4, false, .u32, 4, 1, .rw, false, .immediate, 0, 4294967295⟩
  | .outputMode => ⟨0x3030, 0x01, 4, false, .u8, 1, 1, .rw, true, .immediate, 0, 4⟩
  | .outputStart => ⟨0x3030, 0x02, 4, false, .time64, 8, 1, .rw, false, .immediate, 0, 18446744073709551615⟩
  | .outputPeriod => ⟨0x3030, 0x03, 4, false, .q, 8, 1, .rw, true, .immediate, 0, 18446744073709551615⟩
  | .outputWidth => ⟨0x3030, 0x04, 4, false, .u32, 4, 1, .rw, true, .immediate, 0, 4294967295⟩
  | .outputOffset => ⟨0x3030, 0x05, 4, false, .i32, 4, 1, .rw, true, .immediate, 0, 4294967295⟩
  | .outputView => ⟨0x3030, 0x06, 4, false, .u8, 1, 1, .rw, true, .immediate, 0, 7⟩
  | .outputInvert => ⟨0x3030, 0x07, 4, false, .bool, 1, 1, .rw, true, .immediate, 0, 1⟩
  | .autoAdmit => ⟨0x8000, 0x01, 1, false, .bool, 1, 1, .rw, true, .immediate, 0, 1⟩
  | .parkTimeout => ⟨0x8000, 0x02, 1, false, .u32, 4, 1, .rw, true, .immediate, 10, 600000⟩
  | .evictTimeout => ⟨0x8000, 0x03, 1, false, .u32, 4, 1, .rw, true, .immediate, 0, 4294967295⟩
  | .boundCount => ⟨0x8000, 0x04, 1, false, .u16, 2, 1, .ro, false, .none, 0, 65535⟩
  | .openCount => ⟨0x8000, 0x05, 1, false, .u16, 2, 1, .ro, false, .none, 0, 65535⟩
  | .parkedCount => ⟨0x8000, 0x06, 1, false, .u16, 2, 1, .ro, false, .none, 0, 65535⟩
  | .unadmittedDrops => ⟨0x8000, 0x07, 1, false, .u32, 4, 1, .rw, false, .immediate, 0, 4294967295⟩
  | .contextStoreResets => ⟨0x8000, 0x08, 1, false, .u32, 4, 1, .rw, false, .immediate, 0, 4294967295⟩
  | .ctxState => ⟨0x4000, 0x01, 16384, false, .u8, 1, 1, .ro, false, .none, 0, 255⟩
  | .ctxCommand => ⟨0x4000, 0x02, 16384, false, .u8, 1, 1, .wo, false, .immediate, 1, 3⟩
  | .owner => ⟨0x4000, 0x03, 16384, false, .u16, 2, 1, .rw, false, .immediate, 0, 65535⟩
  | .window => ⟨0x4000, 0x04, 16384, false, .u16, 2, 1, .rw, false, .immediate, 0, 65535⟩
  | .launchMode => ⟨0x4000, 0x05, 16384, false, .u8, 1, 1, .rw, false, .immediate, 0, 2⟩
  | .layerSync => ⟨0x4000, 0x06, 16384, false, .bool, 1, 1, .rw, false, .immediate, 0, 1⟩
  | .format => ⟨0x4000, 0x07, 16384, false, .u32, 4, 1, .rw, false, .immediate, 0, 4294967295⟩
  | .width => ⟨0x4000, 0x08, 16384, false, .u16, 2, 1, .rw, false, .immediate, 0, 65535⟩
  | .height => ⟨0x4000, 0x09, 16384, false, .u16, 2, 1, .rw, false, .immediate, 0, 65535⟩
  | .unitBytes => ⟨0x4000, 0x0A, 16384, false, .u16, 2, 1, .rw, false, .immediate, 0, 65535⟩
  | .frameBytes => ⟨0x4000, 0x0B, 16384, false, .u32, 4, 1, .ro, false, .none, 0, 4294967295⟩
  | .unitCount => ⟨0x4000, 0x0C, 16384, false, .u16, 2, 1, .ro, false, .none, 0, 65535⟩
  | .bufferSet => ⟨0x4000, 0x0D, 16384, false, .array, 2, 8, .rw, false, .immediate, 0, 0⟩
  | .assemblingFrame => ⟨0x4000, 0x0E, 16384, false, .u32, 4, 1, .ro, false, .none, 0, 4294967295⟩
  | .unitsReceived => ⟨0x4000, 0x0F, 16384, false, .u16, 2, 1, .ro, false, .none, 0, 65535⟩
  | .newestFrame => ⟨0x4000, 0x10, 16384, false, .u32, 4, 1, .ro, false, .none, 0, 4294967295⟩
  | .lastUnitTime => ⟨0x4000, 0x11, 16384, false, .time64, 8, 1, .ro, false, .none, 0, 18446744073709551615⟩
  | .assemblyMap => ⟨0x4000, 0x12, 16384, false, .octets, 1, 512, .ro, false, .none, 0, 0⟩
  | .flags => ⟨0x4000, 0x13, 16384, false, .u16, 2, 1, .ro, false, .none, 0, 65535⟩
  | .framesCompleted => ⟨0x4000, 0x20, 16384, false, .u32, 4, 1, .rw, false, .immediate, 0, 4294967295⟩
  | .framesIncomplete => ⟨0x4000, 0x21, 16384, false, .u32, 4, 1, .rw, false, .immediate, 0, 4294967295⟩
  | .sequenceGaps => ⟨0x4000, 0x22, 16384, false, .u32, 4, 1, .rw, false, .immediate, 0, 4294967295⟩
  | .duplicateUnits => ⟨0x4000, 0x23, 16384, false, .u32, 4, 1, .rw, false, .immediate, 0, 4294967295⟩
  | .staleUnits => ⟨0x4000, 0x24, 16384, false, .u32, 4, 1, .rw, false, .immediate, 0, 4294967295⟩
  | .foreignDrops => ⟨0x4000, 0x25, 16384, false, .u32, 4, 1, .rw, false, .immediate, 0, 4294967295⟩
  | .formatDrops => ⟨0x4000, 0x26, 16384, false, .u32, 4, 1, .rw, false, .immediate, 0, 4294967295⟩
  | .noBufferDrops => ⟨0x4000, 0x27, 16384, false, .u32, 4, 1, .rw, false, .immediate, 0, 4294967295⟩
  | .launchRefusals => ⟨0x4000, 0x28, 16384, false, .u32, 4, 1, .rw, false, .immediate, 0, 4294967295⟩
  | .discards => ⟨0x4000, 0x29, 16384, false, .u32, 4, 1, .rw, false, .immediate, 0, 4294967295⟩
  | .rejectedRows => ⟨0x8000, 0x30, 1, false, .u32, 4, 1, .rw, false, .immediate, 0, 4294967295⟩
  | .shiftFaultRows => ⟨0x8000, 0x31, 1, false, .u32, 4, 1, .rw, false, .immediate, 0, 4294967295⟩
  | .concealedBlocks => ⟨0x8000, 0x32, 1, false, .u32, 4, 1, .rw, false, .immediate, 0, 4294967295⟩
  | .lastRejection => ⟨0x8000, 0x33, 1, false, .octets, 1, 8, .ro, false, .none, 0, 0⟩
  | .framePages => ⟨0x8200, 0x07, 1, false, .u16, 2, 1, .ro, false, .none, 0, 65535⟩
  | .freePages => ⟨0x8200, 0x08, 1, false, .u16, 2, 1, .ro, false, .none, 0, 65535⟩
  | .retirePendingCount => ⟨0x8200, 0x09, 1, false, .u16, 2, 1, .ro, false, .none, 0, 65535⟩
  | .retentionMask => ⟨0x8200, 0x0A, 4, true, .octets, 1, 12, .rw, true, .immediate, 0, 0⟩
  | .bankConflictStalls => ⟨0x8200, 0x10, 4, true, .u32, 4, 1, .rw, false, .immediate, 0, 4294967295⟩
  | .sameWordConflicts => ⟨0x8200, 0x14, 1, false, .u32, 4, 1, .rw, false, .immediate, 0, 4294967295⟩
  | .repairedColumns => ⟨0x8200, 0x15, 1, false, .array, 2, 4, .ro, false, .none, 0, 0⟩
  | .earlyFrees => ⟨0x8200, 0x16, 1, false, .u32, 4, 1, .rw, false, .immediate, 0, 4294967295⟩
  | .contentLosses => ⟨0x8200, 0x17, 1, false, .u32, 4, 1, .rw, false, .immediate, 0, 4294967295⟩
  | .handleState => ⟨0x8400, 0x01, 1024, false, .u8, 1, 1, .ro, false, .none, 0, 255⟩
  | .handleCommand => ⟨0x8400, 0x02, 1024, false, .u8, 1, 1, .wo, false, .immediate, 1, 2⟩
  | .pageRequest => ⟨0x8400, 0x03, 1024, false, .u16, 2, 1, .rw, false, .immediate, 1, 576⟩
  | .pageCount => ⟨0x8400, 0x04, 1024, false, .u16, 2, 1, .ro, false, .none, 0, 65535⟩
  | .bytes => ⟨0x8400, 0x05, 1024, false, .u32, 4, 1, .ro, false, .none, 0, 4294967295⟩
  | .frameTag => ⟨0x8400, 0x06, 1024, false, .u32, 4, 1, .ro, false, .none, 0, 4294967295⟩
  | .lastWriter => ⟨0x8400, 0x07, 1024, false, .u16, 2, 1, .ro, false, .none, 0, 65535⟩
  | .pageList => ⟨0x8400, 0x08, 1024, false, .array, 2, 0, .ro, false, .none, 0, 0⟩
  | .lastStateChange => ⟨0x8400, 0x09, 1024, false, .time64, 8, 1, .ro, false, .none, 0, 18446744073709551615⟩
  | .viewCount => ⟨0x8800, 0x01, 1, false, .u8, 1, 1, .rw, true, .frame, 1, 8⟩
  | .refreshesPerView => ⟨0x8800, 0x02, 1, false, .u16, 2, 1, .rw, true, .frame, 1, 512⟩
  | .slotPattern => ⟨0x8800, 0x03, 1, false, .u8, 1, 1, .rw, true, .frame, 0, 1⟩
  | .slotMap => ⟨0x8800, 0x04, 1, false, .array, 1, 8, .rw, true, .frame, 0, 0⟩
  | .captureView => ⟨0x8801, 0x01, 1, false, .u8, 1, 1, .rw, false, .immediate, 0, 255⟩
  | .captureHandle => ⟨0x8801, 0x02, 1, false, .u16, 2, 1, .rw, false, .immediate, 0, 1023⟩
  | .captureTarget => ⟨0x8801, 0x03, 1, false, .u8, 1, 1, .rw, false, .immediate, 0, 255⟩
  | .captureAt => ⟨0x8801, 0x04, 1, false, .time64, 8, 1, .wo, false, .immediate, 0, 18446744073709551615⟩
  | .captureAbort => ⟨0x8801, 0x05, 1, false, .bool, 1, 1, .wo, false, .immediate, 0, 1⟩
  | .captureState => ⟨0x8801, 0x06, 1, false, .u8, 1, 1, .ro, false, .none, 0, 255⟩
  | .captureNumber => ⟨0x8801, 0x07, 1, false, .u32, 4, 1, .rw, false, .immediate, 0, 4294967295⟩
  | .layerEnable => ⟨0x8810, 0x01, 8, false, .u8, 1, 1, .rw, true, .frame, 0, 15⟩
  | .dimmer => ⟨0x8810, 0x02, 8, false, .u16, 2, 1, .rw, true, .refresh, 0, 32768⟩
  | .brightnessLimit => ⟨0x8810, 0x03, 8, false, .u16, 2, 1, .rw, true, .frame, 0, 65535⟩
  | .pattern => ⟨0x8810, 0x04, 8, false, .u32, 4, 1, .rw, false, .frame, 0, 4294967295⟩
  | .patternLevel => ⟨0x8810, 0x05, 8, false, .u32, 4, 1, .rw, false, .frame, 0, 1048575⟩
  | .toneCurve => ⟨0x8810, 0x06, 8, false, .array, 4, 66, .rw, true, .frame, 0, 0⟩
  | .primaryCount => ⟨0x9000, 0x01, 1, false, .u8, 1, 1, .rw, true, .immediate, 3, 4⟩
  | .tilePeak => ⟨0x9000, 0x02, 1, false, .u16, 2, 1, .rw, true, .frame, 1, 65535⟩
  | .hlgGamma => ⟨0x9000, 0x03, 1, false, .u16, 2, 1, .rw, true, .frame, 1000, 1500⟩
  | .matrix709 => ⟨0x9000, 0x04, 1, false, .array, 4, 12, .rw, true, .frame, 0, 0⟩
  | .matrix2020 => ⟨0x9000, 0x05, 1, false, .array, 4, 12, .rw, true, .frame, 0, 0⟩
  | .matrixCustom => ⟨0x9000, 0x06, 1, false, .array, 4, 12, .rw, true, .frame, 0, 0⟩
  | .customTransfer0 => ⟨0x9000, 0x07, 1, false, .array, 4, 1025, .rw, true, .frame, 0, 0⟩
  | .customTransfer1 => ⟨0x9000, 0x08, 1, false, .array, 4, 1025, .rw, true, .frame, 0, 0⟩
  | .control => ⟨0x8C00, 0x01, 1024, false, .u32, 4, 1, .rw, true, .frame, 0, 4294967295⟩
  | .crop => ⟨0x8C00, 0x02, 1024, false, .u64, 8, 1, .rw, true, .frame, 0, 18446744073709551615⟩
  | .destination => ⟨0x8C00, 0x03, 1024, false, .u32, 4, 1, .rw, true, .frame, 0, 4294967295⟩
  | .alpha => ⟨0x8C00, 0x04, 1024, false, .u16, 2, 1, .rw, true, .refresh, 0, 4096⟩
  | .encoding => ⟨0x8C00, 0x05, 1024, false, .u32, 4, 1, .rw, true, .frame, 0, 4294967295⟩
  | .nominalPeak => ⟨0x8C00, 0x06, 1024, false, .u16, 2, 1, .rw, true, .frame, 1, 65535⟩
  | .compControl => ⟨0x9100, 0x01, 1, false, .u32, 4, 1, .rw, true, .frame, 0, 31⟩
  | .coefValid => ⟨0x9100, 0x02, 1, false, .bool, 1, 1, .rw, false, .immediate, 0, 1⟩
  | .omitMap => ⟨0x9100, 0x03, 1, false, .u8, 1, 1, .rw, true, .frame, 0, 255⟩
  | .zoneGrid => ⟨0x9100, 0x04, 1, false, .u8, 1, 1, .rw, true, .frame, 0, 255⟩
  | .driftCurves => ⟨0x9100, 0x05, 1, false, .array, 2, 8704, .rw, true, .frame, 0, 0⟩
  | .seamColumn => ⟨0x9100, 0x06, 1, false, .array, 2, 16384, .rw, true, .refresh, 0, 0⟩
  | .seamRow => ⟨0x9100, 0x07, 1, false, .array, 2, 8192, .rw, true, .refresh, 0, 0⟩
  | .spreadWeights => ⟨0x9100, 0x08, 1, false, .u32, 4, 1, .rw, true, .frame, 0, 4294967295⟩
  | .concealCeiling => ⟨0x9100, 0x09, 1, false, .u32, 4, 1, .rw, true, .frame, 0, 1048575⟩
  | .detectMinDrive => ⟨0x9100, 0x0A, 1, false, .u32, 4, 1, .rw, true, .immediate, 1, 262143⟩
  | .concealList => ⟨0x9100, 0x0B, 1, false, .array, 4, 0, .rw, true, .frame, 0, 0⟩
  | .suspectCount => ⟨0x9100, 0x0C, 1, false, .u32, 4, 1, .ro, false, .none, 0, 4294967295⟩
  | .concealedCount => ⟨0x9100, 0x0D, 1, false, .u16, 2, 1, .ro, false, .none, 0, 65535⟩
  | .overflowCount => ⟨0x9100, 0x0E, 1, false, .u32, 4, 1, .ro, false, .none, 0, 4294967295⟩
  | .concealedClipped => ⟨0x9100, 0x0F, 1, false, .u32, 4, 1, .rw, false, .immediate, 0, 4294967295⟩
  | .overdriveControl => ⟨0x9200, 0x01, 1, false, .u32, 4, 1, .rw, true, .frame, 0, 3⟩
  | .overdriveTable => ⟨0x9200, 0x02, 1, false, .array, 4, 4356, .rw, true, .frame, 0, 0⟩
  | .firstRowGain => ⟨0x9200, 0x03, 1, false, .array, 2, 4, .rw, true, .refresh, 0, 0⟩
  | .squashSkips => ⟨0x9200, 0x04, 1, false, .u32, 4, 1, .rw, false, .immediate, 0, 4294967295⟩
  | .modulatorRun => ⟨0x9400, 0x01, 1, false, .bool, 1, 1, .rw, false, .immediate, 0, 1⟩
  | .driveMode => ⟨0x9400, 0x02, 1, false, .u8, 1, 1, .rw, true, .frame, 0, 1⟩
  | .tileWidth => ⟨0x9400, 0x03, 1, false, .u16, 2, 1, .rw, true, .immediate, 0, 4096⟩
  | .tileHeight => ⟨0x9400, 0x04, 1, false, .u16, 2, 1, .rw, true, .immediate, 0, 2048⟩
  | .laneCount => ⟨0x9400, 0x05, 1, false, .u16, 2, 1, .rw, true, .immediate, 0, 512⟩
  | .outputsPerLane => ⟨0x9400, 0x06, 1, false, .u16, 2, 1, .rw, true, .immediate, 1, 8192⟩
  | .laneMap => ⟨0x9400, 0x07, 1, false, .array, 4, 512, .rw, true, .immediate, 0, 0⟩
  | .primaryOrder => ⟨0x9400, 0x08, 1, false, .u8, 1, 1, .rw, true, .immediate, 0, 255⟩
  | .scanRatio => ⟨0x9400, 0x09, 1, false, .u8, 1, 1, .rw, true, .frame, 1, 64⟩
  | .rowOrder => ⟨0x9400, 0x0A, 1, false, .u8, 1, 1, .rw, true, .frame, 0, 1⟩
  | .rowDeadTime => ⟨0x9400, 0x0B, 1, false, .u16, 2, 1, .rw, true, .frame, 40, 400⟩
  | .laneRate => ⟨0x9400, 0x0C, 1, false, .u16, 2, 1, .rw, true, .frame, 200, 1250⟩
  | .planeCount => ⟨0x9400, 0x0D, 1, false, .u8, 1, 1, .rw, true, .frame, 1, 12⟩
  | .planeTable => ⟨0x9400, 0x0E, 1, false, .array, 1, 12, .rw, true, .frame, 0, 0⟩
  | .runAhead => ⟨0x9400, 0x0F, 1, false, .u8, 1, 1, .rw, true, .frame, 1, 4⟩
  | .ditherBits => ⟨0x9400, 0x10, 1, false, .u8, 1, 1, .rw, true, .frame, 0, 6⟩
  | .ditherControl => ⟨0x9400, 0x11, 1, false, .u8, 1, 1, .rw, true, .frame, 0, 1⟩
  | .ditherOrigin => ⟨0x9400, 0x12, 1, false, .u32, 4, 1, .rw, true, .frame, 0, 4294967295⟩
  | .ditherMatrix => ⟨0x9400, 0x13, 1, false, .array, 2, 4096, .rw, true, .frame, 0, 0⟩
  | .planeDurations => ⟨0x9400, 0x14, 1, false, .array, 4, 12, .ro, false, .none, 0, 0⟩
  | .effectiveDitherBits => ⟨0x9400, 0x15, 1, false, .u8, 1, 1, .ro, false, .none, 0, 255⟩
  | .effectiveRefreshes => ⟨0x9400, 0x16, 1, false, .u16, 2, 1, .ro, false, .none, 0, 65535⟩
  | .throttleStep => ⟨0x9400, 0x17, 1, false, .u8, 1, 1, .ro, false, .none, 0, 255⟩
  | .timingState => ⟨0x9400, 0x18, 1, false, .u8, 1, 1, .ro, false, .none, 0, 255⟩
  | .slateFrames => ⟨0x9400, 0x19, 1, false, .u32, 4, 1, .rw, false, .immediate, 0, 4294967295⟩
  | .missedBursts => ⟨0x9400, 0x1A, 1, false, .u32, 4, 1, .rw, false, .immediate, 0, 4294967295⟩
  | .generation => ⟨0x9500, 0x01, 1, false, .u32, 4, 1, .ro, false, .none, 0, 4294967295⟩
  | .pendingCommits => ⟨0x9500, 0x02, 1, false, .u8, 1, 1, .ro, false, .none, 0, 255⟩
  | .squashHorizon => ⟨0x9500, 0x03, 1, false, .u32, 4, 1, .ro, false, .none, 0, 4294967295⟩
  | .lastCommit => ⟨0x9500, 0x04, 1, false, .octets, 1, 24, .ro, false, .none, 0, 0⟩
  | .lateCommits => ⟨0x9500, 0x05, 1, false, .u32, 4, 1, .rw, false, .immediate, 0, 4294967295⟩
  | .squashedEntries => ⟨0x9500, 0x06, 1, false, .u32, 4, 1, .rw, false, .immediate, 0, 4294967295⟩
  | .ledgerSelect => ⟨0x9500, 0x07, 1, false, .u32, 4, 1, .rw, false, .immediate, 0, 4294967295⟩
  | .ledgerEntry => ⟨0x9500, 0x08, 1, false, .u64, 8, 1, .ro, false, .none, 0, 18446744073709551615⟩
  | .ledgerLive => ⟨0x9500, 0x09, 1, false, .u16, 2, 1, .ro, false, .none, 0, 65535⟩
  | .rowPortEnable => ⟨0x9800, 0x01, 1, false, .u8, 1, 1, .rw, true, .frame, 0, 255⟩
  | .rowOnLead => ⟨0x9800, 0x02, 1, false, .u16, 2, 1, .rw, true, .frame, 0, 380⟩
  | .readbackEnable => ⟨0x9800, 0x03, 1, false, .bool, 1, 1, .rw, true, .frame, 0, 1⟩
  | .readbackFits => ⟨0x9800, 0x04, 1, false, .bool, 1, 1, .ro, false, .none, 0, 1⟩
  | .teEnable => ⟨0x9800, 0x05, 1, false, .u16, 2, 1, .rw, true, .frame, 0, 65535⟩
  | .teMisses => ⟨0x9800, 0x06, 1, false, .u32, 4, 1, .rw, false, .immediate, 0, 4294967295⟩
  | .teLastSwap => ⟨0x9800, 0x07, 1, false, .array, 8, 16, .ro, false, .none, 0, 0⟩
  | .quadrantLocked => ⟨0x9800, 0x08, 1, false, .u8, 1, 1, .ro, false, .none, 0, 255⟩
  | .unlockDrops => ⟨0x9800, 0x09, 1, false, .u32, 4, 1, .rw, false, .immediate, 0, 4294967295⟩
  | .readbackLost => ⟨0x9800, 0x0A, 1, false, .octets, 1, 8, .ro, false, .none, 0, 0⟩
  | .boardDelay => ⟨0x9A00, 0x01, 512, false, .i16, 2, 1, .rw, true, .frame, 0, 65535⟩
  | .deskewTrim => ⟨0x9A00, 0x02, 512, false, .i16, 2, 1, .ro, false, .none, 0, 65535⟩
  | .swingTrim => ⟨0x9A00, 0x03, 512, false, .u8, 1, 1, .ro, false, .none, 0, 255⟩
  | .impedanceTrim => ⟨0x9A00, 0x04, 512, false, .u8, 1, 1, .ro, false, .none, 0, 255⟩
  | .readbackFrames => ⟨0x9A00, 0x05, 512, false, .u32, 4, 1, .rw, false, .immediate, 0, 4294967295⟩
  | .readbackErrors => ⟨0x9A00, 0x06, 512, false, .u32, 4, 1, .rw, false, .immediate, 0, 4294967295⟩
  | .serialNumber => ⟨0x1002, 0x01, 1, false, .octets, 1, 16, .const, false, .none, 0, 0⟩
  | .firmwareVersion => ⟨0x1002, 0x02, 1, false, .u32, 4, 1, .ro, false, .none, 0, 4294967295⟩
  | .activeSlot => ⟨0x1002, 0x03, 1, false, .u8, 1, 1, .ro, false, .none, 0, 255⟩
  | .sessionTimeout => ⟨0x1100, 0x01, 1, false, .u32, 4, 1, .rw, true, .immediate, 1000, 600000⟩
  | .openSessions => ⟨0x1100, 0x02, 1, false, .u16, 2, 1, .ro, false, .none, 0, 65535⟩
  | .stagingOwner => ⟨0x1100, 0x03, 1, false, .u16, 2, 1, .ro, false, .none, 0, 65535⟩
  | .stagedBytes => ⟨0x1100, 0x04, 1, false, .u32, 4, 1, .ro, false, .none, 0, 4294967295⟩
  | .sessionRefusals => ⟨0x1100, 0x05, 1, false, .u32, 4, 1, .rw, false, .immediate, 0, 4294967295⟩
  | .sessionExpiries => ⟨0x1100, 0x06, 1, false, .u32, 4, 1, .rw, false, .immediate, 0, 4294967295⟩
  | .resendReplies => ⟨0x1100, 0x07, 1, false, .u32, 4, 1, .rw, false, .immediate, 0, 4294967295⟩
  | .segmentFailures => ⟨0x1100, 0x08, 1, false, .u32, 4, 1, .rw, false, .immediate, 0, 4294967295⟩
  | .sessionTable => ⟨0x1101, 0x01, 1, false, .array, 8, 257, .ro, false, .none, 0, 0⟩
  | .reset => ⟨0x1102, 0x01, 1, false, .bool, 1, 1, .wo, false, .immediate, 0, 1⟩
  | .eventCount => ⟨0x1200, 0x01, 1, false, .u16, 2, 1, .ro, false, .none, 0, 65535⟩
  | .eventPop => ⟨0x1200, 0x02, 1, false, .octets, 1, 48, .ro, false, .none, 0, 0⟩
  | .eventsRaised => ⟨0x1200, 0x03, 1, false, .u32, 4, 1, .rw, false, .immediate, 0, 4294967295⟩
  | .eventsCoalesced => ⟨0x1200, 0x04, 1, false, .u32, 4, 1, .rw, false, .immediate, 0, 4294967295⟩
  | .coalesceCounts => ⟨0x1200, 0x05, 1, false, .array, 4, 64, .ro, false, .none, 0, 0⟩
  | .transferOpen => ⟨0x8100, 0x01, 1, false, .octets, 1, 32, .wo, false, .immediate, 0, 0⟩
  | .transferAbort => ⟨0x8100, 0x02, 1, false, .u8, 1, 1, .wo, false, .immediate, 0, 255⟩
  | .transferTimeout => ⟨0x8100, 0x03, 1, false, .u32, 4, 1, .rw, true, .immediate, 100, 60000⟩
  | .openTransfers => ⟨0x8100, 0x04, 1, false, .u16, 2, 1, .ro, false, .none, 0, 65535⟩
  | .decodeErrors => ⟨0x8100, 0x05, 1, false, .u32, 4, 1, .rw, false, .immediate, 0, 4294967295⟩
  | .transferState => ⟨0x8110, 0x01, 16, false, .u8, 1, 1, .ro, false, .none, 0, 255⟩
  | .transferStatus => ⟨0x8110, 0x02, 16, false, .u16, 2, 1, .ro, false, .none, 0, 65535⟩
  | .bytesDone => ⟨0x8110, 0x03, 16, false, .u32, 4, 1, .ro, false, .none, 0, 4294967295⟩
  | .failedSection => ⟨0x8110, 0x04, 16, false, .u8, 1, 1, .ro, false, .none, 0, 255⟩
  | .jobSpec => ⟨0x8120, 0x01, 4, false, .octets, 1, 48, .rw, false, .immediate, 0, 0⟩
  | .jobCommand => ⟨0x8120, 0x02, 4, false, .u8, 1, 1, .wo, false, .immediate, 1, 3⟩
  | .jobState => ⟨0x8120, 0x03, 4, false, .u8, 1, 1, .ro, false, .none, 0, 255⟩
  | .jobStatus => ⟨0x8120, 0x04, 4, false, .u16, 2, 1, .ro, false, .none, 0, 65535⟩
  | .inputDone => ⟨0x8120, 0x05, 4, false, .u32, 4, 1, .ro, false, .none, 0, 4294967295⟩
  | .outputDone => ⟨0x8120, 0x06, 4, false, .u32, 4, 1, .ro, false, .none, 0, 4294967295⟩
  | .chainUsed => ⟨0x8120, 0x07, 4, false, .array, 4, 8, .ro, false, .none, 0, 0⟩
  | .savedState => ⟨0x8120, 0x08, 4, false, .octets, 1, 65600, .rw, false, .immediate, 0, 0⟩
  | .blackBoxSeverity => ⟨0x1210, 0x01, 1, false, .u8, 1, 1, .rw, true, .immediate, 0, 3⟩
  | .blackBoxLast => ⟨0x1210, 0x02, 1, false, .u32, 4, 1, .ro, false, .none, 0, 4294967295⟩
  | .blackBoxSelect => ⟨0x1210, 0x03, 1, false, .u16, 2, 1, .rw, false, .immediate, 0, 65535⟩
  | .blackBoxRecord => ⟨0x1210, 0x04, 1, false, .octets, 1, 64, .ro, false, .none, 0, 0⟩
  | .frozenHeads => ⟨0x1210, 0x05, 1, false, .array, 4, 8, .ro, false, .none, 0, 0⟩
  | .headRelease => ⟨0x1210, 0x06, 1, false, .u32, 4, 1, .wo, false, .immediate, 0, 4294967295⟩
  | .blackBoxClear => ⟨0x1210, 0x07, 1, false, .bool, 1, 1, .wo, false, .immediate, 0, 1⟩
  | .blackBoxCoalesced => ⟨0x1210, 0x08, 1, false, .u32, 4, 1, .rw, false, .immediate, 0, 4294967295⟩
  | .bootCount => ⟨0x1210, 0x09, 1, false, .u32, 4, 1, .ro, false, .none, 0, 4294967295⟩
  | .storeHoldLimit => ⟨0xC000, 0x01, 1, false, .u16, 2, 1, .rw, true, .immediate, 10, 5000⟩
  | .settingsSequence => ⟨0xC000, 0x02, 1, false, .u32, 4, 1, .ro, false, .none, 0, 4294967295⟩
  | .calibrationSequence => ⟨0xC000, 0x03, 1, false, .u32, 4, 1, .ro, false, .none, 0, 4294967295⟩
  | .archiveSequence => ⟨0xC000, 0x04, 1, false, .u32, 4, 1, .ro, false, .none, 0, 4294967295⟩
  | .archiveAutoLoad => ⟨0xC000, 0x05, 1, false, .bool, 1, 1, .rw, true, .immediate, 0, 1⟩
  | .storeFailures => ⟨0xC000, 0x06, 1, false, .u32, 4, 1, .rw, false, .immediate, 0, 4294967295⟩
  | .nvmHolds => ⟨0xC000, 0x07, 1, false, .u32, 4, 1, .rw, false, .immediate, 0, 4294967295⟩
  | .nvmCorrected => ⟨0xC000, 0x08, 1, false, .u32, 4, 1, .rw, false, .immediate, 0, 4294967295⟩
  | .settingsSkipped => ⟨0xC000, 0x09, 1, false, .u16, 2, 1, .ro, false, .none, 0, 65535⟩
  | .deviceCertificate => ⟨0xC001, 0x01, 1, false, .octets, 1, 172, .const, false, .none, 0, 0⟩
  | .antiRollbackCounter => ⟨0xC001, 0x02, 1, false, .u8, 1, 1, .ro, false, .none, 0, 255⟩
  | .vendorKeyRevoked => ⟨0xC001, 0x03, 1, false, .u8, 1, 1, .ro, false, .none, 0, 255⟩
  | .slotInfo => ⟨0xC002, 0x01, 1, false, .array, 16, 2, .ro, false, .none, 0, 0⟩
  | .firmwareActivate => ⟨0xC002, 0x02, 1, false, .u8, 1, 1, .wo, false, .immediate, 0, 255⟩
  | .firmwareConfirm => ⟨0xC002, 0x03, 1, false, .bool, 1, 1, .wo, false, .immediate, 0, 1⟩
  | .bootControl => ⟨0xC002, 0x04, 1, false, .octets, 1, 3, .ro, false, .none, 0, 0⟩
  | .ownerKeyId => ⟨0xC003, 0x01, 1, false, .octets, 1, 8, .ro, false, .none, 0, 0⟩
  | .ownerEnrol => ⟨0xC003, 0x02, 1, false, .octets, 1, 64, .wo, false, .immediate, 0, 0⟩
  | .ownerToken => ⟨0xC003, 0x03, 1, false, .octets, 1, 180, .wo, false, .immediate, 0, 0⟩
  | .authChallenge => ⟨0xC003, 0x04, 1, false, .octets, 1, 32, .ro, false, .none, 0, 0⟩
  | .ownerSignsFirmware => ⟨0xC003, 0x05, 1, false, .bool, 1, 1, .rw, false, .immediate, 0, 1⟩
  | .attestNonce => ⟨0xC004, 0x01, 1, false, .octets, 1, 32, .wo, false, .immediate, 0, 0⟩
  | .attestReport => ⟨0xC004, 0x02, 1, false, .octets, 1, 256, .ro, false, .none, 0, 0⟩
  | .domainState => ⟨0xA000, 0x01, 1, false, .array, 1, 24, .ro, false, .none, 0, 0⟩
  | .planTargets => ⟨0xA000, 0x02, 1, false, .array, 1, 24, .rw, true, .immediate, 0, 0⟩
  | .planEnter => ⟨0xA000, 0x03, 1, false, .bool, 1, 1, .wo, false, .immediate, 0, 1⟩
  | .planOutcome => ⟨0xA000, 0x04, 1, false, .octets, 1, 8, .ro, false, .none, 0, 0⟩
  | .wakeEnable => ⟨0xA000, 0x05, 1, false, .u8, 1, 1, .rw, true, .immediate, 0, 127⟩
  | .wakeBallMode => ⟨0xA000, 0x06, 1, false, .u8, 1, 1, .rw, true, .immediate, 0, 1⟩
  | .wakeMode => ⟨0xA000, 0x07, 1, false, .u8, 1, 1, .rw, true, .immediate, 0, 1⟩
  | .wakeTargets => ⟨0xA000, 0x08, 1, false, .u32, 4, 1, .rw, true, .immediate, 0, 16777215⟩
  | .alarmTicks => ⟨0xA000, 0x09, 1, false, .u64, 8, 1, .rw, false, .immediate, 0, 18446744073709551615⟩
  | .lastWake => ⟨0xA000, 0x0A, 1, false, .u8, 1, 1, .ro, false, .none, 0, 255⟩
  | .supplyWarning => ⟨0xA000, 0x0B, 1, false, .array, 2, 7, .rw, true, .immediate, 0, 0⟩
  | .supplyMin => ⟨0xA000, 0x0C, 1, false, .array, 2, 7, .ro, false, .none, 0, 0⟩
  | .vcoreTarget => ⟨0xA000, 0x0D, 1, false, .u16, 2, 1, .ro, false, .none, 0, 65535⟩
  | .railAddress => ⟨0xA000, 0x0E, 1, false, .array, 1, 7, .rw, true, .immediate, 0, 0⟩
  | .railSleepMask => ⟨0xA000, 0x0F, 1, false, .u8, 1, 1, .rw, true, .immediate, 0, 255⟩
  | .regulatorTimeout => ⟨0xA000, 0x10, 1, false, .u16, 2, 1, .rw, true, .immediate, 100, 10000⟩
  | .supplyDips => ⟨0xA000, 0x11, 1, false, .u32, 4, 1, .rw, false, .immediate, 0, 4294967295⟩
  | .darkDips => ⟨0xA000, 0x12, 1, false, .u32, 4, 1, .rw, false, .immediate, 0, 4294967295⟩
  | .regulatorTimeouts => ⟨0xA000, 0x13, 1, false, .u32, 4, 1, .rw, false, .immediate, 0, 4294967295⟩
  | .transitions => ⟨0xA010, 0x01, 24, false, .u32, 4, 1, .rw, false, .immediate, 0, 4294967295⟩
  | .refusals => ⟨0xA010, 0x02, 24, false, .u32, 4, 1, .rw, false, .immediate, 0, 4294967295⟩
  | .aborts => ⟨0xA010, 0x03, 24, false, .u32, 4, 1, .rw, false, .immediate, 0, 4294967295⟩
  | .superseded => ⟨0xA010, 0x04, 24, false, .u32, 4, 1, .rw, false, .immediate, 0, 4294967295⟩
  | .lastRefuser => ⟨0xA010, 0x05, 24, false, .u8, 1, 1, .ro, false, .none, 0, 255⟩
  | .lastChange => ⟨0xA010, 0x06, 24, false, .time64, 8, 1, .ro, false, .none, 0, 18446744073709551615⟩
  | .junctionTemp => ⟨0xB000, 0x01, 1, false, .i16, 2, 1, .ro, false, .none, 0, 65535⟩
  | .sensorTemps => ⟨0xB000, 0x02, 1, false, .array, 2, 32, .ro, false, .none, 0, 0⟩
  | .sensorFailed => ⟨0xB000, 0x03, 1, false, .u32, 4, 1, .ro, false, .none, 0, 4294967295⟩
  | .warningLevel => ⟨0xB000, 0x04, 1, false, .u8, 1, 1, .rw, true, .immediate, 60, 115⟩
  | .throttleLevel => ⟨0xB000, 0x05, 1, false, .u8, 1, 1, .rw, true, .immediate, 70, 120⟩
  | .shutdownLevel => ⟨0xB000, 0x06, 1, false, .u8, 1, 1, .const, false, .none, 0, 255⟩
  | .restartLevel => ⟨0xB000, 0x07, 1, false, .u8, 1, 1, .const, false, .none, 0, 255⟩
  | .slowRound => ⟨0xB000, 0x08, 1, false, .u8, 1, 1, .rw, true, .immediate, 1, 64⟩
  | .riseRate => ⟨0xB000, 0x09, 1, false, .i16, 2, 1, .ro, false, .none, 0, 65535⟩
  | .thermalStatus => ⟨0xB000, 0x0A, 1, false, .u8, 1, 1, .ro, false, .none, 0, 255⟩
  | .throttleDecisions => ⟨0xB000, 0x0B, 1, false, .u32, 4, 1, .rw, false, .immediate, 0, 4294967295⟩
  | .shutdownCount => ⟨0xB000, 0x0C, 1, false, .u32, 4, 1, .rw, false, .immediate, 0, 4294967295⟩
  | .bandEdges => ⟨0xB001, 0x01, 1, false, .array, 2, 7, .rw, true, .immediate, 0, 0⟩
  | .bandChanges => ⟨0xB001, 0x02, 1, false, .u32, 4, 1, .rw, false, .immediate, 0, 4294967295⟩
  | .calPhase => ⟨0xB002, 0x01, 1, false, .u8, 1, 1, .ro, false, .none, 0, 255⟩
  | .calRepeat => ⟨0xB002, 0x02, 1, false, .u16, 2, 1, .rw, true, .immediate, 0, 65535⟩
  | .adcGain => ⟨0xB002, 0x03, 1, false, .u32, 4, 1, .ro, false, .immediate, 0, 4294967295⟩
  | .adcOffset => ⟨0xB002, 0x04, 1, false, .i16, 2, 1, .ro, false, .immediate, 0, 65535⟩
  | .latencyTrim => ⟨0xB002, 0x05, 1, false, .array, 2, 4, .ro, false, .immediate, 0, 0⟩
  | .calSource => ⟨0xB002, 0x06, 1, false, .u8, 1, 1, .ro, false, .none, 0, 255⟩
  | .phase2Lanes => ⟨0xB002, 0x07, 1, false, .u16, 2, 1, .ro, false, .none, 0, 65535⟩
  | .channelKind => ⟨0xB010, 0x01, 16, false, .u8, 1, 1, .rw, true, .immediate, 0, 2⟩
  | .thermistorTable => ⟨0xB010, 0x02, 16, false, .array, 2, 33, .rw, true, .immediate, 0, 0⟩
  | .voltageGain => ⟨0xB010, 0x03, 16, false, .q, 4, 1, .rw, true, .immediate, 0, 4294967295⟩
  | .value => ⟨0xB010, 0x04, 16, false, .i32, 4, 1, .ro, false, .none, 0, 4294967295⟩
  | .band => ⟨0xB010, 0x05, 16, false, .u8, 1, 1, .ro, false, .none, 0, 255⟩
  | .channelFault => ⟨0xB010, 0x06, 16, false, .bool, 1, 1, .ro, false, .none, 0, 1⟩
  | .lastResetCause => ⟨0x1103, 0x01, 1, false, .u8, 1, 1, .ro, false, .none, 0, 255⟩
  | .resetCauseSet => ⟨0x1103, 0x02, 1, false, .u8, 1, 1, .ro, false, .none, 0, 255⟩
  | .resetCounts => ⟨0x1103, 0x03, 1, false, .array, 4, 7, .rw, false, .immediate, 0, 0⟩
  | .bootTargets => ⟨0x1103, 0x04, 1, false, .u32, 4, 1, .rw, true, .immediate, 0, 16777215⟩
  | .autoStart => ⟨0x1103, 0x05, 1, false, .bool, 1, 1, .rw, true, .immediate, 0, 1⟩
  | .bootTime => ⟨0x1103, 0x06, 1, false, .u32, 4, 1, .ro, false, .none, 0, 4294967295⟩

/-- The default of each entry, element by element (a scalar is one element; signed values in two's complement). -/
@[irreducible] def Ent.dflt : Ent → List Nat
  | .vendorId => [0x5658]
  | .familyId => [0x7A01]
  | .memberCode => [9]
  | .siliconRevision => [0xB0]
  | .junctionRange => [Config.junctionRange.toNat % 2]
  | .paramTableVersion => [0x0001]
  | .driverLanes => [512]
  | .maxPixels => [1048576]
  | .maxPixels4P => [786432]
  | .maxLamps => [3145728]
  | .maxWidth => [4096]
  | .maxHeight => [2048]
  | .maxScan => [64]
  | .maxPlanes => [12]
  | .maxDitherBits => [6]
  | .maxLaneRate => [1250]
  | .maxRefresh => [15360]
  | .maxViews => [8]
  | .layersPerView => [4]
  | .maxWindows => [1024]
  | .contexts => [16384]
  | .boundContexts => [1024]
  | .quarryBytes => [201326592]
  | .ledgerEntries => [131072]
  | .maxRunAhead => [4]
  | .izsorPorts => [4]
  | .maxIngest => [96000]
  | .maxDevices => [4096]
  | .groupsPerDevice => [16]
  | .sessions => [256]
  | .coefStorePlace => [placeWord 0 32]
  | .prevOutStorePlace => [placeWord 32 6]
  | .contextStorePlace => [placeWord 38 32]
  | .tableStorePlace => [placeWord 70 8]
  | .stagingPlace => [placeWord 78 45]
  | .frameStorePlace => [placeWord 123 261]
  | .planeDemand => [0]
  | .planeLimit => [601600]
  | .ledgerDemand => [0]
  | .stagingDemand => [0]
  | .ingestDemand => [0]
  | .portEnable => [1]
  | .rateMask => [0x07]
  | .portState => [1]
  | .lineRate => [0]
  | .isUpstream => [0]
  | .farCapability => List.replicate 20 0
  | .retrain => [0]
  | .sleepRequest => [0]
  | .eyeFloor => [12]
  | .highBerThreshold => [32]
  | .bipWarnThreshold => [8]
  | .trainFailures => [0]
  | .rateFallbacks => [0]
  | .linkDowns => [0]
  | .badPackets => [0]
  | .sleepNaks => [0]
  | .rxLatency => [0]
  | .invalidHeaders => [0]
  | .blockLockLosses => [0]
  | .bipErrors => [0]
  | .adaptReverts => [0]
  | .eyeMargin => [0]
  | .skew => [0]
  | .snapshotValid => [0]
  | .deviceAddress => [0xFFFF]
  | .unassign => [0]
  | .rootDistance => [255]
  | .upstreamPort => [0xFF]
  | .rootAddress => [0xFFFF]
  | .childPorts => [0]
  | .assigner => [0xFFFF]
  | .upstreamChanges => [0]
  | .headerCheckErrors => [0]
  | .packetCheckErrors => [0]
  | .noRouteDrops => [0]
  | .hopLimitDrops => [0]
  | .mgmtQueueDrops => [0]
  | .videoQueueDrops => [0]
  | .bulkQueueDrops => [0]
  | .deliveryDrops => [0]
  | .assignRefusals => [0]
  | .lateSweepReturns => [0]
  | .groupSlot => [0xFFFF]
  | .routeTable => List.replicate 4096 7
  | .displayTime => [0]
  | .calendarTime => [0]
  | .calendarValid => [0]
  | .timeState => [0]
  | .errorBound => [0xFFFFFFFF]
  | .increment => [0xCCCCCCCD]
  | .lastOffset => [0]
  | .meanPathDelay => [0]
  | .syncInterval => [250]
  | .lockThreshold => [1000]
  | .unlockThreshold => [10000]
  | .servoTau => [16]
  | .holdoverRate => [500]
  | .holdoverLimit => [10000]
  | .sleepCrystalPpm => [30]
  | .sleepRcPpm => [5000]
  | .freeRunPermit => [0]
  | .slowPeriod => [0]
  | .sleepTicks => [0]
  | .taiUtcOffset => [0]
  | .frameEpoch => [0]
  | .framePeriod => [0x00FE502AAAAAAAAB]
  | .steps => [0]
  | .lockLosses => [0]
  | .timeMessageErrors => [0]
  | .launchFlushes => [0]
  | .portAsymmetry => [0]
  | .launchPush => List.replicate 16 0
  | .queueDepth => [0]
  | .launchMisses => [0]
  | .launchFlush => [0]
  | .lastLaunch => [0]
  | .captureEnable => [0]
  | .capturePop => List.replicate 28 0
  | .captureCount => [0]
  | .captureOverflows => [0]
  | .outputMode => [0]
  | .outputStart => [0]
  | .outputPeriod => [0]
  | .outputWidth => [10000]
  | .outputOffset => [0]
  | .outputView => [0]
  | .outputInvert => [0]
  | .autoAdmit => [0]
  | .parkTimeout => [1000]
  | .evictTimeout => [60000]
  | .boundCount => [0]
  | .openCount => [0]
  | .parkedCount => [0]
  | .unadmittedDrops => [0]
  | .contextStoreResets => [0]
  | .ctxState => [0]
  | .ctxCommand => [0]
  | .owner => [0xFFFF]
  | .window => [0xFFFF]
  | .launchMode => [0]
  | .layerSync => [1]
  | .format => [0]
  | .width => [0]
  | .height => [0]
  | .unitBytes => [4032]
  | .frameBytes => [0]
  | .unitCount => [0]
  | .bufferSet => List.replicate 8 0xFFFF
  | .assemblingFrame => [0]
  | .unitsReceived => [0]
  | .newestFrame => [0]
  | .lastUnitTime => [0]
  | .assemblyMap => List.replicate 512 0
  | .flags => [0]
  | .framesCompleted => [0]
  | .framesIncomplete => [0]
  | .sequenceGaps => [0]
  | .duplicateUnits => [0]
  | .staleUnits => [0]
  | .foreignDrops => [0]
  | .formatDrops => [0]
  | .noBufferDrops => [0]
  | .launchRefusals => [0]
  | .discards => [0]
  | .rejectedRows => [0]
  | .shiftFaultRows => [0]
  | .concealedBlocks => [0]
  | .lastRejection => List.replicate 8 0
  | .framePages => [2088]
  | .freePages => [2088]
  | .retirePendingCount => [0]
  | .retentionMask => List.replicate 12 0
  | .bankConflictStalls => [0]
  | .sameWordConflicts => [0]
  | .repairedColumns => List.replicate 4 0
  | .earlyFrees => [0]
  | .contentLosses => [0]
  | .handleState => [0]
  | .handleCommand => [0]
  | .pageRequest => [0]
  | .pageCount => [0]
  | .bytes => [0]
  | .frameTag => [0]
  | .lastWriter => [0xFFFF]
  | .pageList => []
  | .lastStateChange => [0]
  | .viewCount => [1]
  | .refreshesPerView => [64]
  | .slotPattern => [0]
  | .slotMap => List.range 8
  | .captureView => [0]
  | .captureHandle => [0]
  | .captureTarget => [0]
  | .captureAt => [0]
  | .captureAbort => [0]
  | .captureState => [0]
  | .captureNumber => [0]
  | .layerEnable => [0x0F]
  | .dimmer => [32768]
  | .brightnessLimit => [65535]
  | .pattern => [0x00083C70]
  | .patternLevel => [1048575]
  | .toneCurve => identityTone
  | .primaryCount => [3]
  | .tilePeak => [1000]
  | .hlgGamma => [1200]
  | .matrix709 => identityMatrix
  | .matrix2020 => identityMatrix
  | .matrixCustom => identityMatrix
  | .customTransfer0 => linearTransfer
  | .customTransfer1 => linearTransfer
  | .control => [0]
  | .crop => [0x0001000100000000]
  | .destination => [0]
  | .alpha => [4096]
  | .encoding => [1]
  | .nominalPeak => [100]
  | .compControl => [0x1F]
  | .coefValid => [0]
  | .omitMap => [0x93]
  | .zoneGrid => [0x00]
  | .driftCurves => List.replicate 8704 32768
  | .seamColumn => List.replicate 16384 32768
  | .seamRow => List.replicate 8192 32768
  | .spreadWeights => [0x01000300]
  | .concealCeiling => [1048575]
  | .detectMinDrive => [2048]
  | .concealList => []
  | .suspectCount => [0]
  | .concealedCount => [0]
  | .overflowCount => [0]
  | .concealedClipped => [0]
  | .overdriveControl => [0x3]
  | .overdriveTable => List.replicate 4356 0
  | .firstRowGain => List.replicate 4 32768
  | .squashSkips => [0]
  | .modulatorRun => [0]
  | .driveMode => [0]
  | .tileWidth => [0]
  | .tileHeight => [0]
  | .laneCount => [512]
  | .outputsPerLane => [192]
  | .laneMap => (List.range 512).map (192 * ·)
  | .primaryOrder => [0xE4]
  | .scanRatio => [32]
  | .rowOrder => [0]
  | .rowDeadTime => [100]
  | .laneRate => [1250]
  | .planeCount => [12]
  | .planeTable => [0x30, 0x31, 0x22, 0x23, 0x14, 0x15, 0x06, 0x07, 0x08, 0x09, 0x0A, 0x0B]
  | .runAhead => [2]
  | .ditherBits => [6]
  | .ditherControl => [0x01]
  | .ditherOrigin => [0]
  | .ditherMatrix => builtinDither
  | .planeDurations => List.replicate 12 0
  | .effectiveDitherBits => [0]
  | .effectiveRefreshes => [0]
  | .throttleStep => [0]
  | .timingState => [0]
  | .slateFrames => [0]
  | .missedBursts => [0]
  | .generation => [0]
  | .pendingCommits => [0]
  | .squashHorizon => [0]
  | .lastCommit => List.replicate 24 0
  | .lateCommits => [0]
  | .squashedEntries => [0]
  | .ledgerSelect => [0]
  | .ledgerEntry => [0]
  | .ledgerLive => [0]
  | .rowPortEnable => [0xFF]
  | .rowOnLead => [10]
  | .readbackEnable => [1]
  | .readbackFits => [0]
  | .teEnable => [0xFFFF]
  | .teMisses => [0]
  | .teLastSwap => List.replicate 16 0
  | .quadrantLocked => [0]
  | .unlockDrops => [0]
  | .readbackLost => List.replicate 8 0
  | .boardDelay => [0]
  | .deskewTrim => [0]
  | .swingTrim => [0]
  | .impedanceTrim => [0]
  | .readbackFrames => [0]
  | .readbackErrors => [0]
  | .serialNumber => (List.range 16).map (fun i => (Config.serial i).toNat)
  | .firmwareVersion => [0]
  | .activeSlot => [0]
  | .sessionTimeout => [30000]
  | .openSessions => [0]
  | .stagingOwner => [0xFFFF]
  | .stagedBytes => [0]
  | .sessionRefusals => [0]
  | .sessionExpiries => [0]
  | .resendReplies => [0]
  | .segmentFailures => [0]
  | .sessionTable => List.replicate 257 0
  | .reset => [0]
  | .eventCount => [0]
  | .eventPop => List.replicate 48 0
  | .eventsRaised => [0]
  | .eventsCoalesced => [0]
  | .coalesceCounts => List.replicate 64 0
  | .transferOpen => List.replicate 32 0
  | .transferAbort => [0]
  | .transferTimeout => [5000]
  | .openTransfers => [0]
  | .decodeErrors => [0]
  | .transferState => [0]
  | .transferStatus => [0]
  | .bytesDone => [0]
  | .failedSection => [0xFF]
  | .jobSpec => List.replicate 48 0
  | .jobCommand => [0]
  | .jobState => [0]
  | .jobStatus => [0]
  | .inputDone => [0]
  | .outputDone => [0]
  | .chainUsed => List.replicate 8 0
  | .savedState => List.replicate 65600 0
  | .blackBoxSeverity => [1]
  | .blackBoxLast => [0]
  | .blackBoxSelect => [0]
  | .blackBoxRecord => List.replicate 64 0
  | .frozenHeads => List.replicate 8 0xFFFFFFFF
  | .headRelease => [0]
  | .blackBoxClear => [0]
  | .blackBoxCoalesced => [0]
  | .bootCount => [0]
  | .storeHoldLimit => [500]
  | .settingsSequence => [0]
  | .calibrationSequence => [0]
  | .archiveSequence => [0]
  | .archiveAutoLoad => [1]
  | .storeFailures => [0]
  | .nvmHolds => [0]
  | .nvmCorrected => [0]
  | .settingsSkipped => [0]
  | .deviceCertificate => certificate
  | .antiRollbackCounter => [0]
  | .vendorKeyRevoked => [0]
  | .slotInfo => List.replicate 2 0
  | .firmwareActivate => [0]
  | .firmwareConfirm => [0]
  | .bootControl => List.replicate 3 0
  | .ownerKeyId => List.replicate 8 0
  | .ownerEnrol => List.replicate 64 0
  | .ownerToken => List.replicate 180 0
  | .authChallenge => List.replicate 32 0
  | .ownerSignsFirmware => [0]
  | .attestNonce => List.replicate 32 0
  | .attestReport => List.replicate 256 0
  | .domainState => List.replicate 24 0
  | .planTargets => List.replicate 24 0
  | .planEnter => [0]
  | .planOutcome => List.replicate 8 0
  | .wakeEnable => [0x3F]
  | .wakeBallMode => [0]
  | .wakeMode => [0]
  | .wakeTargets => [0x00FFFFFF]
  | .alarmTicks => [0]
  | .lastWake => [0xFF]
  | .supplyWarning => [40, 810, 855, 1140, 760, 1710, 1710]
  | .supplyMin => List.replicate 7 0
  | .vcoreTarget => [750]
  | .railAddress => List.replicate 7 0
  | .railSleepMask => [0]
  | .regulatorTimeout => [1000]
  | .supplyDips => [0]
  | .darkDips => [0]
  | .regulatorTimeouts => [0]
  | .transitions => [0]
  | .refusals => [0]
  | .aborts => [0]
  | .superseded => [0]
  | .lastRefuser => [0]
  | .lastChange => [0]
  | .junctionTemp => [0]
  | .sensorTemps => List.replicate 32 0
  | .sensorFailed => [0]
  | .warningLevel => [100]
  | .throttleLevel => [110]
  | .shutdownLevel => [125]
  | .restartLevel => [105]
  | .slowRound => [4]
  | .riseRate => [0]
  | .thermalStatus => [0]
  | .throttleDecisions => [0]
  | .shutdownCount => [0]
  | .bandEdges => [160, 320, 480, 640, 800, 960, 1120]
  | .bandChanges => [0]
  | .calPhase => [0]
  | .calRepeat => [60]
  | .adcGain => [Config.fusedAdcGain.toNat]
  | .adcOffset => [Config.fusedAdcOffset.toNat]
  | .latencyTrim => (List.range 4).map (fun q => (Config.fusedLatencyTrim q).toNat)
  | .calSource => [0]
  | .phase2Lanes => [0]
  | .channelKind => [0]
  | .thermistorTable => List.replicate 33 0
  | .voltageGain => [0x00010000]
  | .value => [0]
  | .band => [0]
  | .channelFault => [0]
  | .lastResetCause => [1]
  | .resetCauseSet => [0x01]
  | .resetCounts => List.replicate 7 0
  | .bootTargets => [0x00FFFFFF]
  | .autoStart => [0]
  | .bootTime => [0]

/-- Entries 0 to 39 in the order of the chapters. -/
def Ent.list0 : List Ent :=
  [.vendorId, .familyId, .memberCode, .siliconRevision, .junctionRange, .paramTableVersion, .driverLanes,
    .maxPixels, .maxPixels4P, .maxLamps, .maxWidth, .maxHeight, .maxScan, .maxPlanes, .maxDitherBits,
    .maxLaneRate, .maxRefresh, .maxViews, .layersPerView, .maxWindows, .contexts, .boundContexts, .quarryBytes,
    .ledgerEntries, .maxRunAhead, .izsorPorts, .maxIngest, .maxDevices, .groupsPerDevice, .sessions,
    .coefStorePlace, .prevOutStorePlace, .contextStorePlace, .tableStorePlace, .stagingPlace, .frameStorePlace,
    .planeDemand, .planeLimit, .ledgerDemand, .stagingDemand]

/-- Entries 40 to 79 in the order of the chapters. -/
def Ent.list1 : List Ent :=
  [.ingestDemand, .portEnable, .rateMask, .portState, .lineRate, .isUpstream, .farCapability, .retrain,
    .sleepRequest, .eyeFloor, .highBerThreshold, .bipWarnThreshold, .trainFailures, .rateFallbacks, .linkDowns,
    .badPackets, .sleepNaks, .rxLatency, .invalidHeaders, .blockLockLosses, .bipErrors, .adaptReverts, .eyeMargin,
    .skew, .snapshotValid, .deviceAddress, .unassign, .rootDistance, .upstreamPort, .rootAddress, .childPorts,
    .assigner, .upstreamChanges, .headerCheckErrors, .packetCheckErrors, .noRouteDrops, .hopLimitDrops,
    .mgmtQueueDrops, .videoQueueDrops, .bulkQueueDrops]

/-- Entries 80 to 119 in the order of the chapters. -/
def Ent.list2 : List Ent :=
  [.deliveryDrops, .assignRefusals, .lateSweepReturns, .groupSlot, .routeTable, .displayTime, .calendarTime,
    .calendarValid, .timeState, .errorBound, .increment, .lastOffset, .meanPathDelay, .syncInterval,
    .lockThreshold, .unlockThreshold, .servoTau, .holdoverRate, .holdoverLimit, .sleepCrystalPpm, .sleepRcPpm,
    .freeRunPermit, .slowPeriod, .sleepTicks, .taiUtcOffset, .frameEpoch, .framePeriod, .steps, .lockLosses,
    .timeMessageErrors, .launchFlushes, .portAsymmetry, .launchPush, .queueDepth, .launchMisses, .launchFlush,
    .lastLaunch, .captureEnable, .capturePop, .captureCount]

/-- Entries 120 to 159 in the order of the chapters. -/
def Ent.list3 : List Ent :=
  [.captureOverflows, .outputMode, .outputStart, .outputPeriod, .outputWidth, .outputOffset, .outputView,
    .outputInvert, .autoAdmit, .parkTimeout, .evictTimeout, .boundCount, .openCount, .parkedCount,
    .unadmittedDrops, .contextStoreResets, .ctxState, .ctxCommand, .owner, .window, .launchMode, .layerSync,
    .format, .width, .height, .unitBytes, .frameBytes, .unitCount, .bufferSet, .assemblingFrame, .unitsReceived,
    .newestFrame, .lastUnitTime, .assemblyMap, .flags, .framesCompleted, .framesIncomplete, .sequenceGaps,
    .duplicateUnits, .staleUnits]

/-- Entries 160 to 199 in the order of the chapters. -/
def Ent.list4 : List Ent :=
  [.foreignDrops, .formatDrops, .noBufferDrops, .launchRefusals, .discards, .rejectedRows, .shiftFaultRows,
    .concealedBlocks, .lastRejection, .framePages, .freePages, .retirePendingCount, .retentionMask,
    .bankConflictStalls, .sameWordConflicts, .repairedColumns, .earlyFrees, .contentLosses, .handleState,
    .handleCommand, .pageRequest, .pageCount, .bytes, .frameTag, .lastWriter, .pageList, .lastStateChange,
    .viewCount, .refreshesPerView, .slotPattern, .slotMap, .captureView, .captureHandle, .captureTarget,
    .captureAt, .captureAbort, .captureState, .captureNumber, .layerEnable, .dimmer]

/-- Entries 200 to 239 in the order of the chapters. -/
def Ent.list5 : List Ent :=
  [.brightnessLimit, .pattern, .patternLevel, .toneCurve, .primaryCount, .tilePeak, .hlgGamma, .matrix709,
    .matrix2020, .matrixCustom, .customTransfer0, .customTransfer1, .control, .crop, .destination, .alpha,
    .encoding, .nominalPeak, .compControl, .coefValid, .omitMap, .zoneGrid, .driftCurves, .seamColumn, .seamRow,
    .spreadWeights, .concealCeiling, .detectMinDrive, .concealList, .suspectCount, .concealedCount,
    .overflowCount, .concealedClipped, .overdriveControl, .overdriveTable, .firstRowGain, .squashSkips,
    .modulatorRun, .driveMode, .tileWidth]

/-- Entries 240 to 279 in the order of the chapters. -/
def Ent.list6 : List Ent :=
  [.tileHeight, .laneCount, .outputsPerLane, .laneMap, .primaryOrder, .scanRatio, .rowOrder, .rowDeadTime,
    .laneRate, .planeCount, .planeTable, .runAhead, .ditherBits, .ditherControl, .ditherOrigin, .ditherMatrix,
    .planeDurations, .effectiveDitherBits, .effectiveRefreshes, .throttleStep, .timingState, .slateFrames,
    .missedBursts, .generation, .pendingCommits, .squashHorizon, .lastCommit, .lateCommits, .squashedEntries,
    .ledgerSelect, .ledgerEntry, .ledgerLive, .rowPortEnable, .rowOnLead, .readbackEnable, .readbackFits,
    .teEnable, .teMisses, .teLastSwap, .quadrantLocked]

/-- Entries 280 to 319 in the order of the chapters. -/
def Ent.list7 : List Ent :=
  [.unlockDrops, .readbackLost, .boardDelay, .deskewTrim, .swingTrim, .impedanceTrim, .readbackFrames,
    .readbackErrors, .serialNumber, .firmwareVersion, .activeSlot, .sessionTimeout, .openSessions, .stagingOwner,
    .stagedBytes, .sessionRefusals, .sessionExpiries, .resendReplies, .segmentFailures, .sessionTable, .reset,
    .eventCount, .eventPop, .eventsRaised, .eventsCoalesced, .coalesceCounts, .transferOpen, .transferAbort,
    .transferTimeout, .openTransfers, .decodeErrors, .transferState, .transferStatus, .bytesDone, .failedSection,
    .jobSpec, .jobCommand, .jobState, .jobStatus, .inputDone]

/-- Entries 320 to 359 in the order of the chapters. -/
def Ent.list8 : List Ent :=
  [.outputDone, .chainUsed, .savedState, .blackBoxSeverity, .blackBoxLast, .blackBoxSelect, .blackBoxRecord,
    .frozenHeads, .headRelease, .blackBoxClear, .blackBoxCoalesced, .bootCount, .storeHoldLimit,
    .settingsSequence, .calibrationSequence, .archiveSequence, .archiveAutoLoad, .storeFailures, .nvmHolds,
    .nvmCorrected, .settingsSkipped, .deviceCertificate, .antiRollbackCounter, .vendorKeyRevoked, .slotInfo,
    .firmwareActivate, .firmwareConfirm, .bootControl, .ownerKeyId, .ownerEnrol, .ownerToken, .authChallenge,
    .ownerSignsFirmware, .attestNonce, .attestReport, .domainState, .planTargets, .planEnter, .planOutcome,
    .wakeEnable]

/-- Entries 360 to 399 in the order of the chapters. -/
def Ent.list9 : List Ent :=
  [.wakeBallMode, .wakeMode, .wakeTargets, .alarmTicks, .lastWake, .supplyWarning, .supplyMin, .vcoreTarget,
    .railAddress, .railSleepMask, .regulatorTimeout, .supplyDips, .darkDips, .regulatorTimeouts, .transitions,
    .refusals, .aborts, .superseded, .lastRefuser, .lastChange, .junctionTemp, .sensorTemps, .sensorFailed,
    .warningLevel, .throttleLevel, .shutdownLevel, .restartLevel, .slowRound, .riseRate, .thermalStatus,
    .throttleDecisions, .shutdownCount, .bandEdges, .bandChanges, .calPhase, .calRepeat, .adcGain, .adcOffset,
    .latencyTrim, .calSource]

/-- Entries 400 to 412 in the order of the chapters. -/
def Ent.list10 : List Ent :=
  [.phase2Lanes, .channelKind, .thermistorTable, .voltageGain, .value, .band, .channelFault, .lastResetCause,
    .resetCauseSet, .resetCounts, .bootTargets, .autoStart, .bootTime]

/-- Every entry, in the order of the chapters. -/
def Ent.all : List Ent :=
  Ent.list0 ++ Ent.list1 ++ Ent.list2 ++ Ent.list3 ++ Ent.list4 ++ Ent.list5 ++ Ent.list6 ++ Ent.list7 ++
    Ent.list8 ++ Ent.list9 ++ Ent.list10

/-- R265: the instance of a row that lies at an index and subindex. -/
def EntInfo.inst (i : EntInfo) (index sub : Nat) : Option Nat :=
  if i.bySub then
    (if index = i.index ∧ i.sub ≤ sub ∧ sub < i.sub + i.count then some (sub - i.sub) else none)
  else (if i.index ≤ index ∧ index < i.index + i.count ∧ sub = i.sub then some (index - i.index) else none)

/-- R265: some entry of the row lies at the index. -/
def EntInfo.uses (i : EntInfo) (index : Nat) : Bool :=
  if i.bySub then decide (index = i.index) else decide (i.index ≤ index ∧ index < i.index + i.count)

/-- The highest subindex of the row. -/
def EntInfo.top (i : EntInfo) : Nat := if i.bySub then i.sub + i.count - 1 else i.sub

/-- The index and subindex of an instance of a row. -/
def EntInfo.address (i : EntInfo) (inst : Nat) : Nat × Nat :=
  if i.bySub then (i.index, i.sub + inst) else (i.index + inst, i.sub)

/-- R265: the entry and the instance at an index and subindex; none where no entry lies there. -/
def Ent.find (index sub : Nat) : Option (Ent × Nat) :=
  Ent.all.findSome? (fun e => (e.info.inst index sub).map (fun n => (e, n)))

/-- R265: the index holds some entry. -/
def Ent.indexUsed (index : Nat) : Bool := Ent.all.any (fun e => e.info.uses index)

/-- R265: the highest subindex in use at an index, the value of subindex 0x00. -/
def Ent.highestSub (index : Nat) : Nat :=
  Ent.all.foldl (fun m e => if e.info.uses index then max m e.info.top else m) 0

/-- The index and subindex of an instance of an entry. -/
def Ent.address (e : Ent) (inst : Nat) : Nat × Nat := e.info.address inst

/-- The type code of Table 12.1. -/
def Ty.code : Ty → Nat
  | .bool => 1 | .u8 => 2 | .u16 => 3 | .u32 => 4 | .u64 => 5 | .i16 => 6 | .i32 => 7 | .q => 8
  | .time64 => 9 | .cal80 => 10 | .octets => 11 | .array => 13

/-- A scalar type (codes 0x01 to 0x0A), whose value has one length only (R267). -/
def Ty.scalar : Ty → Bool
  | .octets => false
  | .array => false
  | _ => true

end Sys2Proof.Machine
end

