-- ==== Sys2Proof/Machine/SMap.lean ====
section
/-! DEFINITION. Sparse maps by number: lists of pairs whose keys strictly rise. -/

namespace Sys2Proof.Machine

/-- A sparse map: pairs of a key and its content, keys strictly rising. -/
abbrev SMap (α : Type) := List (Nat × α)

/-- The content at a key; `d` where the key is not listed. -/
def SMap.get {α : Type} (m : SMap α) (k : Nat) (d : α) : α :=
  match m with
  | [] => d
  | (j, a) :: t => if j = k then a else SMap.get t k d

/-- The content at a key, if listed. -/
def SMap.find {α : Type} (m : SMap α) (k : Nat) : Option α :=
  match m with
  | [] => none
  | (j, a) :: t => if j = k then some a else SMap.find t k

/-- The map with the key listed with this content. -/
def SMap.put {α : Type} (m : SMap α) (k : Nat) (a : α) : SMap α :=
  match m with
  | [] => [(k, a)]
  | (j, b) :: t => if k < j then (k, a) :: (j, b) :: t else if j = k then (k, a) :: t else (j, b) :: SMap.put t k a

/-- The map with the key not listed. -/
def SMap.drop {α : Type} (m : SMap α) (k : Nat) : SMap α := m.filter (fun p => p.1 != k)

/-- The map with the content `a` at the key, in canonical form: content equal to what an unlisted key reads as is
not listed. -/
def SMap.set {α : Type} [DecidableEq α] (m : SMap α) (d : α) (k : Nat) (a : α) : SMap α :=
  if a = d then SMap.drop m k else SMap.put m k a

/-- The keys strictly rise. -/
def SMap.sorted {α : Type} (m : SMap α) : Bool :=
  match m with
  | [] => true
  | [_] => true
  | (j, _) :: (k, b) :: t => decide (j < k) && SMap.sorted ((k, b) :: t)

/-- The canonical form: keys strictly rising, and no content equal to the default of its key. -/
def SMap.wf {α : Type} [DecidableEq α] (d : Nat → α) (m : SMap α) : Bool :=
  SMap.sorted m && m.all (fun p => decide (p.2 ≠ d p.1))

/-- The byte string of length `n` at an address of a sparse byte memory, unlisted bytes 0. -/
def SMap.bytes (m : SMap Byte) (a : Nat) : Nat → Bytes
  | 0 => []
  | n + 1 => SMap.get m a 0 :: SMap.bytes m (a + 1) n

/-- A byte string written at an address of a sparse byte memory. -/
def SMap.write (m : SMap Byte) (a : Nat) : Bytes → SMap Byte
  | [] => m
  | b :: t => SMap.write (SMap.set m 0 a b) (a + 1) t

/-- A sparse byte memory with every byte of a range at its default. -/
def SMap.clear (m : SMap Byte) (a n : Nat) : SMap Byte := m.filter (fun p => p.1 < a || a + n ≤ p.1)

/-- The canonical form of a byte memory: addresses strictly rising, and no byte listed that an unlisted one reads as. -/
def Memory.wf (m : SMap Byte) : Bool := SMap.wf (fun _ => 0) m

end Sys2Proof.Machine
end

