-- ==== Sys2Proof/Machine/State.lean ====
section
/-! DEFINITION. The state of the T9 as plain data: the register file of the object dictionary, and beside it what the
chapters say each block holds (R344 and the list of held state). Every field starts at its reset value. -/

namespace Sys2Proof.Machine

/-- What the device stops on, where the manual gives no effect at all. -/
inductive Fault where
  /-- A burst's record lies outside the placed store and Quarry: raised by BURST_COMPUTE (R150 gives no effect). Safe. -/
  | quarryOutside
  deriving DecidableEq, Repr

/-- What the model refuses, by name. -/
inductive Refusal where
  /-- A command that has no meaning yet: raised by its arm of `exec`. Safe. -/
  | notModelled (mnemonic : String)
  /-- An authorised access to 0xF000 to 0xFFFF, whose content the manual does not give: raised by READ, WRITE and
  WRITE_STAGED (R331, R413). Safe. -/
  | restrictedDiagnostics
  deriving DecidableEq, Repr

/-- Who asked for a port's link sleep: a SleepRequest write that waits for its answer, or a domain's entry (R49). -/
inductive SleepAsk where | host (e : Env) | domain (d : Nat) | both (e : Env) (d : Nat)
  deriving DecidableEq, Repr

/-- The electrical idle a port is sending, and why (R36, R40 to R42). -/
inductive PortIdle where | none | detect | step | fail | down
  deriving DecidableEq, Repr, Inhabited

/-- The oscillator of the slow clock (Table 1.5). -/
inductive ClockSrc where | rc | crystal
  deriving DecidableEq, Repr, Inhabited

/-- The reference of the fast PLLs (R16); `held` after the upstream port was lost. -/
inductive RefSel where | startup | refclk | recovered | held
  deriving DecidableEq, Repr, Inhabited

/-- States of a switched domain (R342) and its two transitions (Table 15.11). -/
inductive DomState where | on | ret | off | entering | exiting
  deriving DecidableEq, Repr, Inhabited

/-- Progress of a reset and boot (R384, R388). -/
inductive BootPhase where | held | rom | firmware | bringUp | complete | dead
  deriving DecidableEq, Repr, Inhabited

/-- Ledger entry states (Table 10.5). -/
inductive EntSt where | empty | computing | computed | squashed
  deriving DecidableEq, Repr, Inhabited

/-- Origin of a commit (Table 10.6). -/
inductive Origin where | host | band | conceal | throttleStep | throttleRelease
  deriving DecidableEq, Repr, Inhabited

/-- What a job of the MRAM write path is for (R315). -/
inductive NvmKind where | settings | calibration | archive | owner | slot | clear
  deriving DecidableEq, Repr, Inhabited

/-- The selected instruction of the JTAG port (R408). -/
inductive JtagReg where | bypass | idcode | sample | extest | clamp | highz
  deriving DecidableEq, Repr, Inhabited

/-- An Izsor packet by its fields (Table 3.1). -/
structure Packet where
  /-- Class. -/
  cls : Nat := 0
  /-- DestMode. -/
  mode : DestMode := .unicast
  /-- HopLimit. -/
  hop : Nat := 63
  /-- Dest. -/
  dest : Nat := 0
  /-- Source. -/
  source : Nat := 0xFFFF
  /-- Channel. -/
  channel : Nat := 0
  /-- Sequence. -/
  seq : Nat := 0
  /-- the payload. -/
  payload : Bytes := []
  deriving DecidableEq, Repr

/-- One lane of a port, both directions. -/
structure Lane where
  /-- descrambler state (R30). -/
  rxScr : BitVec 58 := 0
  /-- scrambler state (R30, R31). -/
  txScr : BitVec 58 := 0
  /-- block lock (R37). -/
  locked : Bool := false
  /-- consecutive valid headers (R37). -/
  goodRun : Nat := 0
  /-- bad-header marks of the last 64 blocks, newest first (R37). -/
  hist : List Bool := []
  /-- RX_LOCKED received on the lane in Quartz (R36). -/
  farLocked : Bool := false
  /-- RX_READY received on the lane in Basalt (R36). -/
  farReady : Bool := false
  /-- RX_READY of the local receiver (R38). -/
  ready : Bool := false
  /-- transmit pre-cursor step, 0 to 16 (R38, R402). -/
  pre : Nat := (Config.txPreset 0).toNat % 17
  /-- step of the swing, of which the main cursor takes what the others leave (R38, R402). -/
  swing : Nat := (Config.txPreset 1).toNat % (Config.mainSteps.toNat + 1)
  /-- transmit post-cursor step, 0 to 32 (R38, R402). -/
  post : Nat := (Config.txPreset 2).toNat % 33
  /-- response field of the last Basalt answer (Table 2.5). -/
  resp : Nat := 0
  /-- content of the last Granite set received (R39). -/
  granite : Bytes := []
  /-- consecutive identical Granite sets (R39). -/
  granRun : Nat := 0
  /-- consecutive identical Granite sets with ACK (R39). -/
  ackRun : Nat := 0
  /-- MarkerCount and arrival time in ps of the last ALIGN (R34). -/
  align : Option (Nat × Nat) := none
  /-- those of every ALIGN of the bring-up, newest first (R34). -/
  marks : List (Nat × Nat) := []
  /-- blocks since the last ALIGN (R33, R35). -/
  slot : Nat := 0
  /-- consecutive markers missed (R35). -/
  missed : Nat := 0
  /-- running parity of the blocks since the last ALIGN (R33). -/
  bip : BitVec 8 := 0
  /-- BIP errors of this second (R56). -/
  bipSec : Nat := 0
  /-- blocks received and not yet unstriped: header and descrambled payload; in Granite those since the last ALIGN (R32,
  R34). -/
  fifo : List (Nat × BitVec 64) := []
  /-- a marker has been found since the port reached ACTIVE, so that the next one's slot is known (R35). -/
  synced : Bool := false
  /-- model clock at the start of the adaptation window (R46). -/
  winAt : Nat := 0
  /-- blocks of the window that belong to packets (R46). -/
  winData : Nat := 0
  /-- the eye fell below EyeFloor in the window (R46). -/
  winLow : Bool := false
  /-- a BIP error was found in the window (R46). -/
  winBip : Bool := false
  /-- equaliser coefficients, as one number; none at preset (R46 to R48). -/
  eq : Option Nat := none
  /-- EyeFloor as the window took it (R57). -/
  floor : Nat := 12
  /-- the equaliser is held at the snapshot (R47). -/
  heldEq : Bool := false
  /-- bad headers of the window of R55. -/
  badWin : Nat := 0
  /-- model clock at the start of that window. -/
  berAt : Nat := 0
  /-- blocks sent since the last ALIGN (R33). -/
  txSlot : Nat := 0
  /-- parity of the blocks sent since the last ALIGN (R33). -/
  txBip : BitVec 8 := 0
  /-- MarkerCount of the next ALIGN sent (R33). -/
  txMarker : Nat := 0
  /-- blocks of the last packet or sleep set sent on the lane, header in bits 1 and 0 (R26, R32). -/
  sent : List (BitVec 66) := []
  deriving DecidableEq, Repr

/-- The last HELLO of a port (Table 3.5). -/
structure Hello where
  /-- far RootDistance. -/
  dist : Nat := 255
  /-- UPSTREAM_IS_YOU. -/
  you : Bool := false
  /-- ROOT. -/
  root : Bool := false
  /-- far DeviceAddress. -/
  addr : Nat := 0xFFFF
  /-- RootAddress. -/
  rootAddr : Nat := 0xFFFF
  /-- model clock at receipt. -/
  since : Nat := 0
  deriving DecidableEq, Repr

/-- One Izsor port beside its entries. -/
structure Port where
  /-- model clock at the last change of PortState. -/
  since : Nat := 0
  /-- model clock at the start of the rate step (R40). -/
  stepStart : Nat := 0
  /-- part of the bring-up: 1 detect, 2 Quartz, 3 Basalt, 4 Granite, 0 none (R36, R53). -/
  phase : Nat := 0
  /-- RateMask as DETECT took it (R57). -/
  mask : Nat := 7
  /-- rate code of the step in progress, 0 none (R40). -/
  step : Nat := 0
  /-- the step is the fast one of RESUME (R53). -/
  fast : Bool := false
  /-- the electrical idle in progress. -/
  idle : PortIdle := .none
  /-- model clock at its start. -/
  idleSince : Nat := 0
  /-- the transmitter idles until the step ends (R40). -/
  quiet : Bool := false
  /-- receiver termination is on (R36, R49). -/
  term : Bool := false
  /-- lane of the next sequence block (R32). -/
  rxLane : Nat := 0
  /-- bytes of the packet being received (R28). -/
  asm : Option Bytes := none
  /-- packets received whole or ended bad and not yet handled (R28). -/
  done : List (Bytes × Bool) := []
  /-- lane of the next sequence block sent (R32). -/
  txLane : Nat := 0
  /-- model clock at the first block sent in Quartz. -/
  txBase : Nat := 0
  /-- block slots sent on every lane since then, markers included (R33). -/
  txCount : Nat := 0
  /-- slot in the cycle of one ordered set and 15 IDLE blocks (R37). -/
  txPos : Nat := 0
  /-- egress queues, all classes in order of arrival (R72). -/
  queue : List Packet := []
  /-- the packet last put on the port. -/
  sent : Option Packet := none
  /-- it was ended by ERROR (R29). -/
  sentBad : Bool := false
  /-- model clock at the last periodic HELLO sent, or at the entry to ACTIVE (R64). -/
  helloAt : Nat := 0
  /-- last HELLO received (R66). -/
  hello : Option Hello := none
  /-- a HELLO was received since ACTIVE or since the last loss was reported (R65). -/
  heard : Bool := false
  /-- the neighbour's DeviceAddress and ROOT as known (R70). -/
  nbr : Option (Nat × Bool) := none
  /-- consecutive HELLOs with a strictly lower candidate distance (R67). -/
  better : Nat := 0
  /-- the T9's sleep request in progress (R49, R50). -/
  asked : Option SleepAsk := none
  /-- model clock at SLEEP_REQ. -/
  askedAt : Nat := 0
  /-- SLEEP_NAK ended the request of a domain's entry (R50). -/
  nak : Bool := false
  /-- next Sequence by Channel for time and control packets (Table 3.2). -/
  ctlSeq : SMap Nat := []
  /-- set id of the sleep ordered set last sent on all lanes (R49). -/
  ordered : Option Nat := none
  /-- model clock at which the T9's own last wake beacon began and ended (R51). -/
  beacon : Option (Nat × Nat) := none
  deriving DecidableEq, Repr

/-- A running sweep (R76, R77). -/
structure Sweep where
  /-- TagSource. -/
  tagSource : Nat := 0
  /-- TagSequence. -/
  tagSeq : Nat := 0
  /-- the return time R, display time in ns, computed at receipt. -/
  ret : Nat := 0
  /-- payload bytes 0 to 23 as received. -/
  head : Bytes := []
  /-- ReachedMap and OutcomeMap gathered so far. -/
  maps : Bytes := []
  /-- child ports that have not returned. -/
  waiting : List Nat := []
  deriving DecidableEq, Repr

/-- An outcome record of a group or broadcast request (R75). -/
structure Outcome75 where
  /-- Source. -/
  source : Nat := 0
  /-- Sequence. -/
  seq : Nat := 0
  /-- executed with E_OK. -/
  ok : Bool := false
  deriving DecidableEq, Repr

/-- The time unit (D5) beside its entries. -/
structure TimeUnit where
  /-- display time, [95:32] ns and [31:0] fraction (R82). -/
  disp : BitVec 96 := 0
  /-- calendar offset in 2^-32 ns (R83, R87). -/
  calOfs : Int := 0
  /-- internal ErrorBound in ps (R86); no reset value given (DESIGN CHOICE 0, log 5). -/
  bound : Nat := 0
  /-- display time in ns at which HOLDOVER began (R86). -/
  boundAt : Nat := 0
  /-- servo integral (R89). -/
  integ : Int := 0
  /-- consecutive SYNCs within LockThreshold (R85, R89). -/
  lockCount : Nat := 0
  /-- consecutive SYNCs above UnlockThreshold (R85). -/
  overCount : Nat := 0
  /-- EV_TIME_STEP_BLOCKED was raised in this episode (R89). -/
  blocked : Bool := false
  /-- outstanding DELAY_REQs, oldest first: Sequence, send stamp t1 in 2^-32 ns and model clock as it left (R87, R88). -/
  reqs : List (Nat × Nat × Nat) := []
  /-- model clock at which SYNC was last sent (R87). -/
  syncSent : Nat := 0
  /-- model clock at which the next exchange is due (R88). -/
  exchAt : Nat := 0
  /-- exchanges of the initial four still to run (R88). -/
  exchLeft : Nat := 0
  /-- (t4 - t1) - (t3 - t2) of the last valid exchanges in 2^-32 ns, newest first, at most 8 (R88). -/
  exch : List Int := []
  /-- exchanges completed on this upstream port (R85). -/
  exchPort : Nat := 0
  /-- SenderState of the latest SYNC (R85). -/
  upState : Nat := 0
  /-- ErrorBound of the latest SYNC (R86). -/
  upBound : Nat := 0xFFFFFFFF
  /-- model clock at the latest SYNC (R85). -/
  syncAt : Nat := 0
  /-- oscillator of the last SlowPeriod window (R94). -/
  oscWin : ClockSrc := .rc
  deriving DecidableEq, Repr

/-- What AON latches as D5 leaves ON (R95). -/
structure TimeLatch where
  /-- display time. -/
  disp : BitVec 96 := 0
  /-- calendar offset. -/
  calOfs : Int := 0
  /-- TimeState. -/
  state : Nat := 0
  /-- internal ErrorBound in ps. -/
  bound : Nat := 0
  /-- SlowPeriod, Q32.32. -/
  period : Nat := 0
  /-- oscillator of the measurement window. -/
  osc : ClockSrc := .rc
  deriving DecidableEq, Repr

/-- A coalescing counter (R293, R326). -/
structure Coal where
  /-- events counted. -/
  count : Nat := 0
  /-- display time of the first, ns. -/
  first : Nat := 0
  /-- display time of the latest, ns. -/
  last : Nat := 0
  deriving DecidableEq, Repr

/-- The always-on domain beside its entries. -/
structure Aon where
  /-- the model's clock in 2^-32 ns; never observable by itself (log 1). -/
  mono : Nat := 0
  /-- oscillator of the slow clock (R382). -/
  slow : ClockSrc := .rc
  /-- the crystal oscillates. -/
  crystal : Bool := false
  /-- a clock is detected on REFCLK (R16). -/
  refclk : Bool := false
  /-- reference of the fast PLLs (R16). -/
  refSel : RefSel := .startup
  /-- slow ticks since D5 last left ON (R95). -/
  ticks : Nat := 0
  /-- the oscillator changed in the window of SlowPeriod or since (R95, R96). -/
  switched : Bool := false
  /-- the oscillator changed in the window now running (R94). -/
  winSwitch : Bool := false
  /-- the sleep latch (R95). -/
  latch : Option TimeLatch := none
  /-- ports whose qualified beacon is held (R52). -/
  beacons : List Nat := []
  /-- level of the WAKE ball. -/
  ball : Bool := false
  /-- latched WAKE edge (R352). -/
  ballEdge : Bool := false
  /-- alarm wake level (R352). -/
  alarm : Bool := false
  /-- the alarm of this sleep was taken. -/
  alarmTaken : Bool := false
  /-- latched chip-select edge (R352). -/
  spiEdge : Bool := false
  /-- coalescing counters by class (R293). -/
  coal : SMap Coal := []
  /-- black-box coalescing counters by class (R326). -/
  bbCoal : SMap Coal := []
  /-- last-known-good snapshot by lane 4n + l (R46, R48). -/
  snaps : SMap Nat := []
  /-- last ACTIVE rate code by port (R48). -/
  lastRate : SMap Nat := []
  /-- the second of calendar time that the lanes' BIP errors belong to (R56). -/
  bipSecond : Int := 0
  /-- lanes 4n + l that raised EV_LINK_BIP for that second as they left it (R56). -/
  bipTold : List Nat := []
  deriving DecidableEq, Repr

/-- What a window shows: the buffer its layer took, with the form it had then (R170). -/
structure Shown where
  /-- buffer handle. -/
  handle : Nat := 0
  /-- Format. -/
  format : Nat := 0
  /-- Width. -/
  width : Nat := 0
  /-- Height. -/
  height : Nat := 0
  deriving DecidableEq, Repr

/-- An entry of a launch queue (Table 4.8). -/
structure LaunchEnt where
  /-- LaunchInstant, ns. -/
  instant : Nat := 0
  /-- FrameTag. -/
  tag : Nat := 0
  /-- the frame taken at the decision: windows and what they show (R101). -/
  decided : Option (List (Nat × Shown)) := none
  /-- decided, and the frame was not complete (R101). -/
  missed : Bool := false
  /-- its frame has replaced the shown buffers. -/
  applied : Bool := false
  deriving DecidableEq, Repr

/-- A view beside its entries. -/
structure ViewSt where
  /-- launch queue, oldest first, at most 8 (R98). -/
  queue : List LaunchEnt := []
  /-- entries flushed after their decision, which stands: their frames still show from their instants (R101). -/
  stands : List LaunchEnt := []
  /-- frame boundaries crossed from the pattern's effect time up to patAt (R181). -/
  patN : Nat := 0
  /-- display time in ns up to which patN counts (R181). -/
  patAt : Nat := 0
  /-- it has shown a frame since it was enabled (R98, R168). -/
  launched : Bool := false
  deriving DecidableEq, Repr

/-- A capture of a SYNCI edge (Table 4.9). -/
structure Capt where
  /-- Edge. -/
  falling : Bool := false
  /-- display stamp. -/
  stamp : BitVec 96 := 0
  /-- calendar time in 2^-32 ns. -/
  cal : Int := 0
  /-- TimeState at the edge. -/
  state : Nat := 0
  deriving DecidableEq, Repr

/-- A SYNCI input beside its entries. -/
structure SyncIn where
  /-- captures, oldest first, at most 16 (R102). -/
  caps : List Capt := []
  /-- overflow reported until the buffer is read (R106). -/
  told : Bool := false
  deriving DecidableEq, Repr

/-- A SYNCO output beside its entries. -/
structure SyncOut where
  /-- a pulse is in progress (R104). -/
  active : Bool := false
  /-- display time in 2^-32 ns of its leading edge, on a 100 ps step. -/
  began : Nat := 0
  /-- display time in 2^-32 ns at which it ends, on a 100 ps step. -/
  ends : Nat := 0
  /-- the level that the pin has during the pulse. -/
  level : Bool := true
  /-- values of the output entries for pulses scheduled before a display time in 2^-32 ns, oldest first (R104). -/
  hist : List (Nat × List Nat) := []
  /-- the SINGLE pulse was given. -/
  single : Bool := false
  deriving DecidableEq, Repr

/-- The capture armed or running (R182). -/
structure CapArm where
  /-- CaptureAt, ns. -/
  since : Nat := 0
  /-- CaptureView. -/
  view : Nat := 0
  /-- CaptureHandle. -/
  handle : Nat := 0
  /-- CaptureTarget. -/
  target : Nat := 0
  deriving DecidableEq, Repr

/-- A context's record beside its entries (Table 5.1). -/
structure Ctx where
  /-- AssemblingBuffer. -/
  asmBuf : Nat := 0xFFFF
  /-- AssemblingLaunch. -/
  asmLaunch : Nat := 0
  /-- AssemblyMap, bit u of unit u. -/
  amap : Nat := 0
  /-- ExpectedSequence. -/
  expSeq : Nat := 0
  /-- StateSince, ns. -/
  since : Nat := 0
  /-- slot after the one last taken (R117). -/
  nextSlot : Nat := 0
  deriving DecidableEq, Repr

/-- A buffer handle beside its entries. -/
structure BufX where
  /-- PageList (R152). -/
  pages : List Nat := []
  deriving DecidableEq, Repr

/-- Check decisions of one fill of a buffer (R142, R144). -/
structure Fill where
  /-- check map: block-row packet (1,024 x plane + row) and accepted. -/
  map : List (Nat × Bool) := []
  /-- packets decided in this fill. -/
  counted : List Nat := []
  /-- EV_GARNET_ROW_REJECTED was raised in this fill. -/
  raised : Bool := false
  deriving DecidableEq, Repr

/-- Defect detection (R196 to R199, R251). -/
structure Defects where
  /-- state code of Table 9.6 by lamp. -/
  st : SMap Nat := []
  /-- the 4 bits that bytes written into the table store gave a lamp, where they are no code of Table 9.6 (R413). -/
  raw : SMap Nat := []
  /-- cause of the last counted fault by lamp (R197). -/
  cause : SMap Nat := []
  /-- counted observations whose verdict is not yet taken: frame boundary of the period in which the row was lit, lamp,
  flag (R197, R251). -/
  seen : List (Nat × Nat × Nat) := []
  /-- frame boundary at which the last verdicts were taken, ns (R197). -/
  since : Nat := 0
  deriving DecidableEq, Repr

/-- A ledger entry (Table 10.4). -/
structure LedEnt where
  /-- State. -/
  st : EntSt := .empty
  /-- Row. -/
  row : Nat := 0
  /-- View. -/
  view : Nat := 0
  /-- Generation. -/
  gen : Nat := 0
  /-- RefreshSeq. -/
  seq : Nat := 0
  /-- StagingSlot. -/
  slot : Nat := 0
  /-- DARK. -/
  dark : Bool := false
  /-- SKIPOD. -/
  skipod : Bool := false
  /-- refresh boundary of its slot, 2^-32 ns. -/
  start : Nat := 0
  /-- frame boundary of its frame, ns. -/
  frame : Nat := 0
  /-- number of the slot in its frame. -/
  j : Nat := 0
  /-- its computation is running. -/
  busy : Bool := false
  /-- the computed plane codes (grey words) by output. -/
  codes : List Nat := []
  /-- the drive values they were made from, by output. -/
  drives : List Nat := []
  deriving DecidableEq, Repr

/-- The ledger of one lane and where its launch order stands (R223). -/
structure LaneLed where
  /-- live entries in launch order, at most 256. -/
  ents : List LedEnt := []
  /-- frame boundary of the next burst, ns. -/
  frame : Nat := 0
  /-- slot of the next burst. -/
  j : Nat := 0
  /-- light-order row of the next burst. -/
  row : Nat := 0
  /-- RefreshSeq of the next burst. -/
  seq : Nat := 0
  /-- staging slot of the burst whose shift began at the last launch line (R223). -/
  shift : Option Nat := none
  /-- lamps and drives of the last rows shifted, with refresh and row, newest first (R197, R251). -/
  lastDrv : List (Nat × Nat × List (Option Nat × Nat)) := []
  deriving DecidableEq, Repr

/-- What a device commit sets (R229). -/
structure DevChange where
  /-- analog inputs and their new bands (R193). -/
  band : List (Nat × Nat) := []
  /-- lamps that become CONCEALED, with cause (R199). -/
  conceal : List (Nat × Nat) := []
  /-- the throttle step from its effect time (R233). -/
  throttle : Option Nat := none
  deriving DecidableEq, Repr

/-- An accepted commit (R225, R226). -/
structure Pend where
  /-- generation. -/
  gen : Nat := 0
  /-- origin. -/
  origin : Origin := .host
  /-- frame-class. -/
  isFrame : Bool := false
  /-- E_req, ns. -/
  req : Nat := 0
  /-- effect time E, ns. -/
  e : Nat := 0
  /-- register keys and committed values. -/
  values : List (Nat × Val) := []
  /-- what a device commit sets. -/
  dev : DevChange := {}
  /-- lamps that the device appended to its ConcealList value (R229). -/
  kept : List Nat := []
  /-- its effect time has come, and an earlier accepted commit still waits. -/
  done : Bool := false
  deriving DecidableEq, Repr

/-- What makes a change of configuration incompatible when it differs (R230). -/
structure SlateMode where
  /-- LaneRate. -/
  b : Nat
  /-- ScanRatio. -/
  k : Nat
  /-- PlaneCount. -/
  p : Nat
  /-- DriveMode GREY. -/
  grey : Bool
  deriving DecidableEq, Repr

/-- The plane modulator beside its entries. -/
structure Modulator where
  /-- generation counter (R224). -/
  gen : BitVec 32 := 0
  /-- accepted commits that wait, in order of acceptance (R226). -/
  commits : List Pend := []
  /-- effect time of a pending start, ns (R232). -/
  startE : Option Nat := none
  /-- effect time of a pending stop, ns (R232). -/
  stopE : Option Nat := none
  /-- Slate frame from E to the next new-grid boundary, ns (R231). -/
  slate : Option (Nat × Nat) := none
  /-- the last effect time, and whether a commit of that time was incompatible (R230). -/
  before : Option (Nat × Bool) := none
  /-- the modulator has lit since its start. -/
  wasSlate : Bool := false
  /-- ledgers by lane (R223). -/
  lanes : SMap LaneLed := []
  /-- plane staging: the codes at each slot of lane x 512 + slot (R223). -/
  staging : SMap (List Nat) := []
  /-- refresh whose missed burst was reported (R227). -/
  missedSeq : Option Nat := none
  /-- refreshes counted in SquashSkips, by their starts in 2^-32 ns (R206). -/
  skipSeq : List Nat := []
  /-- refreshes counted in ConcealedClipped, by their starts in 2^-32 ns (R200). -/
  clipSeq : List Nat := []
  /-- effect time of throttle step 1, ns (R370). -/
  t1 : Nat := 0
  /-- time of the release of step 2, ns (R370). -/
  t2 : Nat := 0
  /-- display time in ns since which J is below ThrottleLevel - 5 (R370). -/
  coolSince : Option Nat := none
  /-- step 2 is not available (R233, R234). -/
  noStep2 : Bool := false
  deriving DecidableEq, Repr

/-- A lane quadrant (R237, R261). -/
structure Quad where
  /-- dark by a supply dip (R360). -/
  dip : Bool := false
  /-- dark by a PLL unlock (R261). -/
  unlock : Bool := false
  /-- dark by thermal shutdown, reset or D15 (R261). -/
  hot : Bool := false
  /-- dropped bursts are counted in UnlockDrops (R261). -/
  counting : Bool := false
  /-- display time in 2^-32 ns at relock or at the end of the darkness. -/
  relock : Option Nat := none
  deriving DecidableEq, Repr

/-- A readback frame requested and not judged (R249 to R251). -/
structure Want where
  /-- the polled lane. -/
  lane : Nat := 0
  /-- light-order row reported. -/
  row : Nat := 0
  /-- RefreshSeq. -/
  seq : Nat := 0
  /-- start of the row dwell reported, display time in 2^-32 ns. -/
  lit : Nat := 0
  /-- display time in 2^-32 ns by which its start bit must come. -/
  due : Nat := 0
  deriving DecidableEq, Repr

/-- Strobe and readback of one group (R244, R249 to R251). -/
structure GroupRb where
  /-- edges of LSTB in the row dwell, with the level after each, display time in ps; none while LSTB stays low (R244). -/
  edges : List (Nat × Bool) := []
  /-- consecutive requested frames that were errors. -/
  errRun : Nat := 0
  /-- frames requested and not judged, oldest first. -/
  want : List Want := []
  deriving DecidableEq, Repr

/-- A TE domain (R254, R255). -/
structure TeDom where
  /-- frame boundary G_f it waits from, ns. -/
  g : Nat := 0
  /-- W_f of the frame, ns. -/
  w : Option Nat := none
  /-- EV_TE_MISSING was raised and no edge has arrived since. -/
  missing : Bool := false
  /-- the domain sends nothing of this frame. -/
  skip : Bool := false
  deriving DecidableEq, Repr

/-- What a driver lane carries and its trims beside the entries. -/
structure LaneOut where
  /-- bits of the last frame started on the lane (R240). -/
  frame : List Bool := []
  /-- UI of the LCLK edge on which its first bit is centred (R239). -/
  start : Nat := 0
  /-- frames that follow it, oldest first, each with the UI of its first bit (R254). -/
  more : List (Nat × List Bool) := []
  /-- payloads of the LEVEL_PART frames that follow it in the lane's idle time (R242). -/
  levels : List Nat := []
  /-- whole LEVEL_PART frames that the idle time holds (R242). -/
  parts : Nat := 0
  /-- next part of the level set (R242). -/
  level : Nat := 0
  /-- grey loads that wait for W_f (R254). -/
  wait : List (List Bool) := []
  /-- the ARM frame that follows the loads of the frame, and the frame boundary in ns at which it ends (R254). -/
  arm : Option (List Bool × Nat) := none
  /-- the refresh whose levels the parts carry: its boundary in ns and its RefreshSeq (R242, R262). -/
  levelOf : Option (Nat × Nat) := none
  /-- output delay against the LCLK of the group, ps (R256). -/
  delay : Int := 0
  /-- the lane's last ARM is complete and its next load has not begun (R376). -/
  gap : Bool := false
  /-- it was trimmed in that interval (R376). -/
  spent : Bool := false
  /-- restored trims that wait for the lane's idle time: their keys and values (R378). -/
  held : List (Nat × Val) := []
  /-- trims measured and not yet applied (R376). -/
  newTrim : Option (Int × Nat × Nat) := none
  /-- trimmed in the current pass (R376). -/
  trimmed : Bool := false
  deriving DecidableEq, Repr

/-- A row port (R247). -/
structure RowPort where
  /-- the last RLD frame (Table 11.5). -/
  frame : Nat := 0
  /-- UI of the LCLK edge on which its first bit is centred (R239). -/
  start : Nat := 0
  /-- row named by it; none after BLANK. -/
  named : Option Nat := none
  /-- edges of RLG, with the level after each, display time in ps, oldest first; none while RLG stays low (R247). -/
  edges : List (Nat × Bool) := []
  deriving DecidableEq, Repr

/-- An open segmented transfer (R282). -/
structure SegXfer where
  /-- opcode is WRITE_STAGED. -/
  staged : Bool := false
  /-- Index. -/
  index : Nat := 0
  /-- Sub. -/
  sub : Nat := 0
  /-- TotalLength. -/
  total : Nat := 0
  /-- bytes received. -/
  data : Bytes := []
  /-- model clock at the last segment. -/
  since : Nat := 0
  deriving DecidableEq, Repr

/-- An attestation request (R338). -/
structure Attest where
  /-- the nonce. -/
  nonce : Bytes := []
  /-- the report once it is ready. -/
  report : Option Bytes := none
  /-- model clock at the write. -/
  since : Nat := 0
  deriving DecidableEq, Repr

/-- A reply (R271). -/
structure Reply where
  /-- status code. -/
  status : Status := .ok
  /-- body. -/
  body : Bytes := []
  /-- Type. -/
  type : Nat := 0
  /-- TotalLength. -/
  total : Nat := 0
  /-- Revision. -/
  revision : Nat := 0
  deriving DecidableEq, Repr

/-- A manager session (R273). -/
structure Session where
  /-- open. -/
  isOpen : Bool := false
  /-- partner. -/
  partner : Nat := 0xFFFF
  /-- port of a session opened link-local (R62). -/
  link : Option Nat := none
  /-- last Sequence accepted. -/
  lastSeq : Nat := 0
  /-- timeout, ms. -/
  timeout : Nat := 30000
  /-- model clock at the last accepted request. -/
  lastAt : Nat := 0
  /-- a request is executing. -/
  busy : Bool := false
  /-- the last non-READ reply (R275). -/
  kept : Option Reply := none
  /-- open segmented transfer. -/
  seg : Option SegXfer := none
  /-- AUTHORISED (R331). -/
  auth : Bool := false
  /-- current challenge (R331). -/
  challenge : Option Bytes := none
  /-- attestation (R338). -/
  attest : Option Attest := none
  deriving DecidableEq, Repr

/-- An event record (Table 12.11). -/
structure EventRec where
  /-- the event. -/
  ev : Event := .linkUp
  /-- calendar time when raised, 2^-32 ns. -/
  cal : Int := 0
  /-- display time when raised, ns. -/
  disp : Nat := 0
  /-- what the event names; Detail is laid out from it. -/
  names : List Nat := []
  deriving DecidableEq, Repr

/-- A dictionary message that waits for the core, or a SWEEP behind such messages (R77, R277). -/
structure Msg where
  /-- envelope. -/
  env : Env := ⟨.spi, 0, .unicast, 0, 0⟩
  /-- the message, or the SWEEP's payload. -/
  bytes : Bytes := []
  /-- the return time of a SWEEP, display time in ns; none for a message. -/
  sweep : Option Nat := none
  /-- the packet that the SWEEP came in (R71). -/
  pkt : Packet := {}
  /-- requests that arrived before the SWEEP and wait without the core (R77). -/
  waits : List Env := []
  deriving DecidableEq, Repr

/-- The changes of values that the device makes at a READ from state beside the register file (R283). -/
structure MadeRevs where
  /-- of OpenSessions. -/
  sessions : Nat := 0
  /-- of StagedBytes. -/
  staged : Nat := 0
  /-- of EventCount. -/
  events : Nat := 0
  /-- of FreePages. -/
  pages : Nat := 0
  deriving DecidableEq, Repr

/-- The management core and dictionary engine (D9). -/
structure Mgmt where
  /-- how often values that the device makes at a READ have changed (R283). -/
  made : MadeRevs := {}
  /-- sessions 0 to 255 and the local session at 256 (R273). -/
  sessions : SMap Session := []
  /-- staged writes by register key, in order (R280). -/
  staged : List (Nat × Val) := []
  /-- event queue, oldest first, at most 256 (R293). -/
  events : List EventRec := []
  /-- messages that arrived and are not yet executed, in order (R277). -/
  inbox : List Msg := []
  /-- SWEEPs that wait for requests that released the core (R77). -/
  held : List Msg := []
  /-- group and broadcast requests that wait for their answer (R75). -/
  groupWait : List Env := []
  /-- the request that holds the core until its answer (R277). -/
  core : Option Env := none
  /-- the reply last composed. -/
  rep : Option Reply := none
  /-- a request from SPI executes (R288). -/
  spiBusy : Bool := false
  /-- the reply that waits (R288). -/
  spiReply : Option Bytes := none
  /-- FAULT (R288). -/
  spiFault : Bool := false
  /-- bytes the last transaction clocked out. -/
  spiOut : Bytes := []
  /-- the value and the Revision that the last READ of an entry showed, for what the device makes at a READ (R283). -/
  seen : SMap (Bytes × Nat) := []
  /-- an Unassign takes effect behind its reply (R69). -/
  unassignDue : Bool := false
  /-- a host reset follows once its reply has left (R291). -/
  resetDue : Bool := false
  /-- a plan starts once its reply has left (R351). -/
  planDue : Bool := false
  deriving DecidableEq, Repr

/-- A coder slot's state record (Table 13.4). -/
structure Coder where
  /-- Operation. -/
  op : Nat := 0
  /-- Phase. -/
  phase : Nat := 0
  /-- Partial. -/
  part : Bytes := []
  /-- HistoryHead. -/
  head : Nat := 0
  /-- ChainIndex. -/
  chain : Nat := 0
  /-- Remaining. -/
  remaining : Nat := 0
  /-- Distance. -/
  distance : Nat := 0
  /-- InputDone. -/
  inDone : Nat := 0
  /-- OutputDone. -/
  outDone : Nat := 0
  /-- DecodedLength. -/
  decoded : Nat := 0
  /-- RunningCheck. -/
  crc : BitVec 32 := 0xFFFFFFFF
  /-- History, newest byte first, at most 65,536. -/
  hist : Bytes := []
  deriving DecidableEq, Repr

/-- A Shale job beside its entries (R301). -/
structure Job where
  /-- its slot's record. -/
  co : Coder := {}
  /-- ChainUsed. -/
  used : List Nat := [0, 0, 0, 0, 0, 0, 0, 0]
  /-- bytes written to the current handle beyond its start. -/
  pos : Nat := 0
  /-- its handles are held: a Start or Resume was accepted since it was IDLE (R302). -/
  held : Bool := false
  deriving DecidableEq, Repr

/-- A bulk transfer beside its entries (R306). -/
structure Xfer where
  /-- session. -/
  session : Nat := 0
  /-- its partner. -/
  peer : Nat := 0xFFFF
  /-- direction out. -/
  out : Bool := false
  /-- Coding 1. -/
  coded : Bool := false
  /-- TargetKind. -/
  kind : Nat := 0
  /-- Handle. -/
  handle : Nat := 0
  /-- TargetOffset. -/
  offset : Nat := 0
  /-- Length. -/
  length : Nat := 0
  /-- next Sequence expected (in) or to send (out). -/
  next : Nat := 0
  /-- next Sequence the far end expects (out). -/
  acked : Nat := 0
  /-- credit in packets (out). -/
  credit : Nat := 32
  /-- bytes accepted, sent or acknowledged. -/
  done : Nat := 0
  /-- coder slot, 4 to 7, of Coding 1 (R299). -/
  slot : Nat := 0
  /-- its state record. -/
  co : Coder := {}
  /-- model clock at the last accepted packet or ACK. -/
  since : Nat := 0
  /-- model clock at the first discarded packet since the last ACK (R74). -/
  gap : Option Nat := none
  /-- packets accepted that the codec has not yet taken (R299). -/
  inq : List Bytes := []
  /-- section of a Mehild file being handled (R309). -/
  sect : Nat := 0
  /-- bytes of the file handled (R309). -/
  taken : Nat := 0
  /-- bytes of a Mehild file, image or stream held until judged (R309, R321, R335). -/
  file : Bytes := []
  deriving DecidableEq, Repr

/-- A request that waits for its answer: its envelope and what its reply repeats. -/
structure Waiter where
  /-- envelope. -/
  env : Env := ⟨.spi, 0, .unicast, 0, 0⟩
  /-- Opcode. -/
  opcode : Nat := 0
  /-- Index. -/
  index : Nat := 0
  /-- Sub. -/
  sub : Nat := 0
  /-- its session has closed: its reply is not sent (R276). -/
  mute : Bool := false
  deriving DecidableEq, Repr

/-- A decode or an encode of the table archive (R320, R321). -/
structure Archive where
  /-- decode into the coefficient store. -/
  load : Bool := false
  /-- started by ArchiveAutoLoad. -/
  auto : Bool := false
  /-- model clock at its start. -/
  since : Nat := 0
  /-- offset of the bank that a decode reads, fixed at its start (R321). -/
  base : Nat := 0
  /-- its state record in slot 7. -/
  co : Coder := {}
  /-- the stream made so far (encode). -/
  out : Bytes := []
  /-- the RESTORE that waits. -/
  who : Option Waiter := none
  /-- the transfer whose stream is judged (R321). -/
  xfer : Option Nat := none
  deriving DecidableEq, Repr

/-- One line write of the MRAM (R314). -/
structure Line where
  /-- byte offset. -/
  addr : Nat := 0
  /-- 64 bytes. -/
  data : Bytes := []
  deriving DecidableEq, Repr

/-- A job of the MRAM write path (R315, R317). -/
structure NvmOp where
  /-- what it writes. -/
  kind : NvmKind := .settings
  /-- offset of the target bank or slot. -/
  base : Nat := 0
  /-- its lines are not yet laid out. -/
  fresh : Bool := true
  /-- lines are still to come from a transfer. -/
  more : Bool := false
  /-- payload of the bank. -/
  payload : Bytes := []
  /-- changes of the owner payload by offset (R329). -/
  patch : List (Nat × Byte) := []
  /-- lines still to write, the first in progress once started. -/
  lines : List Line := []
  /-- its first line is in progress. -/
  started : Bool := false
  /-- it met the write window open at its start, so its lines are held where the window closes (R315). -/
  met : Bool := false
  /-- model clock since which its lines are held without a break (R315). -/
  heldAt : Option Nat := none
  /-- its bank did not read back as written: the header line is made invalid again, and it fails (R317). -/
  bad : Bool := false
  /-- who waits for the answer. -/
  who : Option Waiter := none
  /-- what the completion needs to know (owner action, transfer, slot). -/
  names : List Nat := []
  deriving DecidableEq, Repr

/-- A running STORE (R285). -/
structure StoreRun where
  /-- who waits for the answer. -/
  env : Env := ⟨.spi, 0, .unicast, 0, 0⟩
  /-- areas still to save, the first being saved. -/
  areas : List Nat := []
  /-- areas stored. -/
  doneMask : Nat := 0
  /-- the settings payload as committed at acceptance (R318). -/
  settings : Bytes := []
  /-- the calibration payload as committed at acceptance. -/
  calib : Bytes := []
  /-- its session has closed: its reply is not sent (R276). -/
  mute : Bool := false
  deriving DecidableEq, Repr

/-- The secure store (D10) beside its entries. -/
structure Secure where
  /-- MRAM content by byte offset (Table 14.1). -/
  mram : SMap Byte := []
  /-- jobs of the write path in order (R315). -/
  ops : List NvmOp := []
  /-- STOREs accepted and not yet answered, the first running (R285). -/
  stores : List StoreRun := []
  /-- state of each slot as SlotInfo shows it (DESIGN CHOICE: a delivered part's slot 0 is valid). -/
  slotSt : List Nat := [2, 0]
  /-- the MODEL's own: slots that still hold the image the part came with. -/
  delivered : List Nat := [0]
  /-- model clock since which lines are held (R315). -/
  held : Option Nat := none
  /-- a supply caused the hold. -/
  heldBy : Bool := false
  /-- black-box records that wait, with Kind, at most 256 (R326). -/
  bbQueue : List (Nat × EventRec) := []
  /-- next slot of the ring (R324). -/
  bbNext : Nat := 0
  /-- the scan of R324 has ended. -/
  bbScanned : Bool := false
  /-- model clock of the last record written (R326). -/
  bbAt : Nat := 0
  /-- a decode of the archive in progress. -/
  archive : Option Archive := none
  /-- slot running. -/
  running : Nat := 0
  /-- the running image is a trial (R337). -/
  trial : Bool := false
  /-- a trial was abandoned in this boot (R336). -/
  fallback : Bool := false
  /-- the slot abandoned. -/
  fallSlot : Nat := 0
  /-- AntiRollbackCounter fuses blown. -/
  fuses : Nat := 0
  /-- strings taken from the entropy source (R331). -/
  draws : Nat := 0
  deriving DecidableEq, Repr

/-- A request for a domain transition (R347). -/
structure DomReq where
  /-- ON, RET or OFF. -/
  target : DomState := .on
  /-- the DOMAIN message that waits for its answer. -/
  env : Option Env := none
  /-- the session of that message has closed: its reply is not sent (R276). -/
  mute : Bool := false
  /-- made by a plan or a wake. -/
  plan : Bool := false
  deriving DecidableEq, Repr

/-- A switched domain (R344). -/
structure Domain where
  /-- state. -/
  st : DomState := .off
  /-- state it left, while a transition is in progress. -/
  left : DomState := .off
  /-- where the transition goes. -/
  target : DomState := .off
  /-- the entry window runs (R344). -/
  window : Bool := false
  /-- who waits for the transition. -/
  env : Option Env := none
  /-- the session of that request has closed: its reply is not sent (R276). -/
  mute : Bool := false
  /-- a layer of a plan or wake waits for it. -/
  plan : Bool := false
  /-- pending request (R347). -/
  next : Option DomReq := none
  /-- model clock at the start of the step. -/
  since : Nat := 0
  /-- retention mask as a section took it at its entry to RET (R163). -/
  mask : Val := []
  deriving DecidableEq, Repr

/-- A supply rail. -/
structure Rail where
  /-- below its warning level (R359). -/
  warn : Bool := false
  /-- below its reset level (R359). -/
  low : Bool := false
  /-- minimum of the dip in mV (R360). -/
  min : Nat := 0
  /-- turned off by the T9 (R358). -/
  off : Bool := false
  /-- its regulator showed a fault and is not yet acknowledged (R357). -/
  fault : Bool := false
  deriving DecidableEq, Repr

/-- The outstanding regulator request (R355). -/
structure RegReq where
  /-- rail in the order of Table 15.8. -/
  rail : Nat := 0
  /-- PMBus command, or 0 for an AVSBus voltage. -/
  cmd : Nat := 0
  /-- attempts that were not acknowledged (R357). -/
  tries : Nat := 0
  /-- model clock at the attempt. -/
  since : Nat := 0
  /-- voltage asked for over AVSBus; of an OPERATION, 1 on and 0 off. -/
  mv : Nat := 0
  /-- that voltage is above the one before it (R356). -/
  up : Bool := false
  deriving DecidableEq, Repr

/-- The power controller beside its entries. -/
structure Power where
  /-- the switched domains. -/
  doms : SMap Domain := []
  /-- the rails of Table 15.8. -/
  rails : SMap Rail := []
  /-- the outstanding regulator request. -/
  reg : Option RegReq := none
  /-- regulator requests that wait. -/
  regQ : List RegReq := []
  /-- layer of the running plan, 1 to 7 (R351). -/
  plan : Option Nat := none
  /-- that layer is complete, and the one after it has not started (R354). -/
  planGap : Bool := false
  /-- domains the last plan took down (R354). -/
  lastPlan : List Nat := []
  /-- layer of a bring-up by a wake, 7 down to 1 (R354). -/
  wakeLayer : Option Nat := none
  /-- domains the wake brings up. -/
  wakeSet : List Nat := []
  /-- ports to resume when their domain is ON (R53, R354). -/
  wakePort : List Nat := []
  /-- model clock at the start of the dip (R360). -/
  dipAt : Option Nat := none
  /-- the dip has driven the quadrants dark (R360). -/
  dark : Bool := false
  /-- the context store lost its content and D6 has not entered ON since (R126). -/
  ctxLost : Bool := false
  /-- the coefficient store lost its content and no archive decode has been tried since (R321). -/
  coefGone : Bool := false
  /-- domains that have not entered ON since the table store lost its content (R198, R208). -/
  tableLost : List Nat := []
  /-- model clock of the last VCORE change (R356). -/
  vcoreAt : Nat := 0
  /-- VCORE in mV as the regulator last acknowledged it (R341, R356). -/
  vcoreMv : Nat := 750
  /-- VCORE was within 10 mV of its target when it was last checked (R356). -/
  vcoreOk : Bool := true
  deriving DecidableEq, Repr

/-- A die sensor (R364, R365). -/
structure Sensor where
  /-- latest T in 1/16 degree. -/
  t : Int := 0
  /-- failed. -/
  failed : Bool := false
  /-- consecutive implausible conversions. -/
  badRun : Nat := 0
  /-- consecutive plausible conversions. -/
  goodRun : Nat := 0
  /-- the latest conversion was plausible. -/
  plausible : Bool := false
  deriving DecidableEq, Repr

/-- An analog input beside its entries (R371, R373). -/
structure Ain where
  /-- last 4 values of a thermistor, newest first. -/
  last : List Int := []
  /-- band decided and not yet in effect. -/
  pend : Option Nat := none
  /-- EV_AIN_FAULT was raised for the fault. -/
  told : Bool := false
  deriving DecidableEq, Repr

/-- The thermal block and the calibration. -/
structure Thermal where
  /-- the 32 sensors. -/
  sensors : SMap Sensor := []
  /-- rounds of the last second: model clock and J, newest first (R369). -/
  rounds : List (Nat × Int) := []
  /-- shut down (R367). -/
  shut : Bool := false
  /-- sensor that shut the die down, 0xFE for three failed sensors. -/
  shutSrc : Nat := 0xFF
  /-- J in 1/16 degree (R366). -/
  j : Int := 0
  /-- the 16 analog inputs. -/
  ains : SMap Ain := []
  /-- next step of phase 1, 0 before it starts (R374). -/
  calStep : Nat := 0
  /-- model clock at the start of the step. -/
  calAt : Nat := 0
  /-- EV_VREFCAL_FAULT holds (R375). -/
  vrefBad : Bool := false
  /-- start in ns of the Slate frame in which step 4 was last done (R374). -/
  cal4 : Option Nat := none
  /-- model clock at the start of the last pass of phase 2 (R376). -/
  passAt : Nat := 0
  /-- the first pass has ended. -/
  firstPass : Bool := false
  /-- a conversion has been judged since the reset (R366). -/
  seen : Bool := false
  /-- model clock of the last conversion (R365, R368). -/
  convAt : Nat := 0
  /-- model clock of the last slow round (R369). -/
  roundAt : Nat := 0
  /-- display time in 2^-32 ns of the row dead time that phase 2 last used (R376). -/
  gapAt : Option Nat := none
  /-- the internal senses of the seven rails in mV, as last converted (R371). -/
  senses : List Nat := []
  deriving DecidableEq, Repr

/-- Reset, boot and watchdog. -/
structure Startup where
  /-- progress. -/
  phase : BootPhase := .held
  /-- causes seen for this reset (R383). -/
  causes : List Nat := [1]
  /-- Source of the reset-cause record (Table 17.3). -/
  source : Nat := 0xFF
  /-- Minimum of the reset-cause record. -/
  minimum : Int := 0
  /-- model clock at which the hold of the reset began (R384). -/
  holdFrom : Nat := 0
  /-- model clock of the latest supply recovery (R382, R384). -/
  goodFrom : Nat := 0
  /-- model clock at reset release. -/
  release : Nat := 0
  /-- the boot ROM has counted the boot (R336). -/
  counted : Bool := false
  /-- domains of BootTargets that were refused. -/
  refused : List Nat := []
  /-- the watchdog runs (R387). -/
  wdOn : Bool := false
  /-- model clock at its last renewal. -/
  wdAt : Nat := 0
  /-- AutoStart has acted in this boot (R390). -/
  autoTried : Bool := false
  deriving DecidableEq, Repr

/-- The JTAG port (R408). -/
structure Jtag where
  /-- selected instruction. -/
  ir : JtagReg := .bypass
  /-- bypass register. -/
  bypass : Bool := false
  /-- boundary register, cell by cell; cells beyond the list hold 0. -/
  cells : List Bool := []
  /-- boundary values driven or held onto the balls, cell by cell; none while the device drives them. -/
  pins : Option (List Bool) := none
  /-- HIGHZ floats the covered outputs. -/
  floats : Bool := false
  /-- bits last shifted out. -/
  shift : List Bool := []
  deriving DecidableEq, Repr

/-- The whole state of the device. -/
structure State where
  /-- the register file: values in force of every entry that differ from its default (R265). -/
  regs : SMap Val := []
  /-- Revision of every entry that is not 0 (R283). -/
  revs : SMap Nat := []
  /-- ports P0 to P3. -/
  ports : SMap Port := []
  /-- lanes 4n + l of the ports. -/
  lanes : SMap Lane := []
  /-- the last 16 group or broadcast requests (R75). -/
  outcomes : List Outcome75 := []
  /-- running sweeps, at most 4 (R77). -/
  sweeps : List Sweep := []
  /-- SWEEP packets delivered and not yet taken up, whose headers their forwarding keeps (R71, R77). -/
  sweepPkts : List Packet := []
  /-- the time unit. -/
  time : TimeUnit := {}
  /-- the always-on domain. -/
  aon : Aon := {}
  /-- views 0 to 7. -/
  views : SMap ViewSt := []
  /-- SYNCI0 to SYNCI3. -/
  syncIn : SMap SyncIn := []
  /-- SYNCO0 to SYNCO3. -/
  syncOut : SMap SyncOut := []
  /-- stream contexts 0 to 16,383. -/
  ctxs : SMap Ctx := []
  /-- buffer handles 0 to 1,023. -/
  bufs : SMap BufX := []
  /-- what each window shows (R170). -/
  shown : SMap Shown := []
  /-- Quarry content by byte address (R149). -/
  quarry : SMap Byte := []
  /-- check decisions by buffer handle (R142). -/
  fills : SMap Fill := []
  /-- the capture armed or running (R182). -/
  cap : CapArm := {}
  /-- defect detection. -/
  defects : Defects := {}
  /-- the plane modulator. -/
  modl : Modulator := {}
  /-- lane quadrants 0 to 3. -/
  quads : SMap Quad := []
  /-- readback of groups 0 to 63. -/
  groups : SMap GroupRb := []
  /-- TE domains 0 to 15. -/
  tes : SMap TeDom := []
  /-- driver lanes 0 to 511. -/
  louts : SMap LaneOut := []
  /-- row ports 0 to 7. -/
  rows : SMap RowPort := []
  /-- the management core. -/
  mgmt : Mgmt := {}
  /-- bulk transfers 0 to 15. -/
  xfers : SMap Xfer := []
  /-- Shale jobs 0 to 3. -/
  jobs : SMap Job := []
  /-- the secure store. -/
  secure : Secure := {}
  /-- the power controller. -/
  power : Power := {}
  /-- housekeeping and calibration. -/
  thermal : Thermal := {}
  /-- reset and boot. -/
  boot : Startup := {}
  /-- the JTAG port. -/
  jtag : Jtag := {}
  /-- what the table store holds for entries where it is not the value in force (R413). -/
  tables : SMap Val := []
  /-- bytes of the table store beyond its entries and defect states, by place (R413). -/
  tablePad : SMap Byte := []
  /-- the MODEL's own: free values drawn so far (log 2; DESIGN CHOICE 0). -/
  draws : Nat := 0
  /-- commands that wait, first in, first out (the block's queue). -/
  pending : List Instr := []
  deriving DecidableEq, Repr

/-- The device right after reset: everything at its reset value, power-on reset held (R383), no command waiting. -/
def State.reset : State := {}

end Sys2Proof.Machine
end

