-- ==== Sys2Proof/Machine/Operands.lean ====
section
/-! DEFINITION. The forms of operands: byte orders, signed numbers, check words, time forms, packets, messages and the
values of entries as bytes. -/

namespace Sys2Proof.Machine

/-- R7: the low `k` bytes of a number, byte 0 the least significant. -/
def leBytes : Nat → Nat → Bytes
  | 0, _ => []
  | k + 1, n => BitVec.ofNat 8 n :: leBytes k (n / 256)

/-- Bytes as the elements of an OCTETS value. -/
def byteVal (b : Bytes) : Val := b.map (fun x => x.toNat)

/-- The bytes of an OCTETS value. -/
def valBytes (v : Val) : Bytes := v.map (BitVec.ofNat 8)

/-- R7: the number that bytes hold, byte 0 the least significant. -/
def leNat : Bytes → Nat
  | [] => 0
  | b :: t => b.toNat + 256 * leNat t

/-- The number in bytes `a` to `a + n - 1`. -/
def field (b : Bytes) (a n : Nat) : Nat := leNat ((b.drop a).take n)

/-- The two's complement reading of the low `w` bits of a number. -/
def sgn (w n : Nat) : Int :=
  let m := n % 2 ^ w
  if m < 2 ^ (w - 1) then (m : Int) else (m : Int) - 2 ^ w

/-- The two's complement form of an integer in `w` bits. -/
def uns (w : Nat) (i : Int) : Nat := (i % (2 ^ w : Int)).toNat

/-- The integer held within two bounds. -/
def clampInt (lo hi i : Int) : Int := if i < lo then lo else if hi < i then hi else i

/-- The least whole number of `d` that covers `n`. -/
def ceilDiv (n d : Nat) : Nat := (n + d - 1) / d

/-- R58: one byte of the CRC-16 of HeaderCheck. -/
def crc16Step (c : Nat) (b : Byte) : Nat :=
  (List.range 8).foldl (fun c _ => if c.testBit 15 then ((c * 2) % 65536) ^^^ 0x1021 else (c * 2) % 65536)
    (c ^^^ (b.toNat * 256))

/-- R58: the CRC-16 of HeaderCheck. -/
def crc16 (b : Bytes) : Nat := b.foldl crc16Step 0xFFFF

/-- R58: one byte of the CRC-32 of PacketCheck, before the final inversion. -/
def crc32Step (c : Nat) (b : Byte) : Nat :=
  (List.range 8).foldl (fun c _ => if c.testBit 0 then (c / 2) ^^^ 0xEDB88320 else c / 2) (c ^^^ b.toNat)

/-- R58: the CRC-32 of PacketCheck; 0 for an empty string. -/
def crc32 (b : Bytes) : Nat := b.foldl crc32Step 0xFFFFFFFF ^^^ 0xFFFFFFFF

/-- Table 4.1: the CAL80 form of a time in 2^-32 ns. -/
def cal80 (t : Int) : Bytes :=
  let ns := (t / 4294967296).toNat
  leBytes 6 (ns / 1000000000) ++ leBytes 4 (ns % 1000000000)

/-- Table 4.1: the time in ns that a CAL80 form holds. -/
def calNs (b : Bytes) : Nat := field b 0 6 * 1000000000 + field b 6 4 % 2 ^ 30

/-- Table 4.1: the display stamp of a time in 2^-32 ns. -/
def stamp12 (t : Nat) : Bytes := leBytes 8 (t / 4294967296) ++ leBytes 4 (t % 4294967296)

/-- Table 4.1: the time in 2^-32 ns that a display stamp holds. -/
def stampOf (b : Bytes) : Nat := field b 0 8 * 4294967296 + field b 8 4

/-- A time in 2^-32 ns as picoseconds, rounded down. -/
def toPs (t : Int) : Int := t * 1000 / 4294967296

/-- A time in picoseconds as 2^-32 ns, rounded down. -/
def ofPs (p : Int) : Int := p * 4294967296 / 1000

/-- The code of a destination mode (Table 3.1). -/
def modeCode : DestMode → Nat
  | .unicast => 0
  | .group => 1
  | .broadcast => 2
  | .linkLocal => 3

/-- The destination mode of a code (Table 3.1). -/
def modeOf (n : Nat) : DestMode :=
  if n % 4 = 0 then .unicast else if n % 4 = 1 then .group else if n % 4 = 2 then .broadcast else .linkLocal

/-- Table 3.1: bytes 0 to 13 of a packet's header. -/
def Packet.head (p : Packet) : Bytes :=
  leBytes 1 (1 + 16 * (p.cls % 4) + 64 * modeCode p.mode) ++ leBytes 1 p.hop ++ leBytes 2 p.dest ++ leBytes 2 p.source
    ++ leBytes 2 p.channel ++ leBytes 2 p.seq ++ leBytes 2 p.payload.length ++ [0, 0]

/-- R58: the bytes of a packet. -/
def Packet.bytes (p : Packet) : Bytes :=
  p.head ++ leBytes 2 (crc16 p.head) ++ p.payload ++ leBytes 4 (crc32 p.payload)

/-- The fields of a packet's bytes (Table 3.1). -/
def Packet.ofBytes (b : Bytes) : Packet :=
  let b0 := field b 0 1
  { cls := b0 / 16 % 4, mode := modeOf (b0 / 64), hop := field b 1 1, dest := field b 2 2,
    source := field b 4 2, channel := field b 6 2, seq := field b 8 2, payload := (b.drop 16).take (field b 10 2) }

/-- The length of a packet on the link. -/
def Packet.size (p : Packet) : Nat := 20 + p.payload.length

/-- The bytes of an entry's value (Table 12.1). -/
def EntInfo.encode (i : EntInfo) (v : Val) : Bytes := v.flatMap (fun n => leBytes i.elt n)

/-- Bytes cut into elements of `w` bytes. -/
def cut (w : Nat) : Nat → Bytes → Val
  | 0, _ => []
  | k + 1, b => leNat (b.take w) :: cut w k (b.drop w)

/-- The value that bytes spell for an entry (Table 12.1); bytes that are no whole number of its elements spell a number
that no element holds, so that the entry's own checks refuse them in their order (R278). -/
def EntInfo.decode (i : EntInfo) (b : Bytes) : Val :=
  if b.length % i.elt ≠ 0 then [2 ^ 64] else cut i.elt (b.length / i.elt) b

/-- Table 12.4: the bytes of a reply with the request's opcode, index and subindex. -/
def Reply.message (r : Reply) (opcode index sub offset : Nat) : Bytes :=
  leBytes 1 opcode ++ leBytes 1 1 ++ leBytes 2 r.status.value ++ leBytes 2 index ++ leBytes 1 sub ++ leBytes 1 r.type
    ++ leBytes 4 offset ++ leBytes 4 r.total ++ leBytes 4 r.revision ++ r.body

/-- A reply that carries only a status. -/
def Reply.of (st : Status) : Reply := { status := st }

/-- The bits of a number, lowest first. -/
def bitList (w n : Nat) : List Bool := (List.range w).map (fun i => n.testBit i)

/-- The number of a list of bits, lowest first. -/
def ofBits : List Bool → Nat
  | [] => 0
  | b :: t => (if b then 1 else 0) + 2 * ofBits t

/-- How many of the low `w` bits of a number are set. -/
def popCount (w n : Nat) : Nat := ((List.range w).filter (fun i => n.testBit i)).length

end Sys2Proof.Machine
end

