-- ==== Sys2Proof/Machine/Ops.lean ====
section
/-! DEFINITION. The named operations over the register file, the clocks and the numbered parts of the device. -/

namespace Sys2Proof.Machine

/-- The place of an instance of an entry in the register file; no entry has more than 65,536 instances. -/
def key (e : Ent) (i : Nat) : Nat := e.ctorIdx * 65536 + i % 65536

/-- The value in force of an instance of an entry (R265, R269). -/
def State.rdv (s : State) (e : Ent) (i : Nat) : Val := SMap.get s.regs (key e i) e.dflt

/-- The scalar value in force of an instance of an entry. -/
def State.rd (s : State) (e : Ent) (i : Nat) : Nat := (s.rdv e i).headD 0

/-- Element `k` of the value in force of an instance of an entry. -/
def State.rdn (s : State) (e : Ent) (i k : Nat) : Nat := (s.rdv e i).getD k 0

/-- A change of value; Revision counts it when it leaves the value different (R283). -/
def State.wrv (s : State) (e : Ent) (i : Nat) (v : Val) : State :=
  if s.rdv e i = v then s
  else { s with
    regs := SMap.set s.regs e.dflt (key e i) v
    revs := SMap.put s.revs (key e i) ((SMap.get s.revs (key e i) 0 + 1) % 4294967296) }

/-- A change of a scalar value. -/
def State.wr (s : State) (e : Ent) (i n : Nat) : State := s.wrv e i [n]

/-- A change of one element of a value. -/
def State.wrn (s : State) (e : Ent) (i k n : Nat) : State := s.wrv e i ((s.rdv e i).set k n)

/-- R54: a saturating counter goes up by `n`. -/
def State.countBy (s : State) (e : Ent) (i n : Nat) : State := s.wr e i (min (s.rd e i + n) 0xFFFFFFFF)

/-- R54: a saturating counter goes up by 1. -/
def State.count (s : State) (e : Ent) (i : Nat) : State := s.countBy e i 1

/-- An entry goes back to its default, its Revision counting the change (R268, R283). -/
def State.toDefault (s : State) (e : Ent) (i : Nat) : State := s.wrv e i e.dflt

/-- Port n beside its entries. -/
def State.port (s : State) (n : Nat) : Port := SMap.get s.ports n {}

/-- The state with port n changed. -/
def State.setPort (s : State) (n : Nat) (p : Port) : State := { s with ports := SMap.put s.ports n p }

/-- Lane l of port n. -/
def State.lane (s : State) (n l : Nat) : Lane := SMap.get s.lanes (4 * n + l) {}

/-- The state with lane l of port n changed. -/
def State.setLane (s : State) (n l : Nat) (a : Lane) : State := { s with lanes := SMap.put s.lanes (4 * n + l) a }

/-- View v beside its entries. -/
def State.view (s : State) (v : Nat) : ViewSt := SMap.get s.views v {}

/-- The state with view v changed. -/
def State.setView (s : State) (v : Nat) (a : ViewSt) : State := { s with views := SMap.put s.views v a }

/-- Context c beside its entries. -/
def State.ctx (s : State) (c : Nat) : Ctx := SMap.get s.ctxs c {}

/-- The state with context c changed. -/
def State.setCtx (s : State) (c : Nat) (a : Ctx) : State := { s with ctxs := SMap.put s.ctxs c a }

/-- SYNCI input i beside its entries. -/
def State.syncI (s : State) (i : Nat) : SyncIn := SMap.get s.syncIn i {}

/-- The state with SYNCI input i changed. -/
def State.setSyncI (s : State) (i : Nat) (a : SyncIn) : State := { s with syncIn := SMap.put s.syncIn i a }

/-- R283: CaptureCount counts its changes. -/
def State.showCaptures (s : State) (i : Nat) : State := s.wr .captureCount i (s.syncI i).caps.length

/-- Buffer handle h beside its entries. -/
def State.buf (s : State) (h : Nat) : BufX := SMap.get s.bufs h {}

/-- The state with buffer handle h changed. -/
def State.setBuf (s : State) (h : Nat) (a : BufX) : State := { s with bufs := SMap.put s.bufs h a }

/-- Lane quadrant q. -/
def State.quad (s : State) (q : Nat) : Quad := SMap.get s.quads q {}

/-- The state with lane quadrant q changed. -/
def State.setQuad (s : State) (q : Nat) (a : Quad) : State := { s with quads := SMap.put s.quads q a }

/-- Driver lane l beside its entries. -/
def State.lout (s : State) (l : Nat) : LaneOut := SMap.get s.louts l {}

/-- The state with driver lane l changed. -/
def State.setLout (s : State) (l : Nat) (a : LaneOut) : State := { s with louts := SMap.put s.louts l a }

/-- Bulk transfer t. -/
def State.xfer (s : State) (t : Nat) : Xfer := SMap.get s.xfers t {}

/-- The state with bulk transfer t changed. -/
def State.setXfer (s : State) (t : Nat) (a : Xfer) : State := { s with xfers := SMap.put s.xfers t a }

/-- Shale job j beside its entries. -/
def State.job (s : State) (j : Nat) : Job := SMap.get s.jobs j {}

/-- The state with Shale job j changed. -/
def State.setJob (s : State) (j : Nat) (a : Job) : State := { s with jobs := SMap.put s.jobs j a }

/-- Session n, the local session at 256; the group session 255 and the local session are always open (R273). -/
def State.session (s : State) (n : Nat) : Session :=
  SMap.get s.mgmt.sessions n (if n = 255 ∨ n = 256 then { isOpen := true } else {})

/-- The state with session n changed. -/
def State.setSession (s : State) (n : Nat) (a : Session) : State :=
  { s with mgmt := { s.mgmt with sessions := SMap.put s.mgmt.sessions n a } }

/-- Switched domain d. -/
def State.domain (s : State) (d : Nat) : Domain := SMap.get s.power.doms d {}

/-- Table 15.11: the code of a domain's state. -/
def domCode : DomState → Nat
  | .on => 0
  | .ret => 1
  | .off => 2
  | .entering => 3
  | .exiting => 4

/-- The state with switched domain d changed. -/
def State.setDomain (s : State) (d : Nat) (a : Domain) : State :=
  { s with power := { s.power with doms := SMap.put s.power.doms d a } }

/-- Supply rail r. -/
def State.rail (s : State) (r : Nat) : Rail := SMap.get s.power.rails r {}

/-- The state with supply rail r changed. -/
def State.setRail (s : State) (r : Nat) (a : Rail) : State :=
  { s with power := { s.power with rails := SMap.put s.power.rails r a } }

/-- Domain d is ON; a domain that quiesces still serves until its entry ends (R344, R346). -/
def State.on (s : State) (d : Nat) : Bool := (s.domain d).st = .on

/-- Domain d is ON, or its entry has not yet reached its window. -/
def State.alive (s : State) (d : Nat) : Bool :=
  let x := s.domain d
  x.st = .on || (x.st = .entering && x.left = .on && !x.window)

/-- R82, R95, R96: display time in 2^-32 ns; while D5 is away it is what the sleep accounting would set. -/
def State.dispFine (s : State) : Nat :=
  match s.aon.latch with
  | some l => l.disp.toNat + s.aon.ticks * l.period
  | none => s.time.disp.toNat

/-- R84: display time in whole ns. -/
def State.now (s : State) : Nat := s.dispFine / 4294967296

/-- R83: calendar time in 2^-32 ns. -/
def State.cal (s : State) : Int :=
  match s.aon.latch with
  | some l => (s.dispFine : Int) + l.calOfs
  | none => (s.dispFine : Int) + s.time.calOfs

/-- The slow clock's nominal period, 1 / 32,768 s, in 2^-32 ns. -/
def slowTick : Nat := 131072000000000

/-- `n` ticks of the TIME clock: display time goes up by `n` times Increment (R82). -/
def State.timeTicks (s : State) (n : Nat) : State :=
  let d := n * s.rd .increment 0
  { s with
    time := { s.time with disp := s.time.disp + BitVec.ofNat 96 d }
    aon := { s.aon with mono := s.aon.mono + d } }

/-- `n` edges of the slow clock while D5 is away (R95). -/
def State.slowTicks (s : State) (n : Nat) : State :=
  { s with aon := { s.aon with mono := s.aon.mono + slowTick * n, ticks := s.aon.ticks + n } }

/-- The TIME clock counts display time: D5 is ON and the sleep accounting is done. -/
def State.timeRuns (s : State) : Bool := s.alive 5 && s.aon.latch.isNone

/-- One tick of the clock that counts while no command waits: of the TIME clock while it counts, else of the slow
clock. -/
def State.idleTick (s : State) : State := if s.timeRuns then s.timeTicks 1 else s.slowTicks 1

/-- The device's clocks move on until the model clock has gone up by at least `d` (2^-32 ns): whole ticks pass. -/
def State.elapse (s : State) (d : Nat) : State :=
  if d = 0 then s
  else if s.timeRuns then
    (if s.rd .increment 0 = 0 then s else s.timeTicks (ceilDiv d (s.rd .increment 0)))
  else s.slowTicks (ceilDiv d slowTick)

/-- The clocks move on to a due time of the model clock, if it has not come yet. -/
def State.untilMono (s : State) (t : Nat) : State := s.elapse (t - s.aon.mono)

/-- The clocks move on to a due display time in ns, if it has not come yet. -/
def State.untilDisp (s : State) (ns : Nat) : State :=
  if s.timeRuns then s.elapse (ns * 4294967296 - s.time.disp.toNat) else s

/-- Milliseconds in 2^-32 ns. -/
def ms (n : Nat) : Nat := n * 1000000 * 4294967296

/-- Microseconds in 2^-32 ns. -/
def us (n : Nat) : Nat := n * 1000 * 4294967296

/-- The next free value of 64 bits (the manual leaves the number open), and the state that has drawn it. -/
def State.draw (s : State) : Nat × State :=
  ((Config.freeValue s.draws).toNat, { s with draws := s.draws + 1 })

/-- R232: the modulator runs. -/
def State.running (s : State) : Bool := s.rd .modulatorRun 0 = 1

/-- R68: port n is a child port. -/
def State.isChild (s : State) (n : Nat) : Bool := (s.rd .childPorts 0).testBit n

/-- The ports 0 to 3. -/
def ports4 : List Nat := [0, 1, 2, 3]

/-- R36: port n is ACTIVE. -/
def State.active (s : State) (n : Nat) : Bool := s.rd .portState n = 5

/-- Do something for each of a list, in order. -/
def State.forEach {α : Type} (s : State) (l : List α) (f : State → α → State) : State := l.foldl f s

/-- The byte string held in Quarry (R149). -/
def State.quarryBytes (s : State) (a n : Nat) : Bytes := SMap.bytes s.quarry a n

/-- The byte string written to Quarry (R149). -/
def State.quarryWrite (s : State) (a : Nat) (b : Bytes) : State := { s with quarry := SMap.write s.quarry a b }

/-- The entry of a register key. -/
def entOfKey (k : Nat) : Option Ent := Ent.all.find? (fun e => e.ctorIdx = k / 65536)

/-- The bytes a staged value takes (R280). -/
def stagedSize (p : Nat × Val) (elt : Nat) : Nat := p.2.length * elt

/-- R280: the bytes that staging holds. -/
def State.stagedTotal (s : State) : Nat :=
  (s.mgmt.staged.map (fun p => match entOfKey p.1 with | some e => stagedSize p e.info.elt | none => 0)).sum

/-- R280, R283: the staged writes change, StagedBytes with them. -/
def State.setStaged (s : State) (l : List (Nat × Val)) : State :=
  let t := { s with mgmt := { s.mgmt with staged := l } }
  if t.stagedTotal = s.stagedTotal then t
  else { t with mgmt := { t.mgmt with made := { t.mgmt.made with staged := t.mgmt.made.staged + 1 } } }

/-- R342: the state whose settings a domain has; until a transition ends they are those of the state it leaves. -/
def State.domState (s : State) (d : Nat) : DomState :=
  if (s.domain d).st = .entering ∨ (s.domain d).st = .exiting then (s.domain d).left else (s.domain d).st

end Sys2Proof.Machine
end

