-- ==== Sys2Proof/Machine/Flags.lean ====
section
/-! DEFINITION. The event flags of the device: raising an event, the event queue, the coalescing counters and the
black box's pending queue (R292, R293, R326). -/

namespace Sys2Proof.Machine

/-- R283, R293: the event queue changes, EventCount with it. -/
def Mgmt.withEvents (m : Mgmt) (l : List EventRec) : Mgmt :=
  { m with events := l, made := { m.made with events := m.made.events + 1 } }

/-- The class of an event (R10). -/
def Event.cls (e : Event) : Nat := e.info.2.1

/-- R293, R326: one more event on a coalescing counter. -/
def Coal.add (c : Coal) (now : Nat) : Coal :=
  { count := min (c.count + 1) 0xFFFFFFFF, first := if c.count = 0 then now else c.first, last := now }

/-- The record of an event raised now (Table 12.11). -/
def State.record (s : State) (e : Event) (names : List Nat) : EventRec :=
  { ev := e, cal := s.cal, disp := s.now, names := names }

/-- The lowest class with a non-zero counter. -/
def lowestCoal : SMap Coal → Option (Nat × Coal)
  | [] => none
  | (k, c) :: t => if c.count = 0 then lowestCoal t else some (k, c)

/-- The names of an EV_OVERFLOW_SUMMARY: class, count, first and latest time (R293). -/
def summaryNames (k : Nat) (c : Coal) : List Nat := [k, c.count, c.first, c.last]

/-- R293: freed slots of the event queue take summaries, lowest class first. -/
def State.summarise (fuel : Nat) (s : State) : State :=
  match fuel with
  | 0 => s
  | n + 1 =>
    if s.on 9 && decide (s.mgmt.events.length < 256) then
      match lowestCoal s.aon.coal with
      | none => s
      | some (k, c) =>
        State.summarise n { s with
          mgmt := s.mgmt.withEvents (s.mgmt.events ++ [s.record .overflowSummary (summaryNames k c)])
          aon := { s.aon with coal := SMap.drop s.aon.coal k } }
    else s

/-- R326: room in the black box's pending queue takes summaries first, lowest class first. -/
def State.bbSummarise (fuel : Nat) (s : State) : State :=
  match fuel with
  | 0 => s
  | n + 1 =>
    if s.on 10 && decide (s.secure.bbQueue.length < 256) then
      match lowestCoal s.aon.bbCoal with
      | none => s
      | some (k, c) =>
        State.bbSummarise n { s with
          secure := { s.secure with
            bbQueue := s.secure.bbQueue ++ [(3, s.record .overflowSummary (summaryNames k c))] }
          aon := { s.aon with bbCoal := SMap.drop s.aon.bbCoal k } }
    else s

/-- R326: a record for the black box waits in its queue, or is coalesced under its event class. -/
def State.bbPut (s : State) (kind : Nat) (r : EventRec) : State :=
  let s := State.bbSummarise 64 s
  if s.on 10 && decide (s.secure.bbQueue.length < 256) then
    { s with secure := { s.secure with bbQueue := s.secure.bbQueue ++ [(kind, r)] } }
  else
    let s := s.count .blackBoxCoalesced 0
    let c := (SMap.get s.aon.bbCoal r.ev.cls {}).add s.now
    { s with aon := { s.aon with bbCoal := SMap.put s.aon.bbCoal r.ev.cls c } }

/-- R293: the event is queued, or coalesced when the queue is full or D9 is not ON. -/
def State.queueEvent (s : State) (r : EventRec) : State :=
  if s.on 9 && decide (s.mgmt.events.length < 256) then
    { s with mgmt := s.mgmt.withEvents (s.mgmt.events ++ [r]) }
  else
    let s := s.count .eventsCoalesced 0
    let c := (SMap.get s.aon.coal r.ev.cls {}).add s.now
    { s with aon := { s.aon with coal := SMap.put s.aon.coal r.ev.cls c } }

/-- R292, R293, R322: an event is raised; `names` are the things its table says it names. -/
def State.raise (s : State) (e : Event) (names : List Nat) : State :=
  let r := s.record e names
  let s := (s.count .eventsRaised 0).queueEvent r
  if s.rd .blackBoxSeverity 0 ≤ e.info.2.2.code then s.bbPut 1 r else s

/-- R292: bytes 24 to 47 of an event record; R293 and Table 17.3 give the layout of two, of the others it is open but for
the bytes that are not used. -/
def EventRec.detail (r : EventRec) : Bytes :=
  match r.ev with
  | .overflowSummary =>
    leBytes 4 (r.names.getD 0 0 % 256) ++ leBytes 4 (r.names.getD 1 0) ++ leBytes 8 (r.names.getD 2 0)
      ++ leBytes 8 (r.names.getD 3 0)
  | .resetCause => (r.names.map (BitVec.ofNat 8) ++ List.replicate 24 (0 : Byte)).take 24
  | e =>
    let n := if r.names = [] then 0 else (Config.detailLength e.info.1).val
    (List.range 24).map (fun i => if i < n then Config.detailByte e.info.1 r.names i else 0)

/-- Table 12.11: the 48 bytes of an event record. -/
def EventRec.bytes (r : EventRec) : Bytes :=
  leBytes 2 r.ev.info.1 ++ leBytes 1 r.ev.cls ++ leBytes 1 r.ev.info.2.2.code ++ cal80 r.cal ++ [0, 0]
    ++ leBytes 8 r.disp ++ r.detail

end Sys2Proof.Machine
end

