-- ==== Sys2Proof/Machine/Mram.lean ====
section
/-! DEFINITION. The MRAM as it is held and read: banks and their headers, the bank in force of a pair, and the owner bank's payload
(R313, R314, R316, R329). -/

namespace Sys2Proof.Machine

/-- Table 14.1: the offset of bank A or B of a pair: 1 settings, 2 calibration, 3 owner, 4 archive. -/
def bankBase (area : Nat) (b : Bool) : Nat :=
  match area with
  | 1 => if b then 0x640000 else 0x600000
  | 2 => if b then 0x690000 else 0x680000
  | 3 => if b then 0x6AC000 else 0x6A8000
  | _ => if b then 0x1558000 else 0xAB0000

/-- Table 14.1: the bytes of a bank of a pair. -/
def bankSize (area : Nat) : Nat :=
  match area with | 1 => 262144 | 2 => 65536 | 3 => 16384 | _ => 11173888

/-- Bytes of the MRAM as held (R314). -/
def State.mramRead (s : State) (a n : Nat) : Bytes := SMap.bytes s.secure.mram a n

/-- The state with bytes of the MRAM written. -/
def State.mramWrite (s : State) (a : Nat) (b : Bytes) : State :=
  { s with secure := { s.secure with mram := SMap.write s.secure.mram a b } }

/-- R314: the T9 reads bytes of the MRAM: corrected words are counted, and a word with an uncorrectable error reads as it
stands from then on; how many there are is a free value. -/
def State.mramScan (s : State) (a n : Nat) : State :=
  let k := s.draws
  let s := { s with draws := k + 1 }.countBy .nvmCorrected 0 (Config.mramCorrected k).toNat
  match Config.mramWorn k with
  | some w => if n = 0 then s else s.mramWrite (a + w.1.toNat % n) [w.2]
  | none => s

/-- Table 14.2: the payload length of a bank's header. -/
def State.bankLength (s : State) (base : Nat) : Nat := leNat (s.mramRead (base + 8) 4)

/-- Table 14.2: the Sequence of a bank's header. -/
def State.bankSeq (s : State) (base : Nat) : Nat := leNat (s.mramRead (base + 4) 4)

/-- The payload that a bank holds. -/
def State.bankPayload (s : State) (base : Nat) : Bytes := s.mramRead (base + 64) (s.bankLength base)

/-- R316: a bank is valid. -/
def State.bankValid (s : State) (area : Nat) (b : Bool) : Bool :=
  let base := bankBase area b
  let h := s.mramRead base 32
  field h 0 2 = area && field h 2 2 = 1 && decide (field h 8 4 + 64 ≤ bankSize area)
    && field h 28 4 = crc32 (h.take 28 ++ s.bankPayload base)

/-- R316: the bank in force of a pair; none when the pair is empty. -/
def State.inForce (s : State) (area : Nat) : Option Bool :=
  match s.bankValid area false, s.bankValid area true with
  | false, false => none
  | true, false => some false
  | false, true => some true
  | true, true =>
    let d := sgn 32 (s.bankSeq (bankBase area true) + 4294967296 - s.bankSeq (bankBase area false))
    some (decide (0 < d))

/-- R316: the payload in force of a pair. -/
def State.payload (s : State) (area : Nat) : Option Bytes :=
  (s.inForce area).map (fun b => s.bankPayload (bankBase area b))

/-- R339: the Sequence in force of a pair; 0 when it is empty. -/
def State.areaSeq (s : State) (area : Nat) : Nat :=
  match s.inForce area with | none => 0 | some b => s.bankSeq (bankBase area b)

/-- Table 14.5: the owner payload in force; an unclaimed part's when the pair is empty (log 61). -/
def State.ownerBytes (s : State) : Bytes :=
  match s.payload 3 with
  | some b => b
  | none => List.replicate 66 0 ++ [0xFF] ++ List.replicate 61 0

/-- Table 14.5: a field of the owner payload. -/
def State.ownerField (s : State) (a n : Nat) : Nat := field s.ownerBytes a n

/-- R329: the T9 is claimed: the owner bank in force holds an OwnerKey. -/
def State.claimed (s : State) : Bool := (s.ownerBytes.take 64).any (· ≠ 0)

end Sys2Proof.Machine
end

