-- ==== Sys2Proof/Machine/Net.lean ====
section
/-! DEFINITION. Shared by the link, the network and the time unit: egress queues, HELLO and ANNOUNCE, the choice of the
upstream port, and leaving LOCKED (R64 to R72, R85, R86). -/

namespace Sys2Proof.Machine

/-- Table 3.6: the size of the egress queue of a class, in packets for class 0 and in bytes for the others. -/
def queueCap (cls : Nat) : Nat :=
  if cls = 0 then 4 else if cls = 1 then 32768 else if cls = 2 then 524288 else 65536

/-- The packets of a class in an egress queue. -/
def ofClass (q : List Packet) (cls : Nat) : List Packet := q.filter (fun p => p.cls = cls)

/-- R72: the class's queue has room for one more packet. -/
def queueRoom (q : List Packet) (p : Packet) : Bool :=
  if p.cls = 0 then (ofClass q 0).length < 4
  else ((ofClass q p.cls).map Packet.size).sum + p.size ≤ queueCap p.cls

/-- R72, Table 3.10: a dropped packet is counted for its class; time packets have no counter. -/
def State.dropPacket (s : State) (p : Packet) : State :=
  if p.cls = 1 then s.count .mgmtQueueDrops 0
  else if p.cls = 2 then s.count .videoQueueDrops 0
  else if p.cls = 3 then s.count .bulkQueueDrops 0
  else s

/-- R64, R72: a packet joins a port's egress queue, ahead of the others of its class when `front` (a HELLO, then the newer
before the older, log 150); it is dropped when the queue is full or the port is not ACTIVE. -/
def State.enqueue (s : State) (n : Nat) (p : Packet) (front : Bool) : State :=
  let a := s.port n
  if s.active n && queueRoom a.queue p then
    s.setPort n { a with queue := if front then p :: a.queue else a.queue ++ [p] }
  else s.dropPacket p

/-- The upstream port, if there is one (R66). -/
def State.upstream (s : State) : Option Nat :=
  if s.rd .upstreamPort 0 < 4 then some (s.rd .upstreamPort 0) else none

/-- R71, R79: a unicast packet of the device's own goes to a host by the upstream port and to a device by its route; one
that finds no way out counts in NoRouteDrops (log 151). -/
def State.originate (s : State) (p : Packet) : State :=
  let r := s.rdn .routeTable 0 p.dest % 8
  let up := match s.upstream with
    | some u => s.enqueue u p false
    | none => s.count .noRouteDrops 0
  if 0xE000 ≤ p.dest ∧ p.dest ≤ 0xEFFF then up
  else if p.dest < 0x1000 then (if r < 4 then s.enqueue r p false else up)
  else s.count .noRouteDrops 0

/-- R58, Table 3.2: the next Sequence of a port and message type. -/
def State.nextSeq (s : State) (n chan : Nat) : Nat := SMap.get (s.port n).ctlSeq chan 0

/-- R58: that Sequence is used. -/
def State.useSeq (s : State) (n chan : Nat) : State :=
  let a := s.port n
  s.setPort n { a with ctlSeq := SMap.put a.ctlSeq chan ((s.nextSeq n chan + 1) % 65536) }

/-- A link-local packet of the device on port n. -/
def State.sendLocal (s : State) (n cls chan : Nat) (payload : Bytes) (front : Bool) : State :=
  (s.useSeq n chan).enqueue n
    { cls := cls, mode := .linkLocal, hop := Config.originHop.toNat, dest := 0, source := s.rd .deviceAddress 0, channel := chan,
      seq := s.nextSeq n chan, payload := payload } front

/-- Table 3.5: the payload of HELLO on port n. -/
def State.helloPayload (s : State) (n : Nat) : Bytes :=
  leBytes 2 (s.rd .deviceAddress 0) ++ leBytes 1 (s.rd .rootDistance 0)
    ++ leBytes 1 (if s.upstream = some n then 1 else 0) ++ leBytes 2 (s.rd .rootAddress 0) ++ [0, 0]

/-- R64: HELLO on every ACTIVE port, ahead of every other queued management packet. -/
def State.helloAll (s : State) : State :=
  s.forEach ports4 (fun s n => if s.active n then s.sendLocal n 1 0xFF01 (s.helloPayload n) true else s)

/-- Table 2.6: the capability record the T9 sends on port n; its RateMask is the one in force, as DETECT took it (R57). -/
def State.capability (s : State) (n : Nat) : Bytes :=
  leBytes 2 0x5658 ++ leBytes 2 0x7A01 ++ leBytes 1 9 ++ leBytes 1 0xB0 ++ leBytes 1 (s.port n).mask
    ++ leBytes 1 5 ++ leBytes 1 (s.rd .rootDistance 0) ++ leBytes 1 n ++ leBytes 2 (s.rd .deviceAddress 0)
    ++ List.replicate 8 0

/-- Table 3.5: the neighbour record of port n in ANNOUNCE; unknown values are as of an unassigned neighbour. -/
def State.neighbour (s : State) (n : Nat) : Bytes :=
  match (s.port n).hello, (s.port n).nbr with
  | some h, some _ =>
    leBytes 1 (s.rd .portState n) ++ leBytes 2 h.addr ++ leBytes 1 h.dist
      ++ leBytes 1 ((if h.you then 1 else 0) + (if h.root then 2 else 0))
  | _, _ => leBytes 1 (s.rd .portState n) ++ leBytes 2 0xFFFF ++ leBytes 1 255 ++ [0]

/-- R63, R70: ANNOUNCE to the Assigner, when there is one, with the capability record of the upstream port, of port 0 when
there is none (log 149). -/
def State.announce (s : State) : State :=
  if s.rd .deviceAddress 0 = 0xFFFF ∨ s.rd .assigner 0 = 0xFFFF then s
  else
    let me := s.upstream.getD 0
    (s.useSeq me 0xFF04).originate
      { cls := 1, mode := .unicast, hop := Config.originHop.toNat, dest := s.rd .assigner 0, source := s.rd .deviceAddress 0,
        channel := 0xFF04, seq := s.nextSeq me 0xFF04,
        payload := s.capability me ++ ports4.flatMap s.neighbour }

/-- R86: the internal bound in ps. -/
def State.bound (s : State) : Nat :=
  if s.rd .timeState 0 = 2 then s.time.upBound + 150
  else if s.rd .timeState 0 = 1 then s.time.bound + s.rd .holdoverRate 0 * (s.now - s.time.boundAt) / 1000000
  else s.time.bound

/-- R86: the bound as ErrorBound and SYNC report it. -/
def State.reportBound (s : State) : Nat := if s.rd .timeState 0 = 0 then 0xFFFFFFFF else min s.bound 0xFFFFFFFE

/-- R85: LOCKED is left for HOLDOVER; the bound goes on from the bound at entry (R86). -/
def State.toHoldover (s : State) : State :=
  if s.rd .timeState 0 = 2 then
    (({ s with time := { s.time with bound := s.time.upBound + 150, boundAt := s.now, overCount := 0 } }.wr
      .timeState 0 1).count .lockLosses 0).raise .timeHoldover []
  else s

/-- The last HELLO of a port, no older than 3 ms, offers a path to a root (R66). -/
def State.offers (s : State) (n : Nat) : Bool :=
  match (s.port n).hello with
  | some h => s.active n && (s.port n).heard && decide (s.aon.mono ≤ h.since + ms 3 ∧ h.dist < 255) && !h.you
  | none => false

/-- R66: the candidate distance through a port. -/
def State.candidate (s : State) (n : Nat) : Nat := (((s.port n).hello.map Hello.dist).getD 255) + 1

/-- R66: the order of paths: candidate distance, then far address (hosts before devices), then port number. -/
def State.pathOrder (s : State) (n : Nat) : Nat :=
  let a := ((s.port n).hello.map Hello.addr).getD 0xFFFF
  (s.candidate n * 131072 + (if 0xE000 ≤ a ∧ a ≤ 0xEFFF then a else 65536 + a)) * 4 + n

/-- R66: the best port that offers a path. -/
def State.bestPath (s : State) : Option Nat :=
  (ports4.filter s.offers).foldl (fun m n => match m with
    | none => some n
    | some k => if s.pathOrder n < s.pathOrder k then some n else some k) none

/-- R71: every learned route of a port is cleared. -/
def State.clearLearned (s : State) (n : Nat) : State :=
  s.wrv .routeTable 0 ((s.rdv .routeTable 0).map (fun r => if r = 128 + n then 7 else r))

/-- R68: ChildPorts follows the last HELLOs. -/
def State.setChildren (s : State) : State :=
  s.wr .childPorts 0 ((ports4.map (fun n => match (s.port n).hello with
    | some h => if s.active n && h.you then 2 ^ n else 0
    | none => 0)).sum)

/-- R88: exchanges start afresh on a new upstream; MeanPathDelay has no exchange to show then (log 144). -/
def TimeUnit.newUpstream (t : TimeUnit) : TimeUnit :=
  { t with exchLeft := 4, exch := [], exchPort := 0, reqs := [], upState := 0, overCount := 0 }

/-- R16, R88: a new upstream is the reference of the fast PLLs, and exchanges start afresh on it. -/
def State.newPath (s : State) (has : Bool) : State :=
  { s with
    aon := { s.aon with refSel := if has then .recovered else .held }
    time := { s.time.newUpstream with exchAt := s.aon.mono } }.wr .meanPathDelay 0 0

/-- R66, R67: the upstream and RootDistance become these; what a change brings follows. -/
def State.setUpstream (s : State) (up : Option Nat) : State :=
  let from_ := s.upstream
  let oldDist := s.rd .rootDistance 0
  let dist := match up with
    | some n => s.candidate n
    | none => 255
  let root := match up with
    | some n => ((s.port n).hello.map Hello.rootAddr).getD 0xFFFF
    | none => 0xFFFF
  let s := ((s.wr .upstreamPort 0 (up.getD 0xFF)).wr .rootDistance 0 dist).wr .rootAddress 0 root
  let s := s.forEach ports4 (fun s n => s.wr .isUpstream n (if up = some n then 1 else 0))
  let s := if from_ = up then s
    else
      let s := (s.count .upstreamChanges 0).raise .netUpstreamChange [up.getD 0xFF]
      let s := match up with
        | some n => s.clearLearned n
        | none => s
      (s.newPath up.isSome).toHoldover
  let s := if dist = 255 ∧ oldDist ≠ 255 then (s.raise .netNoRoot []).toHoldover else s
  let s := if from_ ≠ up ∨ dist ≠ oldDist then s.helloAll else s
  if from_ = up then s else s.announce

/-- R67: the upstream is chosen again: `moved` is a port that has been better for 3 HELLOs. -/
def State.reselect (s : State) (moved : Option Nat) : State :=
  if s.rd .deviceAddress 0 = 0xFFFF then s.setUpstream none
  else
    match s.upstream with
    | some c =>
      if s.offers c && decide (s.candidate c ≤ s.rd .rootDistance 0) then s.setUpstream (some (moved.getD c))
      else s.setUpstream s.bestPath
    | none => s.setUpstream s.bestPath

/-- R72: a port's egress queues are emptied and the packets counted. -/
def State.emptyQueues (s : State) (n : Nat) : State :=
  let q := (s.port n).queue
  (s.setPort n { s.port n with queue := [] }).forEach q State.dropPacket

end Sys2Proof.Machine
end

