-- ==== Sys2Proof/Machine/Session.lean ====
section
/-! DEFINITION. The path every dictionary request takes: the session's judgement (R273 to R275), the checks that come
before an entry's own (R278), the answer and its keeping (R271, R275), and the staging area's ownership (R280). -/

namespace Sys2Proof.Machine

/-- A request: its envelope, its header's fields and its body (R271, Table 12.4). -/
structure Req where
  env : Env
  opcode : Nat
  index : Nat
  sub : Nat
  offset : Nat
  flags : Nat := 0
  total : Nat := 0
  body : Bytes := []
  deriving DecidableEq, Repr

/-- Table 12.4: the bytes of a request. -/
def Req.bytes (q : Req) : Bytes :=
  leBytes 1 q.opcode ++ leBytes 1 q.flags ++ [0, 0] ++ leBytes 2 q.index ++ leBytes 1 q.sub ++ [0] ++ leBytes 4 q.offset
    ++ leBytes 4 q.total ++ [0, 0, 0, 0] ++ q.body

/-- Table 12.4: the request that the bytes of a message spell (R8 speaks of its reserved flags). -/
def Req.ofBytes (e : Env) (b : Bytes) : Req :=
  { env := e, opcode := field b 0 1, flags := field b 1 1, index := field b 4 2, sub := field b 6 1
    offset := field b 8 4, total := field b 12 4, body := b.drop 20 }

/-- The answer of an executed request: a reply now, or one that follows when the work ends. -/
inductive Ans where | now (r : Reply) | later
  deriving DecidableEq, Repr

/-- What a session makes of a request before it is executed (R273 to R275, R289). -/
inductive Verdict where | ignore | drop | dup | refuse (st : Status) | resend | fault | run
  deriving DecidableEq, Repr

/-- An answer that is only a status. -/
def ans (st : Status) : Ans := .now (Reply.of st)

/-- The session a request belongs to: its Channel, or 256 for the local session. -/
def sessionOf (e : Env) : Nat :=
  match e.via with
  | .spi => 256
  | .izsor _ => e.channel.val

/-- The request is a group or broadcast request. -/
def grouped (e : Env) : Bool := e.mode = .group || e.mode = .broadcast

/-- R288: a SEND is accepted: no request from SPI executes and no reply waits. -/
def State.spiFree (s : State) : Bool := !s.mgmt.spiBusy && s.mgmt.spiReply.isNone

/-- R273 to R275, R289: what the session makes of a request. An OPEN that waits on a closed session has claimed it. -/
def State.judge (s : State) (e : Env) (isOpen isRead : Bool) : Verdict :=
  if !s.on 9 then .ignore
  else
    match e.via with
    | .spi => if s.spiFree then .run else .fault
    | .izsor _ =>
      let a := s.session e.channel.val
      let next := (e.seq.toNat + 65535) % 65536 = a.lastSeq
      if grouped e ≠ decide (e.channel.val = 255) then .drop
      else if e.channel.val = 255 then .run
      else if isOpen && !a.isOpen then
        (if !a.busy then .run else if a.partner = e.source.toNat ∧ e.seq.toNat = a.lastSeq then .dup else .refuse .session)
      else if !a.isOpen || decide (a.partner ≠ e.source.toNat) then .refuse .session
      else if e.seq.toNat = a.lastSeq then (if a.busy then .dup else if isRead then .run else .resend)
      else if next ∨ isOpen then (if a.busy then .refuse .busy else .run)
      else .refuse .session

/-- R271: the port on which a reply goes link-local: that of the session's OPEN for its partner, else the arrival port of
a link-local request; none for a unicast reply. -/
def State.replyPort (s : State) (e : Env) (port : Nat) : Option Nat :=
  let x := s.session e.channel.val
  if x.isOpen && decide (x.partner = e.source.toNat) && x.link.isSome then x.link
  else if e.mode = .linkLocal then some port else none

/-- R271, R289: a reply leaves: to SPI it waits for FETCH; over Izsor it is a management packet to the request's Source,
or link-local on the arrival port. -/
def State.sendReply (s : State) (q : Req) (r : Reply) : State :=
  let s := { s with mgmt := { s.mgmt with rep := some r } }
  let m := r.message q.opcode q.index q.sub q.offset
  match q.env.via with
  | .spi => { s with mgmt := { s.mgmt with spiReply := some m, spiBusy := false } }
  | .izsor port =>
    let p : Packet := { cls := 1, mode := .unicast, hop := Config.originHop.toNat, dest := q.env.source.toNat,
                        source := s.rd .deviceAddress 0, channel := q.env.channel.val, seq := q.env.seq.toNat,
                        payload := m }
    match s.replyPort q.env port.val with
    | some l => s.enqueue l { p with mode := .linkLocal, dest := 0 } false
    | none => s.originate p

/-- R75: the outcome of a group or broadcast request is kept, the last 16 of them. -/
def State.keepOutcome (s : State) (e : Env) (r : Reply) : State :=
  { s with outcomes :=
      ({ source := e.source.toNat, seq := e.seq.toNat, ok := r.status = .ok } :: s.outcomes).take 16 }

/-- R275, R291: the session has accepted a request's Sequence; a session that is closed keeps nothing. -/
def State.afterSeq (s : State) (q : Req) : Session :=
  let n := sessionOf q.env
  let x := s.session n
  if n < 255 ∧ !x.isOpen then {}
  else { x with lastSeq := q.env.seq.toNat, lastAt := s.aon.mono }

/-- R277: STORE and the DOMAIN requests release the core while they wait. -/
def releasesCore (opcode : Nat) : Bool := opcode = 0x20 || opcode = 0x30 || opcode = 0x31

/-- R275: an executed request's reply is kept (but for READ) and sent; the session has accepted its Sequence. -/
def State.finish (s : State) (q : Req) (a : Ans) (isRead : Bool) : State :=
  let n := sessionOf q.env
  let x := s.afterSeq q
  match a with
  | .later =>
    let s := s.setSession n { x with busy := decide (n ≠ 255) }
    { s with mgmt := { s.mgmt with
      groupWait := if n = 255 then s.mgmt.groupWait ++ [q.env] else s.mgmt.groupWait
      spiBusy := s.mgmt.spiBusy || decide (n = 256)
      core := if releasesCore q.opcode then s.mgmt.core else some q.env } }
  | .now r =>
    if n = 255 then (s.setSession n x).keepOutcome q.env r
    else
      let x : Session := if x.isOpen then { x with busy := false, kept := if isRead then x.kept else some r } else x
      (s.setSession n x).sendReply q r

/-- R277: the request that held the core releases it. -/
def State.freeCore (s : State) (e : Env) : State :=
  if s.mgmt.core = some e then { s with mgmt := { s.mgmt with core := none } } else s

/-- R75, R276, R287: a request that had to wait is answered, if its session still waits for it. -/
def State.complete (s : State) (q : Req) (r : Reply) : State :=
  let s := s.freeCore q.env
  let n := sessionOf q.env
  let x := s.session n
  if n = 255 then
    (if s.mgmt.groupWait.contains q.env then
      { s with mgmt := { s.mgmt with groupWait := s.mgmt.groupWait.erase q.env } }.keepOutcome q.env r
    else s)
  else if x.busy && x.lastSeq = q.env.seq.toNat && (n = 256 || x.partner = q.env.source.toNat) then
    (s.setSession n { x with busy := false, kept := some r }).sendReply q r
  else s

/-- R277: no request waits for the core or holds it. -/
def State.coreFree (s : State) : Bool := s.mgmt.core.isNone && s.mgmt.inbox.isEmpty

/-- R288: the maintenance port shows that a request of the local session executes. -/
def State.claimSpi (s : State) (e : Env) : State :=
  if sessionOf e = 256 then { s with mgmt := { s.mgmt with spiBusy := true, spiFault := false } } else s

/-- R275, R288: a request is accepted: its session executes it from now on. -/
def State.beginsReq (s : State) (q : Req) : State :=
  let n := sessionOf q.env
  let x := s.session n
  if 255 ≤ n then s.claimSpi q.env
  else s.setSession n { x with
    busy := true, lastSeq := q.env.seq.toNat, lastAt := s.aon.mono
    partner := if x.isOpen then x.partner else q.env.source.toNat }

/-- R277: an accepted request waits for its turn. -/
def State.park (s : State) (q : Req) : State :=
  let s := s.beginsReq q
  { s with mgmt := { s.mgmt with inbox := s.mgmt.inbox ++ [{ env := q.env, bytes := q.bytes }] } }

/-- R277: an accepted request is executed and answered. -/
def State.execute (s : State) (q : Req) (isRead : Bool) (body : State → State × Ans) : State :=
  (body s).1.finish q (body s).2 isRead

/-- R272: the body of the reply that refuses a request before it is executed: the STORE and DOMAIN replies carry theirs. -/
def refusalBody (opcode : Nat) : Bytes :=
  if opcode = 0x20 then [0, 0xFF] else if opcode = 0x30 ∨ opcode = 0x31 then [0] else []

/-- R273 to R275, R288, R289: what becomes of a request that arrives; `run` is what is done with one that is accepted. -/
def State.arrive (s : State) (q : Req) (isOpen isRead : Bool) (run : State → State) : State :=
  match s.judge q.env isOpen isRead with
  | .ignore => s
  | .dup => s
  | .drop => s.count .sessionRefusals 0
  | .fault => { s with mgmt := { s.mgmt with spiFault := true } }
  | .refuse st =>
    (if st = .session then s.count .sessionRefusals 0 else s).sendReply q { status := st, body := refusalBody q.opcode }
  | .resend =>
    match (s.session (sessionOf q.env)).kept with
    | some r => (s.count .resendReplies 0).sendReply q r
    | none => s
  | .run => run s

/-- R273 to R277: a request arrives: it is executed at once when the core is free and nothing waits, else it waits. -/
def State.request (s : State) (q : Req) (isOpen isRead : Bool) (body : State → State × Ans) : State :=
  s.arrive q isOpen isRead (fun s =>
    if s.coreFree then (s.claimSpi q.env).execute q isRead body else s.park q)

/-- R271, R277: a message that reached the core waits for its execution. -/
def State.takeIn (s : State) (e : Env) (b : Bytes) : State :=
  let q := Req.ofBytes e b
  s.arrive q (q.opcode = 0x01) (q.opcode = 0x10) (fun s => s.park q)

/-- The header of a request that names an entry. -/
def reqOf (e : Env) (opcode : Nat) (x : Ent) (i : Nat) : Req :=
  { env := e, opcode := opcode, index := (x.address i).1, sub := (x.address i).2, offset := 0 }

/-- A WRITE of a whole value to an entry. -/
def writeReq (e : Env) (x : Ent) (i : Nat) (b : Bytes) : Req := { reqOf e 0x11 x i with body := b }

/-- R269: the one domain that must be ON for an RO or WO entry; none for an entry held in AON or in the management core. -/
def Ent.home (e : Ent) (i : Nat) : Option Nat :=
  let x := e.info.index
  if e = .snapshotValid ∨ e = .deviceAddress then none
  else if x = 0x2000 then some i
  else if x = 0x2100 then some (i / 4)
  else if x = 0x2300 ∨ x = 0x2400 then some 4
  else if 0x3000 ≤ x ∧ x ≤ 0x30FF then some 5
  else if x = 0x4000 then some 6
  else if x = 0x8000 then some (if e = .lastRejection then 7 else 6)
  else if x = 0x8120 then some 8
  else if x = 0x8801 then some 12
  else if x = 0x9100 then some 13
  else if x = 0x9400 then some 15
  else if x = 0x9500 then some 15
  else if x = 0x9A00 then some (16 + i / 128)
  else if x = 0x1210 then some 10
  else if 0xC000 ≤ x ∧ x ≤ 0xC0FF then some 10
  else if x = 0xB002 ∨ x = 0xB010 then some 11
  else none

/-- R269: the domains of which one must be ON for an RO or WO entry; none for an entry that is always served. The lane
interface is in the four quadrants' domains, the sections' columns in theirs. -/
def Ent.homes (e : Ent) (i : Nat) : List Nat :=
  if e = .repairedColumns then [20, 21, 22, 23]
  else if e.info.index = 0x9800 then [16, 17, 18, 19]
  else (e.home i).toList

/-- R269: a domain that serves the entry is ON. -/
def State.served (s : State) (e : Ent) (i : Nat) : Bool := (e.homes i).isEmpty || (e.homes i).any s.on

/-- R332: the session of a request is authorised. -/
def State.authorised (s : State) (e : Env) : Bool :=
  let n := sessionOf e
  if n = 256 then true else if n = 255 then false else !s.claimed || (s.session n).auth

/-- R332: writes that need an authorised session. -/
def Ent.guarded (e : Ent) : Bool :=
  match e with
  | .firmwareActivate => true
  | .firmwareConfirm => true
  | .ownerSignsFirmware => true
  | .headRelease => true
  | .blackBoxClear => true
  | _ => false

/-- R282: the open segmented transfer of a session is discarded. -/
def State.dropSegment (s : State) (n cause : Nat) : State :=
  match (s.session n).seg with
  | none => s
  | some g =>
    ((s.setSession n { s.session n with seg := none }).count .segmentFailures 0).raise .segmentFailed
      [n, g.index, g.sub, cause]

/-- R267: the simple checks of a value: its length, BOOL 0 or 1, and the bounds of its entry's table. -/
def rangeOk (e : Ent) (v : Val) : Bool :=
  let i := e.info
  if i.ty.scalar then decide (v.length = 1 ∧ i.lo ≤ v.headD 0 ∧ v.headD 0 ≤ i.hi)
  else i.len = 0 || v.length = i.len

/-- R278: the checks 3 to 6 of a whole WRITE of an entry: E_AUTH, E_ACCESS, E_TYPE, E_SEGMENT. -/
def State.preWrite (s : State) (env : Env) (e : Ent) (b : Bytes) : Option Status :=
  if e.guarded && !s.authorised env then some .auth
  else if e.info.acc = .ro ∨ e.info.acc = .const then some .access
  else if e.info.ty.scalar ∧ b.length ≠ e.info.elt then some .type
  else if (s.session (sessionOf env)).seg.isSome then some .segment
  else none

/-- R331: an OwnerToken of a session is refused: it consumes the challenge. -/
def State.tokenRefused (s : State) (n : Nat) (st : Status) : State :=
  let s := if (s.session n).challenge.isSome then s.setSession n { s.session n with challenge := none } else s
  s.raise .authFailed [n, st.value]

/-- R331: a write of an entry is refused before its own effect; one of OwnerToken is a refused token. -/
def State.refused (s : State) (env : Env) (e : Ent) (st : Status) : State × Ans :=
  (if e = .ownerToken then s.tokenRefused (sessionOf env) st else s, ans st)

/-- A whole WRITE to an IMMEDIATE entry that has an effect of its own: R278, then the entry's own checks and effect. -/
def State.writeBody (env : Env) (e : Ent) (i : Nat) (b : Bytes) (eff : Val → State → State × Ans) (s : State) :
    State × Ans :=
  match s.preWrite env e b with
  | some st => (if st = .segment then s.dropSegment (sessionOf env) 0 else s).refused env e st
  | none =>
    if e.info.acc = .wo && !s.served e i then s.refused env e .state
    else eff (e.info.decode b) s

/-- The command form of such a write. -/
def State.writeCmd (s : State) (env : Env) (e : Ent) (i : Nat) (b : Bytes) (eff : Val → State → State × Ans) : State :=
  s.request (writeReq env e i b) false false (State.writeBody env e i b eff)

/-- R280: the staging owner's staged writes are dropped and staging is released. -/
def State.releaseStaging (s : State) (n : Nat) : State :=
  if s.rd .stagingOwner 0 = n then
    (s.setStaged []).wr .stagingOwner 0 0xFFFF
  else s

/-- R283: the Revision of a value that the device makes at a READ, after the last one shown: how often the value changed
meanwhile is a free value, and at least once when it differs; a constant never changes. -/
def State.revisionOf (s : State) (e : Ent) (i : Nat) (b : Bytes) : Nat :=
  let p := SMap.get s.mgmt.seen (key e i) (e.info.encode e.dflt, 0)
  let k := (Config.revision s.draws).toNat
  if e.info.acc = .const then 0
  else if b = p.1 then (p.2 + k) % 4294967296 else (p.2 + 1 + k % 4294967295) % 4294967296

/-- R283, R271: the reply to a READ, from an offset, of a value that the device makes at the read. -/
def State.readReply (s : State) (e : Ent) (i : Nat) (b : Bytes) (off : Nat) : State × Reply :=
  let n := s.revisionOf e i b
  ({ s with draws := s.draws + 1, mgmt := { s.mgmt with seen := SMap.put s.mgmt.seen (key e i) (b, n) } },
   { body := (b.drop off).take 4076, type := e.info.ty.code, total := b.length, revision := n })

end Sys2Proof.Machine
end

