-- ==== Sys2Proof/Machine/ModCore.lean ====
section
/-! DEFINITION. The parameters that hold at a time, the frame grid, refresh slots, rows, planes, dither, the horizon, the
configuration checks and budgets, generations and the squash (R14, R19, R22, R97, R166, R167, R211 to R226, R233). -/

namespace Sys2Proof.Machine

/-- A configuration: the value of every instance of every entry. -/
abbrev Look := Ent → Nat → Val

/-- The scalar that a configuration gives an entry. -/
def Look.n (f : Look) (e : Ent) (i : Nat) : Nat := (f e i).headD 0

/-- The value a commit sets at a register key, if it sets one. -/
def Pend.value (p : Pend) (k : Nat) : Option Val := SMap.find p.values k

/-- R226: a configuration from the values in force and commits in order of acceptance, the later one winning. -/
def State.over (s : State) (ps : List Pend) : Look :=
  fun e i => (ps.reverse.findSome? (fun p => p.value (key e i))).getD (s.rdv e i)

/-- R226: the commits whose effect time is at or before a display time in ns. -/
def State.due (s : State) (t : Nat) : List Pend := s.modl.commits.filter (fun p => p.done || decide (p.e ≤ t))

/-- R226: the parameters used for a refresh that starts at a display time in ns. -/
def State.paramAt (s : State) (t : Nat) : Look := s.over (s.due t)

/-- R208, R413: the entries whose values the display path reads from the table store, with the domain whose entry into ON
writes them back. -/
def tableEnts : List (Ent × Nat) :=
  [(.toneCurve, 12), (.customTransfer0, 12), (.customTransfer1, 12), (.patternLevel, 12), (.driftCurves, 13),
    (.seamColumn, 13), (.seamRow, 13), (.spreadWeights, 13), (.overdriveTable, 14), (.firstRowGain, 14), (.ditherMatrix, 15)]

/-- R413: the value that the table store holds for an instance of an entry. -/
def State.tableVal (s : State) (e : Ent) (i : Nat) : Val := (SMap.find s.tables (key e i)).getD (s.rdv e i)

/-- R226, R413: the parameters as the display path reads them for a refresh: the tables as the table store holds them,
under the commits that have still to write theirs. -/
def State.tablesAt (s : State) (t : Nat) : Look :=
  fun e i =>
    if (tableEnts.map (·.1)).contains e then
      match (s.due t).reverse.find? (fun p => (p.value (key e i)).isSome) with
      | some p => if p.done then s.tableVal e i else (p.value (key e i)).getD []
      | none => s.tableVal e i
    else s.paramAt t e i

/-- R233, R234: step 2 is available with V, R and the frame period. -/
def step2Ok (v r period : Nat) : Bool :=
  r % 2 = 0 && decide (960 * period ≤ v * (r / 2) * 1000000000 * 4294967296)

/-- R229, R233, R234: the throttle step that holds at a display time in ns: the one that the last device commit sets, or
ThrottleStep where that one has come; step 2 ends at a commit that leaves it unavailable. -/
def State.throttleAt (s : State) (t : Nat) : Nat :=
  let due := s.due t
  let last := due.reverse.find? (fun p => p.dev.throttle.isSome)
  let set := last.filter (fun p => !p.done)
  let n := (set.bind (fun p => p.dev.throttle)).getD (s.rd .throttleStep 0)
  let from_ := (set.map (fun p => p.e)).getD 0
  let lacks := fun (q : Pend) =>
    let f := s.paramAt q.e
    !q.done && decide (from_ ≤ q.e) && !step2Ok (f.n .viewCount 0) (f.n .refreshesPerView 0) (f.n .framePeriod 0)
  if n = 2 && due.any lacks then 1 else n

/-- R221: the committed values, once every pending commit has taken effect. -/
def State.committed (s : State) : Look := s.over s.modl.commits

/-- R23, R280: the committed values with the staged writes over them. -/
def State.withStaged (s : State) : Look :=
  fun e i => (SMap.find s.mgmt.staged (key e i)).getD (s.committed e i)

/-- The quantities of the modulator's chapter for one configuration. -/
structure Geo where
  /-- TileWidth. -/
  w : Nat
  /-- TileHeight. -/
  h : Nat
  /-- PrimaryCount. -/
  pc : Nat
  /-- LaneCount. -/
  n : Nat
  /-- OutputsPerLane. -/
  oc : Nat
  /-- LaneMap. -/
  laneMap : Val
  /-- PrimaryOrder. -/
  order : Nat
  /-- ScanRatio. -/
  k : Nat
  /-- RowOrder. -/
  rowOrder : Nat
  /-- RowDeadTime, ns. -/
  dead : Nat
  /-- LaneRate, Mb/s. -/
  b : Nat
  /-- PlaneCount. -/
  p : Nat
  /-- PlaneTable, entries 0 to P - 1. -/
  planes : Val
  /-- The run-ahead depth, 1 in grey mode. -/
  d : Nat
  /-- ViewCount. -/
  v : Nat
  /-- RefreshesPerView after any throttle step. -/
  r : Nat
  /-- SlotPattern. -/
  pattern : Nat
  /-- SlotMap. -/
  slotMap : Val
  /-- FrameEpoch, ns. -/
  epoch : Nat
  /-- FramePeriod, Q32.32. -/
  period : Nat
  /-- DriveMode GREY. -/
  grey : Bool
  /-- The effective dither depth (R219). -/
  m : Nat
  deriving DecidableEq, Repr

/-- R219: the effective depth from an upper limit: the largest m with 2^m dividing R. -/
def depthOf (r : Nat) : Nat → Nat
  | 0 => 0
  | m + 1 => if r % 2 ^ (m + 1) = 0 then m + 1 else depthOf r m

/-- The quantities of a configuration under a throttle step. -/
def geoOf (f : Look) (throttle : Nat) : Geo :=
  let grey := f.n .driveMode 0 = 1
  let v := f.n .viewCount 0
  let r0 := f.n .refreshesPerView 0
  let period := f.n .framePeriod 0
  let t := if grey then 0 else throttle
  let r := if t = 2 ∧ step2Ok v r0 period then r0 / 2 else r0
  let p := f.n .planeCount 0
  { w := f.n .tileWidth 0, h := f.n .tileHeight 0, pc := f.n .primaryCount 0, n := f.n .laneCount 0
    oc := f.n .outputsPerLane 0, laneMap := f .laneMap 0, order := f.n .primaryOrder 0, k := f.n .scanRatio 0
    rowOrder := f.n .rowOrder 0, dead := f.n .rowDeadTime 0, b := f.n .laneRate 0, p := p
    planes := (f .planeTable 0).take p, d := if grey then 1 else f.n .runAhead 0, v := v, r := r
    pattern := f.n .slotPattern 0, slotMap := f .slotMap 0, epoch := f.n .frameEpoch 0, period := period, grey := grey
    m := depthOf r (min (f.n .ditherBits 0) (18 - p) - (if t = 0 then 0 else 2)) }

/-- The configuration in force for a refresh that starts at a display time in ns. -/
def State.geoAt (s : State) (t : Nat) : Geo := geoOf (s.paramAt t) (s.throttleAt t)

/-- The configuration in force now. -/
def State.geo (s : State) : Geo := s.geoAt s.now

/-- R166: the refresh slots of a frame period; one in grey mode (R220). -/
def Geo.slots (g : Geo) : Nat := if g.grey then 1 else g.v * g.r

/-- R211: Tslot; FramePeriod in grey mode (R220). 2^-32 ns. -/
def Geo.tslot (g : Geo) : Nat := if g.grey then g.period else g.period / (g.v * g.r)

/-- R211: the row dwell. 2^-32 ns. -/
def Geo.tau (g : Geo) : Nat := g.tslot / g.k

/-- R225: the squash horizon of one configuration, 2^-32 ns. -/
def horizonOf (d t : Nat) : Nat := 24000 * 4294967296 + d * t / 4

/-- R225: H of the configurations before and after a change. -/
def horizon2 (a b : Geo) : Nat := horizonOf (max a.d b.d) (max a.tslot b.tslot)

/-- R225: H of the configuration in force. -/
def State.horizon (s : State) : Nat := horizonOf s.geo.d s.geo.tslot

/-- R97: frame boundary k. -/
def Geo.boundary (g : Geo) (k : Nat) : Nat := g.epoch + k * g.period / 4294967296

/-- R97: the number of the first frame boundary at or after a time. -/
def Geo.firstK (g : Geo) (t : Nat) : Nat :=
  if t ≤ g.epoch ∨ g.period = 0 then 0 else ceilDiv ((t - g.epoch) * 4294967296) g.period

/-- R97: the first frame boundary at or after a time in ns. -/
def Geo.next (g : Geo) (t : Nat) : Nat := g.boundary (g.firstK t)

/-- R97: the number of the last frame boundary at or before a time; 0 before FrameEpoch. -/
def Geo.lastK (g : Geo) (t : Nat) : Nat :=
  if t < g.epoch ∨ g.period = 0 then 0 else ((t - g.epoch + 1) * 4294967296 - 1) / g.period

/-- R97: the time is a frame boundary. -/
def Geo.isBoundary (g : Geo) (t : Nat) : Bool := decide (g.epoch ≤ t) && g.next t = t

/-- R97, R226: the frame boundary after a boundary; a grid change that comes earlier starts its own. -/
def State.nextFrame (s : State) (g : Nat) : Nat :=
  let n := (s.geoAt g).next (g + 1)
  ((s.modl.commits.filter (fun p => decide (g < p.e ∧ p.e < n)
      && ((p.value (key .frameEpoch 0)).isSome || (p.value (key .framePeriod 0)).isSome))).map (·.e)).foldl min n

/-- The frame boundary of the frame that a time lies in. -/
def State.frameOf (s : State) (t : Nat) : Nat := let g := s.geoAt t; g.boundary (g.lastK t)

/-- R211: the refresh boundary of slot j of a frame, 2^-32 ns. -/
def Geo.slotStart (g : Geo) (frame j : Nat) : Nat := frame * 4294967296 + j * g.tslot

/-- R214, R220: the launch line of a burst, 2^-32 ns: in plane mode the start of the row dwell before its own, which for row 0
is the last one of the preceding slot, by the row dwell in force there (DESIGN CHOICE, log 164). -/
def State.lineOf (s : State) (start row : Nat) : Nat :=
  let g := s.geoAt (start / 4294967296)
  if g.grey then start + row * g.tau
  else if row = 0 then start - (s.geoAt (start / 4294967296 - 1)).tau
  else start + row * g.tau - g.tau

/-- R225: the first refresh boundary at or after a time in 2^-32 ns, in whole ns. -/
def State.nextRefresh (s : State) (x : Nat) : Nat :=
  let t := x / 4294967296
  let g := s.geoAt t
  if t < g.epoch then g.boundary 0
  else
    let frame := s.frameOf t
    let g := s.geoAt frame
    let j := ceilDiv (x - frame * 4294967296) g.tslot
    if j < g.slots then g.slotStart frame j / 4294967296 else s.nextFrame frame

/-- R225: the first boundary of a class at or after a time in 2^-32 ns, in ns. -/
def State.effectTime (s : State) (x : Nat) (isFrame : Bool) : Nat :=
  if isFrame then let t := ceilDiv x 4294967296; (s.geoAt t).next t else s.nextRefresh x

/-- R166: the view that owns slot j. -/
def Geo.slotView (g : Geo) (j : Nat) : Nat :=
  if g.grey then 0 else if g.pattern = 1 then g.slotMap.getD (j / g.r) 0 else g.slotMap.getD (j % g.v) 0

/-- R218: the number of slot j among its view's own. -/
def Geo.viewSlot (g : Geo) (j : Nat) : Nat := if g.grey then 0 else if g.pattern = 1 then j % g.r else j / g.v

/-- R212: the scan row that light-order row k lights. -/
def Geo.rho (g : Geo) (k : Nat) : Nat :=
  if g.rowOrder = 0 then k
  else let half := ceilDiv g.k 2; if k < half then 2 * k else 2 * (k - half) + 1

/-- R213: pixel x, y and primary of an output of a lane in a light-order row; none for an idle output. -/
def Geo.output (g : Geo) (lane o k : Nat) : Option (Nat × Nat × Nat) :=
  let q := g.laneMap.getD lane 0 + o
  let wide := g.w * g.pc
  if wide * (g.h / g.k) ≤ q then none
  else
    let r := q % wide
    some (r / g.pc, q / wide * g.k + g.rho k, (g.order / 4 ^ (r % g.pc)) % 4)

/-- R187: the lamp of a pixel and a primary. -/
def Geo.lamp (g : Geo) (x y p : Nat) : Nat := (y * g.w + x) * g.pc + p

/-- R213: the outputs of a lane in a light-order row, with their lamps. -/
def Geo.outputs (g : Geo) (lane k : Nat) : List (Option (Nat × Nat × Nat)) := (List.range g.oc).map (g.output lane · k)

/-- R215: the weight factor of a PlaneTable entry. -/
def weight (e : Nat) : Nat := 2 ^ (e % 16) * 4 ^ (e / 16 % 4)

/-- R211: the light period, 2^-32 ns; 0 where the dead time takes the row. -/
def Geo.light (g : Geo) : Nat := g.tau - g.dead * 4294967296

/-- R215: the duration of a PlaneTable entry in ps, down to a multiple of 100. -/
def Geo.duration (g : Geo) (e : Nat) : Nat :=
  let total := (g.planes.map weight).sum
  weight e * g.light * 1000 / (total * 4294967296) / 100 * 100

/-- R215: PlaneDurations, by bit. -/
def Geo.durations (g : Geo) : Val :=
  (List.range 12).map (fun b =>
    if g.grey then 0 else match g.planes.find? (fun e => e % 16 = b) with | some e => g.duration e | none => 0)

/-- R222: L, the lamp positions that the enabled lanes shift. -/
def Geo.positions (g : Geo) : Nat := g.n * g.oc * g.k

/-- R222: the bits shifted in one frame period. -/
def Geo.frameBits (g : Geo) : Nat := if g.grey then g.positions * 16 else g.positions * g.p * g.v * g.r

/-- R19: the bytes that plane staging must hold. -/
def Geo.stagingBytes (g : Geo) : Nat :=
  if g.grey then 4 * g.positions else ceilDiv ((g.d + 1) * g.positions * g.p) 8

/-- R22: a number of bits per frame stays within a limit in b/s, in integer arithmetic on the Q32.32 period. -/
def Geo.rateFits (g : Geo) (bits limit : Nat) : Bool := decide (bits * 1000000000 * 4294967296 ≤ limit * g.period)

/-- R22: the numerator and shift of samples per pixel of a form (Table 1.9): 3, 2 and 1.5. -/
def halfSamples (form : Nat) : Nat := if form = 0 ∨ form = 1 then 6 else if form = 2 then 4 else 3

/-- R22: twice the bits per frame of a context's window, its fields looked up: w x h x s x b. -/
def ctxBits2Of (k : Look) (c : Nat) : Nat :=
  let f := k.n .format c
  let bits := if f / 65536 % 256 = 0 then f / 256 % 256 else f / 65536 % 256
  k.n .width c * k.n .height c * halfSamples (f % 16) * bits

/-- R22: the same with the context's fields in force. -/
def State.ctxBits2 (s : State) (c : Nat) : Nat := ctxBits2Of (fun e i => s.rdv e i) c

/-- The instances of an entry whose scalar value differs from the default and meets a condition. -/
def State.having (s : State) (e : Ent) (ok : Nat → Bool) : List Nat :=
  s.regs.filterMap (fun (p : Nat × Val) =>
    if p.1 / 65536 = e.ctorIdx && ok (p.2.headD 0) then some (p.1 % 65536) else none)

/-- The bound contexts: BOUND or ASSEMBLING (R111, Table 5.2). -/
def State.boundCtxs (s : State) : List Nat := s.having .ctxState (fun n => n = 2 || n = 3)

/-- R283: OpenCount, BoundCount and ParkedCount count their changes. -/
def State.showCtxCounts (s : State) : State :=
  ((s.wr .openCount 0 (s.having .ctxState (· = 1)).length).wr .boundCount 0 s.boundCtxs.length).wr .parkedCount 0
    (s.having .ctxState (· = 4)).length

/-- R22: the ingest budget holds for twice a number of bits per frame. -/
def Geo.ingestFits (g : Geo) (bits2 : Nat) : Bool :=
  decide (bits2 * 1000000000 * 4294967296 ≤ 2 * 96000000000 * g.period)

/-- R20: bytes of the plane staging store. -/
def State.stagingSize (s : State) : Nat := s.rd .stagingPlace 0 / 65536 % 512 * 524288

/-- The numbers 0 to n - 1 each appear once. -/
def permutes (l : List Nat) (n : Nat) : Bool :=
  l.length = n && (List.range n).all (fun i => l.contains i)

/-- R167: SlotMap and the total refresh rate. -/
def Geo.viewsOk (g : Geo) : Bool :=
  permutes (g.slotMap.take g.v) g.v
    && decide (960 * g.period ≤ g.v * g.r * 1000000000 * 4294967296
        ∧ g.v * g.r * 1000000000 * 4294967296 ≤ 15360 * g.period)

/-- Table 10.3: the ranges of sorted lane starts do not overlap and leave no gap before the total. -/
def coversFrom (oc total : Nat) : Nat → List Nat → Bool
  | pos, [] => decide (total ≤ pos)
  | pos, a :: t => decide (pos ≤ a ∧ (a = pos ∨ total ≤ pos)) && coversFrom oc total (a + oc) t

/-- R5, Table 0.2: MaxPixels, MaxPixels4P and MaxLamps for a tile of a number of primaries. -/
def tileFits (w h pc : Nat) : Bool := decide (w * h ≤ if pc = 4 then 786432 else 1048576)

/-- Table 10.3: the checks of both modes. -/
def Geo.shapeOk (g : Geo) : Bool :=
  decide (1 ≤ g.w ∧ g.w ≤ 4096 ∧ 1 ≤ g.h ∧ g.h ≤ 2048 ∧ 1 ≤ g.k ∧ g.h % g.k = 0 ∧ 1 ≤ g.n ∧ g.n ≤ 512
      ∧ 1 ≤ g.oc ∧ g.oc ≤ 8192 ∧ g.positions ≤ 3145728) && tileFits g.w g.h g.pc
    && coversFrom g.oc (g.w * g.pc * (g.h / g.k)) 0 ((g.laneMap.take g.n).mergeSort (· ≤ ·))
    && permutes ((List.range g.pc).map (fun i => g.order / 4 ^ i % 4)) g.pc

/-- Table 10.3: the checks of plane mode. -/
def Geo.planeOk (g : Geo) : Bool :=
  decide (4 ≤ g.d * g.k)
    && decide (g.oc * g.p * 100000 * 4294967296 ≤ 94 * g.b * g.light)
    && g.planes.all (fun e => decide (20000 ≤ g.duration e))

/-- Table 10.3: the checks of grey mode. -/
def Geo.greyOk (g : Geo) : Bool :=
  decide (g.v = 1) && decide (g.oc * 16 * g.k * 100000 * 4294967296 ≤ 94 * g.b * g.period)

/-- R181: a pattern that names primary 3 while PrimaryCount is 3. -/
def badPattern (pc w : Nat) : Bool := w / 16 % 8 = 3 && pc = 3

/-- R167, R181, R216, R221: the configuration checks. -/
def Geo.rangeChecks (g : Geo) (f : Look) (staged : List (Nat × Val)) : Bool :=
  g.viewsOk && g.shapeOk && permutes (g.planes.map (· % 16)) g.p && (if g.grey then g.greyOk else g.planeOk)
    && (List.range 8).all (fun v =>
      !((SMap.find staged (key .pattern v)).isSome && badPattern g.pc (f.n .pattern v)))

/-- R14, R22: the budgets, the plane, ledger, staging and ingest one. -/
def State.budgetsOk (s : State) (g : Geo) : Bool :=
  g.rateFits (100 * g.frameBits) (94 * g.n * g.b * 1000000)
    && decide (g.d * g.k ≤ 256) && decide (g.stagingBytes ≤ s.stagingSize)
    && g.ingestFits ((s.boundCtxs.map s.ctxBits2).sum)

/-- R221: steps 2 to 4 of the checks of a commit or a start, over a configuration; `grid` is the check of R226. -/
def State.configCheck (s : State) (f : Look) (staged : List (Nat × Val)) (grid : Bool) : Option Status :=
  let g := geoOf f 0
  if !(g.rangeChecks f staged && grid) then some .range
  else if !s.budgetsOk g then some .budget else none

/-- Lane l's ledger. -/
def State.led (s : State) (l : Nat) : LaneLed := SMap.get s.modl.lanes l {}

/-- The state with lane l's ledger changed. -/
def State.setLed (s : State) (l : Nat) (a : LaneLed) : State :=
  { s with modl := { s.modl with lanes := SMap.put s.modl.lanes l a } }

/-- R224: a generation is older than another, as a signed 16-bit difference. -/
def older (a g : Nat) : Bool := decide (sgn 16 (a + 65536 - g % 65536) < 0)

/-- R224: the entry is squashed by a change of generation g with effect time E, at a time. -/
def LedEnt.hit (x : LedEnt) (g e now line : Nat) (view : Option Nat) : Bool :=
  (x.st = .computing || x.st = .computed) && decide (e ≤ x.start / 4294967296) && older x.gen g
    && (match view with | some v => x.view = v | none => true) && decide (now < line)

/-- R206, R224: entries in launch order after a squash; `rows` are the rows of the squashed entries before them, which are
recomputed first, so that of each row only the first one keeps or takes SKIPOD. Answers entries and the number squashed. -/
def squashList (hit : LedEnt → Bool) : List Nat → List LedEnt → List LedEnt × Nat
  | _, [] => ([], 0)
  | rows, x :: t =>
    if hit x then
      let r := squashList hit (x.row :: rows) t
      ({ x with st := .squashed, skipod := !rows.contains x.row } :: r.1, r.2 + 1)
    else if x.st = .squashed then
      let r := squashList hit (x.row :: rows) t
      ({ x with skipod := x.skipod && !rows.contains x.row } :: r.1, r.2)
    else let r := squashList hit rows t; (x :: r.1, r.2)

/-- R224: a change of generation g with effect time E squashes what was computed for its refreshes. -/
def State.squash (s : State) (g e : Nat) (view : Option Nat) : State :=
  let now := s.dispFine
  let cutLed (a : LaneLed) : List LedEnt × Nat :=
    squashList (fun x => x.hit g e now (s.lineOf x.start x.row) view) [] a.ents
  let lanes : SMap LaneLed := s.modl.lanes.map (fun p => (p.1, { p.2 with ents := (cutLed p.2).1 }))
  let n : Nat := (s.modl.lanes.map (fun p => (cutLed p.2).2)).sum
  { s with modl := { s.modl with lanes := lanes } }.countBy .squashedEntries 0 n

/-- R224: the next generation number. -/
def State.nextGen (s : State) : Nat × State :=
  let g := s.modl.gen + 1
  (g.toNat, { s with modl := { s.modl with gen := g } }.wr .generation 0 g.toNat)

/-- Table 10.6: the code of an origin. -/
def Origin.code : Origin → Nat
  | .host => 0
  | .band => 1
  | .conceal => 2
  | .throttleStep => 3
  | .throttleRelease => 4

/-- Table 10.6: the LastCommit record. -/
def commitRecord (p : Pend) (late : Bool) : Val :=
  byteVal (leBytes 4 p.gen ++ leBytes 1 p.origin.code ++ leBytes 1 (if p.isFrame then 2 else 1)
    ++ leBytes 2 (if late then Status.value .late else 0) ++ leBytes 8 p.req ++ leBytes 8 p.e)

/-- R230: the entries whose change is a timing-mode change. -/
def timingEnts : List Ent :=
  [.viewCount, .refreshesPerView, .slotPattern, .slotMap, .frameEpoch, .framePeriod, .scanRatio, .rowOrder,
    .rowDeadTime, .laneRate, .planeCount, .planeTable, .runAhead, .driveMode]

/-- R230: the entries whose change is incompatible. -/
def incompatEnts : List Ent := [.laneRate, .scanRatio, .planeCount, .driveMode]

/-- The entries of a list that a commit changes against a configuration. -/
def Pend.changes (p : Pend) (f : Look) (l : List Ent) : List Ent :=
  l.filter (fun e => match p.value (key e 0) with | some v => decide (v ≠ f e 0) | none => false)

/-- R156: does any layer of any view show the buffer. -/
def State.isShown (s : State) (h : Nat) : Bool := s.shown.any (fun p => decide (p.2.handle = h))

end Sys2Proof.Machine
end

