-- ==== Sys2Proof/Machine/Buffers.lean ====
section
/-! DEFINITION. Quarry: stores, pages, buffer handles and their states, content loss and the store placement (R20, R149
to R157, R162 to R164, R190, R126). -/

namespace Sys2Proof.Machine

/-- Table 1.8: the entries that place the stores, in the order of Table 1.6. -/
def placeEnt (k : Nat) : Ent :=
  match k with
  | 0 => .coefStorePlace
  | 1 => .prevOutStorePlace
  | 2 => .contextStorePlace
  | 3 => .tableStorePlace
  | 4 => .stagingPlace
  | _ => .frameStorePlace

/-- Table 1.7: the first bank of a store. -/
def State.storeBase (s : State) (k : Nat) : Nat := s.rd (placeEnt k) 0 % 512

/-- Table 1.7: the banks of a store. -/
def State.storeBanks (s : State) (k : Nat) : Nat := s.rd (placeEnt k) 0 / 65536 % 512

/-- R150: the first byte of a store in Quarry. -/
def State.storeAddr (s : State) (k : Nat) : Nat := s.storeBase k * 524288

/-- The bytes of a store. -/
def State.storeSize (s : State) (k : Nat) : Nat := s.storeBanks k * 524288

/-- R15: every section that holds a bank of the store is ON. -/
def State.storeOn (s : State) (k : Nat) : Bool :=
  (List.range 4).all (fun q =>
    s.alive (20 + q) || decide (s.storeBase k + s.storeBanks k ≤ 96 * q ∨ 96 * q + 96 ≤ s.storeBase k))

/-- R150: the bank of a page of the frame store. -/
def State.pageBank (s : State) (p : Nat) : Nat := s.storeBase 5 + p % s.storeBanks 5

/-- R150: the first byte of a page of the frame store in Quarry. -/
def State.pageAddr (s : State) (p : Nat) : Nat := s.pageBank p * 524288 + p / s.storeBanks 5 * 65536

/-- R151: the place in Quarry of byte o of a buffer. -/
def State.bufAddr (s : State) (h o : Nat) : Nat := s.pageAddr ((s.buf h).pages.getD (o / 65536) 0) + o % 65536

/-- R151: bytes read from a buffer. -/
def State.bufRead (s : State) (h o : Nat) : Nat → Bytes
  | 0 => []
  | n + 1 => SMap.get s.quarry (s.bufAddr h o) 0 :: s.bufRead h (o + 1) n

/-- R151: bytes written into a buffer. -/
def State.bufWrite (s : State) (h o : Nat) : Bytes → State
  | [] => s
  | b :: t => State.bufWrite { s with quarry := SMap.set s.quarry 0 (s.bufAddr h o) b } h (o + 1) t

/-- R283: RetirePendingCount counts its changes. -/
def State.showRetire (s : State) : State :=
  s.wr .retirePendingCount 0 (s.having .handleState (· = 4)).length

/-- R155, R142: a handle enters a state of Table 7.1. -/
def State.setHandle (s : State) (h st : Nat) : State :=
  let old := s.rd .handleState h
  if old = st then s
  else
    let s := ((s.wr .handleState h st).wr .lastStateChange h s.now).showRetire
    let s := if 2 ≤ old ∧ st ≤ 1 then s.wr .frameTag h 0 else s
    if st ≤ 1 then { s with fills := SMap.drop s.fills h } else s

/-- R283: FreePages changes. -/
def Mgmt.pagesChange (m : Mgmt) : Mgmt := { m with made := { m.made with pages := m.made.pages + 1 } }

/-- R154: a handle's pages return to the free pool. -/
def State.unallocate (s : State) (h : Nat) : State :=
  let s := if (s.buf h).pages = [] then s else { s with mgmt := s.mgmt.pagesChange }
  (s.setBuf h {}).wr .pageCount h 0

/-- R155: a RETIRE_PENDING handle becomes FREE and unallocated. -/
def State.retire (s : State) (h : Nat) : State := ((s.setHandle h 0).unallocate h).raise .bufferRetired [h]

/-- R101: the buffers that decided launch entries hold. -/
def State.heldByQueues (s : State) : List Nat :=
  s.views.flatMap (fun p => (p.2.queue ++ p.2.stands).flatMap (fun x =>
    if x.applied then [] else (x.decided.getD []).map (fun q => q.2.handle)))

/-- R155, R156: a buffer that no layer shows any more leaves SHOWING or RETIRE_PENDING. -/
def State.leaveShowing (s : State) (h : Nat) : State :=
  if s.isShown h || s.heldByQueues.contains h then s
  else if s.rd .handleState h = 3 then s.setHandle h 2
  else if s.rd .handleState h = 4 then s.retire h
  else s

/-- R155: a frame or capture is complete in a buffer. -/
def State.makeReady (s : State) (h tag : Nat) : State := (s.setHandle h 2).wr .frameTag h tag

/-- The pages owned by handles. -/
def State.ownedPages (s : State) : List Nat := s.bufs.flatMap (fun p => p.2.pages)

/-- R150: the pages of the frame store. -/
def State.framePageCount (s : State) : Nat := 8 * s.storeBanks 5

/-- R153: the pages owned by no handle, ascending. -/
def State.freePageList (s : State) : List Nat :=
  let o := s.ownedPages
  (List.range s.framePageCount).filter (fun p => !o.contains p)

/-- R153: Allocate. -/
def allocateEff (h : Nat) (s : State) : State × Ans :=
  let n := s.rd .pageRequest h
  if s.rd .handleState h = 4 then (s, ans .retirePending)
  else if s.rd .pageCount h ≠ 0 then (s, ans .state)
  else if n = 0 ∨ 576 < n then (s, ans .range)
  else
    let free := s.freePageList
    if free.length < n then (s, ans .noSpace)
    else (({ s with mgmt := s.mgmt.pagesChange }.setBuf h { pages := free.take n }).wr .pageCount h n, ans .ok)

/-- R117: a handle lies in the buffer set of a context. -/
def State.inSet (s : State) (c h : Nat) : Bool := (s.rdv .bufferSet c).contains h

/-- Table 13.5: the handles that a JobSpec names: the source, and the output chain. -/
def specHandles (v : Val) : List Nat :=
  let b := valBytes v
  let chain := ((List.range 8).map (fun i => field b (16 + 2 * i) 2)).filter (· ≠ 0xFFFF)
  if field b 1 1 = 4 then field b 2 2 :: chain else chain

/-- R302: the jobs that are not IDLE. -/
def State.openJobs (s : State) : List Nat := (List.range 4).filter (fun j => s.rd .jobState j ≠ 0)

/-- R306: the transfers that are open. -/
def State.openXfers (s : State) : List Nat := (List.range 16).filter (fun t => s.rd .transferState t = 1)

/-- R302: the jobs that hold their handles. -/
def State.holdingJobs (s : State) : List Nat := (List.range 4).filter (fun j => (s.job j).held)

/-- R302, R307: a handle is held by a job or a transfer. -/
def State.held (s : State) (h : Nat) : Bool :=
  s.holdingJobs.any (fun j => (specHandles (s.rdv .jobSpec j)).contains h)
    || s.openXfers.any (fun t => (s.xfer t).kind = 4 && (s.xfer t).handle = h)

/-- R154: Free. -/
def freeEff (h : Nat) (s : State) : State × Ans :=
  let st := s.rd .handleState h
  if st = 4 then (s, ans .retirePending)
  else if s.rd .pageCount h = 0 then (s, ans .state)
  else if st = 1 || s.boundCtxs.any (s.inSet · h) || s.held h then (s, ans .busy)
  else if st = 3 then (((s.setHandle h 4).count .earlyFrees 0).raise .bufferEarlyFree [h], ans .ok)
  else ((s.setHandle h 0).unallocate h, ans .ok)

/-- R164: a write to a handle's Command. -/
def handleCommandEff (h : Nat) (v : Val) (s : State) : State × Ans :=
  if v = [1] then allocateEff h s else if v = [2] then freeEff h s else (s, ans .range)

/-- ALLOCATE (R153). -/
def execAllocate (e : Env) (handle : Fin 1024) (s : State) : Host.Outcome State Fault Refusal :=
  .next (s.writeCmd e .handleCommand handle.val [1] (handleCommandEff handle.val))

/-- FREE (R154). -/
def execFree (e : Env) (handle : Fin 1024) (s : State) : Host.Outcome State Fault Refusal :=
  .next (s.writeCmd e .handleCommand handle.val [2] (handleCommandEff handle.val))

/-- R190: the coefficient store's content is lost; `cause` is the section, 0xFE or 0xFF. -/
def State.coefLost (s : State) (cause : Nat) : State :=
  let s := (s.wr .coefValid 0 0).raise .coefInvalid [cause]
  if cause = 0xFF then s else { s with power := { s.power with coefGone := true } }

/-- The entries of a context that its record holds (Table 5.1), but for the counters. -/
def ctxRecordEnts : List Ent :=
  [.ctxState, .owner, .window, .launchMode, .layerSync, .format, .width, .height, .unitBytes, .frameBytes, .unitCount,
    .bufferSet, .assemblingFrame, .unitsReceived, .newestFrame, .lastUnitTime, .flags]

/-- The counters of a context (R107). -/
def ctxCounterEnts : List Ent :=
  [.framesCompleted, .framesIncomplete, .sequenceGaps, .duplicateUnits, .staleUnits, .foreignDrops, .formatDrops,
    .noBufferDrops, .launchRefusals, .discards]

/-- R108: a context's record goes back to the reset values, keeping the counters. -/
def State.clearRecord (s : State) (c : Nat) : State :=
  ((s.forEach ctxRecordEnts (fun s e => s.toDefault e c)).setCtx c {}).showCtxCounts

/-- The contexts whose record differs somewhere from its reset values. -/
def State.usedCtxs (s : State) : List Nat :=
  let inRegs : List Nat := s.regs.filterMap (fun (p : Nat × Val) =>
    if (ctxRecordEnts ++ ctxCounterEnts).any (fun e => e.ctorIdx = p.1 / 65536) then some (p.1 % 65536) else none)
  let beside : List Nat := s.ctxs.map (fun (p : Nat × Ctx) => p.1)
  (inRegs ++ beside).eraseDups

/-- R126: every record is set to its reset values, the counters included. -/
def State.resetContexts (s : State) : State :=
  (s.forEach s.usedCtxs (fun s c => s.forEach ctxCounterEnts (fun s e => s.toDefault e c) |>.clearRecord c)).count
    .contextStoreResets 0

/-- The context whose newest complete frame a buffer holds loses it (R157). -/
def State.dropNewest (s : State) (h : Nat) : State :=
  s.forEach (s.having .flags (fun n => n % 2 = 1)) (fun s c =>
    if s.inSet c h && s.rd .frameTag h = s.rd .newestFrame c then s.wr .flags c (s.rd .flags c - 1) else s)

/-- R157: in place of a handle whose content was lost after a launch entry took it. -/
def lostBuffer : Nat := 0xFFFF

/-- R157: a decided launch entry that took a buffer shows nothing in its place. -/
def LaunchEnt.lose (h : Nat) (x : LaunchEnt) : LaunchEnt :=
  { x with decided := x.decided.map (fun l =>
      l.map (fun p => if p.2.handle = h then (p.1, { p.2 with handle := lostBuffer }) else p)) }

/-- R157: the content of one handle is lost. -/
def State.loseHandle (s : State) (h : Nat) : State :=
  let s := s.dropNewest h
  let s := { s with
    shown := s.shown.filter (fun p => p.2.handle ≠ h)
    views := s.views.map (fun (p : Nat × ViewSt) =>
      (p.1, { p.2 with queue := p.2.queue.map (LaunchEnt.lose h), stands := p.2.stands.map (LaunchEnt.lose h) })) }
  if s.rd .handleState h = 4 then (s.setHandle h 0).unallocate h else s.setHandle h 0

/-- R157: the handles that are READY, SHOWING or RETIRE_PENDING and own a page in a lost bank. -/
def State.lostHandles (s : State) (bank : Nat → Bool) : List Nat :=
  (s.having .handleState (2 ≤ ·)).filter (fun h => (s.buf h).pages.any (fun p => bank (s.pageBank p)))

/-- A store holds a lost bank. -/
def State.storeHit (s : State) (bank : Nat → Bool) (k : Nat) : Bool :=
  (List.range (s.storeBanks k)).any (fun i => bank (s.storeBase k + i))

/-- R413: the instances of the entries that the table store holds. -/
def tableInsts : List (Ent × Nat) := tableEnts.flatMap (fun p => (List.range p.1.info.count).map (fun i => (p.1, i)))

/-- R413: the 4 bits of a lamp's defect state: its code, or what was written for it while that gives the code. -/
def State.nibble (s : State) (lamp : Nat) : Nat :=
  let d := SMap.get s.defects.st lamp 0
  match SMap.find s.defects.raw lamp with
  | some r => if r % 11 = d then r else d
  | none => d

/-- R196, R413: what the table store holds, in a layout of the model's own: the values of its entries, then 4 bits of
defect state a lamp. -/
def State.tableContent (s : State) : Bytes :=
  tableInsts.flatMap (fun p => (s.tableVal p.1 p.2).flatMap (leBytes p.1.info.elt))
    ++ (List.range 1572864).map (fun b =>
      BitVec.ofNat 8 (s.nibble (2 * b) + 16 * s.nibble (2 * b + 1)))

/-- R413: the bytes of the table store, in the device's own layout. -/
def State.tableBytes (s : State) : Bytes :=
  let c := s.tableContent
  (Config.tableLayout (s.storeSize 3) (Vector.ofFn (fun i =>
    if i.val < c.length then c.getD i.val 0 else SMap.get s.tablePad (i.val - c.length) 0))).toList

/-- R413: the values of a number of table entries out of a content, with the rest of it. -/
def tableValues : List (Ent × Nat) → Bytes → List (Ent × Nat × Val) × Bytes
  | [], b => ([], b)
  | p :: t, b =>
    let n := p.1.dflt.length
    let r := tableValues t (b.drop (n * p.1.info.elt))
    ((p.1, p.2, (List.range n).map (fun k => field b (k * p.1.info.elt) p.1.info.elt)) :: r.1, r.2)

/-- R413: the table store takes a content: the values it holds, the defect states, and what lies beyond them. -/
def State.setTables (s : State) (c : Bytes) : State :=
  let r := tableValues tableInsts c
  let bits := fun (l : Nat) => (r.2.getD (l / 2) 0).toNat / 16 ^ (l % 2) % 16
  { s with
    tablePad := ((r.2.drop 1572864).zipIdx.filter (fun p => p.1 ≠ 0)).map (fun p => (p.2, p.1))
    tables := r.1.foldl (fun m p => SMap.set m (s.rdv p.1 p.2.1) (key p.1 p.2.1) p.2.2) []
    defects := { s.defects with
      st := (List.range 3145728).filterMap (fun l =>
        if bits l % 11 = 0 then none else some (l, bits l % 11))
      raw := (List.range 3145728).filterMap (fun l => if bits l < 11 then none else some (l, bits l)) } }

/-- R413: bytes of the table store are what a content of the device's own layout says. -/
def State.putTableBytes (s : State) (b : Bytes) : State :=
  s.setTables ((Config.tableLayout (s.storeSize 3)).symm (Vector.ofFn (fun i => b.getD i.val 0))).toList

/-- R413: a byte string is written into the table store. -/
def State.tableWrite (s : State) (off : Nat) (b : Bytes) : State :=
  if b = [] then s else
    let old := s.tableBytes
    s.putTableBytes (old.take off ++ b ++ old.drop (off + b.length))

/-- R208: the values that a domain's entry into ON writes back are the committed ones again. -/
def State.writeBack (s : State) (d : Nat) : State :=
  { s with tables := s.tables.filter (fun p => !tableEnts.any (fun e => e.2 = d && e.1.ctorIdx = p.1 / 65536)) }

/-- R208: the domains that write table values back. -/
def tableDomains : List Nat := [12, 13, 14, 15]

/-- R126, R157, R190, R198: the content of banks of a section is lost as the section enters ON. -/
def State.loseBanks (s : State) (section_ : Nat) (bank : Nat → Bool) : State :=
  let hs := s.lostHandles bank
  let coef := s.storeHit bank 0
  let s := { s with
    quarry := s.quarry.filter (fun p => !bank (p.1 / 524288))
    power := { s.power with
      ctxLost := s.power.ctxLost || s.storeHit bank 2
      tableLost := if s.storeHit bank 3 then tableDomains else s.power.tableLost } }
  let s := s.forEach hs (fun s h => s.loseHandle h)
  let s := if hs = [] then s else (s.countBy .contentLosses 0 hs.length).raise .quarryContentLost [section_, hs.length]
  if coef then s.coefLost section_ else s

/-- R149, R160: the access of one port to a word of 16 bytes: the bytes it writes, by lane; a read writes none. -/
structure PortAccess where
  writes : Bool
  lanes : List (Option Byte)
  deriving DecidableEq, Repr

/-- R149: a word with the enabled lanes of a write. -/
def mergeLanes (w : Bytes) (l : List (Option Byte)) : Bytes := List.zipWith (fun o n => n.getD o) w l

/-- R160: a word after an access of port A in a cycle. -/
def PortAccess.after (w : Bytes) (a : PortAccess) : Bytes := if a.writes then mergeLanes w a.lanes else w

/-- R160: accesses of ports A and B to one word in one cycle: the word that reads of that cycle return, the word that a
read of port A returns in the next cycle, in which port B writes where both write, and the word that is left. The model's
commands follow each other in this order: reads, port A, port B. -/
def sameWordCycle (w : Bytes) (a b : PortAccess) : Bytes × Bytes × Bytes :=
  (w, if a.writes && b.writes then a.after w else b.after (a.after w), b.after (a.after w))

/-- R159, R160: the accesses of a command may meet others of their cycles: the stalls of the sections that are ON and the
writes of one word by both ports are counted; how many is a free value. -/
def State.stalled (s : State) : State :=
  let k := s.draws
  let s := { s with draws := k + 1 }
  (s.forEach ([0, 1, 2, 3].filter (fun q => s.alive (20 + q))) (fun s q =>
    s.countBy .bankConflictStalls q (Config.bankStalls k q).toNat)).countBy .sameWordConflicts 0
      (Config.sameWordWrites k).toNat

/-- Table 1.6: the bank count of a store is allowed. -/
def bankCountOk (k n : Nat) : Bool :=
  match k with
  | 0 => n = 32
  | 1 => n = 6
  | 2 => n = 32
  | 3 => 8 ≤ n && n ≤ 32
  | _ => 1 ≤ n

/-- R20: a placement word for a store is allowed beside the other stores. -/
def State.placeOk (s : State) (k w : Nat) : Bool :=
  let base := w % 512
  let n := w / 65536 % 512
  w / 33554432 = 0 && w / 512 % 128 = 0 && decide (base + n ≤ 384) && bankCountOk k n
    && ((List.range 6).filter (· ≠ k)).all (fun j =>
      decide (base + n ≤ s.storeBase j ∨ s.storeBase j + s.storeBanks j ≤ base))

/-- R152: the buffer table is cleared. -/
def State.clearBuffers (s : State) : State :=
  let s := s.forEach (s.bufs.map (·.1)) (fun s h => (s.setHandle h 0).unallocate h)
  s.forEach (List.range 1024) (fun s h => s.toDefault .lastWriter h)

/-- R20: what a placement write clears. -/
def State.clearStore (s : State) (k : Nat) : State :=
  let s := { s with quarry := SMap.clear s.quarry (s.storeAddr k) (s.storeSize k) }
  match k with
  | 0 => s.coefLost 0xFE
  | 2 => s.resetContexts
  | 3 => ({ s with power := { s.power with tableLost := tableDomains } }).putTableBytes []
  | 5 => s.clearBuffers
  | _ => s

/-- R283: a placement write is one change of FreePages. -/
def State.notePages (s t : State) : State :=
  let n := s.mgmt.made.pages + (if s.freePageList.length = t.freePageList.length then 0 else 1)
  { t with mgmt := { t.mgmt with made := { t.mgmt.made with pages := n } } }

/-- R20: a write to a placement entry. A domain that is ON stays ON where the store that it needs moves into a section that
is not (R15; DESIGN CHOICE, log 163). -/
def storePlacementEff (k : Nat) (v : Val) (s : State) : State × Ans :=
  let w := v.headD 0
  if s.running || decide (s.having .handleState (· ≠ 0) ≠ [] ∨ s.openJobs ≠ [] ∨ s.openXfers ≠ []) then (s, ans .state)
  else if !s.placeOk k w then (s, ans .range)
  else if s.rd (placeEnt k) 0 = w then (s, ans .ok)
  else (s.notePages ((s.wr (placeEnt k) 0 w).clearStore k), ans .ok)

/-- STORE_PLACEMENT_WRITE (R20). -/
def execStorePlacementWrite (e : Env) (store : Fin 6) (v : Bytes) (s : State) : Host.Outcome State Fault Refusal :=
  .next (s.writeCmd e (placeEnt store.val) 0 v (storePlacementEff store.val))

end Sys2Proof.Machine
end

