-- ==== Sys2Proof/Machine/Launch.lean ====
section
/-! DEFINITION. Launch queues, the decision and the instant of a launch, and the SYNCO outputs (R98 to R101, R104, R105,
R121, R156, R168). -/

namespace Sys2Proof.Machine

/-- R121: a window takes part in a view in a configuration. -/
def takesPart (f : Look) (v w : Nat) : Bool :=
  let c := f.n .control w
  c.testBit 8 && c % 8 = v && (f.n .layerEnable v).testBit (c / 16 % 4)

/-- R121: the bound contexts whose window takes part in a view. -/
def State.viewCtxs (s : State) (f : Look) (v : Nat) : List Nat :=
  s.boundCtxs.filter (fun c => takesPart f v (s.rd .window c))

/-- R121: the context's READY or SHOWING buffer with a tag. -/
def State.tagged (s : State) (c tag : Nat) : Option Nat :=
  (s.rdv .bufferSet c).find? (fun h =>
    h < 1024 && (s.rd .handleState h = 2 || s.rd .handleState h = 3) && s.rd .frameTag h = tag)

/-- R170: what a window shows from a buffer, with the form its context has. -/
def State.shownOf (s : State) (c h : Nat) : Nat × Shown :=
  (s.rd .window c, { handle := h, format := s.rd .format c, width := s.rd .width c, height := s.rd .height c })

/-- R121: frame T of a view, as its windows would show it; none when it is not complete. -/
def State.frameFor (s : State) (f : Look) (v tag : Nat) : Option (List (Nat × Shown)) :=
  let cs := s.viewCtxs f v
  if (cs.filter (fun c => s.rd .layerSync c = 1)).all (fun c => (s.tagged c tag).isSome) then
    some (cs.filterMap (fun c =>
      let b := if s.rd .layerSync c = 1 then s.tagged c tag
        else if (s.rd .flags c).testBit 0 then s.tagged c (s.rd .newestFrame c) else none
      b.map (s.shownOf c)))
  else none

/-- R101: one entry of a view's queue is decided. -/
def State.decideEntry (s : State) (v : Nat) (x : LaunchEnt) : State × LaunchEnt :=
  match s.frameFor (s.paramAt s.now) v x.tag with
  | some l =>
    (s.forEach l (fun s p => if s.rd .handleState p.2.handle = 2 then s.setHandle p.2.handle 3 else s),
      { x with decided := some l })
  | none => ((s.count .launchMisses v).raise .launchMiss [v, x.tag], { x with decided := some [], missed := true })

/-- R101: every undecided entry of a view with an instant at or before a time is decided, oldest first. -/
def State.decideList (s : State) (v t : Nat) : List LaunchEnt → State × List LaunchEnt
  | [] => (s, [])
  | x :: q =>
    let r := if x.decided.isNone && decide (x.instant ≤ t) then s.decideEntry v x else (s, x)
    let r2 := State.decideList r.1 v t q
    (r2.1, r.2 :: r2.2)

/-- What a window shows once a frame has been taken; nothing where its buffer was lost before (R157). -/
def showAll (m : SMap Shown) (l : List (Nat × Shown)) : SMap Shown :=
  l.foldl (fun m p => if p.2.handle = lostBuffer then SMap.drop m p.1 else SMap.put m p.1 p.2) m

/-- A launch entry in the order of the instants, after those of the same instant. -/
def insertLaunch (x : LaunchEnt) : List LaunchEnt → List LaunchEnt
  | [] => [x]
  | y :: t => if x.instant < y.instant then x :: y :: t else y :: insertLaunch x t

/-- R101: the entries of a view whose decisions count, by instant. -/
def ViewSt.launches (a : ViewSt) : List LaunchEnt := a.queue.foldl (fun l x => insertLaunch x l) a.stands

/-- R168: the last effect time at or before a time at which a commit still to come leaves a view disabled. -/
def State.disabledBy (s : State) (v t : Nat) : Option Nat :=
  ((s.due t).filter (fun p => !p.done && (s.paramAt p.e).n .viewCount 0 ≤ v)).foldl
    (fun b p => some (max (b.getD 0) p.e)) none

/-- R101, R168, R170: what the windows show in the refreshes of a view that start at or after a time: nothing until the
first launch since the view was enabled. -/
def State.shownAt (s : State) (v t : Nat) : SMap Shown :=
  let cut := s.disabledBy v t
  (s.view v).launches.foldl (fun m x =>
    if x.applied || decide (t < x.instant) || decide (x.instant < cut.getD 0) then m
    else showAll m (x.decided.getD [])) (if (s.view v).launched && cut.isNone then s.shown else [])

/-- R156: the decided frames of a view with an instant at or before a time replace what it shows, and the replaced buffers
leave SHOWING. -/
def State.applyDecided (s : State) (v t : Nat) : State :=
  let a := s.view v
  let go := fun (x : LaunchEnt) => !x.applied && x.decided.isSome && decide (x.instant ≤ t)
  let taken := (a.launches.filter go).flatMap (fun x => x.decided.getD [])
  let old := taken.filterMap (fun p => (SMap.find s.shown p.1).map (·.handle))
  let lost := taken.map (fun p => p.2.handle)
  let s := s.setView v { a with
    queue := a.queue.map (fun x => if go x then { x with applied := true } else x)
    stands := a.stands.filter (fun x => !go x), launched := a.launched || a.launches.any (fun x => go x && !x.missed) }
  let s := { s with shown := showAll s.shown taken }
  s.forEach (old ++ lost).eraseDups (fun s h => s.leaveShowing h)

/-- R101: the decisions that come with the computation of a refresh of a view that starts at a time; the frame of an entry whose
instant has passed shows at once. -/
def State.decideLaunches (s : State) (v t : Nat) : State :=
  let a := s.view v
  let late := a.stands.any (fun x => x.decided.isNone && decide (x.instant ≤ t))
  let r := s.decideList v t a.stands
  let q := r.1.decideList v t a.queue
  let s := q.1.setView v { q.1.view v with stands := r.2, queue := q.2 }
  if late then s.applyDecided v s.now else s

/-- R283: QueueDepth counts its changes. -/
def State.showQueue (s : State) (v : Nat) : State := s.wr .queueDepth v (s.view v).queue.length

/-- R98, R101: entries leave the queue of a view and are counted; a decision already made stands (log 21). -/
def State.flushQueue (s : State) (v : Nat) (drop : LaunchEnt → Bool) : State :=
  let a := s.view v
  let gone := a.queue.filter drop
  let kept := gone.filter (fun x => !x.applied && x.decided.isSome && !x.missed)
  (s.setView v { a with
    queue := a.queue.filter (fun x => !drop x)
    stands := kept.foldl (fun l x => insertLaunch x l) a.stands }).showQueue v |>.countBy .launchFlushes 0 gone.length

/-- R156, R168: no refresh of a view follows; the frames taken for it and not yet shown are given back. -/
def State.dropStands (s : State) (v : Nat) : State :=
  let a := s.view v
  if a.stands = [] then s
  else
    (s.setView v { a with stands := [] }).forEach
      (a.stands.flatMap (fun x => (x.decided.getD []).map (fun p => p.2.handle))).eraseDups (fun s h => s.leaveShowing h)

/-- R99: the last instant queued or launched for a view. -/
def State.lastInstant (s : State) (v : Nat) : Nat :=
  ((s.view v).queue.map (fun x => x.instant)).foldl max (s.rd .lastLaunch v)

/-- R96, R99, R100: the checks of a launch entry, in their order; a device woken from sleep is not LOCKED. -/
def State.launchCheck (s : State) (v instant : Nat) (valueOk : Bool) : Option Status :=
  if (s.rd .timeState 0 ≠ 2 ∨ s.aon.latch.isSome) ∧ s.rd .freeRunPermit 0 ≠ 1 then some .state
  else if !valueOk || decide (s.rd .viewCount 0 ≤ v) || !(s.geoAt instant).isBoundary instant
      || decide (instant ≤ s.lastInstant v) then some .range
  else if 8 ≤ (s.view v).queue.length then some .busy
  else if instant * 4294967296 < s.dispFine + s.horizon then some .late
  else none

/-- R101: the modulator has begun computing a refresh of a view that starts at or after an instant. -/
def State.computingFrom (s : State) (v instant : Nat) : Bool :=
  s.modl.lanes.any (fun (p : Nat × LaneLed) =>
    p.2.ents.any (fun x => x.view = v && decide (instant ≤ x.start / 4294967296)))

/-- R99, R101, R224: an accepted launch entry. -/
def State.launchAccept (s : State) (v instant tag : Nat) : State :=
  let begun := s.computingFrom v instant
  let s := (s.setView v { s.view v with queue := (s.view v).queue ++ [{ instant := instant, tag := tag }] }).showQueue v
  let s := s.nextGen.2
  let s := s.squash s.modl.gen.toNat instant (some v)
  if s.running && begun then s.decideLaunches v instant else s

/-- R99: a launch entry is checked and queued. -/
def State.pushLaunch (s : State) (v instant tag : Nat) (valueOk : Bool) : State × Option Status :=
  match s.launchCheck v instant valueOk with
  | some st => (s, some st)
  | none => (s.launchAccept v instant tag, none)

/-- R98, R99: a write to LaunchPush. -/
def launchPushEff (v : Nat) (x : Val) (s : State) : State × Ans :=
  let b := valBytes x
  let ok := x.length = 16 && field b 12 4 = 0
  let r := s.pushLaunch v (field b 0 8) (field b 8 4) ok
  (r.1, ans (r.2.getD .ok))

/-- LAUNCH_PUSH (R99). -/
def execLaunchPush (e : Env) (view : Fin 8) (v : Bytes) (s : State) : Host.Outcome State Fault Refusal :=
  .next (s.writeCmd e .launchPush view.val v (launchPushEff view.val))

/-- R105: a write to LaunchFlush. -/
def launchFlushEff (v : Nat) (x : Val) (s : State) : State × Ans :=
  if x = [1] then (s.flushQueue v (fun _ => true), ans .ok)
  else if x = [0] then (s, ans .ok) else (s, ans .range)

/-- LAUNCH_FLUSH (R105). -/
def execLaunchFlush (e : Env) (view : Fin 8) (v : Bytes) (s : State) : Host.Outcome State Fault Refusal :=
  .next (s.writeCmd e .launchFlush view.val v (launchFlushEff view.val))

/-- LAUNCH_INSTANT (R101, R232): the oldest entry's instant arrives and it is consumed; while the modulator is stopped it is
decided here, if it has not been, and while it runs an undecided one waits for the first refresh of its view. With none queued,
decisions that stand after a flush show once their instants have come. -/
def launchInstantEff (v : Nat) (s : State) : State :=
  match (s.view v).queue with
  | [] => if (s.view v).stands = [] ∨ s.timeRuns = false then s else s.applyDecided v s.now
  | x :: _ =>
    let s := s.untilDisp x.instant
    if s.timeRuns && decide (x.instant ≤ s.now) then
      let s := (if s.running then s else s.decideLaunches v x.instant).applyDecided v x.instant
      let a := s.view v
      let wait := a.queue.take 1 |>.filter (fun x => x.decided.isNone)
      ((s.setView v { a with queue := a.queue.tail, stands := wait.foldl (fun l x => insertLaunch x l) a.stands }).showQueue v).wr
        .lastLaunch v x.instant
    else s

/-- LAUNCH_INSTANT (R101). -/
def execLaunchInstant (view : Fin 8) (s : State) : Host.Outcome State Fault Refusal :=
  .next (launchInstantEff view.val s)

/-- R168: a view that a commit disables. -/
def State.disableView (s : State) (v : Nat) : State :=
  let mine := s.shown.filter (fun p => s.rd .control p.1 % 8 = v)
  let s := (s.flushQueue v (fun _ => true)).dropStands v
  let s := s.setView v { s.view v with launched := false }
  let s := { s with shown := s.shown.filter (fun p => s.rd .control p.1 % 8 ≠ v) }
  s.forEach (mine.map (fun p => p.2.handle)).eraseDups (fun s h => s.leaveShowing h)

/-- R104: the values of an output's entries: mode, start, period, width, offset, view and inversion. -/
def State.outputVals (s : State) (o : Nat) : List Nat :=
  [s.rd .outputMode o, s.rd .outputStart o, s.rd .outputPeriod o, s.rd .outputWidth o, s.rd .outputOffset o,
    s.rd .outputView o, s.rd .outputInvert o]

/-- R104: the level of the pin SYNCOo; none while it floats, D5 not being ON. -/
def State.outputPin (s : State) (o : Nat) : Option Bool :=
  let a := SMap.get s.syncOut o {}
  if !s.alive 5 then none else some (if a.active then a.level else decide (s.rd .outputInvert o = 1))

/-- R104: before a write to an output entry, the old values are kept for pulses scheduled within 10 us. -/
def State.keepOutput (s : State) (o : Nat) : State :=
  let a := SMap.get s.syncOut o {}
  let old := a.hist.filter (fun p => decide (s.dispFine < p.1))
  { s with syncOut := SMap.put s.syncOut o { a with single := false, hist := old ++ [(s.dispFine + us 10, s.outputVals o)] } }

/-- R166: the first slot of a view at or after a number in a frame. -/
def Geo.slotFrom (g : Geo) (v j : Nat) : Option Nat := ((List.range g.slots).drop j).find? (fun i => g.slotView i = v)

/-- R166, R211: the first refresh boundary of a view's slot at or after a time, looked for over a number of frames. -/
def State.viewSlotFrom (s : State) (v x : Nat) : Nat → Nat → Option Nat
  | 0, _ => none
  | n + 1, frame =>
    let g := s.geoAt frame
    let j := if frame * 4294967296 ≤ x then ceilDiv (x - frame * 4294967296) g.tslot else 0
    match g.slotFrom v j with
    | some i => some (g.slotStart frame i)
    | none => s.viewSlotFrom v x n (s.nextFrame frame)

/-- R104: the first scheduled pulse of an output with given values at or after a time, 2^-32 ns. -/
def State.nextPulse (s : State) (vals : List Nat) (single : Bool) (x : Nat) : Option Nat :=
  let start := vals.getD 1 0 * 4294967296
  let period := vals.getD 2 0
  let ofs := ofPs (sgn 32 (vals.getD 4 0))
  let y := ((x : Int) - ofs).toNat
  match vals.getD 0 0 with
  | 1 => if single || decide (start < x) then none else some start
  | 2 => if period = 0 then none else some (if x ≤ start then start else start + ceilDiv (x - start) period * period)
  | 3 => some (((((s.geoAt (y / 4294967296)).next (ceilDiv y 4294967296)) * 4294967296 : Nat) : Int) + ofs).toNat
  | 4 => (s.viewSlotFrom (vals.getD 5 0) y 3 (s.frameOf (y / 4294967296))).map (fun t => ((t : Int) + ofs).toNat)
  | _ => none

/-- R104: the next pulse, under the values that hold for the time it is scheduled at, and whether these are the values now
in the entries. -/
def State.pulseFrom (s : State) (o : Nat) (single : Bool) (x : Nat) : List (Nat × List Nat) → Option (Nat × List Nat × Bool)
  | [] => (s.nextPulse (s.outputVals o) single x).map (fun t => (t, s.outputVals o, true))
  | p :: q =>
    match s.nextPulse p.2 false x with
    | some t => if t < p.1 then some (t, p.2, false) else s.pulseFrom o single (max x p.1) q
    | none => s.pulseFrom o single (max x p.1) q

/-- R104: the 100 ps step at or below an instant, in 2^-32 ns (log 176). -/
def placed (x : Nat) : Nat := ceilDiv (x * 1000 / 4294967296 / 100 * 100 * 4294967296) 1000

/-- SYNCO_PULSE (R104): the clocks move on to the scheduled edge, and the pulse begins or ends. -/
def syncoPulseEff (o : Nat) (begins : Bool) (s : State) : State :=
  if !s.timeRuns then s
  else
    let a := SMap.get s.syncOut o {}
    if begins then
      if a.active then s
      else
        match s.pulseFrom o a.single s.dispFine a.hist with
        | none => s
        | some (t, vals, present) =>
          let s := s.elapse (placed t - s.dispFine)
          { s with syncOut := SMap.put s.syncOut o { a with
              active := true, level := decide (vals.getD 6 0 = 0), began := placed t
              ends := placed (t + (ofPs (vals.getD 3 0)).toNat), single := a.single || (present && vals.getD 0 0 = 1) } }
    else if a.active then
      let s := s.elapse (a.ends - s.dispFine)
      { s with syncOut := SMap.put s.syncOut o { a with active := false } }
    else s

/-- SYNCO_PULSE (R104). -/
def execSyncoPulse (output : Fin 4) (begins : Bool) (s : State) : Host.Outcome State Fault Refusal :=
  .next (syncoPulseEff output.val begins s)

end Sys2Proof.Machine
end

