-- ==== Sys2Proof/Machine/Link.lean ====
section
/-! DEFINITION. The Izsor lanes: blocks, scrambler, lock, alignment, training, adaptation and link sleep (R24 to R57). -/

namespace Sys2Proof.Machine

/-- R30: one descrambled bit and the state after it. -/
def descrambleBit (st : BitVec 58) (r : Bool) : Bool × BitVec 58 :=
  (xor r (xor (st.getLsbD 38) (st.getLsbD 57)), (st <<< 1) ||| (if r then 1 else 0))

/-- R30: one scrambled bit and the state after it. -/
def scrambleBit (st : BitVec 58) (d : Bool) : Bool × BitVec 58 :=
  let b := xor d (xor (st.getLsbD 38) (st.getLsbD 57))
  (b, (st <<< 1) ||| (if b then 1 else 0))

/-- Bits through a scrambler or descrambler, first bit first. -/
def scrambleRun (f : BitVec 58 → Bool → Bool × BitVec 58) : List Bool → BitVec 58 → List Bool × BitVec 58
  | [], st => ([], st)
  | b :: t, st =>
    let x := f st b
    let y := scrambleRun f t x.2
    (x.1 :: y.1, y.2)

/-- R30: a payload descrambled. -/
def descramble (st : BitVec 58) (w : BitVec 64) : BitVec 64 × BitVec 58 :=
  let r := scrambleRun descrambleBit (bitList 64 w.toNat) st
  (BitVec.ofNat 64 (ofBits r.1), r.2)

/-- R30: a payload scrambled. -/
def scramble (st : BitVec 58) (w : BitVec 64) : BitVec 64 × BitVec 58 :=
  let r := scrambleRun scrambleBit (bitList 64 w.toNat) st
  (BitVec.ofNat 64 (ofBits r.1), r.2)

/-- R26: byte j of a block's payload. -/
def blockByte (w : BitVec 64) (j : Nat) : Byte := BitVec.ofNat 8 (w.toNat >>> (8 * j))

/-- The payload's bytes. -/
def blockBytes (w : BitVec 64) : Bytes := (List.range 8).map (blockByte w)

/-- Table 2.2: the types of control blocks. -/
def controlType (t : Nat) : Bool :=
  t = 0x1E || t = 0x3C || t = 0x5A || t = 0x66 || t = 0xE7 || (decide (0xC0 ≤ t) && decide (t ≤ 0xC7))

/-- R27: the block is valid: header bits 0b01 (1) a data block, 0b10 (2) a control block of a known type. -/
def blockValid (hdr : Nat) (w : BitVec 64) : Bool :=
  hdr = 1 || (hdr = 2 && controlType (blockByte w 0).toNat)

/-- R33: the parity of a payload's bytes as received. -/
def blockParity (w : BitVec 64) : BitVec 8 := (blockBytes w).foldl (· ^^^ ·) 0

/-- R31: the scrambler seed of lane l of port n. -/
def scramblerSeed (n l : Nat) : BitVec 58 := BitVec.ofNat 58 (0x2AAAAAAAAAAAAAA ^^^ (4 * n + l + 1))

/-- R31: the scramblers of a port are seeded and its transmitter's count of blocks starts. -/
def State.seed (s : State) (n : Nat) : State :=
  (s.setPort n { s.port n with txBase := s.aon.mono, txCount := 0, txLane := 0, txPos := 0 }).forEach ports4 (fun s l =>
    s.setLane n l { s.lane n l with txScr := scramblerSeed n l, txSlot := 0, txBip := 0 })

/-- Table 2.1: the multiple of 156.25 MHz of a rate code. -/
def lineMult (r : Nat) : Nat := if r = 1 then 66 else if r = 2 then 165 else 180

/-- Table 2.1: the block times of a rate code in a time of 2^-32 ns. -/
def blockTimes (r d : Nat) : Nat := d * lineMult r * 15625 / (6600000 * 4294967296)

/-- Table 2.1: the time of a number of block times of a rate code, in 2^-32 ns. -/
def blockSpan (r k : Nat) : Nat := ceilDiv (k * 6600000 * 4294967296) (lineMult r * 15625)

/-- The rate code at which a port runs: that of its step, or that of ACTIVE. -/
def State.rateOf (s : State) (n : Nat) : Nat := if (s.port n).step ≠ 0 then (s.port n).step else s.rd .lineRate n

/-- The payload of a control block of a type and up to 7 bytes. -/
def controlBlock (t : Nat) (b : Bytes) : BitVec 64 :=
  BitVec.ofNat 64 (leNat ((BitVec.ofNat 8 t :: b) ++ List.replicate (7 - b.length) 0))

/-- R30: one block goes out on a lane, scrambled; `keep` where it is one of a packet or a sleep set. -/
def Lane.send (a : Lane) (hdr : Nat) (w : BitVec 64) (keep : Bool) : Lane :=
  let r := scramble a.txScr w
  { a with
    txScr := r.2, txSlot := a.txSlot + 1, txBip := a.txBip ^^^ blockParity r.1
    sent := if keep then a.sent ++ [r.1 ++ BitVec.ofNat 2 hdr] else a.sent }

/-- R33: the ALIGN block of a lane. -/
def Lane.marker (a : Lane) (n l : Nat) (keep : Bool) : Lane :=
  let b : Bytes := [BitVec.ofNat 8 (l + 4 * n)] ++ leBytes 2 a.txMarker ++ [a.txBip, 0, 0, 0]
  { (a.send 2 (controlBlock 0x3C b) keep) with txSlot := 0, txBip := 0, txMarker := (a.txMarker + 1) % 65536 }

/-- R33: the blocks per lane from one marker sent to the next; 0 where none is sent. -/
def State.markerPeriod (s : State) (n : Nat) : Nat :=
  if s.active n then 16384 else if (s.port n).phase = 4 then 256 else 0

/-- R33: at the start of a block slot, an ALIGN block on all four lanes when one is due. -/
def State.putMarkers (s : State) (n : Nat) (keep : Bool) : State :=
  let k := s.markerPeriod n
  if k = 0 ∨ (s.lane n 0).txSlot + 1 < k then s
  else
    (s.setPort n { s.port n with txCount := (s.port n).txCount + 1 }).forEach ports4 (fun s l =>
      s.setLane n l ((s.lane n l).marker n l keep))

/-- R32, R33: one block of the sequence goes out, on lane k mod 4. -/
def State.putBlock (s : State) (n hdr : Nat) (w : BitVec 64) (keep : Bool) : State :=
  let s := if (s.port n).txLane % 4 = 0 then s.putMarkers n keep else s
  let p := s.port n
  let l := p.txLane % 4
  (s.setLane n l ((s.lane n l).send hdr w keep)).setPort n { p with
    txLane := (l + 1) % 4
    txCount := if l = 3 then p.txCount + 1 else p.txCount
    txPos := if l = 3 then (p.txPos + 1) % 16 else p.txPos }

/-- R32: blocks of the sequence go out, first block first. -/
def State.stripe (s : State) (n : Nat) (bl : List (Nat × BitVec 64)) : State :=
  match bl with
  | [] => s
  | (hdr, w) :: t => State.stripe (s.putBlock n hdr w true) n t

/-- R39: 8 consecutive identical Granite sets have come on every lane; a set that differs clears ACK again (DESIGN CHOICE,
log 165). -/
def State.graniteHeard (s : State) (n : Nat) : Bool := ports4.all (fun l => 8 ≤ (s.lane n l).granRun)

/-- Table 2.5: the ordered set that lane l sends in Quartz, Basalt or Granite. -/
def State.trainSet (s : State) (n l : Nat) : BitVec 64 :=
  let p := s.port n
  let a := s.lane n l
  let k := 4 * n + l
  let b : Bytes :=
    if p.phase = 2 then
      [1, BitVec.ofNat 8 k, BitVec.ofNat 8 p.step, if a.locked then 1 else 0]
    else if p.phase = 3 then
      [2, BitVec.ofNat 8 l, if a.ready then 0 else BitVec.ofNat 8 (Config.basaltRequest k s.draws p.txCount).toNat,
        BitVec.ofNat 8 a.resp, BitVec.ofNat 8 (s.rd .eyeMargin k), if a.ready then 1 else 0]
    else
      [3, BitVec.ofNat 8 (l + if s.graniteHeard n then 128 else 0)] ++ ((s.capability n).drop (5 * l)).take 5
  controlBlock 0x66 b

/-- R37: the block that fills the sequence where no packet goes: IDLE, or in training one ordered set in 16. -/
def State.fillWord (s : State) (n l : Nat) : BitVec 64 :=
  let p := s.port n
  if 2 ≤ p.phase ∧ p.phase ≤ 4 ∧ p.txPos = 0 then s.trainSet n l else controlBlock 0x1E []

/-- R37: a number of filling blocks go out. -/
def State.fillBlocks : Nat → Nat → State → State
  | 0, _, s => s
  | k + 1, n, s => State.fillBlocks k n (s.putBlock n 2 (s.fillWord n ((s.port n).txLane % 4)) false)

/-- R30, R37: the transmitter of a port sends blocks: it trains, or is ACTIVE. -/
def State.sending (s : State) (n : Nat) : Bool :=
  s.alive n && (decide (2 ≤ (s.port n).phase ∧ (s.port n).phase ≤ 4) || s.active n)

/-- R37, Table 2.1: the blocks that a port's line has had time for since its counts were taken, beyond those sent. -/
def State.fillDue (s : State) (n : Nat) : Nat :=
  let p := s.port n
  4 * blockTimes (s.rateOf n) (s.aon.mono - p.txBase) - (4 * p.txCount + p.txLane)

/-- R30, R37: the transmitter has gone on filling up to now. DESIGN CHOICE (log 145): how many of the blocks that the
time allows have gone out is a free value. -/
def State.txRun (s : State) (n : Nat) : State :=
  if s.sending n = false ∨ s.fillDue n = 0 then s
  else
    let k := min (Config.fillBlocks s.draws) (s.fillDue n)
    let s := State.fillBlocks k n { s with draws := s.draws + 1 }
    s.setPort n { s.port n with txBase := s.aon.mono, txCount := 0 }

/-- R72: when the blocks already sent will have left, on the model clock. -/
def State.txFree (s : State) (n : Nat) : Nat := (s.port n).txBase + blockSpan (s.rateOf n) (s.port n).txCount

/-- A new packet or sleep set goes out. -/
def State.clearSent (s : State) (n : Nat) : State :=
  s.forEach ports4 (fun s l => s.setLane n l { s.lane n l with sent := [] })

/-- R49: a sleep set on all four lanes, in one block slot behind what was sent. -/
def State.sendOrdered (s : State) (n id : Nat) : State :=
  let s := s.txRun n
  let s := (State.fillBlocks ((4 - (s.port n).txLane % 4) % 4) n s).clearSent n
  let s := s.stripe n (List.replicate 4 (2, controlBlock 0x66 [BitVec.ofNat 8 id]))
  s.setPort n { s.port n with ordered := some id }

/-- R57: a port entry to DETECT: RateMask and EyeFloor are taken, a detect pulse may follow. -/
def State.enterDetect (s : State) (n : Nat) : State :=
  let p := s.port n
  let s := (s.wr .portState n 1).setPort n { p with
    phase := 1, mask := s.rd .rateMask n, step := 0, fast := false, idle := .none, quiet := false, term := true,
    since := s.aon.mono, asm := none, done := [] }
  s.forEach ports4 (fun s l => s.setLane n l { s.lane n l with floor := s.rd .eyeFloor n })

/-- The write that waits for a sleep handshake. -/
def SleepAsk.waiter : SleepAsk → Option Env
  | .host e => some e
  | .both e _ => some e
  | .domain _ => none

/-- The write that asked for sleep, if one did, is answered. -/
def State.answerAsk (s : State) (n : Nat) (a : Option SleepAsk) (st : Status) : State :=
  match a.bind SleepAsk.waiter with
  | some e => s.complete (reqOf e 0x11 .sleepRequest n) (Reply.of st)
  | none => s

/-- R28, R36: a port in DISABLED idles with its termination off; a packet it cuts off is bad (log 34). A sleep that was being
entered ends, and a write that waits for it is answered E_STATE (DESIGN CHOICE, log 184). -/
def State.enterDisabled (s : State) (n : Nat) : State :=
  let p := s.port n
  let s := if p.asm.isSome then s.count .badPackets n else s
  let s := (s.wr .portState n 0).setPort n { p with
    phase := 0, step := 0, fast := false, idle := .none, quiet := false, term := false, since := s.aon.mono,
    asm := none, done := [], asked := none, ordered := none }
  s.answerAsk n p.asked .state

/-- The bring-up of a port starts when its domain enters ON (R36, R269). -/
def State.startPort (s : State) (n : Nat) : State :=
  if s.rd .portEnable n = 0 then s.enterDisabled n
  else if s.rd .portState n = 7 then s
  else s.enterDetect n

/-- What leaving ACTIVE brings in the network, by whatever way: queues, learned routes, path, ANNOUNCE (R70 to R72). -/
def State.netLeave (s : State) (n : Nat) : State :=
  let up := s.upstream
  let s := (s.wr .lineRate n 0).wr .rxLatency n 0
  let s := s.emptyQueues n
  let s := s.setPort n { s.port n with hello := none, heard := false, nbr := none, better := 0, asm := none, done := [] }
  let s := ((s.clearLearned n).setChildren).reselect none
  if s.upstream = up then s.announce else s

/-- R42: a port leaves ACTIVE: EV_LINK_DOWN, LinkDowns, 2 ms of electrical idle. A sleep request in progress ends, and
one that waits for its answer is answered E_STATE (log 140). -/
def State.linkDown (s : State) (n : Nat) : State :=
  let p := s.port n
  let s := (s.count .linkDowns n).raise .linkDown [n]
  let s := if p.asm.isSome then s.count .badPackets n else s
  let s := (s.wr .portState n 1).setPort n { s.port n with
    phase := 0, step := 0, fast := false, idle := .down, idleSince := s.aon.mono, asked := none, ordered := none }
  let s := s.forEach ports4 (fun s l => s.setLane n l { s.lane n l with
    locked := false, goodRun := 0, hist := [], align := none, marks := [], slot := 0, missed := 0, synced := false, fifo := [],
    granite := [], granRun := 0, ackRun := 0, ready := false, farReady := false, farLocked := false })
  (s.netLeave n).answerAsk n p.asked .state

/-- The own check and effect of a PortEnable write (R36, R42). -/
def portEnableEff (n : Nat) (v : Val) (s : State) : State × Ans :=
  if !rangeOk .portEnable v then (s, ans .range)
  else
    let s := s.wrv .portEnable n v
    if !s.alive n then (s, ans .ok)
    else if v.headD 0 = 0 then
      (if s.active n then s.linkDown n
        else if (s.port n).idle = .down then s else s.enterDisabled n, ans .ok)
    else (if s.rd .portState n = 0 then s.enterDetect n else s, ans .ok)

/-- PORT_ENABLE_WRITE (R36). -/
def execPortEnableWrite (e : Env) (port : Fin 4) (v : Bytes) (s : State) : Host.Outcome State Fault Refusal :=
  .next (s.writeCmd e .portEnable port.val v (portEnableEff port.val))

/-- DETECT_PULSE (R36): a pulse that finds the far end's termination starts 2 ms of electrical idle. -/
def detectPulseEff (n : Nat) (terminated : Bool) (s : State) : State :=
  let p := s.port n
  if s.alive n && decide (p.phase = 1 ∧ p.idle = .none) && terminated then
    s.setPort n { p with idle := .detect, idleSince := s.aon.mono }
  else s

/-- DETECT_PULSE (R36). -/
def execDetectPulse (port : Fin 4) (terminated : Bool) (s : State) : Host.Outcome State Fault Refusal :=
  .next (detectPulseEff port.val terminated s)

/-- R17: the RC fallback runs alone, with no clock on REFCLK: no port trains. -/
def State.rcAlone (s : State) : Bool := s.aon.slow = .rc && !s.aon.refclk

/-- R40: a rate step of code r starts. -/
def State.startStep (s : State) (n r : Nat) (fast : Bool) : State :=
  let p := s.port n
  let quiet := !p.mask.testBit (r - 1)
  let s := s.setPort n { p with
    step := r, fast := fast, stepStart := s.aon.mono, quiet := quiet, phase := 0,
    idle := if quiet then .step else .none, idleSince := s.aon.mono }
  s.seed n

/-- R40, R41: a step that is not the last raises EV_LINK_RATE_FALLBACK and counts RateFallbacks; the step of a RESUME does so
at every rate code (R53; DESIGN CHOICE, log 183). -/
def State.fallback (s : State) (n : Nat) : State :=
  let p := s.port n
  if p.fast || decide (1 < p.step) then (s.count .rateFallbacks n).raise .linkRateFallback [n] else s

/-- R41: every step of the cycle has failed: 100 ms of electrical idle, in which PortState keeps its code (log 32). -/
def State.trainFail (s : State) (n : Nat) : State :=
  ((s.count .trainFailures n).raise .linkTrainFail [n]).setPort n { s.port n with
    step := 0, phase := 0, fast := false, quiet := false, idle := .fail, idleSince := s.aon.mono }

/-- RATE_STEP_START (R40, R41, R53): the DETECT idle or the step before ends, and the next step, the full bring-up after
a failed RESUME, or the end of the cycle follows. A full bring-up starts at code 3; a step whose rate is not in RateMask
passes in electrical idle. On the RC fallback alone no port trains (R17): its cycle ends in DETECT. -/
def rateStepStartEff (n : Nat) (s : State) : State :=
  let p := s.port n
  if !s.alive n then s
  else if p.idle = .detect then
    let s := s.untilMono (p.idleSince + ms 2)
    if s.rcAlone then s
    else if p.fast then s.startStep n (SMap.get s.aon.lastRate n 1) true
    else s.startStep n 3 false
  else if p.step = 0 ∨ s.active n then s
  else
    let s := s.untilMono (p.stepStart + ms 26)
    let s := if p.quiet then s else s.fallback n
    if s.rcAlone then s.enterDetect n
    else if p.fast then s.startStep n 3 false
    else if p.step ≤ 1 then s.trainFail n
    else s.startStep n (p.step - 1) false

/-- RATE_STEP_START (R40). -/
def execRateStepStart (port : Fin 4) (s : State) : Host.Outcome State Fault Refusal :=
  .next (rateStepStartEff port.val s)

/-- The port enters a part of its bring-up; PortState shows it, but for RESUME, which reads 8 throughout (Table 2.4). The
spacing of ALIGN starts anew in Granite and in ACTIVE (DESIGN CHOICE, log 185). -/
def State.enterPhase (s : State) (n ph : Nat) : State :=
  let s := s.txRun n
  let s := s.setPort n { s.port n with phase := ph, since := s.aon.mono, idle := .none, txPos := 0 }
  let s := s.forEach ports4 (fun s l => s.setLane n l { s.lane n l with txSlot := 0 })
  if (s.port n).fast then s else s.wr .portState n ph

/-- SERDES_PLL_LOCK (R36, R18, R31, R48, R53): Quartz begins; a RESUME loads the snapshots. The transmit coefficients stay as
the last training left them (R38; DESIGN CHOICE, log 186). -/
def serdesPllLockEff (n : Nat) (s : State) : State :=
  let p := s.port n
  if s.alive n && decide (p.step ≠ 0 ∧ p.phase = 0) && !p.quiet && !s.active n && !s.rcAlone then
    let s := (s.enterPhase n 2).seed n
    s.forEach ports4 (fun s l => s.setLane n l { s.lane n l with
      locked := false, goodRun := 0, hist := [], farLocked := false, farReady := false, ready := false,
      granite := [], granRun := 0, ackRun := 0, align := none, marks := [], slot := 0, missed := 0, synced := false, fifo := [], bip := 0,
      resp := 0,
      eq := if p.fast then SMap.find s.aon.snaps (4 * n + l) else none, heldEq := false })
  else s

/-- SERDES_PLL_LOCK (R36). -/
def execSerdesPllLock (port : Fin 4) (s : State) : Host.Outcome State Fault Refusal :=
  .next (serdesPllLockEff port.val s)

/-- The marker of each lane of a port, when all four have one of equal MarkerCount (R34). -/
def State.markers (s : State) (n : Nat) : Option (List Nat) :=
  match (s.lane n 0).align, (s.lane n 1).align, (s.lane n 2).align, (s.lane n 3).align with
  | some a, some b, some c, some d =>
    if a.1 = b.1 ∧ a.1 = c.1 ∧ a.1 = d.1 then some [a.2, b.2, c.2, d.2] else none
  | _, _, _, _ => none

/-- R34: the delay of each lane after the earliest, in ps. -/
def skews (l : List Nat) : List Nat := l.map (fun t => t - l.foldl min (l.headD 0))

/-- R34: the lanes are aligned: equal markers within 120 ns. -/
def State.aligned (s : State) (n : Nat) : Bool :=
  match s.markers n with
  | some l => (skews l).all (· ≤ 120000)
  | none => false

/-- R34: the newest marker of a bring-up that all four lanes have had, by its arrival on each. -/
def State.commonMark (s : State) (n : Nat) : Option (List Nat) :=
  let at_ := fun (l c : Nat) => ((s.lane n l).marks.find? (fun m => m.1 = c)).map (fun m => m.2)
  ((s.lane n 0).marks.map (fun m => m.1)).findSome? (fun c =>
    match at_ 0 c, at_ 1 c, at_ 2 c, at_ 3 c with
    | some a, some b, some d, some e => some [a, b, d, e]
    | _, _, _, _ => none)

/-- R34: the first lane of a port whose skew is above 120 ns, whatever markers the lanes have had since. -/
def State.skewedLane (s : State) (n : Nat) : Option Nat :=
  match s.commonMark n with
  | some l => ports4.find? (fun i => decide (120000 < (skews l).getD i 0))
  | none => none

/-- The time limit of the state in progress, on the model clock (Table 2.4). -/
def Port.limit (p : Port) : Nat :=
  if p.phase = 2 then p.stepStart + ms 4 else if p.phase = 3 then p.since + ms 20 else p.since + ms 2

/-- STATE_TIME_LIMIT (R40, R34): the port idles until the step ends and counts the fallback; PortState keeps the code of
the state that ran out (log 32). -/
def stateTimeLimitEff (n : Nat) (s : State) : State :=
  let p := s.port n
  if s.alive n && decide (2 ≤ p.phase ∧ p.step ≠ 0) then
    let s := s.untilMono p.limit
    let s := match s.skewedLane n with
      | some l => if p.phase = 4 then s.raise .linkSkew [n, l] else s
      | none => s
    let s := s.fallback n
    s.setPort n { s.port n with phase := 0, quiet := true, idle := .step, idleSince := s.aon.mono }
  else s

/-- STATE_TIME_LIMIT (R40). -/
def execStateTimeLimit (port : Fin 4) (s : State) : Host.Outcome State Fault Refusal :=
  .next (stateTimeLimitEff port.val s)

/-- TRAIN_IDLE_END (R41): 100 ms after a failed cycle the port returns to DETECT. -/
def trainIdleEndEff (n : Nat) (s : State) : State :=
  if s.alive n && decide ((s.port n).idle = .fail) then
    (s.untilMono ((s.port n).idleSince + ms 100)).enterDetect n
  else s

/-- TRAIN_IDLE_END (R41). -/
def execTrainIdleEnd (port : Fin 4) (s : State) : Host.Outcome State Fault Refusal :=
  .next (trainIdleEndEff port.val s)

/-- R37: the lock of a lane after one more block; the second answer tells that lock was lost. -/
def Lane.judge (a : Lane) (good : Bool) : Lane × Bool :=
  if a.locked then
    let h := ((!good) :: a.hist).take 64
    if 16 ≤ (h.filter id).length then ({ a with locked := false, goodRun := 0, hist := [] }, true)
    else ({ a with hist := h }, false)
  else if good then
    (if 64 ≤ a.goodRun + 1 then { a with locked := true, goodRun := 64, hist := [] }
      else { a with goodRun := a.goodRun + 1 }, false)
  else ({ a with goodRun := 0 }, false)

/-- R28, R37: the block received k blocks ago proves to be invalid: its mark becomes that of a bad header. -/
def Lane.amend (a : Lane) (k : Nat) : Lane × Bool :=
  let h := a.hist.set k true
  if 16 ≤ (h.filter id).length then ({ a with locked := false, goodRun := 0, hist := [] }, true) else ({ a with hist := h }, false)

/-- R55: windows of 1,048,576 blocks that have passed end, and the lane's count of bad headers starts again. -/
def State.berRoll (s : State) (n l : Nat) : State :=
  let a := s.lane n l
  let w := blockSpan (s.rateOf n) 1048576
  if s.aon.mono < a.berAt + w then s
  else s.setLane n l { a with badWin := 0, berAt := a.berAt + (s.aon.mono - a.berAt) / w * w }

/-- R27, R37, R56: an invalid block is counted, marked as a bad header and counted against HighBerThreshold. -/
def State.badBlock (s : State) (n l : Nat) (mark : Lane → Lane × Bool) : State :=
  let r := mark (s.lane n l)
  let s := (s.setLane n l { r.1 with badWin := r.1.badWin + (if s.active n then 1 else 0) }).count .invalidHeaders
    (4 * n + l)
  let s := if r.2 then s.count .blockLockLosses (4 * n + l) else s
  if s.active n then
    (if s.rd .highBerThreshold n < (s.lane n l).badWin then (s.raise .linkHighBer [n, l]).linkDown n
      else if r.2 then s.linkDown n else s)
  else s

/-- R46: enough blocks of the window so far belong to packets for it to be data-carrying. -/
def Lane.carries (a : Lane) : Bool := 16384 ≤ a.winData

/-- R46, R47: one more block of the window belongs to a packet; an equaliser held at its snapshot is released as soon as
the window is data-carrying. -/
def Lane.packetBlock (a : Lane) : Lane :=
  let a := { a with winData := a.winData + 1 }
  if a.carries && !a.winLow && !a.winBip then { a with heldEq := false } else a

/-- R28: one block of the sequence, from lane l, takes part in the packet being received; a data block outside a packet
is invalid after all, and a TERM_k there has no effect (log 141). -/
def State.sequenceBlock (s : State) (n l hdr : Nat) (w : BitVec 64) : State :=
  let p := s.port n
  let t := (blockByte w 0).toNat
  let inPacket := p.asm.isSome || (hdr = 2 && t = 0x5A)
  let s := if inPacket then s.setLane n l (s.lane n l).packetBlock else s
  let close := match p.asm with
    | some b => p.done ++ [(b, true)]
    | none => p.done
  if hdr = 1 then
    match p.asm with
    | some b => s.setPort n { p with asm := some (b ++ blockBytes w) }
    | none => s.badBlock n l (fun a => a.amend a.fifo.length)
  else if hdr = 2 && t = 0x5A then
    s.setPort n { p with asm := some ((blockBytes w).drop 1), done := close }
  else if hdr = 2 && decide (0xC0 ≤ t ∧ t ≤ 0xC7) then
    match p.asm with
    | some b => s.setPort n { p with asm := none, done := p.done ++ [(b ++ ((blockBytes w).drop 1).take (t - 0xC0), false)] }
    | none => s
  else s.setPort n { p with asm := none, done := close }

/-- Table 2.2: the block is an ALIGN block. -/
def isAlign (hdr : Nat) (w : BitVec 64) : Bool := hdr = 2 && (blockByte w 0).toNat = 0x3C

/-- R32: blocks that have arrived on their lanes are taken in sequence, lane k mod 4 next; ALIGN takes no part in it. -/
def State.unstripe (fuel n : Nat) (s : State) : State :=
  match fuel with
  | 0 => s
  | k + 1 =>
    let p := s.port n
    let l := p.rxLane % 4
    match (s.lane n l).fifo with
    | [] => s
    | (hdr, w) :: t =>
      let s := s.setLane n l { s.lane n l with fifo := t }
      if isAlign hdr w then State.unstripe k n s
      else State.unstripe k n ((s.setPort n { p with rxLane := (l + 1) % 4 }).sequenceBlock n l hdr w)

/-- R36, R37: Quartz is left when every local lane is locked and RX_LOCKED has come on all four lanes. -/
def State.quartzExit (s : State) (n : Nat) : State :=
  if (s.port n).phase = 2 && !s.rcAlone && ports4.all (fun l => (s.lane n l).locked && (s.lane n l).farLocked) then
    s.enterPhase n 3
  else s

/-- R33, R35: the slot of the next block; the second answer tells that a fourth marker running was missed. In ACTIVE
(`strict`) the first marker gives the slot of the next, and from then on only one at its expected slot is found. -/
def Lane.slotStep (a : Lane) (isAlign strict : Bool) (period : Nat) : Lane × Bool :=
  if isAlign && (!strict || !a.synced || decide (period ≤ a.slot + 1)) then
    ({ a with slot := 0, missed := 0, synced := true }, false)
  else if period ≤ a.slot + 1 then
    ({ a with slot := 0, missed := if 4 ≤ a.missed + 1 then 0 else a.missed + 1 }, decide (4 ≤ a.missed + 1))
  else ({ a with slot := a.slot + 1 }, false)

/-- R30, R33, R35: a lane takes a block; `take` where it joins the lane's sequence. -/
def Lane.receive (a : Lane) (hdr : Nat) (raw w : BitVec 64) (scr : BitVec 58) (take : Bool) : Lane :=
  { a with
    rxScr := scr
    bip := if isAlign hdr w then a.bip else a.bip ^^^ blockParity raw
    fifo := if take then a.fifo ++ [(hdr, w)] else a.fifo }

/-- BLOCK_RECEIVED (R26 to R28, R30, R32, R35, R37, R55, R56). In Quartz, Basalt and Granite a data block counts as a valid
header (DESIGN CHOICE, log 169). -/
def blockReceivedEff (n l : Nat) (blk : BitVec 66) (s : State) : State :=
  let st := s.rd .portState n
  if !(s.alive n && decide ((2 ≤ (s.port n).phase ∧ (s.port n).phase ≤ 4) ∨ st = 5 ∨ st = 6)) then s
  else
    let s := (s.txRun n).berRoll n l
    let a := s.lane n l
    let hdr := (blk.extractLsb' 0 2).toNat
    let raw : BitVec 64 := blk.extractLsb' 2 64
    let d := descramble a.rxScr raw
    let good := blockValid hdr d.1
    let r := a.slotStep (isAlign hdr d.1) (s.active n) (if s.active n then 16384 else 256)
    let take := decide (st = 5 ∨ st = 6) || (decide ((s.port n).phase = 4) && a.align.isSome)
    let s := s.setLane n l (r.1.receive hdr raw d.1 d.2 take)
    let wasActive := s.active n
    let s := if good then
        let j := (s.lane n l).judge true
        let s := s.setLane n l j.1
        if j.2 then (let s := s.count .blockLockLosses (4 * n + l); if s.active n then s.linkDown n else s) else s
      else s.badBlock n l (fun a => a.judge false)
    let s := if wasActive && s.active n && r.2 then s.linkDown n else s
    if s.active n || s.rd .portState n = 6 then State.unstripe 4096 n s else s.quartzExit n

/-- BLOCK_RECEIVED (R26). -/
def execBlockReceived (port lane : Fin 4) (blk : BitVec 66) (s : State) : Host.Outcome State Fault Refusal :=
  .next (blockReceivedEff port.val lane.val blk s)

/-- R39: the record that the four lanes' Granite sets carry. -/
def State.graniteRecord (s : State) (n : Nat) : Bytes :=
  ports4.flatMap (fun l => ((s.lane n l).granite.drop 1).take 5)

/-- R39: the far end's record lets the port leave Granite: its RateMask holds the rate, its reserved bytes are 0, and so are
the reserved bits of RateMask and Flags (DESIGN CHOICE, log 166). -/
def recordOk (b : Bytes) (rate : Nat) : Bool :=
  (field b 6 1).testBit (rate - 1) && decide (field b 6 1 < 8 ∧ field b 7 1 < 8) && (b.drop 12).all (· = 0)

/-- R34, R36, R39, R70: a port reaches ACTIVE. Each lane's sequence goes on behind the marker by which it was aligned. -/
def State.enterActive (s : State) (n : Nat) : State :=
  let s := s.txRun n
  let p := s.port n
  let s := ((s.wr .portState n 5).wr .lineRate n p.step).wrv .farCapability n
    ((s.graniteRecord n).map BitVec.toNat)
  let s := { s with
    aon := { s.aon with lastRate := SMap.put s.aon.lastRate n p.step }
    draws := s.draws + 1 }.wr .rxLatency n (Config.rxLatency s.draws).toNat
  let s := s.setPort n { s.port n with
    phase := 0, step := 0, fast := false, quiet := false, idle := .none, since := s.aon.mono, rxLane := 0,
    helloAt := s.aon.mono, hello := none, heard := false, nbr := none, better := 0, asked := none, ordered := none, asm := none, done := [] }
  let s := s.forEach ports4 (fun s l => s.setLane n l { s.lane n l with
    slot := 0, missed := 0, synced := false, txSlot := 0, winAt := s.aon.mono, winData := 0, winLow := false,
    winBip := false, badWin := 0, berAt := s.aon.mono, floor := s.rd .eyeFloor n })
  (s.raise .linkUp [n]).announce

/-- R39: Granite is left when 8 identical sets with ACK have come on every lane and the lanes are aligned. -/
def State.graniteExit (s : State) (n : Nat) : State :=
  if (s.port n).phase = 4 && !s.rcAlone && ports4.all (fun l => 8 ≤ (s.lane n l).ackRun) && s.aligned n
      && recordOk (s.graniteRecord n) (s.port n).step then s.enterActive n
  else s

/-- R56: one lane at the end of a second of calendar time. -/
def State.bipSecond (s : State) (k : Nat) : State :=
  let n := k / 4
  let l := k % 4
  if s.alive n then
    let e := (s.lane n l).bipSec
    let s := s.setLane n l { s.lane n l with bipSec := 0 }
    if s.rd .bipWarnThreshold n < e && !s.aon.bipTold.contains k then s.raise .linkBip [n, l] else s
  else s

/-- R56: a port's lanes go with their domain, and are judged for the second so far. -/
def State.bipLeave (s : State) (n : Nat) : State :=
  s.forEach ports4 (fun s l =>
    if s.rd .bipWarnThreshold n < (s.lane n l).bipSec && !s.aon.bipTold.contains (4 * n + l) then
      { s with aon := { s.aon with bipTold := s.aon.bipTold ++ [4 * n + l] } }.raise .linkBip [n, l]
    else s)

/-- A second in 2^-32 ns. -/
def secondFine : Int := 1000000000 * 4294967296

/-- R56: a second of calendar time has ended: every lane is judged. -/
def State.bipJudge (s : State) : State :=
  let s := s.forEach (List.range 16) State.bipSecond
  { s with aon := { s.aon with bipSecond := s.cal / secondFine, bipTold := [] } }

/-- R56: the lanes are judged if the second of their BIP errors has passed. -/
def State.bipRoll (s : State) : State := if s.cal / secondFine = s.aon.bipSecond then s else s.bipJudge

/-- ALIGN_RECEIVED (R34, R35, R56): the marker's payload; its block's slot is judged as it is received. A Skew above 65,535
ps shows 65,535 (log 142). -/
def alignReceivedEff (n l : Nat) (payload : BitVec 64) (arrival : Nat) (s : State) : State :=
  let st := s.rd .portState n
  if !(s.alive n && decide ((s.port n).phase = 4 ∨ st = 5 ∨ st = 6)) then s
  else
    let s := s.bipRoll
    let b := blockBytes payload
    let a := s.lane n l
    let diff := popCount 8 (a.bip ^^^ b.getD 4 0).toNat
    let s := (s.setLane n l { a with
      align := some (field b 2 2, arrival)
      marks := if (s.port n).phase = 4 then (field b 2 2, arrival) :: a.marks else a.marks
      bip := 0, bipSec := a.bipSec + diff
      fifo := if s.active n || st = 6 then a.fifo else []
      winBip := a.winBip || decide (diff ≠ 0) }).countBy .bipErrors (4 * n + l) diff
    let s := match s.markers n with
      | some m => s.forEach ports4 (fun s i => s.wr .skew (4 * n + i) (min ((skews m).getD i 0) 65535))
      | none => s
    s.graniteExit n

/-- ALIGN_RECEIVED (R35). -/
def execAlignReceived (port lane : Fin 4) (payload : BitVec 64) (arrival : Nat) (s : State) :
    Host.Outcome State Fault Refusal :=
  .next (alignReceivedEff port.val lane.val payload arrival s)

/-- Table 2.5: one coefficient's request, its new value and the response. -/
def coefStep (req v lo hi preset : Nat) : Nat × Nat :=
  if req = 1 then (if hi ≤ v then (v, 3) else (v + 1, 1))
  else if req = 2 then (if v ≤ lo then (v, 2) else (v - 1, 1))
  else if req = 3 then (preset, 1)
  else (v, 0)

/-- R402: the main cursor in 1/6,400 of the swing: what a pre-cursor of 0.20 in 16 steps and a post-cursor of 0.35 in 32
steps leave of it. -/
def Lane.main (a : Lane) : Nat := 6400 - 80 * a.pre - 70 * a.post

/-- R38, R402: a Basalt request is applied to the transmit coefficients and answered; a step of pre- or post-cursor takes its
share from the main cursor, and one of the main cursor moves the swing (DESIGN CHOICE, log 175). -/
def Lane.basalt (a : Lane) (req : Nat) : Lane :=
  let x := coefStep (req % 4) a.pre 0 16 ((Config.txPreset 0).toNat % 17)
  let y := coefStep (req / 4 % 4) a.swing 0 Config.mainSteps.toNat ((Config.txPreset 1).toNat % (Config.mainSteps.toNat + 1))
  let z := coefStep (req / 16 % 4) a.post 0 32 ((Config.txPreset 2).toNat % 33)
  { a with pre := x.1, swing := y.1, post := z.1, resp := x.2 + 4 * y.2 + 16 * z.2 }

/-- R39: a Granite set counts towards 8 identical sets; the ACK bit is byte 2 bit 7. -/
def Lane.graniteSet (a : Lane) (c : Bytes) : Lane :=
  let ack := (c.getD 0 0).getLsbD 7
  let c := match c with
    | [] => []
    | x :: t => (x &&& 0x7F) :: t
  let same := decide (a.granite = c)
  { a with
    granite := c
    granRun := if same then min (a.granRun + 1) 255 else 1
    ackRun := if ack then (if same then min (a.ackRun + 1) 255 else 1) else 0 }

/-- R36, R38: Basalt is left when RX_READY holds locally and has come on all four lanes. -/
def State.basaltExit (s : State) (n : Nat) : State :=
  if (s.port n).phase = 3 && !s.rcAlone && ports4.all (fun l => (s.lane n l).ready && (s.lane n l).farReady) then s.enterPhase n 4
  else s

/-- ORDERED_SET_RECEIVED (R36 to R39). -/
def orderedSetReceivedEff (n l : Nat) (payload : BitVec 64) (eye : BitVec 8) (s : State) : State :=
  let ph := (s.port n).phase
  if !(s.alive n && decide (2 ≤ ph ∧ ph ≤ 4)) then s
  else
    let s := s.txRun n
    let b := blockBytes payload
    let a := s.lane n l
    let s := s.wr .eyeMargin (4 * n + l) eye.toNat
    if field b 1 1 = 1 ∧ ph = 2 then
      (s.setLane n l { a with farLocked := (b.getD 4 0).getLsbD 0 }).quartzExit n
    else if field b 1 1 = 2 ∧ ph = 3 then
      (s.setLane n l { a.basalt (field b 3 1) with
        farReady := (b.getD 6 0).getLsbD 0, ready := a.ready || decide (a.floor ≤ eye.toNat) }).basaltExit n
    else if field b 1 1 = 3 ∧ ph = 4 then (s.setLane n l (a.graniteSet (b.drop 2))).graniteExit n
    else s

/-- ORDERED_SET_RECEIVED (R37). -/
def execOrderedSetReceived (port lane : Fin 4) (payload : BitVec 64) (eye : BitVec 8) (s : State) :
    Host.Outcome State Fault Refusal :=
  .next (orderedSetReceivedEff port.val lane.val payload eye s)

/-- LINK_DOWN_IDLE_END (R42): after 2 ms of idle the port enters DETECT, or DISABLED. -/
def linkDownIdleEndEff (n : Nat) (s : State) : State :=
  if s.alive n && decide ((s.port n).idle = .down) then
    let s := s.untilMono ((s.port n).idleSince + ms 2)
    if s.rd .portEnable n = 0 then s.enterDisabled n else s.enterDetect n
  else s

/-- LINK_DOWN_IDLE_END (R42). -/
def execLinkDownIdleEnd (port : Fin 4) (s : State) : Host.Outcome State Fault Refusal :=
  .next (linkDownIdleEndEff port.val s)

/-- The own check and effect of a Retrain write (R42): on a port that is not ACTIVE it answers E_OK and does nothing
(log 147). -/
def retrainEff (n : Nat) (v : Val) (s : State) : State × Ans :=
  if !rangeOk .retrain v then (s, ans .range)
  else (if v.headD 0 = 1 ∧ s.active n then s.linkDown n else s, ans .ok)

/-- RETRAIN (R42). -/
def execRetrain (e : Env) (port : Fin 4) (v : Bytes) (s : State) : Host.Outcome State Fault Refusal :=
  .next (s.writeCmd e .retrain port.val v (retrainEff port.val))

/-- BER_WINDOW_END (R55): the lane's window of 1,048,576 blocks ends and its count of bad headers starts again. -/
def berWindowEndEff (n l : Nat) (s : State) : State :=
  if s.alive n && s.active n then
    let s := s.untilMono ((s.lane n l).berAt + blockSpan (s.rateOf n) 1048576)
    s.berRoll n l
  else s

/-- BER_WINDOW_END (R55). -/
def execBerWindowEnd (port lane : Fin 4) (s : State) : Host.Outcome State Fault Refusal :=
  .next (berWindowEndEff port.val lane.val s)

/-- BIP_SECOND_END (R56): the second of the lanes' BIP errors ends; a lane with more of them than BipWarnThreshold raises
EV_LINK_BIP once. -/
def bipSecondEndEff (s : State) : State :=
  (s.elapse ((s.aon.bipSecond + 1) * secondFine - s.cal).toNat).bipJudge

/-- BIP_SECOND_END (R56). -/
def execBipSecondEnd (s : State) : Host.Outcome State Fault Refusal := .next (bipSecondEndEff s)

/-- ADAPT_WINDOW_END (R46, R47, R57): a data-carrying window updates the snapshot. -/
def adaptWindowEndEff (n l coef : Nat) (s : State) : State :=
  if !(s.alive n && s.active n) then s
  else
    let s := s.untilMono ((s.lane n l).winAt + blockSpan (s.rateOf n) 65536)
    let a := s.lane n l
    let ok := a.carries && !a.winLow && !a.winBip
    let s := if ok then
        { s with aon := { s.aon with snaps := SMap.put s.aon.snaps (4 * n + l) coef } }.wr .snapshotValid (4 * n + l) 1
      else s
    s.setLane n l { a with
      eq := if a.heldEq then a.eq else some coef
      winAt := s.aon.mono, winData := 0, winLow := false, winBip := false
      floor := s.rd .eyeFloor n }

/-- ADAPT_WINDOW_END (R46). -/
def execAdaptWindowEnd (port lane : Fin 4) (coef : Nat) (s : State) : Host.Outcome State Fault Refusal :=
  .next (adaptWindowEndEff port.val lane.val coef s)

/-- EYE_BELOW_FLOOR (R46, R47): in a window that does not carry data, by the blocks and BIP errors it has had so far (log 143),
the snapshot is reloaded and held; a lane with none goes to preset and is held there (DESIGN CHOICE, log 167). -/
def eyeBelowFloorEff (n l eye : Nat) (s : State) : State :=
  let a := s.lane n l
  if !(s.alive n && s.active n && decide (eye < a.floor)) then s
  else
    let s := (s.wr .eyeMargin (4 * n + l) eye).setLane n l { a with winLow := true }
    if a.carries && !a.winBip then s
    else
      let s := s.setLane n l { s.lane n l with eq := SMap.find s.aon.snaps (4 * n + l), heldEq := true }
      (s.count .adaptReverts (4 * n + l)).raise .adaptRevert [n, l]

/-- EYE_BELOW_FLOOR (R47). -/
def execEyeBelowFloor (port lane : Fin 4) (eye : BitVec 8) (s : State) : Host.Outcome State Fault Refusal :=
  .next (eyeBelowFloorEff port.val lane.val eye.toNat s)

/-- R49: the port sends SLEEP_REQ on all four lanes and waits for the answer. -/
def State.askSleep (s : State) (n : Nat) (a : SleepAsk) : State :=
  let s := s.sendOrdered n 0x10
  s.setPort n { s.port n with asked := some a, askedAt := s.aon.mono, nak := false }

/-- The own check and effect of a SleepRequest write (R49): the answer follows the handshake. -/
def sleepRequestEff (e : Env) (n : Nat) (v : Val) (s : State) : State × Ans :=
  if !s.active n then (s, ans .state)
  else if !rangeOk .sleepRequest v then (s, ans .range)
  else if v.headD 0 = 0 then (s, ans .ok)
  else if (s.port n).asked.isSome then (s, ans .busy)
  else (s.askSleep n (.host e), .later)

/-- SLEEP_REQUEST (R49). -/
def execSleepRequest (e : Env) (port : Fin 4) (v : Bytes) (s : State) : Host.Outcome State Fault Refusal :=
  .next (s.writeCmd e .sleepRequest port.val v (sleepRequestEff e port.val))

/-- R49, R50: a port ends its traffic for sleep; a packet being received goes on. -/
def State.netSleeps (s : State) (n : Nat) : State :=
  let s := s.wr .portState n 6
  let p := s.port n
  let s := (s.setPort n { p with since := s.aon.mono }).netLeave n
  s.setPort n { s.port n with asm := p.asm, done := p.done }

/-- R49: SLEEP_ACK was sent or received: no new packet starts, a packet being received goes on to its end, 64 IDLE blocks go
out, electrical idle follows. -/
def State.enterSleep (s : State) (n : Nat) : State :=
  (State.fillBlocks 64 n (s.txRun n)).netSleeps n

/-- SLEEP_REQ_RECEIVED (R49, R50): ACK, or NAK while packets are queued; crossed requests count as ACK. -/
def sleepReqReceivedEff (n : Nat) (s : State) : State :=
  let p := s.port n
  if !(s.alive n && s.active n) then s
  else if p.asked.isSome then s.enterSleep n
  else if p.queue ≠ [] then (s.count .sleepNaks n).sendOrdered n 0x12
  else (s.sendOrdered n 0x11).enterSleep n

/-- SLEEP_REQ_RECEIVED (R49). -/
def execSleepReqReceived (port : Fin 4) (s : State) : Host.Outcome State Fault Refusal :=
  .next (sleepReqReceivedEff port.val s)

/-- SLEEP_ACK_RECEIVED (R49). -/
def sleepAckReceivedEff (n : Nat) (s : State) : State :=
  if s.alive n && s.active n && (s.port n).asked.isSome then s.enterSleep n else s

/-- SLEEP_ACK_RECEIVED (R49). -/
def execSleepAckReceived (port : Fin 4) (s : State) : Host.Outcome State Fault Refusal :=
  .next (sleepAckReceivedEff port.val s)

/-- SLEEP_NAK_RECEIVED (R50): the request ends: E_BUSY to a write, a refusal of the domain's entry. -/
def sleepNakReceivedEff (n : Nat) (s : State) : State :=
  let p := s.port n
  if !(s.alive n && s.active n) then s
  else
    match p.asked with
    | none => s
    | some a =>
      let nak := match a with | .host _ => p.nak | _ => true
      (s.setPort n { p with asked := none, ordered := none, nak := nak }).answerAsk n p.asked .busy

/-- SLEEP_NAK_RECEIVED (R50). -/
def execSleepNakReceived (port : Fin 4) (s : State) : Host.Outcome State Fault Refusal :=
  .next (sleepNakReceivedEff port.val s)

/-- R28, R49, R50: electrical idle: termination off, LINK_SLEEP, EV_LINK_SLEEP; a packet cut off by it is bad; a waiting
write is answered E_OK, also where the T9 sleeps alone (DESIGN CHOICE, log 168). -/
def State.linkSleep (s : State) (n : Nat) : State :=
  let p := s.port n
  let s := if p.asm.isSome then s.count .badPackets n else s
  let s := (s.wr .portState n 7).setPort n { p with
    term := false, asm := none, asked := none, ordered := none, phase := 0, step := 0, since := s.aon.mono }
  (s.raise .linkSleep [n]).answerAsk n p.asked .ok

/-- SLEEP_REQ_TIMEOUT (R28, R50): no answer in 100 µs, and the T9 enters LINK_SLEEP alone; a packet that this cuts off is bad
(log 34). -/
def sleepReqTimeoutEff (n : Nat) (s : State) : State :=
  if s.alive n && s.active n && (s.port n).asked.isSome then
    ((s.untilMono ((s.port n).askedAt + us 100)).netSleeps n).linkSleep n
  else s

/-- SLEEP_REQ_TIMEOUT (R50). -/
def execSleepReqTimeout (port : Fin 4) (s : State) : Host.Outcome State Fault Refusal :=
  .next (sleepReqTimeoutEff port.val s)

/-- SLEEP_ENTRY_DONE (R49). -/
def sleepEntryDoneEff (n : Nat) (s : State) : State :=
  if s.rd .portState n = 6 then s.linkSleep n else s

/-- SLEEP_ENTRY_DONE (R49). -/
def execSleepEntryDone (port : Fin 4) (s : State) : Host.Outcome State Fault Refusal :=
  .next (sleepEntryDoneEff port.val s)

/-- WAKE_BEACON_QUALIFIED (R52): the beacon of a port in LINK_SLEEP is held as a wake level. -/
def wakeBeaconQualifiedEff (n : Nat) (s : State) : State :=
  if s.rd .portState n = 7 ∧ n ∉ s.aon.beacons then
    { s with aon := { s.aon with beacons := s.aon.beacons ++ [n] } }
  else s

/-- WAKE_BEACON_QUALIFIED (R52). -/
def execWakeBeaconQualified (port : Fin 4) (s : State) : Host.Outcome State Fault Refusal :=
  .next (wakeBeaconQualifiedEff port.val s)

/-- PORT_RESUME (R51, R53): a port in LINK_SLEEP whose domain is ON enters RESUME; a local wake first sends the beacon, for
400 µs, in LINK_SLEEP. -/
def portResumeEff (n : Nat) (s : State) : State :=
  if s.alive n && s.rd .portState n = 7 then
    let remote := decide (n ∈ s.power.wakePort)
    let s := { s with power := { s.power with wakePort := s.power.wakePort.filter (· ≠ n) } }
    let began := s.aon.mono
    let s := if remote then s else s.elapse (us 400)
    let s := if remote then s else s.setPort n { s.port n with beacon := some (began, s.aon.mono) }
    let s := s.wr .portState n 8
    let s := s.setPort n { s.port n with
      phase := 1, mask := s.rd .rateMask n, step := 0, fast := (SMap.find s.aon.lastRate n).isSome, idle := .none,
      quiet := false, term := true, since := s.aon.mono }
    let s := s.forEach ports4 (fun s l => s.setLane n l { s.lane n l with floor := s.rd .eyeFloor n })
    s.raise .linkWake [n]
  else s

/-- PORT_RESUME (R53). -/
def execPortResume (port : Fin 4) (s : State) : Host.Outcome State Fault Refusal := .next (portResumeEff port.val s)

end Sys2Proof.Machine
end

