-- ==== Sys2Proof/Machine/Network.lean ====
section
/-! DEFINITION. The Izsor network: packets, forwarding, egress, enumeration and sweeps (R58 to R81). -/

namespace Sys2Proof.Machine

/-- Table 3.5: the DestMode and the payload length of a network control message. -/
def controlForm (chan : Nat) : Option (DestMode × Nat) :=
  if chan = 0xFF01 then some (.linkLocal, 8) else if chan = 0xFF02 then some (.linkLocal, 4)
  else if chan = 0xFF03 then some (.unicast, 4) else if chan = 0xFF04 then some (.unicast, 40)
  else if chan = 0xFF05 then some (.broadcast, 1560) else if chan = 0xFF06 then some (.linkLocal, 1560)
  else none

/-- R59, R60, R63: what is wrong with a packet: the counter it goes to. One too short for a header counts in
PacketCheckErrors, one with several faults once, the header first (log 148). -/
def packetFault (b : Bytes) : Option Ent :=
  let p := Packet.ofBytes b
  let n := field b 10 2
  if b.length < 16 then some .packetCheckErrors
  else if field b 14 2 ≠ crc16 (b.take 14) ∨ field b 0 1 % 16 ≠ 1 then some .headerCheckErrors
  else if b.length ≠ 20 + n ∨ field b (16 + n) 4 ≠ crc32 p.payload ∨ (if p.cls = 0 then 64 else 4096) < n then
    some .packetCheckErrors
  else if p.cls = 0 ∧ p.mode ≠ .linkLocal then some .headerCheckErrors
  else if p.cls = 1 then
    match controlForm p.channel with
    | some f => if f.1 ≠ p.mode ∨ f.2 ≠ n then some .headerCheckErrors else none
    | none => none
  else none

/-- R62, R73, R271: a management packet goes to the core, as a request that waits; one with the REPLY flag is no request and
is ignored (DESIGN CHOICE, log 171). -/
def State.deliverRequest (s : State) (port : Fin 4) (p : Packet) : State :=
  let own := s.rd .deviceAddress 0
  if own = 0xFFFF ∧ ¬ (p.mode = .linkLocal ∧ 0xE000 ≤ p.source ∧ p.source ≤ 0xEFFF) then s.count .noRouteDrops 0
  else if !s.on 9 then s.count .deliveryDrops 0
  else if field p.payload 1 1 % 2 = 1 ∨ p.payload.length < 20 then s
  else
    let e : Env := { via := .izsor port, source := BitVec.ofNat 16 p.source, mode := p.mode,
                     channel := Fin.ofNat 256 p.channel, seq := BitVec.ofNat 16 p.seq }
    s.takeIn e p.payload

/-- R73: a packet of the device's own is delivered by class. Control and time messages have steps of their own. -/
def State.deliver (s : State) (port : Fin 4) (p : Packet) : State :=
  if p.cls = 0 then (if p.channel = 1 ∨ p.channel = 2 ∨ p.channel = 3 then s else s.count .timeMessageErrors 0)
  else if p.cls = 1 then
    (if p.channel < 256 then s.deliverRequest port p
      else if p.channel = 0xFF05 then { s with sweepPkts := s.sweepPkts ++ [p] }
      else s)
  else if p.cls = 2 then (if s.on 6 then s else s.count .deliveryDrops 0)
  else if s.on 9 then s else s.count .deliveryDrops 0

/-- R59, R71: a packet is forwarded on a port with its HopLimit one lower; its reserved bytes go on as 0 (DESIGN CHOICE,
log 187), and a port that is not ACTIVE drops it (DESIGN CHOICE, log 188). -/
def State.forward (s : State) (p : Packet) (n : Nat) : State := s.enqueue n { p with hop := p.hop - 1 } false

/-- R71, R80: a route is written by a host: bit 7 clear and a port 0 to 3. -/
def hostRoute (r : Nat) : Bool := r < 4

/-- R71: a unicast packet. -/
def State.routeUnicast (s : State) (a : Fin 4) (p : Packet) : State :=
  let up := s.upstream
  let fromUp := decide (up = some a.val)
  let s := if p.source < 0x1000 ∧ !fromUp ∧ !hostRoute (s.rdn .routeTable 0 p.source) then
      s.wrn .routeTable 0 p.source (128 + a.val) else s
  let r := s.rdn .routeTable 0 p.dest % 8
  if p.dest = s.rd .deviceAddress 0 then s.deliver a p
  else if p.hop = 0 then s.count .hopLimitDrops 0
  else if 0xE000 ≤ p.dest ∧ p.dest ≤ 0xEFFF then
    match up with
    | some u => if fromUp then s.count .noRouteDrops 0 else s.forward p u
    | none => s.count .noRouteDrops 0
  else if p.dest < 0x1000 ∧ r < 4 ∧ r ≠ a.val then s.forward p r
  else if p.dest < 0x1000 ∧ ¬ r < 4 ∧ !fromUp then
    match up with
    | some u => s.forward p u
    | none => s.count .noRouteDrops 0
  else s.count .noRouteDrops 0

/-- R71, R77: a group or broadcast packet; a SWEEP is forwarded by its own step. -/
def State.routeFlood (s : State) (a : Fin 4) (p : Packet) : State :=
  if s.upstream ≠ some a.val then s.count .noRouteDrops 0
  else
    let member := p.mode = .broadcast || (decide (p.dest ≠ 0xFFFF) && (List.range 16).any (fun i => s.rd .groupSlot i = p.dest))
    let s := if member then s.deliver a p else s
    if p.cls = 1 ∧ p.channel = 0xFF05 then s
    else if 0 < p.hop then s.forEach (ports4.filter s.isChild) (fun s c => s.forward p c)
    else if ports4.any s.isChild then s.count .hopLimitDrops 0
    else s

/-- R62, R71: a packet that survived R59 is delivered, forwarded or dropped. -/
def State.routePacket (s : State) (a : Fin 4) (p : Packet) : State :=
  if p.mode = .linkLocal then s.deliver a p
  else if s.rd .deviceAddress 0 = 0xFFFF then s.count .noRouteDrops 0
  else if p.mode = .group ∨ p.mode = .broadcast then s.routeFlood a p
  else s.routeUnicast a p

/-- R28: the packet just ended is taken from the port. -/
def State.takeDone (s : State) (n : Nat) (b : Bytes) (bad : Bool) : State :=
  let p := s.port n
  match p.done with
  | x :: t => if x = (b, bad) then s.setPort n { p with done := t } else s
  | [] => s

/-- PACKET_RECEIVED (R28, R59, R60, R63, R71). -/
def packetReceivedEff (port : Fin 4) (b : Bytes) (bad : Bool) (s : State) : State :=
  if !(s.alive port.val && s.alive 4 && (s.active port.val || s.rd .portState port.val = 6)) then s
  else
    let s := s.takeDone port.val b bad
    if bad then s.count .badPackets port.val
    else
      match packetFault b with
      | some e => s.count e 0
      | none => s.routePacket port (Packet.ofBytes b)

/-- PACKET_RECEIVED (R28). -/
def execPacketReceived (port : Fin 4) (bytes : Bytes) (bad : Bool) (s : State) : Host.Outcome State Fault Refusal :=
  .next (packetReceivedEff port bytes bad s)

/-- R72: the packet that leaves next: the lowest class first, in order within it. -/
def nextPacket (q : List Packet) : Option Packet :=
  (ofClass q 0 ++ ofClass q 1 ++ ofClass q 2 ++ ofClass q 3).head?

/-- R87, R88: the stamps that a time packet takes as it leaves. -/
def stampPacket (p : Packet) (t : Nat) (cal : Int) : Packet :=
  if p.cls = 0 ∧ p.channel = 1 then { p with payload := stamp12 t ++ cal80 cal ++ p.payload.drop 22 }
  else if p.cls = 0 ∧ p.channel = 3 then { p with payload := p.payload.take 12 ++ stamp12 t ++ p.payload.drop 24 }
  else p

/-- R28, R29: the data blocks of a packet after its START, and its TERM block, or ERROR where it has proved bad. -/
def tailBlocks (bad : Bool) : Nat → Bytes → List (Nat × BitVec 64)
  | 0, b => [(2, if bad then controlBlock 0xE7 [] else controlBlock (0xC0 + b.length) b)]
  | m + 1, b => (1, BitVec.ofNat 64 (leNat (b.take 8))) :: tailBlocks bad m (b.drop 8)

/-- R28, R29: the blocks of a packet. -/
def packetBlocks (b : Bytes) (bad : Bool) : List (Nat × BitVec 64) :=
  (2, controlBlock 0x5A (b.take 7)) :: tailBlocks bad ((b.length - 7) / 8) (b.drop 7)

/-- EGRESS_TRANSMIT (R29, R30, R32, R33, R72, R88): the next packet starts once the one before has left; the blocks
since then were IDLE. A packet that breaks R59 or R60 has proved bad by its end. -/
def egressTransmitEff (n : Nat) (s : State) : State :=
  if !(s.alive n && s.active n) then s
  else
    match nextPacket (s.port n).queue with
    | none => s
    | some p =>
      let s := (s.untilMono (s.txFree n)).txRun n
      let t := s.dispFine + (ofPs Config.txLatency.toNat).toNat
      let q := stampPacket p t ((t : Int) + s.time.calOfs)
      let bad := (packetFault q.bytes).isSome
      let s := s.setPort n { s.port n with queue := (s.port n).queue.erase p, sent := some q, sentBad := bad }
      let s := (s.clearSent n).stripe n (packetBlocks q.bytes bad)
      if p.cls = 0 ∧ p.channel = 2 ∧ s.upstream = some n then
        { s with time := { s.time with reqs := s.time.reqs ++ [(p.seq, t, s.aon.mono)] } }
      else s

/-- HELLO_TIMER (R64): the clock moves on to the port that is due first, and every port then due sends HELLO; the first is due
1 ms after the entry to ACTIVE (DESIGN CHOICE, log 170). -/
def helloTimerEff (s : State) : State :=
  let l := ports4.filter s.active
  if !s.alive 4 then s
  else
    match (l.map (fun n => (s.port n).helloAt + ms 1)).min? with
    | none => s
    | some due =>
      let s := s.untilMono due
      s.forEach l (fun s n =>
        if (s.port n).helloAt + ms 1 ≤ s.aon.mono then
          let k := (s.aon.mono - (s.port n).helloAt) / ms 1
          (s.setPort n { s.port n with helloAt := (s.port n).helloAt + k * ms 1 }).sendLocal n 1 0xFF01 (s.helloPayload n) true
        else s)

/-- HELLO_TIMER (R64). -/
def execHelloTimer (s : State) : Host.Outcome State Fault Refusal := .next (helloTimerEff s)

/-- Table 3.5: a HELLO by its fields. -/
def helloOf (b : Bytes) (now : Nat) : Hello :=
  { addr := field b 0 2, dist := field b 2 1, you := (field b 3 1).testBit 0, root := (field b 3 1).testBit 1,
    rootAddr := field b 4 2, since := now }

/-- HELLO_RECEIVED (R66 to R68, R70). -/
def helloReceivedEff (n : Nat) (b : Bytes) (s : State) : State :=
  if !(s.alive 4 && s.active n) then s
  else if b.length ≠ 8 then s.count .headerCheckErrors 0
  else
    let h := helloOf b s.aon.mono
    let p := s.port n
    let own := s.rd .deviceAddress 0
    let up := s.upstream
    let change := decide (p.nbr ≠ some (h.addr, h.root))
    let s := s.setPort n { p with hello := some h, heard := true, nbr := some (h.addr, h.root) }
    let lower := s.offers n && up.isSome && up ≠ some n && decide (s.candidate n < s.rd .rootDistance 0)
    let better := if lower then p.better + 1 else 0
    let s := s.setPort n { s.port n with better := if 3 ≤ better then 0 else better }
    let s := if h.addr = own ∧ own ≠ 0xFFFF then s.raise .netAddrConflict [n] else s
    let s := s.setChildren.reselect (if 3 ≤ better then some n else none)
    if change && s.upstream = up then s.announce else s

/-- HELLO_RECEIVED (R66). -/
def execHelloReceived (port : Fin 4) (payload : Bytes) (s : State) : Host.Outcome State Fault Refusal :=
  .next (helloReceivedEff port.val payload s)

/-- HELLO_TIMEOUT (R65, R67, R70). -/
def helloTimeoutEff (n : Nat) (s : State) : State :=
  let p := s.port n
  if s.alive 4 && s.active n && p.heard then
    let s := s.untilMono (((p.hello.map Hello.since).getD 0) + ms 3)
    let s := (s.setPort n { s.port n with heard := false, nbr := none, better := 0 }).raise .netHelloTimeout [n]
    s.reselect none
  else s

/-- HELLO_TIMEOUT (R65). -/
def execHelloTimeout (port : Fin 4) (s : State) : Host.Outcome State Fault Refusal :=
  .next (helloTimeoutEff port.val s)

/-- ASSIGN_RECEIVED (R69, R70). -/
def assignReceivedEff (n : Nat) (b : Bytes) (s : State) : State :=
  if !(s.alive 4 && s.active n) then s
  else if b.length ≠ 4 then s.count .headerCheckErrors 0
  else
    let a := field b 0 2
    let own := s.rd .deviceAddress 0
    if a < 0x1000 ∧ own = 0xFFFF then
      let up := s.upstream
      let dist := s.rd .rootDistance 0
      let s := ((s.wr .deviceAddress 0 a).wr .assigner 0 (field b 2 2)).reselect none
      let s := s.raise .netAssigned [n]
      let s := if s.upstream = up ∧ s.rd .rootDistance 0 = dist then s.helloAll else s
      if s.upstream = up then s.announce else s
    else if a < 0x1000 ∧ a = own then s
    else (s.count .assignRefusals 0).raise .netAssignRefused [n]

/-- ASSIGN_RECEIVED (R69). -/
def execAssignReceived (port : Fin 4) (payload : Bytes) (s : State) : Host.Outcome State Fault Refusal :=
  .next (assignReceivedEff port.val payload s)

/-- RELAY_ASSIGN_RECEIVED (R70). -/
def relayAssignReceivedEff (source : Nat) (b : Bytes) (s : State) : State :=
  if !(s.alive 4 && decide (s.rd .deviceAddress 0 ≠ 0xFFFF ∧ 0xE000 ≤ source ∧ source ≤ 0xEFFF)) then s
  else if b.length ≠ 4 then s.count .headerCheckErrors 0
  else
    let n := field b 0 1 % 4
    if s.active n then s.sendLocal n 1 0xFF02 (leBytes 2 (field b 2 2) ++ leBytes 2 source) false
    else s.count .noRouteDrops 0

/-- RELAY_ASSIGN_RECEIVED (R70). -/
def execRelayAssignReceived (source : BitVec 16) (payload : Bytes) (s : State) : Host.Outcome State Fault Refusal :=
  .next (relayAssignReceivedEff source.toNat payload s)

/-- R69, R71: the address, the route table and the distance are cleared. -/
def State.unassign (s : State) : State :=
  let dist := s.rd .rootDistance 0
  let up := s.upstream
  let s := ((s.wr .deviceAddress 0 0xFFFF).toDefault .routeTable 0).reselect none
  if s.upstream = up ∧ s.rd .rootDistance 0 = dist then s.helloAll else s

/-- A write of Unassign; its effect follows the reply, which still travels by the old routes. -/
def unassignEff (v : Val) (s : State) : State × Ans :=
  if !rangeOk .unassign v then (s, ans .range)
  else if v = [1] then ({ s with mgmt := { s.mgmt with unassignDue := true } }, ans .ok)
  else (s, ans .ok)

/-- R69: an Unassign that is due takes effect. -/
def State.unassignIfDue (s : State) : State :=
  if s.mgmt.unassignDue then { s with mgmt := { s.mgmt with unassignDue := false } }.unassign else s

/-- UNASSIGN (R69). -/
def execUnassign (e : Env) (v : Bytes) (s : State) : Host.Outcome State Fault Refusal :=
  .next (s.writeCmd e .unassign 0 v unassignEff).unassignIfDue

/-- The bytes of two maps OR-ed (R77). -/
def orBytes (a b : Bytes) : Bytes := List.zipWith (· ||| ·) a b

/-- R76: a byte with bits set. -/
def orAt (b : Bytes) (i : Nat) (v : Byte) : Bytes := b.set i (b.getD i 0 ||| v)

/-- Table 3.7: the device's own field of OutcomeMap. -/
def State.outcomeField (s : State) (b : Bytes) : Nat :=
  let g := field b 14 2
  if field b 12 1 ≠ 1 then 0
  else if g ≠ 0xFFFF ∧ ¬ (List.range 16).any (fun i => s.rd .groupSlot i = g) then 0
  else
    match s.outcomes.find? (fun o => decide (o.source = field b 0 2 ∧ o.seq = field b 2 2)) with
    | some o => if o.ok then 1 else 2
    | none => 3

/-- R77: the maps with the device's own bits. -/
def State.ownMaps (s : State) (b : Bytes) : Bytes :=
  let d := s.rd .deviceAddress 0
  orAt (orAt (b.drop 24) (d / 8) (BitVec.ofNat 8 (2 ^ (d % 8)))) (512 + d / 4)
    (BitVec.ofNat 8 (s.outcomeField b * 4 ^ (d % 4)))

/-- R77: the SWEEP_RETURN of a sweep leaves on the upstream port. -/
def State.sweepReturn (s : State) (w : Sweep) : State :=
  let s := { s with sweeps := s.sweeps.filter (fun x => decide (x.tagSource ≠ w.tagSource ∨ x.tagSeq ≠ w.tagSeq)) }
  match s.upstream with
  | some u => s.sendLocal u 1 0xFF06 (w.head ++ w.maps) false
  | none => s

/-- R77: the return time of a SWEEP, R = Deadline - RootDistance x 8 us. -/
def State.returnTime (s : State) (b : Bytes) : Nat := field b 4 8 - s.rd .rootDistance 0 * 8000

/-- R71, R76: the packet that a SWEEP came in; one of the root where none was delivered. -/
def State.sweepPacket (s : State) (b : Bytes) : Packet :=
  (s.sweepPkts.find? (fun p => p.payload = b)).getD
    { cls := 1, mode := .broadcast, hop := Config.originHop.toNat, dest := 0xFFFF, source := s.rd .rootAddress 0,
      channel := 0xFF05, payload := b }

/-- R71, R77: the SWEEP goes on to the child ports with the maps as received. -/
def State.forwardSweep (s : State) (p : Packet) : State :=
  if 0 < p.hop then s.forEach (ports4.filter s.isChild) (fun s c => s.forward p c)
  else if ports4.any s.isChild then s.count .hopLimitDrops 0
  else s

/-- R77: a SWEEP with its packet and its return time is acted on, once the requests before it are complete. -/
def State.runSweep (s : State) (b : Bytes) (p : Packet) (ret : Nat) : State :=
  if !s.alive 4 then s
  else
    let w : Sweep := { tagSource := field b 0 2, tagSeq := field b 2 2, ret := ret, head := b.take 24,
                       maps := s.ownMaps b, waiting := ports4.filter s.isChild }
    let s := s.forwardSweep p
    if w.waiting = [] ∨ ret ≤ s.now then s.sweepReturn w
    else { s with sweeps := s.sweeps ++ [w] }

/-- R77, R277: the requests that released the core and still wait for their answer. -/
def State.releasedEnvs (s : State) : List Env :=
  s.secure.stores.map (fun r => r.env)
    ++ s.power.doms.flatMap (fun p => p.2.env.toList ++ (p.2.next.bind (fun r => r.env)).toList)

/-- R77: every request that came before a SWEEP and did not release the core has run: it is acted on, or waits for those that
released it. -/
def State.meetSweep (s : State) (m : Msg) (ret : Nat) : State :=
  if s.releasedEnvs = [] || !s.on 9 then s.runSweep m.bytes m.pkt ret
  else { s with mgmt := { s.mgmt with held := s.mgmt.held ++ [{ m with waits := s.releasedEnvs }] } }

/-- R77: the first held SWEEP for which no request waits any more is acted on. -/
def State.freeSweep (s : State) : Option State :=
  (s.mgmt.held.find? (fun m => m.waits.all (fun e => !s.releasedEnvs.contains e))).map (fun m =>
    { s with mgmt := { s.mgmt with held := s.mgmt.held.erase m } }.runSweep m.bytes m.pkt (m.sweep.getD 0))

/-- R77: the SWEEPs that wait for requests, in order of arrival. -/
def Mgmt.sweeps (m : Mgmt) : List Msg := m.held ++ m.inbox.filter (fun x => x.sweep.isSome)

/-- R76: the tag of a SWEEP. -/
def sweepTag (b : Bytes) : Nat × Nat := (field b 0 2, field b 2 2)

/-- R77: the tags of the sweeps that have begun, those that wait for requests included. -/
def State.sweepTags (s : State) : List (Nat × Nat) :=
  s.sweeps.map (fun w => (w.tagSource, w.tagSeq)) ++ s.mgmt.sweeps.map (fun m => sweepTag m.bytes)

/-- SWEEP_RECEIVED (R76, R77): a repeated one and a fifth are discarded; it waits behind the requests that arrived before
it. -/
def sweepReceivedEff (n : Nat) (b : Bytes) (s : State) : State :=
  let ret := s.returnTime b
  let m : Msg := { bytes := b, sweep := some ret, pkt := s.sweepPacket b }
  if !(s.alive 4 && s.active n && decide (s.upstream = some n)) then s
  else if b.length ≠ 1560 then s.count .headerCheckErrors 0
  else
    let s := { s with sweepPkts := s.sweepPkts.filter (fun p => decide (p ≠ m.pkt)) }
    if s.sweepTags.contains (sweepTag b) then s
    else if 4 ≤ s.sweepTags.length then s.count .lateSweepReturns 0
    else if s.coreFree then s.meetSweep m ret
    else { s with mgmt := { s.mgmt with inbox := s.mgmt.inbox ++ [m] } }

/-- SWEEP_RECEIVED (R77). -/
def execSweepReceived (port : Fin 4) (payload : Bytes) (s : State) : Host.Outcome State Fault Refusal :=
  .next (sweepReceivedEff port.val payload s)

/-- SWEEP_RETURN_RECEIVED (R77); one for a running sweep from a port that is not awaited has no effect (DESIGN CHOICE,
log 173). A port that stops being a child while it is awaited is waited for until R (DESIGN CHOICE, log 190). -/
def sweepReturnReceivedEff (n : Nat) (b : Bytes) (s : State) : State :=
  if !(s.alive 4 && s.active n) then s
  else if b.length ≠ 1560 then s.count .headerCheckErrors 0
  else
    match s.sweeps.find? (fun w => decide (w.tagSource = field b 0 2 ∧ w.tagSeq = field b 2 2)) with
    | none => s.count .lateSweepReturns 0
    | some w =>
      if n ∈ w.waiting then
        let w' := { w with maps := orBytes w.maps (b.drop 24), waiting := w.waiting.filter (· ≠ n) }
        if w'.waiting = [] then s.sweepReturn w'
        else { s with sweeps := s.sweeps.map (fun x => if x = w then w' else x) }
      else s

/-- SWEEP_RETURN_RECEIVED (R77). -/
def execSweepReturnReceived (port : Fin 4) (payload : Bytes) (s : State) : Host.Outcome State Fault Refusal :=
  .next (sweepReturnReceivedEff port.val payload s)

/-- SWEEP_RETURN_TIME (R77). -/
def sweepReturnTimeEff (src sq : Nat) (s : State) : State :=
  if !s.alive 4 then s
  else
    match s.sweeps.find? (fun w => decide (w.tagSource = src ∧ w.tagSeq = sq)) with
    | none => s
    | some w => (s.untilDisp w.ret).sweepReturn w

/-- SWEEP_RETURN_TIME (R77). -/
def execSweepReturnTime (tagSource tagSequence : BitVec 16) (s : State) : Host.Outcome State Fault Refusal :=
  .next (sweepReturnTimeEff tagSource.toNat tagSequence.toNat s)

end Sys2Proof.Machine
end

