-- ==== Sys2Proof/Machine/Crypto.lean ====
section
/-! DEFINITION. The signature engine: SHA-256 to FIPS 180 and ECDSA on P-256 to FIPS 186 (R328, R330, R331, R334). -/

namespace Sys2Proof.Machine

/-- The number that bytes hold, byte 0 the most significant (R328). -/
def beNat (b : Bytes) : Nat := b.foldl (fun n x => n * 256 + x.toNat) 0

/-- The low k bytes of a number, most significant first (R328). -/
def beBytes (k n : Nat) : Bytes := (leBytes k n).reverse

/-- The greatest number below 2 ^ (k + 1) times a power of two above r whose e-th power does not pass n, bit by bit. -/
def rootFrom (e n : Nat) : Nat → Nat → Nat
  | 0, r => if (r + 1) ^ e ≤ n then r + 1 else r
  | k + 1, r => rootFrom e n k (if (r + 2 ^ (k + 1)) ^ e ≤ n then r + 2 ^ (k + 1) else r)

/-- FIPS 180: the first 32 bits of the fraction of the e-th root of a prime below 512. -/
def rootBits (e p : Nat) : Nat := rootFrom e (p * 2 ^ (32 * e)) 36 0 % 2 ^ 32

/-- The first 64 primes. -/
def primes64 : List Nat :=
  (List.range 312).filter (fun n => decide (2 ≤ n) && (List.range 18).all (fun d => decide (d < 2 ∨ n ≤ d ∨ n % d ≠ 0)))

/-- FIPS 180: the constants of SHA-256, the cube roots of the first 64 primes. -/
def shaConsts : List Nat := primes64.map (rootBits 3)

/-- FIPS 180: the first hash value, the square roots of the first eight primes. -/
def shaInit : List Nat := (primes64.take 8).map (rootBits 2)

/-- A 32-bit word rotated right. -/
def rotr (n x : Nat) : Nat := (x >>> n) ||| (x <<< (32 - n)) % 4294967296

/-- FIPS 180: rotations of a word, added without carry. -/
def rotSum (ns : List Nat) (x : Nat) : Nat := ns.foldl (fun acc n => acc ^^^ rotr n x) 0

/-- FIPS 180: the schedule word that follows the last 16, oldest first. -/
def shaNext (w : List Nat) : Nat :=
  (w.getD 0 0 + (rotSum [7, 18] (w.getD 1 0) ^^^ w.getD 1 0 >>> 3) + w.getD 9 0
    + (rotSum [17, 19] (w.getD 14 0) ^^^ w.getD 14 0 >>> 10)) % 2 ^ 32

/-- FIPS 180: the eight working variables after a round that takes in the sum of its constant and its schedule word. -/
def shaMix (h : List Nat) (kw : Nat) : List Nat :=
  let at' := fun i => h.getD i 0
  let sel := at' 4 &&& at' 5 ^^^ (2 ^ 32 - 1 - at' 4) &&& at' 6
  let maj := at' 0 &&& at' 1 ^^^ at' 0 &&& at' 2 ^^^ at' 1 &&& at' 2
  let t := at' 7 + rotSum [6, 11, 25] (at' 4) + sel + kw
  (t + rotSum [2, 13, 22] (at' 0) + maj) % 2 ^ 32 :: h.take 3 ++ (at' 3 + t) % 2 ^ 32 :: (h.drop 4).take 3

/-- FIPS 180: a round on the working variables and the 16 schedule words that are still to come. -/
def shaRound (st : List Nat × List Nat) (k : Nat) : List Nat × List Nat :=
  (shaMix st.1 (k + st.2.headD 0), st.2.drop 1 ++ [shaNext st.2])

/-- FIPS 180: the words of a 64-byte block. -/
def shaWords (b : Bytes) : List Nat := (List.range 16).map (fun i => beNat ((b.drop (4 * i)).take 4))

/-- FIPS 180: one block into the hash value. -/
def shaBlock (h : List Nat) (b : Bytes) : List Nat :=
  List.zipWith (fun x y => (x + y) % 2 ^ 32) h (shaConsts.foldl shaRound (h, shaWords b)).1

/-- FIPS 180: a number of 64-byte blocks. -/
def shaBlocks : Nat → List Nat → Bytes → List Nat
  | 0, h, _ => h
  | n + 1, h, b => shaBlocks n (shaBlock h (b.take 64)) (b.drop 64)

/-- FIPS 180: SHA-256 of a byte string. -/
def sha256 (b : Bytes) : Bytes :=
  let n := b.length
  let pad : Bytes := b ++ (0x80 : Byte) :: List.replicate ((119 - n % 64) % 64) 0 ++ beBytes 8 (8 * n)
  (shaBlocks (pad.length / 64) shaInit pad).flatMap (beBytes 4)

/-- R328: a key id, the first 8 bytes of the hash of a public key. -/
def keyId (key : Bytes) : Bytes := (sha256 key).take 8

/-- FIPS 186: the prime of P-256. -/
def p256 : Nat := 0xffffffff00000001000000000000000000000000ffffffffffffffffffffffff

/-- FIPS 186: the order of P-256. -/
def n256 : Nat := 0xffffffff00000000ffffffffffffffffbce6faada7179e84f3b9cac2fc632551

/-- FIPS 186: the coefficient b of P-256. -/
def b256 : Nat := 0x5ac635d8aa3a93e7b3ebbd55769886bc651d06b0cc53b0f63bce3c3e27d2604b

/-- FIPS 186: the base point of P-256. -/
def g256 : Nat × Nat :=
  (0x6b17d1f2e12c4247f8bce6e563a440f277037d812deb33a0f4a13945d898c296,
   0x4fe342e2fe1a7f9b8ee7eb4a7c0f9e162bce33576b315ececbb6406837bf51f5)

/-- A power modulo m, over the bits of the exponent from the lowest. -/
def powMod (m : Nat) : Nat → Nat → Nat → Nat
  | 0, _, _ => 1
  | k + 1, x, e => (if e % 2 = 1 then x else 1) * powMod m k (x * x % m) (e / 2) % m

/-- The inverse modulo a 256-bit prime. -/
def invMod (m x : Nat) : Nat := powMod m 256 (x % m) (m - 2)

/-- The sum of two points of P-256; none is the point at infinity. -/
def addPoint (a b : Option (Nat × Nat)) : Option (Nat × Nat) :=
  match a, b with
  | none, y => y
  | x, none => x
  | some (x1, y1), some (x2, y2) =>
    let m := p256
    if x1 = x2 ∧ (y1 + y2) % m = 0 then none
    else
      let l := if x1 = x2 then (3 * x1 * x1 + (m - 3)) * invMod m (2 * y1) % m
        else (y2 + m - y1) * invMod m (x2 + m - x1) % m
      let x3 := (l * l + 2 * m - x1 - x2) % m
      some (x3, (l * (x1 + m - x3) + m - y1) % m)

/-- A multiple of a point of P-256, over the bits of the factor from the lowest. -/
def mulPoint : Nat → Option (Nat × Nat) → Nat → Option (Nat × Nat)
  | 0, _, _ => none
  | k + 1, a, n =>
    let r := mulPoint k (addPoint a a) (n / 2)
    if n % 2 = 1 then addPoint a r else r

/-- R330: the bytes are a point of P-256. -/
def isPoint (key : Bytes) : Bool :=
  let x := beNat (key.take 32)
  let y := beNat (key.drop 32)
  key.length = 64 && decide (x < p256 ∧ y < p256 ∧ y * y % p256 = (x * x * x + (p256 - 3) * x + b256) % p256)

/-- R328: a signature verifies under a public key over the hash of a message. -/
def verify (key msg sig : Bytes) : Bool :=
  let r := beNat (sig.take 32)
  let t := beNat (sig.drop 32)
  let e := beNat (sha256 msg)
  let w := invMod n256 t
  let q := (beNat (key.take 32), beNat (key.drop 32))
  isPoint key && decide (1 ≤ r ∧ r < n256 ∧ 1 ≤ t ∧ t < n256)
    && (match addPoint (mulPoint 256 (some g256) (e * w % n256)) (mulPoint 256 (some q) (r * w % n256)) with
      | some (x, _) => x % n256 = r
      | none => false)

end Sys2Proof.Machine
end

