-- ==== Sys2Proof/Machine/Streams.lean ====
section
/-! DEFINITION. Stream contexts: binding fields, bind, units and frame assembly, launches from streams, parking,
resumption and eviction (R107 to R127), and the size of a frame image (R130 to R135). -/

namespace Sys2Proof.Machine

/-- Table 6.1: columns of plane p. -/
def planeW (form w p : Nat) : Nat := if p ≠ 0 ∧ 2 ≤ form then w / 2 else w

/-- Table 6.1: rows of plane p. -/
def planeH (form h p : Nat) : Nat := if p ≠ 0 ∧ form = 3 then h / 2 else h

/-- R133: bytes of a row of an uncoded plane. -/
def rowBytes (w d : Nat) : Nat := 8 * ceilDiv (w * d) 64

/-- R135: bytes of a block-row packet. -/
def packetBytes (w b : Nat) : Nat := 4 * ceilDiv (2 * b * ceilDiv w 8) 4 + 4

/-- R133, R135: PlaneBytes of plane p for a Format word and a frame size. -/
def planeBytes (fmt w h p : Nat) : Nat :=
  let form := fmt % 16
  let d := fmt / 256 % 256
  let b := fmt / 65536 % 256
  if b = 0 then planeH form h p * rowBytes (planeW form w p) d
  else ceilDiv (planeH form h p) 2 * packetBytes (planeW form w p) b

/-- R132: PlaneBase of plane p. -/
def planeBase (fmt w h p : Nat) : Nat := ((List.range p).map (planeBytes fmt w h)).sum

/-- R132: FrameBytes. -/
def frameBytesOf (fmt w h : Nat) : Nat := planeBase fmt w h 3

/-- Table 5.1: the Format word names a form, a depth and a target of the table, reserved bits 0. -/
def formatOk (f : Nat) : Bool :=
  let d := f / 256 % 256
  let b := f / 65536 % 256
  decide (f % 16 ≤ 3) && f / 16 % 16 = 0 && f / 16777216 = 0 && (d = 8 || d = 10 || d = 12)
    && (b = 0 || b = 3 || b = 4 || b = 5 || b = 6 || b = 8)

/-- R110: the sizes suit the form. -/
def sizeOk (f w h : Nat) : Bool :=
  !((f % 16 = 2 || f % 16 = 3) && w % 2 = 1) && !(f % 16 = 3 && h % 2 = 1)

/-- The entry of a binding field (R110). -/
def fieldEnt : CtxField → Ent
  | .owner => .owner
  | .window => .window
  | .launchMode => .launchMode
  | .layerSync => .layerSync
  | .format => .format
  | .width => .width
  | .height => .height
  | .unitBytes => .unitBytes
  | .bufferSet => .bufferSet

/-- R107, Table 5.1: the record of a context in the context store, 1,024 bytes. -/
def State.ctxRecord (s : State) (c : Nat) : Bytes :=
  let x := s.ctx c
  let f := fun (w : Nat) (e : Ent) => leBytes w (s.rd e c)
  leBytes 512 x.amap ++ f 1 .ctxState ++ f 1 .launchMode ++ f 1 .layerSync ++ [0] ++ f 2 .owner ++ f 2 .window ++ f 4 .format
    ++ f 2 .width ++ f 2 .height ++ f 4 .frameBytes ++ f 2 .unitBytes ++ f 2 .unitCount
    ++ (s.rdv .bufferSet c).flatMap (leBytes 2) ++ f 4 .assemblingFrame ++ f 2 .unitsReceived ++ leBytes 2 x.asmBuf
    ++ leBytes 8 x.asmLaunch ++ f 4 .newestFrame ++ leBytes 2 x.expSeq ++ f 2 .flags ++ f 8 .lastUnitTime ++ leBytes 8 x.since
    ++ ctxCounterEnts.flatMap (f 4) ++ List.replicate 392 0

/-- R107, R149: the byte that Quarry holds at an address: of a context record where the context store lies, record n at byte
n x 1,024 from its first bank. -/
def State.quarryByte (s : State) (a : Nat) : Byte :=
  let o := a - s.storeAddr 2
  if s.storeAddr 2 ≤ a ∧ o < min (s.storeSize 2) 16777216 ∧ s.power.ctxLost = false then
    (s.ctxRecord (o / 1024)).getD (o % 1024) 0
  else SMap.get s.quarry a 0

/-- R110: FrameBytes and UnitCount follow the binding fields; UnitCount is 0 while UnitBytes is, and its low 16 bits where it
does not fit (DESIGN CHOICE, log 193). -/
def State.refit (s : State) (c : Nat) : State :=
  let n := frameBytesOf (s.rd .format c) (s.rd .width c) (s.rd .height c)
  let u := s.rd .unitBytes c
  (s.wr .frameBytes c n).wr .unitCount c (if u = 0 then 0 else ceilDiv n u % 65536)

/-- R110: the value of a binding field is allowed beside the other fields. -/
def State.fieldOk (s : State) (c : Nat) (f : CtxField) (v : Val) : Bool :=
  let n := v.headD 0
  rangeOk (fieldEnt f) v &&
    (match f with
    | .format => formatOk n && sizeOk n (s.rd .width c) (s.rd .height c)
    | .width => decide (1 ≤ n ∧ n ≤ 4096) && sizeOk (s.rd .format c) n (s.rd .height c)
    | .height => decide (1 ≤ n ∧ n ≤ 2048) && sizeOk (s.rd .format c) (s.rd .width c) n
    | _ => true)

/-- R110: a write to a binding field. -/
def ctxFieldEff (c : Nat) (f : CtxField) (v : Val) (s : State) : State × Ans :=
  let st := s.rd .ctxState c
  if st = 2 ∨ st = 3 then (s, ans .state)
  else if !s.fieldOk c f v then (s, ans .range)
  else ((s.wrv (fieldEnt f) c v).refit c, ans .ok)

/-- CONTEXT_FIELD_WRITE (R110). -/
def execContextFieldWrite (e : Env) (ctx : Fin 16384) (field : CtxField) (v : Bytes) (s : State) :
    Host.Outcome State Fault Refusal :=
  .next (s.writeCmd e (fieldEnt field) ctx.val v (ctxFieldEff ctx.val field))

/-- R108: a context enters a state. -/
def State.setCtxState (s : State) (c st : Nat) : State :=
  ((s.wr .ctxState c st).setCtx c { s.ctx c with since := s.now }).showCtxCounts

/-- The handles a buffer set holds (R111). -/
def State.bufferHandles (s : State) (c : Nat) : List Nat := (s.rdv .bufferSet c).filter (· ≠ 0xFFFF)

/-- R113: UnitBytes suits a frame size. -/
def unitBytesOk (u n : Nat) : Bool := u % 64 = 0 && decide (64 ≤ u ∧ u ≤ 4032 ∧ n ≤ u * 4096)

/-- R111, step 2. -/
def State.bindRange (s : State) (c : Nat) : Bool :=
  let hs := s.bufferHandles c
  formatOk (s.rd .format c) && decide (s.rd .window c ≤ 1023) && decide (s.rd .width c ≠ 0 ∧ s.rd .height c ≠ 0)
    && unitBytesOk (s.rd .unitBytes c) (s.rd .frameBytes c) && decide (2 ≤ hs.length) && hs.all (· ≤ 1023)
    && decide hs.Nodup && !(decide (1 ≤ s.rd .launchMode c) && s.rd .layerSync c = 0)
    && decide (s.rd .frameBytes c ≤ 16515072)

/-- The view of a context's window (R121). -/
def State.ctxView (s : State) (c : Nat) : Nat := s.rd .control (s.rd .window c) % 8

/-- R111, steps 3 to 7. -/
def State.bindCheck (s : State) (c : Nat) : Option Status :=
  let others := s.boundCtxs.filter (· ≠ c)
  let holders := (s.having .ctxState (· ≠ 0)).filter (· ≠ c)
  let hs := s.bufferHandles c
  if others.any (fun o => s.rd .window o = s.rd .window c) || hs.any (fun h => holders.any (s.inSet · h) || s.held h)
  then some .busy
  else if decide (1 ≤ s.rd .launchMode c)
      && others.any (fun o => s.ctxView o = s.ctxView c && decide (1 ≤ s.rd .launchMode o)) then some .state
  else if hs.any (fun h => s.rd .handleState h = 4) then some .retirePending
  else if hs.any (fun h => decide (s.rd .pageCount h = 0 ∨ s.rd .pageCount h * 65536 < s.rd .frameBytes c))
      || decide (1024 ≤ others.length) then some .noSpace
  else
    let bits2 := (others.map s.ctxBits2).sum + s.ctxBits2 c
    if (geoOf s.committed 0).ingestFits bits2 && (geoOf s.withStaged 0).ingestFits bits2 then none else some .budget

/-- R111: Bind. -/
def bindEff (c : Nat) (s : State) : State × Ans :=
  let st := s.rd .ctxState c
  if st = 2 ∨ st = 3 then (s, ans .state)
  else if !s.bindRange c then (s, ans .range)
  else
    match s.bindCheck c with
    | some e => (s, ans e)
    | none =>
      let s := if st = 4 then s else s.wr .flags c 0
      let s := s.setCtx c { s.ctx c with amap := 0, nextSlot := 0 }
      let s := (s.wr .unitsReceived c 0).wr .lastUnitTime c s.now
      ((s.setCtxState c 2).raise .streamBound [c], ans .ok)

/-- R119: an assembling frame is abandoned. -/
def State.abandon (s : State) (c : Nat) : State :=
  let b := (s.ctx c).asmBuf
  let s := s.setCtxState c 2
  if b = 0xFFFF then s
  else
    let s := (s.setHandle b 0).setCtx c { s.ctx c with asmBuf := 0xFFFF }
    (s.count .framesIncomplete c).raise .frameIncomplete [c, s.rd .assemblingFrame c]

/-- R122: a BOUND or ASSEMBLING context parks. -/
def State.parkCtx (s : State) (c cause : Nat) : State :=
  let s := if s.rd .ctxState c = 3 then s.abandon c else s
  (s.setCtxState c 4).raise .streamParked [c, cause]

/-- R122: Park. -/
def parkEff (c : Nat) (s : State) : State × Ans :=
  let st := s.rd .ctxState c
  if st = 2 ∨ st = 3 then (s.parkCtx c 2, ans .ok) else (s, ans .state)

/-- R108, R124: a context enters FREE; its record is cleared. -/
def State.evict (s : State) (c cause : Nat) : State :=
  let s := if s.rd .ctxState c = 3 then s.abandon c else s
  ((s.clearRecord c).setCtx c { since := s.now }).raise .streamEvicted [c, cause]

/-- R124: Release. -/
def releaseEff (c : Nat) (s : State) : State × Ans :=
  if s.rd .ctxState c = 0 then (s, ans .state) else (s.evict c 1, ans .ok)

/-- R128: a write to a context's Command. -/
def ctxCommandEff (c : Nat) (v : Val) (s : State) : State × Ans :=
  if v = [1] then bindEff c s
  else if v = [2] then parkEff c s
  else if v = [3] then releaseEff c s
  else (s, ans .range)

/-- BIND (R111). -/
def execBindContext (e : Env) (ctx : Fin 16384) (s : State) : Host.Outcome State Fault Refusal :=
  .next (s.writeCmd e .ctxCommand ctx.val [1] (ctxCommandEff ctx.val))

/-- PARK (R122). -/
def execPark (e : Env) (ctx : Fin 16384) (s : State) : Host.Outcome State Fault Refusal :=
  .next (s.writeCmd e .ctxCommand ctx.val [2] (ctxCommandEff ctx.val))

/-- RELEASE (R124). -/
def execRelease (e : Env) (ctx : Fin 16384) (s : State) : Host.Outcome State Fault Refusal :=
  .next (s.writeCmd e .ctxCommand ctx.val [3] (ctxCommandEff ctx.val))

/-- PARK_TIMEOUT (R122, R125). -/
def parkTimeoutEff (c : Nat) (s : State) : State :=
  let st := s.rd .ctxState c
  if s.alive 6 && (st = 2 || st = 3) then
    let t := s.rd .lastUnitTime c + s.rd .parkTimeout 0 * 1000000
    let s := s.untilDisp t
    if t ≤ s.now then s.parkCtx c 0 else s
  else s

/-- PARK_TIMEOUT (R122). -/
def execParkTimeout (ctx : Fin 16384) (s : State) : Host.Outcome State Fault Refusal :=
  .next (parkTimeoutEff ctx.val s)

/-- EVICT_TIMEOUT (R124, R125). -/
def evictTimeoutEff (c : Nat) (s : State) : State :=
  let st := s.rd .ctxState c
  if s.alive 6 && (st = 1 || st = 4) && decide (s.rd .evictTimeout 0 ≠ 0) then
    let t := (s.ctx c).since + s.rd .evictTimeout 0 * 1000000
    let s := s.untilDisp (t + 1)
    if t < s.now then s.evict c 0 else s
  else s

/-- EVICT_TIMEOUT (R124). -/
def execEvictTimeout (ctx : Fin 16384) (s : State) : Host.Outcome State Fault Refusal :=
  .next (evictTimeoutEff ctx.val s)

/-- The fields of a video unit (Table 5.3). -/
structure UnitHdr where
  frame : Nat
  unit : Nat
  last : Bool
  minusOne : Nat
  launch : Nat
  data : Bytes
  deriving DecidableEq, Repr

/-- Table 5.3: the unit that a video payload holds. -/
def unitOf (b : Bytes) : UnitHdr :=
  { frame := field b 0 4, unit := field b 4 2 % 4096, last := (field b 4 2).testBit 12
    minusOne := field b 6 2 % 4096, launch := field b 8 8, data := b.drop 16 }

/-- R113: the bytes that unit u carries. -/
def State.unitLength (s : State) (c u : Nat) : Nat :=
  let n := s.rd .unitCount c
  if u + 1 = n then s.rd .frameBytes c - (n - 1) * s.rd .unitBytes c else s.rd .unitBytes c

/-- R114: the header checks of a unit. -/
def State.unitOk (s : State) (c : Nat) (u : UnitHdr) : Bool :=
  decide (u.minusOne + 1 = s.rd .unitCount c ∧ u.unit < s.rd .unitCount c ∧ u.data.length = s.unitLength c u.unit)

/-- R123: a PARKED context rebinds if the checks of R111 from step 3 on pass. -/
def State.resume (s : State) (c : Nat) : Option State :=
  match s.bindCheck c with
  | some _ => none
  | none =>
    let s := (s.wr .unitsReceived c 0).setCtx c { s.ctx c with nextSlot := 0, amap := 0 }
    some ((s.setCtxState c 2).raise .streamResumed [c])

/-- R117: a buffer qualifies for a new frame of a context. -/
def State.qualifies (s : State) (c h : Nat) : Bool :=
  let st := s.rd .handleState h
  let fits := decide (s.rd .frameBytes c ≤ s.rd .pageCount h * 65536 ∧ s.rd .pageCount h ≠ 0)
  h ≤ 1023 && fits &&
    (st = 0 || (st = 2 && !((s.rd .flags c).testBit 0 && s.rd .frameTag h = s.rd .newestFrame c)
      && !(s.view (s.ctxView c)).queue.any (fun x => x.tag = s.rd .frameTag h)))

/-- R117: the slots of a buffer set in search order. -/
def slotOrder (n : Nat) : List Nat := (List.range 8).map (fun i => (n + i) % 8)

/-- R117: a frame starts. -/
def State.startFrame (s : State) (c frame launch : Nat) : State :=
  let slot := (slotOrder (s.ctx c).nextSlot).find? (fun i => s.qualifies c ((s.rdv .bufferSet c).getD i 0xFFFF))
  let s := (s.setCtxState c 3).wr .assemblingFrame c frame
  let s := s.wr .flags c (s.rd .flags c &&& 3)
  let s := (s.wr .unitsReceived c 0).setCtx c { s.ctx c with amap := 0, asmLaunch := launch, asmBuf := 0xFFFF }
  match slot with
  | none => (s.count .noBufferDrops c).raise .streamNoBuffer [c]
  | some i =>
    let h := (s.rdv .bufferSet c).getD i 0xFFFF
    let s := (s.setHandle h 1).wr .lastWriter h c
    s.setCtx c { s.ctx c with asmBuf := h, nextSlot := (i + 1) % 8 }

/-- The first frame boundary at or after a time on the grid in force there (R97, R120). -/
def State.boundaryFrom (s : State) (t : Nat) : Nat :=
  let g := s.geoAt t
  if t ≤ g.epoch then g.epoch else if g.isBoundary t then t else s.nextFrame (s.frameOf t)

/-- R120: the launch entry of a completed frame, as the context's LaunchMode has it. -/
def State.streamLaunch (s : State) (c tag launch : Nat) : State :=
  let v := s.ctxView c
  let push := fun (t : Nat) =>
    let r := s.pushLaunch v t tag true
    match r.2 with
    | none => r.1
    | some st => (r.1.count .launchRefusals c).raise .streamLaunchRefused [c, st.value]
  match s.rd .launchMode c with
  | 1 => if launch = 0 then s else push launch
  | 2 => push (s.boundaryFrom (max (ceilDiv (s.dispFine + s.horizon) 4294967296) (s.lastInstant v + 1)))
  | _ => s

/-- R118: a frame is complete. -/
def State.completeFrame (s : State) (c : Nat) : State :=
  let tag := s.rd .assemblingFrame c
  let a := s.ctx c
  let s := (s.makeReady a.asmBuf tag).wr .newestFrame c tag
  let s := (s.wr .flags c (s.rd .flags c ||| 1)).count .framesCompleted c
  let s := (s.setCtxState c 2).streamLaunch c tag a.asmLaunch
  if (s.rd .flags c).testBit 2 then s.parkCtx c 1 else s

/-- R114: the part of the procedure from the assembling frame on. -/
def State.takeUnit (s : State) (c : Nat) (u : UnitHdr) : State :=
  if s.rd .ctxState c = 3 ∧ sgn 32 (u.frame + 4294967296 - s.rd .assemblingFrame c) < 0 then s.count .staleUnits c
  else
    let s := if s.rd .ctxState c = 3 ∧ u.frame ≠ s.rd .assemblingFrame c then s.abandon c else s
    let s := if s.rd .ctxState c = 2 then s.startFrame c u.frame u.launch else s
    let a := s.ctx c
    if a.asmBuf = 0xFFFF then s
    else if a.amap.testBit u.unit then s.count .duplicateUnits c
    else if u.launch ≠ a.asmLaunch then s.count .formatDrops c
    else
      let s := if u.last then s.wr .flags c (s.rd .flags c ||| 4) else s
      let s := s.bufWrite a.asmBuf (u.unit * s.rd .unitBytes c) u.data
      let s := s.setCtx c { s.ctx c with amap := a.amap ||| 2 ^ u.unit }
      let s := s.wr .unitsReceived c (s.rd .unitsReceived c + 1)
      if s.rd .unitsReceived c = s.rd .unitCount c then s.completeFrame c else s

/-- R114: the part of the procedure from the sequence check on. -/
def State.boundUnit (s : State) (c src seq : Nat) (u : UnitHdr) : State :=
  let a := s.ctx c
  let s := if (s.rd .flags c).testBit 1 && decide (seq ≠ a.expSeq) then s.count .sequenceGaps c else s
  let s := (s.setCtx c { s.ctx c with expSeq := (seq + 1) % 65536 }).wr .flags c (s.rd .flags c ||| 2)
  if !s.unitOk c u then s.count .formatDrops c
  else
    let s := if s.rd .owner c = 0xFFFF then s.wr .owner c src else s
    let s := s.wr .lastUnitTime c s.now
    if (s.rd .flags c).testBit 0 && decide (sgn 32 (u.frame + 4294967296 - s.rd .newestFrame c) ≤ 0) then
      s.count .staleUnits c
    else s.takeUnit c u

/-- VIDEO_UNIT (R109, R112 to R114): the ingest procedure. -/
def videoUnitEff (src chan seq : Nat) (b : Bytes) (s : State) : State :=
  if !s.on 6 then s
  else
    let c := chan % 16384
    let u := unitOf b
    let st := s.rd .ctxState c
    if st = 0 then
      (if s.rd .autoAdmit 0 = 1 then ((s.wr .owner c src).setCtxState c 1).raise .streamAdmitted [c, src]
      else s.count .unadmittedDrops 0)
    else if s.rd .owner c ≠ 0xFFFF ∧ src ≠ s.rd .owner c then s.count .foreignDrops c
    else if st = 1 then s.count .discards c
    else if st = 4 then
      (if !s.unitOk c u then s.count .discards c
      else match s.resume c with
        | none => s.count .discards c
        | some s => s.boundUnit c src seq u)
    else s.boundUnit c src seq u

/-- VIDEO_UNIT (R114). -/
def execVideoUnit (source : BitVec 16) (channel : BitVec 16) (seq : BitVec 16) (payload : Bytes) (s : State) :
    Host.Outcome State Fault Refusal :=
  .next (if s.on 6 then (videoUnitEff source.toNat channel.toNat seq.toNat payload s).stalled else s)

/-- R125: D6 leaves ON. -/
def State.ingestLeaves (s : State) : State :=
  s.forEach (s.having .ctxState (· = 3)) (fun s c => s.abandon c)

/-- R125, R126: D6 enters ON. -/
def State.ingestEnters (s : State) : State :=
  if s.power.ctxLost then { s with power := { s.power with ctxLost := false } }.resetContexts
  else
    let s := s.forEach (s.having .ctxState (· = 2)) (fun s c => s.wr .lastUnitTime c s.now)
    s.forEach (s.having .ctxState (fun n => n = 1 || n = 4)) (fun s c => s.setCtx c { s.ctx c with since := s.now })

end Sys2Proof.Machine
end

