-- ==== Sys2Proof/Machine/Garnet.lean ====
section
/-! DEFINITION. The Garnet codec: blocks, block-row packets, check decisions, concealment and the T9's encoder, and the
unpacking of uncoded planes (R133 to R146). -/

namespace Sys2Proof.Machine

/-- `n` bits of a number from a bit upward. -/
def bitsAt (w lo n : Nat) : Nat := w / 2 ^ lo % 2 ^ n

/-- R138: the raster samples in serpentine order. -/
def serpentine : List Nat := [0, 1, 2, 3, 4, 5, 6, 7, 15, 14, 13, 12, 11, 10, 9, 8]

/-- R138: where raster sample i stands in serpentine order. -/
def serpentineAt (i : Nat) : Nat := if i < 8 then i else 23 - i

/-- R141: the running reconstruction of a DPCM block after a residual. -/
def dpcmNext (d k : Nat) (p q : Int) : Int := clampInt 0 (2 ^ d - 1) (p + q * 2 ^ k)

/-- R141: the samples of a DPCM block in serpentine order, from a reconstruction and a position on. -/
def dpcmFrom (w d r k : Nat) (p : Int) (i : Nat) : Nat → List Int
  | 0 => [p]
  | n + 1 => p :: dpcmFrom w d r k (dpcmNext d k p (sgn r (bitsAt w (6 + d + i * r) r))) (i + 1) n

/-- R138, R142: a DPCM block with a shift above d - 1. -/
def malformed (w d : Nat) : Bool := w % 4 = 1 && decide (d - 1 < bitsAt w 2 4)

/-- R141: the 16 samples of a well-formed block, in raster order. -/
def decodeBlock (w d b : Nat) : List Nat :=
  match w % 4 with
  | 0 => List.replicate 16 (bitsAt w 2 d)
  | 1 =>
    let l := dpcmFrom w d (b - 1) (bitsAt w 2 4) (bitsAt w 6 d) 0 15
    (List.range 16).map (fun i => (l.getD (serpentineAt i) 0).toNat)
  | 2 => (List.range 16).map (fun i =>
      if (bitsAt w (2 + 2 * d) 16).testBit i then bitsAt w (2 + d) d else bitsAt w 2 d)
  | _ =>
    let t := b - 1
    (List.range 16).map (fun i => bitsAt w (2 + t * i) t * 2 ^ (d - t) + 2 ^ (d - t - 1))

/-- The coding of a frame image: sample depth, Garnet target, frame size and form. -/
def Shown.depth (x : Shown) : Nat := x.format / 256 % 256

/-- The Garnet target of a shown buffer; 0 for uncoded. -/
def Shown.target (x : Shown) : Nat := x.format / 65536 % 256

/-- The form of a shown buffer. -/
def Shown.form (x : Shown) : Nat := x.format % 16

/-- Columns of plane p. -/
def Shown.cols (x : Shown) (p : Nat) : Nat := planeW x.form x.width p

/-- Rows of plane p. -/
def Shown.rows (x : Shown) (p : Nat) : Nat := planeH x.form x.height p

/-- R135: the place of block-row packet y of plane p in the frame image. -/
def Shown.packetAt (x : Shown) (p y : Nat) : Nat :=
  planeBase x.format x.width x.height p + y * packetBytes (x.cols p) x.target

/-- R135: block x of block row y of plane p, as a number. -/
def State.blockOf (s : State) (x : Shown) (p bx y : Nat) : Nat :=
  leNat (s.bufRead x.handle (x.packetAt p y + bx * 2 * x.target) (2 * x.target))

/-- R142: the outcome of a block-row packet: 0 accepted, 1 check word, 2 DPCM shift. -/
def State.packetCause (s : State) (x : Shown) (p y : Nat) : Nat :=
  let n := packetBytes (x.cols p) x.target
  let b := s.bufRead x.handle (x.packetAt p y) n
  if crc32 (b.take (n - 4)) ≠ leNat (b.drop (n - 4)) then 1
  else if (List.range (ceilDiv (x.cols p) 8)).any (fun i => malformed (s.blockOf x p i y) x.depth) then 2 else 0

/-- The check decisions of a handle's fill. -/
def State.fill (s : State) (h : Nat) : Fill := SMap.get s.fills h {}

/-- R142: the recorded decision of a packet. -/
def State.accepted (s : State) (h p y : Nat) : Option Bool :=
  ((s.fill h).map.find? (fun a => a.1 = 1024 * p + y)).map (·.2)

/-- Table 6.7. -/
def rejectionRecord (h p cause y : Nat) : Val :=
  byteVal (leBytes 2 h ++ leBytes 1 p ++ leBytes 1 cause ++ leBytes 2 y ++ [0, 0])

/-- R142, R144: the codec decides a packet that is not decided yet. -/
def State.decidePacket (s : State) (x : Shown) (p y : Nat) : State :=
  if (s.accepted x.handle p y).isSome then s
  else
    let cause := s.packetCause x p y
    let f := s.fill x.handle
    let k := 1024 * p + y
    let first := !f.counted.contains k
    let f2 : Fill :=
      { map := f.map ++ [(k, decide (cause = 0))], counted := if first then f.counted ++ [k] else f.counted
        raised := f.raised || decide (cause ≠ 0) }
    let s := { s with fills := SMap.put s.fills x.handle f2 }
    if cause = 0 || !first then s
    else
      let s := s.count .rejectedRows 0
      let s := if cause = 2 then s.count .shiftFaultRows 0 else s
      let s := s.countBy .concealedBlocks 0 (ceilDiv (x.cols p) 8)
      let s := s.wrv .lastRejection 0 (rejectionRecord x.handle p cause y)
      if f.raised then s else s.raise .garnetRowRejected [x.handle, p, y, cause]

/-- R142, R143: what a read of a block row makes the codec decide: the packet, and the one above it when it is rejected. -/
def State.readPacket (s : State) (x : Shown) (p y : Nat) : State :=
  if x.target = 0 then s
  else
    let s := s.decidePacket x p y
    if s.accepted x.handle p y = some false && decide (0 < y) then s.decidePacket x p (y - 1) else s

/-- R143: the neutral value of a plane. -/
def neutral (form d p : Nat) : Nat := if form = 0 ∨ p = 0 then 0 else 2 ^ (d - 1)

/-- R133: sample c of row r of an uncoded plane. -/
def State.rawSample (s : State) (x : Shown) (p c r : Nat) : Nat :=
  let n := rowBytes (x.cols p) x.depth
  let at0 := x.depth * c
  let b := s.bufRead x.handle (planeBase x.format x.width x.height p + r * n + at0 / 8) 3
  bitsAt (leNat b) (at0 % 8) x.depth

/-- R133, R141, R143: the sample of plane p at column c and row r, as the codec gives it. -/
def State.sample (s : State) (x : Shown) (p c r : Nat) : Nat :=
  if x.target = 0 then s.rawSample x p c r
  else
    let y := r / 2
    let blk := fun (y : Nat) => decodeBlock (s.blockOf x p (c / 8) y) x.depth x.target
    if s.accepted x.handle p y ≠ some false then (blk y).getD (8 * (r % 2) + c % 8) 0
    else if 0 < y ∧ s.accepted x.handle p (y - 1) ≠ some false then (blk (y - 1)).getD (8 + c % 8) 0
    else neutral x.form x.depth p

/-- A number of bits placed at bit positions, one field after another. -/
def packBits : List (Nat × Nat) → Nat
  | [] => 0
  | (n, v) :: t => v % 2 ^ n + 2 ^ n * packBits t

/-- R145: the largest absolute difference between samples and their decoded values. -/
def maxError (a b : List Nat) : Nat := (List.zipWith (fun x y => ((x : Int) - y).natAbs) a b).foldl max 0

/-- R145: FLAT. -/
def flatBlock (l : List Nat) (d : Nat) : Nat :=
  packBits [(2, 0), (d, (l.foldl min 65535 + l.foldl max 0 + 1) / 2)]

/-- R145: the residuals of a DPCM trial with shift k, from a reconstruction on. -/
def dpcmTrial (d k : Nat) (p : Int) : List Nat → List Int
  | [] => []
  | x :: t =>
    let h : Int := if k = 0 then 0 else 2 ^ (k - 1)
    let q := ((x : Int) - p + h) / 2 ^ k
    q :: dpcmTrial d k (dpcmNext d k p q) t

/-- R145: the residuals fit in r bits. -/
def fitsResidual (r : Nat) (q : Int) : Bool := decide (-(2 ^ (r - 1) : Int) ≤ q ∧ q < 2 ^ (r - 1))

/-- R145: DPCM, if some shift qualifies; the first that does. -/
def dpcmBlock (l : List Nat) (d b : Nat) : Option Nat :=
  let r := b - 1
  let o := serpentine.map (fun i => l.getD i 0)
  let p := o.headD 0
  ((List.range d).find? (fun k => (dpcmTrial d k p o.tail).all (fitsResidual r))).map (fun k =>
    packBits ([(2, 1), (4, k), (d, p)] ++ (dpcmTrial d k p o.tail).map (fun q => (r, uns r q))))

/-- R145: the level of a group of samples. -/
def levelOf (g : List Nat) : Nat := (g.sum + g.length / 2) / g.length

/-- R145: TWO-LEVEL. -/
def twoLevelBlock (l : List Nat) (d : Nat) : Nat :=
  let t := (l.foldl min 65535 + l.foldl max 0 + 1) / 2
  let hi := l.filter (fun x => decide (t ≤ x))
  let lo := l.filter (fun x => decide (x < t))
  let v1 := if hi = [] then levelOf lo else levelOf hi
  let v0 := if lo = [] then levelOf hi else levelOf lo
  packBits ([(2, 2), (d, v0), (d, v1)] ++ l.map (fun x => (1, if t ≤ x then 1 else 0)))

/-- R145: TRUNC. -/
def truncBlock (l : List Nat) (d b : Nat) : Nat :=
  packBits ((2, 3) :: l.map (fun x => (b - 1, x / 2 ^ (d - (b - 1)))))

/-- R145: of two candidates, the first unless the second has a smaller maximum error. -/
def betterBlock (l : List Nat) (d b : Nat) (x y : Nat) : Nat :=
  if maxError l (decodeBlock y d b) < maxError l (decodeBlock x d b) then y else x

/-- R145: the block the T9's encoder takes for 16 samples in raster order. -/
def encodeBlock (l : List Nat) (d b : Nat) : Nat :=
  let x := flatBlock l d
  let x := match dpcmBlock l d b with
    | some y => betterBlock l d b x y
    | none => x
  betterBlock l d b (betterBlock l d b x (twoLevelBlock l d)) (truncBlock l d b)

/-- R134: the 16 samples of block (bx, y) of a plane of w by h samples, edge positions filled. -/
def blockSamples (w h : Nat) (f : Nat → Nat → Nat) (bx y : Nat) : List Nat :=
  (List.range 16).map (fun i => f (min (8 * bx + i % 8) (w - 1)) (min (2 * y + i / 8) (h - 1)))

/-- R135, R145: block-row packet y of a plane. -/
def encodePacket (w h d b : Nat) (f : Nat → Nat → Nat) (y : Nat) : Bytes :=
  let body := (List.range (ceilDiv w 8)).flatMap (fun bx => leBytes (2 * b) (encodeBlock (blockSamples w h f bx y) d b))
  let pad := body ++ List.replicate (packetBytes w b - 4 - body.length) (0 : Byte)
  pad ++ leBytes 4 (crc32 pad)

/-- R133: row r of an uncoded plane. -/
def packRow (w d : Nat) (f : Nat → Nat → Nat) (r : Nat) : Bytes :=
  leBytes (rowBytes w d) (packBits ((List.range w).map (fun c => (d, f c r))))

/-- R132, R145: a plane of w by h samples of depth d, coded at target b or uncoded. -/
def encodePlane (w h d b : Nat) (f : Nat → Nat → Nat) : Bytes :=
  if b = 0 then (List.range h).flatMap (packRow w d f)
  else (List.range (ceilDiv h 2)).flatMap (encodePacket w h d b f)

end Sys2Proof.Machine
end

