-- ==== Sys2Proof/Machine/Colour.lean ====
section
/-! DEFINITION. Transfer functions, the colour pipeline, windows, layers, views and built-in patterns (R169 to R181). -/

namespace Sys2Proof.Machine

/-- The greatest number below 2^fuel, added to an accumulator, that still meets a monotone condition. -/
def greatest (ok : Nat → Bool) : Nat → Nat → Nat
  | 0, acc => acc
  | b + 1, acc => greatest ok b (if ok (acc + 2 ^ b) then acc + 2 ^ b else acc)

/-- R175: (i / 1,024)^2.4 in U1.31, rounded half up: the greatest n with (2n - 1)^5 at most i^12 x 2^40. -/
def bt1886 (i : Nat) : Nat := greatest (fun n => decide ((2 * n - 1) ^ 5 ≤ i ^ 12 * 2 ^ 40)) 32 0

/-- R176: (i / 1,024)^(gamma - 1) in U1.31, rounded half up; gamma - 1 in 1/1,000. -/
def gammaEntry (g i : Nat) : Nat :=
  if i = 0 then (if g = 0 then 2147483648 else 0)
  else greatest (fun n => decide ((2 * n - 1) ^ 1000 * 2 ^ (10 * g) ≤ i ^ g * 2 ^ 32000)) 32 0

/-- Fixed point with 256 fraction bits: 1. -/
def fixOne : Nat := 2 ^ 256

/-- ln 2 with 256 fraction bits. -/
def fixLn2 : Nat := 80260960185991308862233904206310070533990667611589946606122867505419956976172

/-- Bits of log2 of a number from 1 to 2, most significant first, as a number of `n` fraction bits. -/
def log2Bits : Nat → Nat → Nat → Nat
  | 0, _, acc => acc
  | n + 1, m, acc =>
    let q := m * m / fixOne
    if 2 * fixOne ≤ q then log2Bits n (q / 2) (2 * acc + 1) else log2Bits n q (2 * acc)

/-- Minus log2 of a number above 0 and at most 1, with 128 fraction bits. -/
def negLog2 (x : Nat) : Nat :=
  let e := 256 - Nat.log2 x
  e * 2 ^ 128 - log2Bits 128 (x * 2 ^ e) 0

/-- The exponential series from a term on. -/
def expSeries (y : Nat) : Nat → Nat → Nat → Nat
  | 0, _, _ => 0
  | n + 1, k, term => term + expSeries y n (k + 1) (term * y / fixOne / (k + 1))

/-- e^y of a number with 256 fraction bits, y below 4. -/
def fixExp (y : Nat) : Nat := expSeries y 120 0 fixOne

/-- 2 to minus a number with 128 fraction bits. -/
def exp2Neg (l : Nat) : Nat :=
  let whole := l / 2 ^ 128
  let frac := l % 2 ^ 128 * 2 ^ 128 * fixLn2 / fixOne
  fixOne * fixOne / fixExp frac / 2 ^ whole

/-- A number with 256 fraction bits in U1.31, rounded half up and held in range. -/
def toU131 (x : Nat) : Nat := min ((x / 2 ^ 224 + 1) / 2) 2147483648

/-- R175: the SMPTE ST 2084 EOTF over 10,000 cd/m2 at i / 1,024, in U1.31 (constants PRESUMED from that standard). -/
def pqEntry (i : Nat) : Nat :=
  if i = 0 then 0
  else
    let p := exp2Neg (negLog2 (i * 2 ^ 246) * 32 / 2523)
    let num := p - 3424 * fixOne / 4096
    let den := 2413 * fixOne / 128 - 2392 * p / 128
    if num = 0 then 0 else toU131 (exp2Neg (negLog2 (min (num * fixOne / den) fixOne) * 8192 / 1305))

/-- R175: the BT.2100 HLG inverse OETF at i / 1,024, in U1.31 (constants PRESUMED from that recommendation). -/
def hlgEntry (i : Nat) : Nat :=
  if i ≤ 512 then (i * i * 2 ^ 12 / 3 + 1) / 2
  else
    let y := (i - 512) * fixOne * 100000000 / (1024 * 17883277)
    toU131 ((71533108 * fixExp y / 100000000 + 28466892 * fixOne / 100000000) / 12)

/-- R175: entry i of the table of a transfer function. -/
def transferEntry (f : Look) (t i : Nat) : Nat :=
  match t with
  | 0 => i * 2097152
  | 1 => bt1886 i
  | 2 => pqEntry i
  | 3 => hlgEntry i
  | 6 => (f .customTransfer0 0).getD i 0
  | _ => (f .customTransfer1 0).getD i 0

/-- R175: a table of 1,025 entries interpolated at a U1.16 value. -/
def interpolate (l : Nat → Nat) (e : Nat) : Nat :=
  let i := e / 64
  if 1024 ≤ i then l 1024
  else ((l i : Int) + (((l (i + 1) : Int) - l i) * (e % 64 : Nat) + 32) / 64).toNat

/-- A number held at the greatest U32. -/
def satU32 (n : Nat) : Nat := min n 4294967295

/-- A quotient rounded to the nearest whole number, halves up. -/
def roundDiv (a : Int) (b : Nat) : Int := (2 * a + b) / (2 * b)

/-- R174: Y', R', G' or B' in U1.16. -/
def normLuma (full : Bool) (d code : Nat) : Int :=
  let s : Nat := 2 ^ (d - 8)
  let r := if full then roundDiv ((code : Int) * 65536) (2 ^ d - 1)
    else roundDiv (((code : Int) - 16 * s) * 65536) (219 * s)
  clampInt 0 65536 r

/-- R174: Cb or Cr in S1.16. -/
def normChroma (full : Bool) (d code : Nat) : Int :=
  let s : Nat := 2 ^ (d - 8)
  let r := if full then roundDiv (((code : Int) - 2 ^ (d - 1)) * 65536) (2 ^ d - 1)
    else roundDiv (((code : Int) - 128 * s) * 65536) (224 * s)
  clampInt (-32768) 32768 r

/-- Table 8.8: c_R, c_GB, c_GR and c_B. -/
def matrixCoef (m : Nat) : Int × Int × Int × Int :=
  if m = 0 then (25802, 3069, 7670, 30402) else (24160, 2696, 9361, 30825)

/-- R173: a chroma sample after the vertical pass. -/
def State.chromaV (s : State) (x : Shown) (p j r : Nat) : Nat :=
  if x.form = 3 then
    let h := x.rows p
    let i := r / 2
    let o := if r % 2 = 0 then i - 1 else min (i + 1) (h - 1)
    min ((3 * s.sample x p j i + s.sample x p j o + 2) / 4) (2 ^ x.depth - 1)
  else s.sample x p j r

/-- R173: chroma at a luma position. -/
def State.chroma (s : State) (x : Shown) (p c r : Nat) : Nat :=
  if x.form < 2 then s.sample x p c r
  else
    let top := x.cols p - 1
    let j := c / 2
    let v := fun (k : Nat) => (s.chromaV x p (min k top) r : Int)
    if c % 2 = 0 then s.chromaV x p j r
    else (clampInt 0 (2 ^ x.depth - 1) ((-(v (j - 1)) + 9 * v j + 9 * v (j + 1) - v (j + 2) + 8) / 16)).toNat

/-- R174: R', G', B' of a frame pixel in U1.16. -/
def State.rgbPrime (s : State) (x : Shown) (enc c r : Nat) : List Nat :=
  let full := enc.testBit 5
  let d := x.depth
  if x.form = 0 then [0, 1, 2].map (fun p => (normLuma full d (s.sample x p c r)).toNat)
  else
    let y := normLuma full d (s.sample x 0 c r)
    let cb := normChroma full d (s.chroma x 1 c r)
    let cr := normChroma full d (s.chroma x 2 c r)
    let k := matrixCoef (enc / 16 % 2)
    let cl := fun (v : Int) => (clampInt 0 65536 ((v + 8192) / 16384)).toNat
    [cl (16384 * y + k.1 * cr), cl (16384 * y - k.2.1 * cb - k.2.2.1 * cr), cl (16384 * y + k.2.2.2 * cb)]

/-- R175, R176: luminance of R, G and B from R'G'B'. -/
def luminance (f : Look) (enc peak : Nat) (rgb : List Nat) : List Nat :=
  let t := enc % 8
  let rel := rgb.map (interpolate (transferEntry f t))
  if t = 3 then
    let ys := (17216 * rel.getD 0 0 + 44433 * rel.getD 1 0 + 3887 * rel.getD 2 0 + 32768) / 65536
    let e := min ((ys + 16384) / 32768) 65536
    let k := interpolate (gammaEntry (f.n .hlgGamma 0 - 1000)) e
    rel.map (fun c => satU32 ((peak * c * k + 2 ^ 43) / 2 ^ 44))
  else
    let n := if t = 2 then 10000 else peak
    rel.map (fun c => satU32 ((c * n + 4096) / 8192))

/-- R177: the entry of a window's primaries matrix. -/
def primariesEnt (n : Nat) : Ent := if n = 0 then .matrix709 else if n = 1 then .matrix2020 else .matrixCustom

/-- R177: tile primaries from R, G, B. -/
def toTile (m : Val) (pc : Nat) (rgb : List Nat) : List Nat :=
  (List.range pc).map (fun p =>
    let q := fun (i : Nat) => sgn 32 (m.getD (3 * p + i) 0) * (rgb.getD i 0 : Int)
    (clampInt 0 4294967295 ((q 0 + q 1 + q 2 + 32768) / 65536)).toNat)

/-- R170: the frame pixel that a window lands on a tile pixel; none outside its crop or its frame. -/
def framePixel (f : Look) (w : Nat) (x : Shown) (px py : Nat) : Option (Nat × Nat) :=
  let crop := f.n .crop w
  let dest := f.n .destination w
  let i := (px : Int) - sgn 16 dest
  let j := (py : Int) - sgn 16 (dest / 65536)
  let c := (crop % 4096 : Nat) + i
  let r := (crop / 65536 % 2048 : Nat) + j
  if 0 ≤ i ∧ i < (crop / 2 ^ 32 % 8192 : Nat) ∧ 0 ≤ j ∧ j < (crop / 2 ^ 48 % 4096 : Nat) ∧ c < x.width ∧ r < x.height then
    some (c.toNat, r.toNat)
  else none

/-- R170: the window that a layer uses at a tile pixel, with the frame pixel: the highest-numbered one that is not
transparent there. -/
def layerWindow (f : Look) (shown : SMap Shown) (v layer px py : Nat) : Option (Nat × Shown × Nat × Nat) :=
  shown.reverse.findSome? (fun p =>
    let c := f.n .control p.1
    if c.testBit 8 && c % 8 = v && c / 16 % 4 = layer then
      (framePixel f p.1 p.2 px py).map (fun q => (p.1, p.2, q.1, q.2))
    else none)

/-- R178: one layer's windows over the layers below. -/
def State.blendLayer (s : State) (f : Look) (shown : SMap Shown) (v px py pc : Nat) (u : List Nat) (layer : Nat) :
    List Nat :=
  if (f.n .layerEnable v).testBit layer then
    match layerWindow f shown v layer px py with
    | none => u
    | some (w, x, c, r) =>
      let enc := f.n .encoding w
      let lin := luminance f enc (f.n .nominalPeak w) (s.rgbPrime x enc c r)
      let t := toTile (f (primariesEnt (enc / 256 % 4)) 0) pc lin
      let alpha := f.n .alpha w
      if (f.n .control w).testBit 9 then
        List.zipWith (fun a b => satU32 (a + (alpha * b + 2048) / 4096)) u t
      else List.zipWith (fun a b => (alpha * b + (4096 - alpha) * a + 2048) / 4096) u t
  else u

/-- R179: the tone curve at the largest primary. -/
def toneAt (knots : Val) (m : Nat) : Nat :=
  let x := fun (k : Nat) => knots.getD (2 * k) 0
  let y := fun (k : Nat) => knots.getD (2 * k + 1) 0
  if x 32 ≤ m then y 32
  else
    let k := ((List.range 32).filter (fun k => decide (x k ≤ m))).length - 1
    y k + ((m - x k) * (y (k + 1) - y k) + (x (k + 1) - x k) / 2) / (x (k + 1) - x k)

/-- R179: the tone curve keeps the ratios between primaries. -/
def tone (knots : Val) (v : List Nat) : List Nat :=
  let m := v.foldl max 0
  if m = 0 then v else let t := toneAt knots m; v.map (fun p => satU32 ((p * t + m / 2) / m))

/-- R180: the 20-bit output of a limited value. -/
def scaleOut (peak v : Nat) : Nat := (v * 1048575 + peak * 131072) / (peak * 262144)

/-- R180: the limit in linear units. -/
def limitOf (f : Look) (v : Nat) : Nat := min (f.n .brightnessLimit v) (f.n .tilePeak 0) * 262144

/-- R180: dimmer, limit and scale. -/
def finishPixel (f : Look) (v : Nat) (p : List Nat) : List Nat :=
  p.map (fun a => scaleOut (f.n .tilePeak 0) (min ((a * f.n .dimmer v + 16384) / 32768) (limitOf f v)))

/-- R169 to R180: the composited 20-bit output of a tile pixel of a view. -/
def State.composite (s : State) (f : Look) (shown : SMap Shown) (v px py : Nat) : List Nat :=
  let pc := f.n .primaryCount 0
  let u := [0, 1, 2, 3].foldl (s.blendLayer f shown v px py pc) (List.replicate pc 0)
  finishPixel f v (tone (f .toneCurve v) u)

/-- Table 8.11: whether a pattern lights a tile pixel, and with what value, but for Carmine and Ivory. -/
def patternValue (word level n w h px py : Nat) : Nat :=
  let cell := word / 65536 % 256
  let step := word / 256 % 256
  match word % 16 with
  | 1 => level
  | 2 => if w = 1 then level else px * level / (w - 1)
  | 3 => if (px / cell + py / cell + n / step) % 2 = 0 then level else 0
  | 4 => if py = n / step % h then level else 0
  | _ => 0

/-- R181: the pattern's output at a tile pixel. -/
def patternPixel (f : Look) (v n px py : Nat) : List Nat :=
  let word := f.n .pattern v
  let level := f.n .patternLevel v
  let w := f.n .tileWidth 0
  let h := f.n .tileHeight 0
  let pc := f.n .primaryCount 0
  (List.range pc).map (fun p =>
    if word % 16 = 6 then scaleOut (f.n .tilePeak 0) (limitOf f v)
    else if word % 16 = 5 then
      (let q := n / (word / 256 % 256) % (w * h * pc)
      if q / pc = py * w + px ∧ q % pc = p then level else 0)
    else if word / 16 % 8 = 7 ∨ word / 16 % 8 = p then patternValue word level n w h px py else 0)

/-- The frame boundaries of a grid from one time to another, both included. -/
def Geo.boundaries (g : Geo) (a b : Nat) : Nat :=
  if b < a ∨ b < g.epoch then 0 else g.lastK b + 1 - g.firstK a

/-- R181: frame boundaries crossed since a view's pattern took effect, up to a time, over the commits still to come. -/
def State.patternFrom (s : State) (v t : Nat) : List Pend → Nat → Nat → Nat
  | [], n, from_ => n + (s.geoAt t).boundaries (from_ + 1) t
  | p :: q, n, from_ =>
    if (p.value (key .pattern v)).isSome then s.patternFrom v t q 0 p.e
    else if (p.value (key .frameEpoch 0)).isSome || (p.value (key .framePeriod 0)).isSome then
      s.patternFrom v t q (n + (s.geoAt (p.e - 1)).boundaries (from_ + 1) (p.e - 1)) (p.e - 1)
    else s.patternFrom v t q n from_

/-- R181: n of a view's pattern for a refresh at a time in ns. -/
def State.patternCount (s : State) (v t : Nat) : Nat :=
  let later := (s.due t).filter (fun p => !p.done)
  s.patternFrom v t (later.mergeSort (fun a b => decide (a.e ≤ b.e))) (s.view v).patN (s.view v).patAt

/-- R181: the pattern counters of all views are brought up to a time on a grid. -/
def State.settlePatterns (s : State) (g : Geo) (t : Nat) : State :=
  s.forEach (List.range 8) (fun s v =>
    let a := s.view v
    if a.patAt < t then s.setView v { a with patN := a.patN + g.boundaries (a.patAt + 1) t, patAt := t } else s)

/-- R181: the pattern counters of all views go on counting from a time. -/
def State.restartPatterns (s : State) (t : Nat) : State :=
  s.forEach (List.range 8) (fun s v => s.setView v { s.view v with patAt := t })

/-- R181: display time jumps; the boundaries jumped over are not crossed, and those met again are crossed again. -/
def State.jumpPatterns (s : State) (t : Nat) : State := (s.settlePatterns s.geo s.now).restartPatterns t

/-- R169, R181: the 20-bit output of a tile pixel of a view for a refresh at a time. -/
def State.viewPixel (s : State) (f : Look) (shown : SMap Shown) (v n px py : Nat) : List Nat :=
  if f.n .pattern v % 16 = 0 then s.composite f shown v px py else patternPixel f v n px py

/-- R142: the block rows of a shown buffer that a read of a frame row touches, by plane. -/
def touchedRows (x : Shown) (r : Nat) : List (Nat × Nat) :=
  let chroma := fun (p : Nat) =>
    if x.form = 3 then
      let i := r / 2
      let o := if r % 2 = 0 then i - 1 else min (i + 1) (x.rows p - 1)
      [(p, i / 2), (p, o / 2)]
    else [(p, r / 2)]
  (0, r / 2) :: (chroma 1 ++ chroma 2)

/-- R142: the reads that the composition of a tile pixel makes, decided by the codec. -/
def State.readPixel (s : State) (f : Look) (shown : SMap Shown) (v px py : Nat) : State :=
  if f.n .pattern v % 16 ≠ 0 then s
  else
    s.forEach ([0, 1, 2, 3].filter (fun l => (f.n .layerEnable v).testBit l)) (fun s l =>
      match layerWindow f shown v l px py with
      | none => s
      | some (_, x, _, r) => s.forEach (touchedRows x r) (fun s q => s.readPacket x q.1 q.2))

end Sys2Proof.Machine
end

