-- ==== Sys2Proof/Machine/Comp.lean ====
section
/-! DEFINITION. The compensation and transition engines: coefficient records, drift, seams, concealment, drive values,
overdrive and first-row gain (R186 to R207). -/

namespace Sys2Proof.Machine

/-- Tables 9.3 and 9.4: the reset value of a coefficient record, as a number. -/
def resetRecord (pc : Nat) : Nat := packBits ((List.range pc).map (fun _ => (15, 16384)))

/-- R187: the bytes of a coefficient record. -/
def recordSize (pc : Nat) : Nat := if pc = 4 then 20 else 16

/-- R187: the place of a pixel's record in Quarry. -/
def State.recordAddr (s : State) (pc pixel : Nat) : Nat := s.storeAddr 0 + pixel * recordSize pc

/-- R187, R190: a pixel's coefficient record as a number. -/
def State.coefRecord (s : State) (pc pixel : Nat) : Nat :=
  if s.rd .coefValid 0 = 1 then leNat (s.quarryBytes (s.recordAddr pc pixel) (recordSize pc)) else resetRecord pc

/-- Tables 9.3 and 9.4: the record has Absent set. -/
def absentBit (pc r : Nat) : Bool := r.testBit (if pc = 4 then 156 else 117)

/-- Tables 9.3 and 9.4: the drift class of lamp p. -/
def driftClass (pc r p : Nat) : Nat := bitsAt r ((if pc = 4 then 140 else 105) + 4 * p) 4

/-- R188: the primary omitted from row p. -/
def omitted (m p : Nat) : Nat := m / 4 ^ p % 4

/-- R187, R188: the cross terms of row p: primary and coefficient. -/
def crossTerms (pc om r p : Nat) : List (Nat × Int) :=
  let qs := (List.range pc).filter (fun q => q ≠ p && !(pc = 4 && omitted om p = q))
  qs.zipIdx.map (fun a => (a.1, sgn 10 (bitsAt r ((if pc = 4 then 60 else 45) + 20 * p + 10 * a.2) 10)))

/-- R189: the matrix stage for lamp p. -/
def matrixStage (pc om r p : Nat) (v : List Nat) : Nat :=
  let cross := ((crossTerms pc om r p).map (fun a => a.2 * (v.getD a.1 0 : Int))).sum
  (clampInt 0 1048575 (((bitsAt r (15 * p) 15 * v.getD p 0 : Nat) + 4 * cross + 8192) / 16384)).toNat

/-- R192: the gain of a drift curve at a value. -/
def driftGain (g : Nat → Nat) (o : Nat) : Int :=
  let j := if o < 32 then 0 else Nat.log2 o - 4
  let x := if j = 0 then 0 else 2 ^ (j + 4)
  let len : Nat := if j = 0 then 32 else 2 ^ (j + 4)
  (g j : Int) + (((g (j + 1) : Int) - g j) * ((o : Int) - x) + len / 2) / len

/-- R193: the zone of a pixel. -/
def zoneOf (f : Look) (x y : Nat) : Nat :=
  let z := f.n .zoneGrid 0
  let cols := z % 16 + 1
  let rows := z / 16 % 16 + 1
  y * rows / f.n .tileHeight 0 * cols + x * cols / f.n .tileWidth 0

/-- R193, R226: the band in force for a zone at a time. -/
def State.bandAt (s : State) (t z : Nat) : Nat :=
  ((s.due t).reverse.findSome? (fun p => (p.dev.band.find? (fun a => a.1 = z)).map (·.2))).getD (s.rd .band z)

/-- R192: the drift stage. -/
def driftStage (f : Look) (p cls band o : Nat) : Nat :=
  let at0 := ((p * 16 + cls) * 8 + band) * 17
  let g := driftGain (fun k => (f .driftCurves 0).getD (at0 + k) 0) o
  (clampInt 0 1048575 (((o : Int) * g + 16384) / 32768)).toNat

/-- R194: the seam stage. -/
def seamStage (f : Look) (p x y u : Nat) : Nat :=
  min ((u * (f .seamColumn 0).getD (p * 4096 + x) 0 * (f .seamRow 0).getD (p * 2048 + y) 0 + 2 ^ 29) / 2 ^ 30) 1048575

/-- R195: an 18-bit drive value from 20 bits. -/
def driveOf (v : Nat) : Nat := min ((v + 2) / 4) 262143

/-- Table 9.7: the lamp of a ConcealList record. -/
def recLamp (r : Nat) : Nat := r % 4194304

/-- Table 9.7: the cause of a ConcealList record. -/
def recCause (r : Nat) : Nat := r / 4194304 % 4

/-- Table 9.6: the state code of a lamp. -/
def State.defState (s : State) (lamp : Nat) : Nat := SMap.get s.defects.st lamp 0

/-- R198, R199, R226: what a commit makes of the concealed lamps. -/
def Pend.conceals (p : Pend) (l : List Nat) : List Nat :=
  let l := match p.value (key .concealList 0) with
    | some v => (v.map recLamp).filter (fun a => !p.kept.contains a) ++ l.filter (fun a => p.kept.contains a)
    | none => l
  l ++ p.dev.conceal.map (fun a => a.1)

/-- Table 9.6: the lamps with a state code. -/
def State.lampsWith (s : State) (code : Nat) : List Nat := (s.defects.st.filter (fun p => p.2 = code)).map (fun p => p.1)

/-- R196, R199: the concealed lamps of a refresh that starts at a time. -/
def State.concealedAt (s : State) (t : Nat) : List Nat :=
  ((s.due t).filter (fun p => !p.done)).foldl (fun l p => p.conceals l) (s.lampsWith 9)

/-- R198, R200: the lamps that are CONFIRMED or OVERFLOW in a refresh that starts at a time: an OVERFLOW lamp that a
ConcealList value leaves out returns to OK as that value takes effect. -/
def State.shutAt (s : State) (t : Nat) : List Nat :=
  let freed := ((s.due t).filter (fun p => !p.done)).any (fun p => (p.value (key .concealList 0)).isSome)
  s.lampsWith 8 ++ if freed then [] else s.lampsWith 10

/-- R200: a lamp takes no share: it is CONFIRMED, CONCEALED or OVERFLOW, as the burst is computed (log 161). -/
def noShare (dead shut : List Nat) (lamp : Nat) : Bool := dead.contains lamp || shut.contains lamp

/-- R200: the neighbours of a pixel in the tile and the weights that they give it. -/
def neighbours (f : Look) (x y : Nat) : List (Nat × Nat × Nat) :=
  let w := f.n .tileWidth 0
  let h := f.n .tileHeight 0
  let wo := f.n .spreadWeights 0 % 4096
  let wd := f.n .spreadWeights 0 / 65536 % 4096
  let all : List (Int × Int × Nat) :=
    [(-1, 0, wo), (1, 0, wo), (0, -1, wo), (0, 1, wo), (-1, -1, wd), (1, -1, wd), (-1, 1, wd), (1, 1, wd)]
  all.filterMap (fun a =>
    let nx := (x : Int) + a.1
    let ny := (y : Int) + a.2.1
    if 0 ≤ nx ∧ nx < w ∧ 0 ≤ ny ∧ ny < h then some (nx.toNat, ny.toNat, a.2.2) else none)

/-- R200: the sum of the shares that concealed neighbours give to lamp p of a pixel. -/
def State.shares (s : State) (f : Look) (dead : List Nat) (pv : Nat → Nat → List Nat) (x y p : Nat) : Nat :=
  let w := f.n .tileWidth 0
  let pc := f.n .primaryCount 0
  ((neighbours f x y).map (fun a =>
    let n := a.2.1 * w + a.1
    if dead.contains (n * pc + p) && !absentBit pc (s.coefRecord pc n) then
      ((pv a.1 a.2.1).getD p 0 * a.2.2 + 2048) / 4096
    else 0)).sum

/-- R200: the spread value of lamp p of a pixel, and whether the ceiling cut its shares. -/
def State.spread (s : State) (f : Look) (dead shut : List Nat) (pv : Nat → Nat → List Nat) (x y p : Nat) :
    Nat × Bool :=
  let pc := f.n .primaryCount 0
  let n := y * f.n .tileWidth 0 + x
  let v := (pv x y).getD p 0
  if !(f.n .compControl 0).testBit 3 || absentBit pc (s.coefRecord pc n) || noShare dead shut (n * pc + p) then (v, false)
  else
    let sum := s.shares f dead pv x y p
    let top := max v (f.n .concealCeiling 0)
    (min (v + sum) top, decide (top < v + sum))

/-- R186 to R195: the drive value of lamp p of a pixel before overdrive, whether it is forced to 0, and whether the ceiling
of R200 cut shares. -/
def State.driveValue (s : State) (f : Look) (dead shut : List Nat) (t : Nat) (pv : Nat → Nat → List Nat) (x y p : Nat) :
    Nat × Bool × Bool :=
  let pc := f.n .primaryCount 0
  let n := y * f.n .tileWidth 0 + x
  let r := s.coefRecord pc n
  let cc := f.n .compControl 0
  let sp := (List.range pc).map (s.spread f dead shut pv x y)
  let v := sp.map (fun a => a.1)
  let cutOff := (sp.getD p (0, false)).2
  if absentBit pc r then (0, true, false)
  else if cc.testBit 3 && dead.contains (n * pc + p) then (0, true, false)
  else
    let o := if cc.testBit 0 then matrixStage pc (f.n .omitMap 0) r p v else v.getD p 0
    let u := if cc.testBit 1 then driftStage f p (driftClass pc r p) (s.bandAt t (zoneOf f x y)) o else o
    let q := if cc.testBit 2 then seamStage f p x y u else u
    (driveOf q, false, cutOff)

/-- R201: the log code of a drive value. -/
def logCode (x : Nat) : Nat :=
  if x < 32 then x else let e := Nat.log2 x; 16 * (e - 3) + x / 2 ^ (e - 4) % 16

/-- R205: the correction for the step from one code to another. -/
def overdriveDelta (tab : Val) (p cp cc : Nat) : Int :=
  let i := cp / 8
  let a : Int := (cp % 8 : Nat)
  let j := cc / 8
  let b : Int := (cc % 8 : Nat)
  let t := fun (i j : Nat) => sgn 32 (tab.getD ((p * 33 + i) * 33 + j) 0)
  ((8 - a) * (8 - b) * t i j + a * (8 - b) * t (i + 1) j + (8 - a) * b * t i (j + 1) + a * b * t (i + 1) (j + 1) + 32) / 64

/-- R207: the first-row gain. -/
def firstRow (f : Look) (p x : Nat) : Nat := min ((x * (f .firstRowGain 0).getD p 0 + 16384) / 32768) 262143

/-- R201 to R207: the transition engine on a lamp that is not forced: the drive after overdrive and first-row gain. -/
def transition (f : Look) (p prev d : Nat) (skip first : Bool) : Nat :=
  let oc := f.n .overdriveControl 0
  let delta := if oc.testBit 0 && !skip then overdriveDelta (f .overdriveTable 0) p prev (logCode d) else 0
  let x := (clampInt 0 262143 ((d : Int) + delta)).toNat
  if first && oc.testBit 1 then firstRow f p x else x

/-- R202: the place of a lamp's code in Quarry. -/
def State.prevAddr (s : State) (lamp : Nat) : Nat := s.storeAddr 1 + lamp

/-- R203: the previous-output store is filled with code 0. -/
def State.clearPrev (s : State) : State :=
  { s with quarry := SMap.clear s.quarry (s.storeAddr 1) (s.storeSize 1) }

/-- R198: the rules of a ConcealList value, against the tile in force. -/
def State.concealListOk (s : State) (v : Val) : Bool :=
  let pc := s.rd .primaryCount 0
  let total := s.rd .tileWidth 0 * s.rd .tileHeight 0 * pc
  let lamps := v.map recLamp
  decide (v.length ≤ 16384) && decide lamps.Nodup && v.all (fun r => r / 16777216 = 0)
    && lamps.all (fun l => decide (l < total) && !absentBit pc (s.coefRecord pc (l / pc)))

/-- Table 9.6: a lamp's state code is set. -/
def State.setDef (s : State) (lamp code : Nat) : State :=
  { s with defects := { s.defects with st := SMap.set s.defects.st 0 lamp code } }

/-- R198, R229: a ConcealList value takes effect; the lamps that the device appended to it wait for their own E (R199). -/
def State.concealCommitted (s : State) (v : Val) (kept : List Nat) : State :=
  let lamps := v.map recLamp
  let s := { s with defects := { s.defects with
    st := s.defects.st.filter (fun p => !((p.2 = 9 || p.2 = 10) && !lamps.contains p.1)) } }
  s.forEach v (fun s r =>
    if s.defState (recLamp r) = 9 ∨ recLamp r ∈ kept then s
    else (s.setDef (recLamp r) 9).raise .defectConcealed [recLamp r, recCause r])

/-- R199: device concealments take effect. -/
def State.concealDevice (s : State) (l : List (Nat × Nat)) : State :=
  s.forEach l (fun s a =>
    if s.defState a.1 = 9 then s else (s.setDef a.1 9).raise .defectConcealed [a.1, a.2])

/-- R198: the defect states are rebuilt from the list, SUSPECT counts lost. -/
def State.rebuildDefects (s : State) : State :=
  { s with defects := { s.defects with
    st := (s.rdv .concealList 0).foldl (fun m r => SMap.put m (recLamp r) 9) [], cause := [], seen := [] } }

/-- R198, R208: as a domain enters ON after the table store lost its content, its values are written back. -/
def State.tableReturns (s : State) (d : Nat) : State :=
  if s.power.tableLost.contains d then
    let s := { s with power := { s.power with tableLost := s.power.tableLost.filter (· ≠ d) } }.writeBack d
    if d = 13 then s.rebuildDefects else s
  else s

/-- R5, R191: a change of PrimaryCount. -/
def primaryCountEff (v : Val) (s : State) : State × Ans :=
  let n := v.headD 0
  if s.running then (s, ans .state)
  else if (n ≠ 3 ∧ n ≠ 4) ∨ !tileFits (s.rd .tileWidth 0) (s.rd .tileHeight 0) n then (s, ans .range)
  else if n = s.rd .primaryCount 0 then (s, ans .ok)
  else
    let s := (s.wr .primaryCount 0 n).coefLost 0xFF
    let s := { s with defects := { since := s.defects.since } }.setStaged
      (s.mgmt.staged.map (fun (p : Nat × Val) => if p.1 = key .concealList 0 then (p.1, []) else p))
    (s.wrv .concealList 0 [], ans .ok)

/-- PRIMARY_COUNT_WRITE (R191). -/
def execPrimaryCountWrite (e : Env) (v : Bytes) (s : State) : Host.Outcome State Fault Refusal :=
  .next (s.writeCmd e .primaryCount 0 v primaryCountEff)

end Sys2Proof.Machine
end

