-- ==== Sys2Proof/Machine/Modl.lean ====
section
/-! DEFINITION. The plane modulator: accepted commits and their effect, timing-mode changes and Slate frames, start and
stop, device commits, dither and the computation of bursts (R211 to R234). -/

namespace Sys2Proof.Machine

/-- The quantities of a configuration that set slots, rows and planes (R230). -/
def Geo.timing (g : Geo) : Geo := { g with m := 0, w := 0, h := 0, pc := 0, n := 0, oc := 0, laneMap := [], order := 0 }

/-- R230: what a configuration has that a compatible change leaves alone. -/
def Look.mode (f : Look) : SlateMode :=
  { b := f.n .laneRate 0, k := f.n .scanRatio 0, p := f.n .planeCount 0, grey := f.n .driveMode 0 = 1 }

/-- R230: a change from one configuration to another is incompatible. -/
def incompatible (a b : Look) : Bool := a.mode ≠ b.mode

/-- R226: the parameters at an effect time under the commits before it and the first ones that wait for it. -/
def State.paramStep (s : State) (e i : Nat) : Look :=
  let l := ((s.modl.commits.filter (fun p => !p.done && decide (p.e = e))).take i).map (·.gen)
  s.over (s.modl.commits.filter (fun p => p.done || decide (p.e < e) || (decide (p.e = e) && l.contains p.gen)))

/-- R230: the first incompatible change among the commits that wait for an effect time, each judged on what those accepted
before it leave. -/
def State.slateStep (s : State) (e : Nat) : Option (Look × Look) :=
  (List.range (s.modl.commits.filter (fun p => !p.done && decide (p.e = e))).length).findSome? (fun i =>
    let a := s.paramStep e i
    let b := s.paramStep e (i + 1)
    if incompatible a b then some (a, b) else none)

/-- R230, R231: a commit of an effect time is incompatible, those that have come included. -/
def State.slateAt (s : State) (e : Nat) : Bool := s.modl.before = some (e, true) || (s.slateStep e).isSome

/-- R231: a Slate frame covers a time: the one in force, or one that a pending commit brings. -/
def State.inSlate (s : State) (t : Nat) : Bool :=
  (match s.modl.slate with | some (a, b) => decide (a ≤ t ∧ t < b) | none => false)
    || s.modl.commits.any (fun p => !p.done && decide (p.e ≤ t) && decide (t < s.nextFrame p.e) && s.slateAt p.e)

/-- R223: the place after a place in a lane's launch order. -/
def State.nextPlace (s : State) (frame j row seq : Nat) : Nat × Nat × Nat × Nat :=
  let g := s.geoAt frame
  if row + 1 < g.k then (frame, j, row + 1, seq)
  else if j + 1 < g.slots then (frame, j + 1, 0, (seq + 1) % 65536)
  else (s.nextFrame frame, 0, 0, (seq + 1) % 65536)

/-- The low w bits of a number, most significant first (R240). -/
def msbBits (w n : Nat) : List Bool := (bitList w n).reverse

/-- R240: a lane frame: start bit, command, payload. -/
def laneFrame (command : Nat) (payload : List Bool) : List Bool := true :: (msbBits 3 command ++ payload)

/-- Table 11.3: the CONFIG frame. -/
def Geo.config (g : Geo) : List Bool :=
  laneFrame 0 (msbBits 13 (g.oc - 1) ++ [g.grey] ++ msbBits 6 (g.k - 1) ++ msbBits 4 (if g.grey then 15 else g.p - 1))

/-- R239: the UI of the first rising edge of LCLK at or after an instant in 2^-32 ns: a rising edge comes every second UI,
counted from display time 0 (DESIGN CHOICE, log 138). -/
def Geo.risingUi (g : Geo) (x : Nat) : Nat := 2 * ceilDiv (x * g.b) (2000 * 4294967296)

/-- R239, R242: whole LEVEL_PART frames in the idle time of a dwell after a frame of some bits; every frame starts on a rising
edge of LCLK. -/
def Geo.idleParts (g : Geo) (dwell bits : Nat) : Nat :=
  (g.risingUi (dwell + g.tau) - g.risingUi dwell - (bits + bits % 2)) / 12

/-- R21, R261: a quadrant is dark. -/
def State.quadDark (s : State) (q : Nat) : Bool :=
  let a := s.quad q
  a.dip || a.unlock || a.hot || a.relock.isSome || !s.alive (16 + q)

/-- R256: the output delay of a lane under a configuration, ps, the nearest multiple of 5 (log 139). -/
def State.laneDelay (s : State) (f : Look) (lane : Nat) : Int :=
  clampInt (-1000) 1000 ((sgn 16 (s.rd .deskewTrim lane) + sgn 16 (f.n .boardDelay lane) + 2) / 5 * 5)

/-- R223: the RefreshSeq of the first refresh of the frame at a boundary, from a place before it, over a number of frames. -/
def State.seqFrom (s : State) (t : Nat) : Nat → Nat → Nat → Nat → Nat
  | 0, _, _, seq => seq
  | n + 1, frame, j, seq =>
    if t ≤ frame then seq else s.seqFrom t n (s.nextFrame frame) 0 ((seq + ((s.geoAt frame).slots - j)) % 65536)

/-- R223: the RefreshSeq that a lane gives the first refresh of the frame at a boundary. -/
def State.seqAt (s : State) (a : LaneLed) (t : Nat) : Nat :=
  match a.ents.find? (fun x => x.frame = t && x.j = 0) with
  | some x => x.seq
  | none => s.seqFrom t 16 a.frame a.j a.seq

/-- Table 11.4: the payloads of parts 0 to 5 of a level set. -/
def Geo.levelSet (g : Geo) (bank : Nat) : List Nat :=
  if g.grey then []
  else (List.range 6).map (fun i =>
    let lv := fun (n : Nat) => match g.planes[n]? with | some e => e / 16 % 4 | none => 0
    bank * 128 + i * 16 + lv (2 * i + 1) * 4 + lv (2 * i))

/-- R243: from an instant an enabled lane carries CONFIG and the level set of the refresh that is lit first, by its
boundary and its RefreshSeq; its delay is the one in force as they are shifted (R256). -/
def State.sendConfig (s : State) (lane dwell first seq : Nat) : State :=
  let g := s.geoAt first
  s.setLout lane { s.lout lane with
    frame := g.config, start := g.risingUi dwell, more := []
    levels := g.levelSet (seq % 2), levelOf := some (first, seq), parts := g.idleParts dwell 28, level := 0
    wait := [], arm := none, delay := s.laneDelay (s.paramAt (dwell / 4294967296)) lane }

/-- R243, R261: a quadrant's lanes carry CONFIG and levels: it is not dark, or it only waits for its resume boundary. -/
def State.carries (s : State) (q : Nat) : Bool := !s.quadDark q || (s.quad q).relock.isSome

/-- R243: every enabled lane of the quadrants that carry them sends CONFIG and the level set of the refresh lit first, at a
start of the modulator and at the start of a Slate frame that ends at a boundary. -/
def State.configAll (s : State) (dwell first : Nat) : State :=
  s.forEach s.modl.lanes (fun s p =>
    if s.carries (p.1 / 128) then s.sendConfig p.1 dwell first (s.seqAt p.2 first) else s)

/-- A lane's entries whose refreshes start before E. -/
def LaneLed.before (a : LaneLed) (e : Nat) : List LedEnt := a.ents.filter (fun x => decide (x.start / 4294967296 < e))

/-- A lane's entries whose refreshes start at or after E. -/
def LaneLed.after (a : LaneLed) (e : Nat) : List LedEnt := a.ents.filter (fun x => decide (e ≤ x.start / 4294967296))

/-- R231: a lane's entries at or after E are discarded, and its launch order goes on from E. -/
def LaneLed.discard (a : LaneLed) (e : Nat) : LaneLed :=
  if a.after e = [] ∧ a.frame < e then a
  else { a with ents := a.before e, frame := e, j := 0, row := 0, seq := ((a.after e).head?.map (fun x => x.seq)).getD a.seq }

/-- R223, R230: entries in launch order take the places from one on, under the timing that holds there. -/
def State.placeFrom (s : State) : List LedEnt → Nat × Nat × Nat × Nat → List LedEnt × (Nat × Nat × Nat × Nat)
  | [], p => ([], p)
  | x :: t, p =>
    let g := s.geoAt p.1
    let r := s.placeFrom t (s.nextPlace p.1 p.2.1 p.2.2.1 p.2.2.2)
    ({ x with
        frame := p.1, j := p.2.1, row := p.2.2.1, seq := p.2.2.2, view := g.slotView p.2.1, start := g.slotStart p.1 p.2.1 } :: r.1,
      r.2)

/-- R224, R230: a compatible change of timing at E: a lane's squashed entries stand for the new slots from E on. -/
def State.replace (s : State) (a : LaneLed) (e : Nat) : LaneLed :=
  if a.after e = [] ∧ a.frame < e then a
  else
    let first := (a.after e).headD { row := a.row, seq := a.seq }
    let r := s.placeFrom (a.after e) (e, 0, first.row, first.seq)
    let p := r.2
    { a with ents := a.before e ++ r.1, frame := p.1, j := p.2.1, row := p.2.2.1, seq := p.2.2.2 }

/-- The state with every lane's ledger changed. -/
def State.mapLeds (s : State) (f : LaneLed → LaneLed) : State :=
  { s with modl := { s.modl with lanes := s.modl.lanes.map (fun (p : Nat × LaneLed) => (p.1, f p.2)) } }

/-- R226: an accepted commit waits. -/
def State.addPend (s : State) (p : Pend) : State := { s with modl := { s.modl with commits := s.modl.commits ++ [p] } }

/-- R224, R230, R231: an accepted commit waits for its effect time; it squashes what was computed for its refreshes, or, when
it is incompatible, discards it. -/
def State.squashFor (s : State) (p : Pend) : State :=
  let before := s.geoAt p.e
  let after := (s.addPend p).geoAt p.e
  if !s.running then s.addPend p
  else if incompatible (s.paramAt p.e) ((s.addPend p).paramAt p.e) then (s.addPend p).mapLeds (fun a => a.discard p.e)
  else
    let t := (s.squash p.gen p.e none).addPend p
    if before.timing ≠ after.timing then t.mapLeds (fun a => t.replace a p.e) else t

/-- A value takes its place in the register file without a count of Revision, which acceptance has counted (R283). -/
def State.setRaw (s : State) (k : Nat) (d v : Val) : State := { s with regs := SMap.set s.regs d k v }

/-- R226: committed values take effect. -/
def State.putValues (s : State) (l : List (Nat × Val)) : State :=
  s.forEach l (fun s p => match entOfKey p.1 with | some e => s.setRaw p.1 e.dflt p.2 | none => s)

/-- R231, R243: a Slate frame begins at E; `cause` is 0 for a start, else the index of the entry changed. -/
def State.beginSlate (s : State) (e cause : Nat) : State :=
  let again : Bool := match s.modl.slate with | some (a, _) => decide (a = e) | none => false
  let s := { s with modl := { s.modl with slate := some (e, s.nextFrame e) } }.clearPrev
  if again then s else ((s.configAll (e * 4294967296) (s.nextFrame e)).count .slateFrames 0).raise .slateFrame [cause]

/-- R233, R234: the throttle step changes. -/
def State.setThrottle (s : State) (n e : Nat) : State :=
  let old := s.rd .throttleStep 0
  let ok := step2Ok (s.rd .viewCount 0) (s.rd .refreshesPerView 0) (s.rd .framePeriod 0)
  if n = 2 && !ok then { s with modl := { s.modl with noStep2 := true } }.raise .throttleStep [2, 1]
  else
    let s := s.wr .throttleStep 0 n
    let s := { s with modl := { s.modl with
      t1 := if old < n ∧ n = 1 then e else s.modl.t1
      t2 := if n < old ∧ old = 2 then e else s.modl.t2 } }
    if old < n then s.raise .throttleStep [n, 0]
    else if n < old then s.raise .throttleRelease [old] else s

/-- R234: a commit leaves throttle step 2 available or not. -/
def State.step2Check (s : State) : State :=
  let ok := step2Ok (s.rd .viewCount 0) (s.rd .refreshesPerView 0) (s.rd .framePeriod 0)
  if ok then { s with modl := { s.modl with noStep2 := false } }
  else if s.rd .throttleStep 0 = 2 then
    ({ s with modl := { s.modl with noStep2 := true } }.wr .throttleStep 0 1).raise .throttleStep [2, 1]
  else s

/-- R182: the armed or running capture is aborted. -/
def State.abortCapture (s : State) (cause : Nat) : State :=
  if s.rd .captureState 0 = 0 then s
  else
    let h := s.cap.handle
    ((s.setHandle h 0).wr .captureState 0 0).raise .captureAborted [h, cause]

/-- R168: views that a commit disables. -/
def State.disableViews (s : State) (old new : Nat) : State :=
  let s := s.forEach ((List.range old).drop new) (fun s v => s.disableView v)
  if s.rd .captureState 0 ≠ 0 ∧ new ≤ s.cap.view then s.abortCapture 1 else s

/-- R226: queued launch entries off the new grid are removed. -/
def State.regrid (s : State) : State :=
  let g := s.geo
  s.forEach (List.range 8) (fun s v => s.flushQueue v (fun x => !g.isBoundary x.instant))

/-- R98, R168: windows whose Control names a view that is disabled, or that has not launched since it was enabled, show
nothing. -/
def State.dropHidden (s : State) : State :=
  let off := fun (p : Nat × Shown) =>
    let v := s.rd .control p.1 % 8
    decide (s.rd .viewCount 0 ≤ v) || !(s.view v).launched
  let gone := s.shown.filter off
  if gone = [] then s
  else
    ({ s with shown := s.shown.filter (fun p => !off p) }).forEach (gone.map (fun (p : Nat × Shown) => p.2.handle)).eraseDups
      (fun s h => s.leaveShowing h)

/-- R231: the entry whose change makes a change of configuration incompatible. -/
def slateCause (a b : Look) : Nat :=
  match incompatEnts.find? (fun x => a x 0 ≠ b x 0) with | some x => x.info.sub | none => 0

/-- R229: what a device commit sets takes effect. -/
def State.applyDev (s : State) (d : DevChange) (e : Nat) : State :=
  let s := s.forEach d.band (fun s a => s.wr .band a.1 a.2)
  let s := s.concealDevice d.conceal
  match d.throttle with
  | some n => s.setThrottle n e
  | none => s

/-- R226: committed values reach the table store. -/
def State.putTables (s : State) (l : List (Nat × Val)) : State :=
  { s with tables := s.tables.filter (fun (p : Nat × Val) => (SMap.find l p.1).isNone) }

/-- R226, R230: a commit takes effect at a time: its values apply, under those of later commits that have come, and its
changes act; `g0` is the configuration before it, `slate` the cause of the Slate frame that it brings. -/
def State.applyPend (s : State) (p : Pend) (later : List Pend) (e : Nat) (g0 : Geo) (slate : Option Nat) : State :=
  let before := s.rdv
  let changed := p.changes before timingEnts
  let grid := changed.contains .frameEpoch || changed.contains .framePeriod
  let s := if grid then s.settlePatterns g0 (e - 1) else s
  let s := (s.putValues p.values).putTables p.values
  let s := s.forEach (later.filter (fun q => q.done)) (fun s q => s.putValues q.values)
  let s := s.forEach ((List.range 8).filter (fun v => (p.value (key .pattern v)).isSome)) (fun s v =>
    s.setView v { s.view v with patN := 0, patAt := e })
  let s := if changed.contains .viewCount then s.disableViews (before .viewCount 0).sum (s.rd .viewCount 0) else s
  let s := if grid then s.regrid else s
  let s := s.dropHidden
  let s := match slate with
    | some c => s.beginSlate e c
    | none => s
  let s := match p.value (key .concealList 0) with
    | some v => s.concealCommitted v p.kept
    | none => s
  let s := if grid || changed.contains .viewCount || changed.contains .refreshesPerView then s.step2Check else s
  s.applyDev (if later.any (fun q => q.done && q.dev.throttle.isSome) then { p.dev with throttle := none } else p.dev) e

/-- Commits that have come and that no earlier accepted one waits behind are no longer kept. -/
def dropDone : List Pend → List Pend
  | [] => []
  | p :: t => if p.done then dropDone t else p :: t

/-- R225: host commits that await their effect time. -/
def State.hostPending (s : State) : Nat := (s.modl.commits.filter (fun p => p.origin = .host && !p.done)).length

/-- R283: PendingCommits counts its changes. -/
def State.showPending (s : State) : State := s.wr .pendingCommits 0 s.hostPending

/-- R226: the i-th waiting commit takes effect. -/
def State.effectOf (s : State) (i e : Nat) : State :=
  match s.modl.commits[i]? with
  | none => s
  | some p =>
    if p.done then s
    else
      let later := s.modl.commits.drop (i + 1)
      let g0 := s.geoAt (e - 1)
      let slate := if s.running && s.slateAt e then some (((s.slateStep e).map (fun x => slateCause x.1 x.2)).getD 0) else none
      let s := { s with modl := { s.modl with
        before := some (e, s.slateAt e), commits := s.modl.commits.set i { p with done := true } } }
      let s := s.applyPend p later e g0 slate
      { s with modl := { s.modl with commits := dropDone s.modl.commits } }.showPending

/-- R232: every waiting commit takes effect at a time, in generation order. -/
def State.effectAll (s : State) (e : Nat) : State :=
  let ps := s.modl.commits
  let s := { s with modl := { s.modl with commits := [] } }.showPending
  s.forEach (ps.filter (fun p => !p.done)) (fun s p =>
    s.applyPend p (ps.filter (fun q => q.done && decide (p.gen < q.gen))) e s.geo none)

/-- The number of the waiting commit whose effect time comes first. -/
def firstDue (ps : List Pend) : Option (Nat × Nat) :=
  ps.zipIdx.foldl (fun b p =>
    if p.1.done then b
    else match b with
      | none => some (p.2, p.1.e)
      | some c => if p.1.e < c.2 then some (p.2, p.1.e) else b) none

/-- COMMIT_EFFECT (R226): the clocks move on to the next effect time and the commit takes effect. -/
def commitEffectEff (s : State) : State :=
  match firstDue s.modl.commits with
  | none => s
  | some (_, e) =>
    let s := s.untilDisp e
    match firstDue s.modl.commits with
    | some (i, e) => if e ≤ s.now then s.effectOf i e else s
    | none => s

/-- COMMIT_EFFECT (R226). -/
def execCommitEffect (s : State) : Host.Outcome State Fault Refusal := .next (commitEffectEff s)

/-- R283: the Revision of the entries that an accepted commit changes goes up at its acceptance. -/
def State.reviseFor (s : State) (l : List (Nat × Val)) : State :=
  s.forEach l (fun s p =>
    let old := match entOfKey p.1 with | some e => s.committed e (p.1 % 65536) | none => p.2
    if old = p.2 then s
    else { s with revs := SMap.put s.revs p.1 ((SMap.get s.revs p.1 0 + 1) % 4294967296) })

/-- R242, R262: the level cycles still to come carry the levels that now hold for their refresh. -/
def State.relevel (s : State) : State :=
  { s with louts := s.louts.map (fun (p : Nat × LaneOut) =>
      match p.2.levelOf with
      | some (t, q) => (p.1, { p.2 with levels := (s.geoAt t).levelSet (q % 2) })
      | none => p) }

/-- R224 to R226: an accepted change of parameters waits for its effect time, or takes effect at once. -/
def State.acceptPend (s : State) (p : Pend) (late : Bool) : State :=
  let s := (s.reviseFor p.values).squashFor p
  let s := s.relevel.wrv .lastCommit 0 (commitRecord p late)
  if s.running && decide (s.now < p.e) then s.showPending else s.effectOf (s.modl.commits.length - 1) p.e

/-- R229: a commit that the device makes itself. -/
def State.deviceCommit (s : State) (origin : Origin) (isFrame : Bool) (d : DevChange) : State :=
  let g := s.nextGen
  let s := g.2
  let after := match d.throttle with
    | some n => geoOf (s.paramAt s.now) n
    | none => s.geo
  let e := if s.running then s.effectTime (s.dispFine + horizon2 s.geo after) isFrame else s.now
  s.acceptPend { gen := g.1, origin := origin, isFrame := isFrame, e := e, dev := d } false

/-- The commit class of a register key. -/
def keyClass (k : Nat) : Cls := match entOfKey k with | some e => e.info.cls | none => .none

/-- R221, R225, R226, R281: a COMMIT of the staging owner; the answer, and the accepted commit. -/
def State.hostCommit (s : State) (req : Nat) : Status × Option (Pend × Bool) :=
  let staged := s.mgmt.staged
  let isFrame := staged.any (fun p => keyClass p.1 = .frame)
  let before := s.geo
  let after := geoOf s.withStaged (s.throttleAt s.now)
  let h := horizon2 before after
  let e := if s.running then s.effectTime (max (req * 4294967296) (s.dispFine + h)) isFrame else s.now
  let late := s.running && decide (req ≠ 0 ∧ req * 4294967296 < s.dispFine + h)
  let gridChange := [Ent.frameEpoch, Ent.framePeriod].any (fun x => s.withStaged x 0 ≠ s.committed x 0)
  let gridOk := !(s.running && gridChange) || after.isBoundary e
  let listOk := match SMap.find staged (key .concealList 0) with
    | some v => s.concealListOk v
    | none => true
  if 16 ≤ s.hostPending then (.busy, none)
  else if s.running && decide (s.now + 60000000000 < req) then (.range, none)
  else
    match s.configCheck s.withStaged staged (gridOk && listOk) with
    | some st => (st, none)
    | none =>
      (.ok, some ({ gen := s.nextGen.1, isFrame := isFrame, req := req, e := e,
                    values := staged.filter (fun p => keyClass p.1 = .refresh || keyClass p.1 = .frame) }, late))

/-- R225, R281: the accepted commit goes in force. -/
def State.acceptHost (s : State) (p : Pend) (late : Bool) : State :=
  let s := s.nextGen.2
  let s := if late then (s.count .lateCommits 0).raise .commitLate [p.gen, p.req, p.e] else s
  s.acceptPend p late

/-- SLATE_FRAME_END (R231). -/
def slateFrameEndEff (s : State) : State :=
  match s.modl.slate with
  | none => s
  | some (_, b) =>
    let s := s.untilDisp b
    if s.running && decide (b ≤ s.now) then
      let first := !s.modl.wasSlate
      let s := { s with modl := { s.modl with slate := none, wasSlate := true } }
      if first then s.raise .modulatorRun [1] else s
    else s

/-- SLATE_FRAME_END (R231). -/
def execSlateFrameEnd (s : State) : Host.Outcome State Fault Refusal := .next (slateFrameEndEff s)

/-- R232: D15 and the quadrants that hold enabled lanes are ON. -/
def State.lanesOn (s : State) (n : Nat) : Bool :=
  s.on 15 && (List.range 4).all (fun q => decide (n ≤ 128 * q) || s.on (16 + q))

/-- R232: a write of 1 to ModulatorRun. -/
def startEff (s : State) : State × Ans :=
  if s.modl.startE.isSome || s.modl.stopE.isSome then (s, ans .busy)
  else if s.running then (s, ans .ok)
  else if !s.lanesOn (s.committed.n .laneCount 0) then (s, ans .state)
  else
    match s.configCheck s.committed [] true with
    | some st => (s, ans st)
    | none =>
      let g := geoOf s.committed (s.rd .throttleStep 0)
      let e := s.effectTime (s.dispFine + horizonOf g.d g.tslot) true
      ({ s with modl := { s.modl with startE := some e } }, ans .ok)

/-- R232: a write of 0 to ModulatorRun. -/
def stopEff (s : State) : State × Ans :=
  if s.modl.startE.isSome || s.modl.stopE.isSome then (s, ans .busy)
  else if !s.running then (s, ans .ok)
  else
    let e := s.effectTime (s.dispFine + s.horizon) true
    ({ s with modl := { s.modl with stopE := some e } }, ans .ok)

/-- R232: a write to ModulatorRun. -/
def modulatorRunEff (v : Val) (s : State) : State × Ans :=
  if v = [1] then startEff s else if v = [0] then stopEff s else (s, ans .range)

/-- MODULATOR_START (R232). -/
def execModulatorStart (e : Env) (s : State) : Host.Outcome State Fault Refusal :=
  .next (s.writeCmd e .modulatorRun 0 [1] modulatorRunEff)

/-- MODULATOR_STOP (R232). -/
def execModulatorStop (e : Env) (s : State) : Host.Outcome State Fault Refusal :=
  .next (s.writeCmd e .modulatorRun 0 [0] modulatorRunEff)

/-- R214, R220, R223, R232: the ledger of a lane at a start with its first frame at E: the bursts whose launch lines lie at or
before E, two in plane mode and one in grey mode, are dark and are not computed. -/
def State.freshLed (s : State) (e : Nat) : LaneLed :=
  let p := s.nextPlace e 0 0 0
  let p := if (s.geoAt e).grey then p else s.nextPlace p.1 p.2.1 p.2.2.1 p.2.2.2
  { frame := p.1, j := p.2.1, row := p.2.2.1, seq := p.2.2.2 }

/-- R224, R231, R232: the modulator starts at E. -/
def State.startModulator (s : State) (e : Nat) : State :=
  let s := (s.wr .modulatorRun 0 1).wr .generation 0 0
  let s := { s with modl := { s.modl with
    gen := 0, startE := none, stopE := none, slate := none, before := none, wasSlate := false, staging := [], missedSeq := none
    skipSeq := [], clipSeq := []
    lanes := (List.range (s.rd .laneCount 0)).map (fun l => (l, s.freshLed e)) } }
  s.beginSlate e 0

/-- MODULATOR_START_EFFECT (R232). -/
def modulatorStartEffectEff (s : State) : State :=
  match s.modl.startE with
  | none => s
  | some e =>
    let s := s.untilDisp e
    if s.alive 15 && decide (e ≤ s.now) then s.startModulator e else s

/-- MODULATOR_START_EFFECT (R232). -/
def execModulatorStartEffect (s : State) : Host.Outcome State Fault Refusal := .next (modulatorStartEffectEff s)

/-- R238: the outputs of a stopped modulator: lanes and row commands idle, row gates low. -/
def State.idleOutputs (s : State) : State :=
  { s with
    louts := s.louts.map (fun (p : Nat × LaneOut) =>
      (p.1, { p.2 with
        frame := [], more := [], levels := [], levelOf := none, parts := 0, level := 0
        wait := [], arm := none, gap := false, spent := false }))
    rows := s.rows.map (fun (p : Nat × RowPort) => (p.1, { p.2 with frame := 0, named := none, edges := [] }))
    groups := s.groups.map (fun (p : Nat × GroupRb) => (p.1, { p.2 with want := [], edges := [] }))
    quads := s.quads.map (fun (p : Nat × Quad) => (p.1, { p.2 with counting := false })) }

/-- R378: a lane's restored trims that waited for its idle time apply. -/
def State.applyHeld (s : State) (l : Nat) : State :=
  let o := s.lout l
  let s := s.forEach o.held (fun s p => match entOfKey p.1 with | some e => s.wrv e (p.1 % 65536) p.2 | none => s)
  if o.held = [] then s else s.setLout l { o with held := [] }

/-- R378: the same for every lane of a kind. -/
def State.applyTrims (s : State) (f : Nat → Bool) : State :=
  s.forEach ((s.louts.map (·.1)).filter f) State.applyHeld

/-- R232: the modulator stops at a time; a launch entry consumed and not decided is decided now (R101). -/
def State.stopModulator (s : State) (e : Nat) : State :=
  let s := (s.wr .modulatorRun 0 0).applyTrims (fun _ => true)
  let s := s.effectAll e
  let s := s.forEach (List.range 8) (fun s v =>
    if (s.view v).stands.any (fun x => x.decided.isNone) then s.decideLaunches v s.now else s)
  let s := { s with modl := { s.modl with
    startE := none, stopE := none, slate := none, wasSlate := false, lanes := [], staging := [] } }
  s.idleOutputs.raise .modulatorRun [0]

/-- MODULATOR_STOP_EFFECT (R232). -/
def modulatorStopEffectEff (s : State) : State :=
  match s.modl.stopE with
  | none => s
  | some e =>
    let s := s.untilDisp e
    if s.running && decide (e ≤ s.now) then s.stopModulator e else s

/-- MODULATOR_STOP_EFFECT (R232). -/
def execModulatorStopEffect (s : State) : Host.Outcome State Fault Refusal := .next (modulatorStopEffectEff s)

/-- R232: D15 leaves ON. -/
def State.modulatorLeaves (s : State) : State :=
  let s := { s with modl := { s.modl with startE := none } }
  if s.running then s.stopModulator s.now else s

/-- R218: the low m bits of a number, reversed. -/
def bitRev : Nat → Nat → Nat
  | 0, _ => 0
  | m + 1, n => n % 2 * 2 ^ m + bitRev m (n / 2)

/-- R218: the dither matrix at a lamp in frame k. -/
def ditherAt (f : Look) (k x y p : Nat) : Nat :=
  let o := f.n .ditherOrigin 0
  let shift := if (f.n .ditherControl 0).testBit 0 then k % 64 else 0
  let a := x + o % 65536 + 16 * p + 23 * shift
  let b := y + o / 65536 + 16 * p + 41 * shift
  (f .ditherMatrix 0).getD (b % 64 * 64 + a % 64) 0

/-- R217, R218: the plane code of a drive value with P planes and effective depth m. -/
def planeCode (planes m jv cell x : Nat) : Nat :=
  let n := 18 - planes
  let t := (cell / 2 ^ (12 - m) + bitRev m (jv % 2 ^ m)) % 2 ^ m
  let h := if m < n then 2 ^ (n - m - 1) else 0
  min ((x + t * 2 ^ (n - m) + h) / 2 ^ n) (2 ^ planes - 1)

/-- R220: the grey word of a drive value. -/
def greyWord (cell x : Nat) : Nat := min ((x + cell / 1024) / 4) 65535

/-- What one output of a burst comes to: drive, code, the lamp's log code to store, and whether the ceiling cut shares. -/
structure OutVal where
  /-- The drive value after the transition engine. -/
  drive : Nat := 0
  /-- The plane code or grey word. -/
  code : Nat := 0
  /-- The lamp and the log code it stores; none for an idle output. -/
  store : Option (Nat × Nat) := none
  /-- The ceiling of R200 cut shares. -/
  clip : Bool := false
  deriving DecidableEq, Repr

/-- R186 to R220: one output of a burst. -/
def State.outVal (s : State) (f : Look) (g : Geo) (dead shut : List Nat) (pv : Nat → Nat → List Nat) (e : LedEnt)
    (o : Option (Nat × Nat × Nat)) : OutVal :=
  match o with
  | none => {}
  | some (x, y, p) =>
    let t := e.start / 4294967296
    let lamp := g.lamp x y p
    let word := f.n .pattern e.view
    let cell := ditherAt f (g.lastK e.frame) x y p
    let code := fun (d : Nat) => if g.grey then greyWord cell d else planeCode g.p g.m (g.viewSlot e.j) cell d
    if word % 16 ≠ 0 && word.testBit 7 then
      let d := driveOf ((pv x y).getD p 0)
      { drive := d, code := code d, store := some (lamp, logCode d) }
    else
      let q := s.driveValue f dead shut t pv x y p
      if q.2.1 then { store := some (lamp, 0), clip := q.2.2 }
      else
        let prev := (SMap.get s.quarry (s.prevAddr lamp) 0).toNat
        let d := transition f p prev q.1 e.skipod (e.row = 0)
        { drive := d, code := code d, store := some (lamp, logCode q.1), clip := q.2.2 }

/-- R200: the neighbours of a pixel whose values it takes shares of. -/
def sharers (f : Look) (dead : List Nat) (x y : Nat) : List (Nat × Nat × Nat) :=
  if (f.n .compControl 0).testBit 3 then
    (neighbours f x y).filter (fun a =>
      let n := (a.2.1 * f.n .tileWidth 0 + a.1) * f.n .primaryCount 0
      (List.range (f.n .primaryCount 0)).any (fun p => dead.contains (n + p)))
  else []

/-- R142, R200: the reads that a burst makes from the frame store, those of the neighbours that give shares included. -/
def State.readBurst (s : State) (f : Look) (shown : SMap Shown) (dead : List Nat) (v : Nat)
    (outs : List (Option (Nat × Nat × Nat))) : State :=
  s.forEach outs (fun s o =>
    match o with
    | none => s
    | some (x, y, _) =>
      (s.readPixel f shown v x y).forEach (sharers f dead x y) (fun s a => s.readPixel f shown v a.1 a.2.1))

/-- R200, R206: a refresh is counted once. -/
def State.countOnce (s : State) (skip clip : Bool) (start : Nat) : State :=
  let s := if skip && !s.modl.skipSeq.contains start then
      { s with modl := { s.modl with skipSeq := start :: s.modl.skipSeq } }.count .squashSkips 0 else s
  if clip && !s.modl.clipSeq.contains start then
    { s with modl := { s.modl with clipSeq := start :: s.modl.clipSeq } }.count .concealedClipped 0 else s

/-- R223: a burst is computed under the parameters of its refresh; a DARK one has all planes 0. -/
def State.computeBurst (s : State) (lane : Nat) (e : LedEnt) : State × LedEnt :=
  let t := e.start / 4294967296
  let f := s.tablesAt t
  let g := s.geoAt t
  if e.dark then (s, { e with codes := List.replicate g.oc 0, drives := List.replicate g.oc 0 })
  else
    let outs := g.outputs lane e.row
    let shown := s.shownAt e.view t
    let dead := s.concealedAt t
    let s := s.readBurst f shown dead e.view outs
    let n := s.patternCount e.view t
    let pv := s.viewPixel f shown e.view n
    let vals := outs.map (s.outVal f g dead (s.shutAt t) pv e)
    let s := s.forEach vals (fun s v =>
      match v.store with
      | some (lamp, c) => s.quarryWrite (s.prevAddr lamp) [BitVec.ofNat 8 c]
      | none => s)
    (s.countOnce e.skipod (vals.any (fun v => v.clip)) e.start,
      { e with codes := vals.map (fun v => v.code), drives := vals.map (fun v => v.drive) })

/-- R223, Table 10.4: the entry of a place in a lane's launch order. -/
def State.newEntry (s : State) (frame j row seq slot : Nat) (skip : Bool) : LedEnt :=
  let g := s.geoAt frame
  let start := g.slotStart frame j
  let stop := match s.modl.stopE with | some e => decide (e ≤ start / 4294967296) | none => false
  { st := .computing, row := row, view := g.slotView j, gen := s.modl.gen.toNat % 65536, seq := seq, slot := slot
    dark := s.inSlate (start / 4294967296) || stop, skipod := skip, start := start, frame := frame, j := j, busy := true }

/-- R223: the place of the first squashed entry of a list. -/
def firstSquashed (l : List LedEnt) : Option Nat := l.findIdx? (fun x => x.st = .squashed)

/-- R223: the staging slot of a lane's next new burst. -/
def LaneLed.nextSlot (a : LaneLed) : Nat :=
  match a.ents.getLast? with
  | some x => (x.slot + 1) % 512
  | none => match a.shift with | some n => (n + 1) % 512 | none => 0

/-- BURST_COMPUTE (R223, Table 10.5): a squashed entry is recomputed first, in launch order, once its own computation has
ended; else a new burst is begun when the run-ahead has room. -/
def burstComputeEff (lane : Nat) (s : State) : State :=
  match SMap.find s.modl.lanes lane with
  | none => s
  | some a =>
    if !(s.running && s.alive 15) then s
    else
      match firstSquashed a.ents with
      | some i =>
        let x := a.ents.getD i {}
        if x.busy then s
        else
          let r := s.computeBurst lane (s.newEntry x.frame x.j x.row x.seq x.slot x.skipod)
          r.1.setLed lane { a with ents := a.ents.set i r.2 }
      | none =>
        let g := s.geoAt a.frame
        if min (g.d * g.k) 256 ≤ a.ents.length then s
        else
          let n := s.newEntry a.frame a.j a.row a.seq a.nextSlot false
          let s := s.decideLaunches n.view (n.start / 4294967296)
          let r := s.computeBurst lane n
          let p := s.nextPlace a.frame a.j a.row a.seq
          r.1.setLed lane { a with
            ents := a.ents ++ [r.2], frame := p.1, j := p.2.1, row := p.2.2.1, seq := p.2.2.2 }

/-- R187: the coefficient record of the last pixel of the tile lies inside the store. -/
def State.recordsInside (s : State) : Bool :=
  decide (s.rd .tileWidth 0 * s.rd .tileHeight 0 * recordSize (s.rd .primaryCount 0) ≤ s.storeSize 0
    ∧ s.rd .tileWidth 0 * s.rd .tileHeight 0 * s.rd .primaryCount 0 ≤ s.storeSize 1)

/-- BURST_COMPUTE (R223); a running modulator whose tile does not fit its stores would read bytes that no store has. -/
def execBurstCompute (lane : Fin 512) (s : State) : Host.Outcome State Fault Refusal :=
  if s.running && !s.recordsInside then .fault .quarryOutside
  else .next (if s.running then (burstComputeEff lane.val s).stalled else s)

/-- BURST_COMPUTED (R223, R224): the first computation in launch order ends; a squashed one's result is discarded. -/
def burstComputedEff (lane : Nat) (s : State) : State :=
  let a := s.led lane
  match (a.ents.zipIdx.find? (fun p => p.1.busy)).map (fun p => p.2) with
  | none => s
  | some i =>
    let x := a.ents.getD i {}
    let done := x.st = .computing
    let y : LedEnt := { x with busy := false, st := if done then .computed else x.st }
    let s := s.setLed lane { a with ents := a.ents.set i y }
    if done then { s with modl := { s.modl with staging := SMap.put s.modl.staging (lane * 512 + x.slot) x.codes } } else s

/-- BURST_COMPUTED (R223). -/
def execBurstComputed (lane : Fin 512) (s : State) : Host.Outcome State Fault Refusal :=
  .next (burstComputedEff lane.val s)

/-- R197, Table 9.6: one lamp's verdict of a frame period: OK or FAULT. -/
def State.verdict (s : State) (lamp : Nat) (ok : Bool) : State :=
  let st := s.defState lamp
  let cause := SMap.get s.defects.cause lamp 0
  if ok then (if (1 ≤ st ∧ st ≤ 7) ∨ st = 10 then s.setDef lamp 0 else s)
  else if st = 0 then (s.setDef lamp 1).raise .defectSuspect [lamp, cause]
  else if st < 7 then s.setDef lamp (st + 1)
  else if st = 7 then (s.setDef lamp 8).raise .defectConfirmed [lamp, cause]
  else s

/-- R198, R229: a confirmed lamp is appended to the committed list, to pending ones and to a staged one. -/
def State.appendConceal (s : State) (lamp cause : Nat) : State :=
  let r := lamp + 4194304 * cause
  let k := key .concealList 0
  let names := fun (v : Val) => v.any (fun x => recLamp x = lamp)
  let add := fun (p : Nat × Val) => if p.1 = k ∧ !names p.2 then (p.1, p.2 ++ [r]) else p
  let late := fun (p : Pend) => match p.value k with | some v => if names v then p.kept else p.kept ++ [lamp] | none => p.kept
  let v := s.rdv .concealList 0
  let s := if names v then s else s.wrv .concealList 0 (v ++ [r])
  let l := s.modl.commits.map (fun p => { p with values := p.values.map add, kept := late p })
  { s with modl := { s.modl with commits := l } }.setStaged (s.mgmt.staged.map add)

/-- R196, R198: a concealment slot is free: in the list in force, and in the one that each accepted commit brings. -/
def State.slotFree (s : State) : Bool :=
  decide ((s.rdv .concealList 0).length < 16384)
    && s.modl.commits.all (fun p => match p.value (key .concealList 0) with | some v => decide (v.length < 16384) | none => true)

/-- R196, R198: a newly confirmed lamp takes a slot, or enters OVERFLOW. -/
def State.takeSlot (s : State) (l : List (Nat × Nat)) (lamp : Nat) : State × List (Nat × Nat) :=
  let cause := SMap.get s.defects.cause lamp 0
  if s.slotFree then (s.appendConceal lamp cause, l ++ [(lamp, cause)])
  else ((s.setDef lamp 10).raise .defectCapacity [lamp, cause], l)

/-- R197 to R199: the verdicts of one frame period over its observations, as lamp and flag; the newly confirmed lamps are
concealed by a device commit. -/
def State.periodVerdicts (s : State) (obs : List (Nat × Nat)) : State :=
  let lamps := (obs.map (·.1)).eraseDups
  let old := s.defects.st
  let s := s.forEach lamps (fun s l => s.verdict l (obs.contains (l, 0)))
  let new := lamps.filter (fun l => s.defState l = 8 && SMap.get old l 0 ≠ 8)
  let r := new.foldl (fun (a : State × List (Nat × Nat)) l => a.1.takeSlot a.2 l) (s, [])
  if r.2 = [] then r.1 else r.1.deviceCommit .conceal true { conceal := r.2 }

/-- R197, R251: the verdicts of the frame periods that have ended, once no readback of a row lit in them is still awaited. -/
def State.takeVerdicts (s : State) : State :=
  let b := s.defects.since
  let ended := s.defects.seen.filter (fun o => decide (o.1 < b))
  if ended = [] || s.groups.any (fun (p : Nat × GroupRb) => p.2.want.any (fun w => decide (w.lit / 4294967296 < b))) then s
  else
    let s := { s with defects := { s.defects with seen := s.defects.seen.filter (fun o => decide (b ≤ o.1)) } }
    s.forEach ((ended.map (·.1)).eraseDups.mergeSort (· ≤ ·)) (fun s f =>
      s.periodVerdicts ((ended.filter (fun o => o.1 = f)).map (·.2)))

end Sys2Proof.Machine
end

