-- ==== Sys2Proof/Machine/Lanes.lean ====
section
/-! DEFINITION. The driver lanes: lane frames, levels, row commands, strobes, launch lines, readback, tearing-effect domains
and dark quadrants (R237 to R264). -/

namespace Sys2Proof.Machine

/-- The number that bits spell, most significant first. -/
def msbNat (l : List Bool) : Nat := ofBits l.reverse

/-- R240: a LEVEL_PART frame. -/
def levelFrame (b : Nat) : List Bool := laneFrame 1 (msbBits 8 b)

/-- R241, Table 11.2: a row load: bank, readback, and the burst with output Oc - 1 and plane P - 1 first. -/
def Geo.load (g : Geo) (bank : Nat) (rb : Bool) (codes : List Nat) : List Bool :=
  laneFrame (4 + bank + if rb then 2 else 0)
    (codes.reverse.flatMap (fun c => g.planes.reverse.map (fun e => c.testBit (e % 16))))

/-- R253: a GREY_LOAD of a row. -/
def Geo.greyLoad (g : Geo) (row : Nat) (words : List Nat) : List Bool :=
  laneFrame 2 (msbBits 6 (g.rho row) ++ words.reverse.flatMap (msbBits 16))

/-- Table 11.5: an RLD frame; BLANK where no row is named. -/
def rldFrame (row : Option Nat) : Nat :=
  let body := match row with | some r => 256 + r * 4 | none => 512
  let v := 1024 + body
  v + popCount 11 v % 2

/-- R254, Table 11.2: the ARM frame. -/
def armFrame : List Bool := laneFrame 3 []

/-- R211, R247: the 100 ps step at or below an instant in 2^-32 ns, in ps. -/
def stepAt (x : Nat) : Nat := x * 1000 / 4294967296 / 100 * 100

/-- R244: the edges of LSTB in a row dwell that starts at an instant in 2^-32 ns, in ps, each with its level after it. -/
def Geo.strobes (g : Geo) (dwell : Nat) : List (Nat × Bool) :=
  let ds := g.planes.map g.duration
  let t := stepAt dwell
  let ends := (ds.foldl (fun (a : Nat × List Nat) d => (a.1 + d, a.2 ++ [a.1 + d])) (t, [])).2
  let edges := ((t :: ends).zipIdx).map (fun a => (a.1, decide (a.2 % 2 = 0)))
  if g.grey then []
  else if g.p % 2 = 0 then edges ++ [(max (ends.getLastD t + 20000) (stepAt (dwell + g.light)), false)] else edges

/-- R247: the edges of RLG of the row dwell that starts at an instant: it rises lambda ns before, in the dead time of the dwell
before it, and falls as its own dead time starts. -/
def Geo.gates (g : Geo) (lambda dwell : Nat) : List (Nat × Bool) :=
  [(stepAt (dwell - lambda * 4294967296), true), (stepAt (dwell + g.light), false)]

/-- The edges of a signal that still count at an instant in ps: the last one at or before it, and all later ones. -/
def keepEdges (now : Nat) (l : List (Nat × Bool)) : List (Nat × Bool) :=
  let past := l.filter (fun e => decide (e.1 ≤ now))
  past.drop (past.length - 1) ++ l.filter (fun e => decide (now < e.1))

/-- R21: the edges of a signal with those of one more dwell, at an instant in ps: edges placed from its first on are replaced,
and every edge before it that still counts is kept. -/
def addEdges (now : Nat) (old new : List (Nat × Bool)) : List (Nat × Bool) :=
  match new with
  | [] => keepEdges now old
  | x :: _ => (keepEdges now old).filter (fun e => decide (e.1 < x.1)) ++ new

/-- The level of a signal at an instant in ps, from its edges; low before the first. -/
def levelAt (edges : List (Nat × Bool)) (ps : Nat) : Bool :=
  ((edges.filter (fun e => decide (e.1 ≤ ps))).getLast?.map (fun e => e.2)).getD false

/-- R250: a readback fits in a row dwell of the configuration. -/
def Geo.readbackFits (g : Geo) : Bool :=
  !g.grey && decide ((100 * g.b + (2 * g.oc + 11) * 2000) * 4294967296 ≤ g.b * g.light)

/-- R237, R238: the frequency of LCLK of a group in kHz; 0 while it is held low. -/
def State.lclk (s : State) (grp : Nat) : Nat :=
  if s.alive (16 + grp / 16) && decide (8 * grp < s.rd .laneCount 0) then 500 * s.geo.b else 0

/-- R237: the frequency of the clock of a row port in kHz. -/
def State.rowClock (s : State) (j : Nat) : Nat := s.lclk (8 * j)

/-- Display time in whole ps. -/
def State.nowPs (s : State) : Nat := s.dispFine * 1000 / 4294967296

/-- R244: the level of LSTB of a group now. -/
def State.lstb (s : State) (grp : Nat) : Bool := levelAt (SMap.get s.groups grp {}).edges s.nowPs

/-- R247: the level of RLG of a row port now. -/
def State.rlg (s : State) (j : Nat) : Bool := levelAt (SMap.get s.rows j {}).edges s.nowPs

/-- R239: the UI whose LCLK edge is the nearest to an instant in 2^-32 ns: the bit centred on it is on the wire. -/
def Geo.uiAt (g : Geo) (x : Nat) : Nat := (2 * x * g.b + 1000 * 4294967296) / (2000 * 4294967296)

/-- R239: the UI after a frame that begins at a UI, at which the next frame may begin. -/
def freeUi (p : Nat × List Bool) : Nat := p.1 + p.2.length + p.2.length % 2

/-- R242: the LEVEL_PART frames of a lane's idle time, from the part that is next, each with the UI of its first bit. -/
def LaneOut.levelFrames (o : LaneOut) : List (Nat × List Bool) :=
  if o.levels = [] then []
  else (List.range o.parts).map (fun i =>
    (freeUi (o.start, o.frame) + 12 * i, levelFrame (o.levels.getD ((o.level + i) % 6) 0)))

/-- R254: the ARM frame of a lane, which ends at the frame boundary it was made for. -/
def LaneOut.armFrames (g : Geo) (o : LaneOut) : List (Nat × List Bool) :=
  match o.arm with
  | some a => [(2 * (a.2 * g.b / 2000) - a.1.length, a.1)]
  | none => []

/-- R239, R240, R242, R254: every frame of a lane, each with the UI of its first bit. -/
def LaneOut.frames (g : Geo) (o : LaneOut) : List (Nat × List Bool) :=
  (o.start, o.frame) :: (o.more ++ o.levelFrames ++ o.armFrames g)

/-- R239, R240: the level of data lane l now, by the frames that it carries; it idles at 0. -/
def State.laneLevel (s : State) (l : Nat) : Bool :=
  let u := s.geo.uiAt s.dispFine
  ((s.lout l).frames s.geo).any (fun p => decide (p.1 ≤ u) && p.2.getD (u - p.1) false)

/-- R239, R247: the level of RLD of a row port now: bit 10 of the frame first, each bit for one UI. -/
def State.rld (s : State) (j : Nat) : Bool :=
  let x := SMap.get s.rows j {}
  let u := s.geo.uiAt s.dispFine
  decide (x.start ≤ u) && (msbBits 11 x.frame).getD (u - x.start) false

/-- R261: the lanes, groups and row ports of a quadrant stop their frames, LSTB and RLG low. -/
def State.darken (s : State) (q : Nat) : State :=
  let s := s.applyTrims (fun l => decide (l / 128 = q))
  { s with
    louts := s.louts.map (fun (p : Nat × LaneOut) =>
      if p.1 / 128 = q then (p.1, { p.2 with
        frame := [], more := [], levels := [], levelOf := none, parts := 0, wait := [], arm := none }) else p)
    groups := s.groups.map (fun (p : Nat × GroupRb) => if p.1 / 16 = q then (p.1, { p.2 with edges := [] }) else p)
    rows := s.rows.map (fun (p : Nat × RowPort) =>
      if p.1 / 2 = q then (p.1, { p.2 with frame := 0, named := none, edges := [] }) else p) }

/-- R223: the refresh after a refresh: its frame, slot and RefreshSeq. -/
def State.refreshAfter (s : State) (frame j seq : Nat) : Nat × Nat × Nat :=
  let p := s.nextPlace frame j ((s.geoAt frame).k - 1) seq
  (p.1, p.2.1, p.2.2.2)

/-- R211: the configuration of a refresh. -/
def State.refreshGeo (s : State) (frame j : Nat) : Geo :=
  s.geoAt ((s.geoAt frame).slotStart frame j / 4294967296)

/-- R261: the frame boundary at which a quadrant resumes, ns. -/
def State.resumeAt (s : State) (relock : Nat) : Nat :=
  s.boundaryFrom (ceilDiv (relock + us 100 + (s.geoAt (relock / 4294967296)).tau) 4294967296)

/-- R243, R247: a row port names a row from an instant, or carries BLANK; held idle while its bit of RowPortEnable is 0 and in
grey mode. -/
def State.nameRow (s : State) (j : Nat) (on : Bool) (at0 : Nat) (row : Option Nat) : State :=
  let x := SMap.get s.rows j {}
  let g := s.geoAt (at0 / 4294967296)
  let x := if on && !g.grey then { x with frame := rldFrame row, start := g.risingUi at0, named := row }
    else { x with frame := 0, start := 0, named := none }
  { s with rows := SMap.put s.rows j x }

/-- R247: bit j of RowPortEnable for a refresh that starts at an instant in 2^-32 ns. -/
def State.portOn (s : State) (j x : Nat) : Bool := ((s.paramAt (x / 4294967296)).n .rowPortEnable 0).testBit j

/-- R261: the dark interval of a quadrant ends now, once none of its causes is left; its lanes carry CONFIG and the levels of
the refresh at which it resumes, its row ports BLANK (R243). -/
def State.endDark (s : State) (q : Nat) (a : Quad) : State :=
  if a.dip || a.unlock || a.hot then s.setQuad q { a with relock := none }
  else
    let s := s.setQuad q { a with relock := some s.dispFine }
    let t := s.resumeAt s.dispFine
    if s.running then
      let s := s.forEach ((List.range 128).map (fun i => 128 * q + i)) (fun s l =>
        match SMap.find s.modl.lanes l with
        | some d => s.sendConfig l s.dispFine t (s.seqAt d t)
        | none => s)
      s.forEach [2 * q, 2 * q + 1] (fun s j => s.nameRow j (s.portOn j s.dispFine) s.dispFine none)
    else s

/-- R261: a quadrant goes dark for a cause. -/
def State.beginDark (s : State) (q : Nat) (a : Quad) : State := (s.setQuad q { a with relock := none }).darken q

/-- R243, R247: the row command of every row port from the light period that an instant begins, with the gate edges of the
row dwell named, which starts at another; `next` is the scan row named. A port is commanded while its bit of RowPortEnable is
1 for the row that is lit or for the row named, and gated in the dwells of the rows whose bit is 1 (log 174); a quadrant that
waits to resume has BLANK, and a dark one nothing. -/
def State.driveRows (s : State) (g : Geo) (line dwell : Nat) (next : Option Nat) : State :=
  let lambda := min ((s.paramAt (line / 4294967296)).n .rowOnLead 0) ((s.geoAt (line / 4294967296)).dead - 20)
  s.forEach (List.range 8) (fun s j =>
    if s.quadDark (j / 2) then
      (if (s.quad (j / 2)).relock.isSome then s.nameRow j (s.portOn j line || s.portOn j dwell) line none else s)
    else
      let s := s.nameRow j (s.portOn j line || s.portOn j dwell) line next
      let x := SMap.get s.rows j {}
      let new := if s.portOn j dwell && !g.grey then g.gates lambda dwell else []
      { s with rows := SMap.put s.rows j { x with edges := addEdges s.nowPs x.edges new } })

/-- R249: the lane is polled in a refresh with a sequence number, under a configuration. -/
def polls (f : Look) (g : Geo) (lane seq : Nat) : Bool :=
  f.n .readbackEnable 0 = 1 && g.readbackFits && decide (lane % 8 = seq % 8)

/-- R227: a burst that was not computed at its launch line. -/
def State.missBurst (s : State) (seq lane : Nat) : State :=
  let s := s.count .missedBursts 0
  if s.modl.missedSeq = some seq then s
  else { s with modl := { s.modl with missedSeq := some seq } }.raise .burstMissed [seq, lane]

/-- R240, R254: the frames that have begun by a UI are past but for the last of them, which is the lane's frame. -/
def LaneOut.advance (o : LaneOut) (ui : Nat) : LaneOut :=
  let begun := o.more.filter (fun p => decide (p.1 ≤ ui))
  match begun.getLast? with
  | some p => { o with start := p.1, frame := p.2, more := o.more.drop begun.length }
  | none => o

/-- R256: a lane is in its idle time between frames at a UI. -/
def State.idleAt (s : State) (l ui : Nat) : Bool :=
  !s.running || s.quadDark (l / 128)
    || ((s.lout l).frames s.geo).all (fun p => decide (ui ≤ p.1 ∨ freeUi p ≤ ui))

/-- R256: a lane is in its idle time between frames now. -/
def State.laneIdle (s : State) (l : Nat) : Bool := s.idleAt l (s.geo.uiAt s.dispFine)

/-- R376: the lane's last ARM has ended, and its next load has not begun. -/
def State.greyGap (s : State) (l : Nat) : Bool :=
  (s.lout l).gap || (match (s.lout l).arm with | some a => decide (a.2 * 4294967296 ≤ s.dispFine) | none => false)

/-- R378: a restored trim of a lane applies in the lane's next idle time: at once where it is idle, else at its next launch
line, or as it stops (DESIGN CHOICE, log 178). -/
def laneTrimEff (e : Ent) (l : Nat) (v : Val) (s : State) : State × Ans :=
  (if s.laneIdle l then s.wrv e l v
   else s.setLout l { s.lout l with held := (s.lout l).held.filter (fun p => p.1 ≠ key e l) ++ [(key e l, v)] }, ans .ok)

/-- R254, R255: a TE domain as it stands for a frame. -/
def State.teFor (s : State) (t frame : Nat) : TeDom :=
  let x := SMap.get s.tes t {}
  let waits := ((s.paramAt frame).n .teEnable 0).testBit t
  if x.g = frame ∧ (waits ∨ x.w.isSome) then x
  else { g := frame, w := if waits then none else some frame, missing := x.missing, skip := false }

/-- R254: a TE domain is set, and a swap instant just fixed is recorded. -/
def State.setTe (s : State) (t : Nat) (x : TeDom) : State :=
  let s := { s with tes := SMap.put s.tes t x }
  match x.w with
  | some w => s.wrn .teLastSwap 0 t w
  | none => s

/-- R254: a load takes its place behind the frames before it: it begins at the later of a UI and the end of the last one. -/
def LaneOut.feed (ui : Nat) (o : LaneOut) (bits : List Bool) : LaneOut :=
  let o := { o.advance ui with gap := false, spent := false }
  let free := freeUi (o.more.getLastD (o.start, o.frame))
  if o.more = [] ∧ free ≤ ui then { o with frame := bits, start := ui, levels := [], levelOf := none, parts := 0 }
  else { o with more := o.more ++ [(max ui free, bits)], levels := [], levelOf := none, parts := 0 }

/-- R254: a grey load of a lane: shifted when its swap instant is known and the loads before it are out, else it waits. -/
def State.launchGrey (s : State) (lane : Nat) (g : Geo) (e : LedEnt) (words : List Nat) : State :=
  let t := lane / 32
  let x := s.teFor t e.frame
  let s := s.setTe t x
  let o := s.lout lane
  let o := if e.row = 0 then { o with wait := [], arm := none, gap := o.gap || o.arm.isSome } else o
  let line := s.lineOf e.start e.row
  let o := { o with delay := s.laneDelay (s.paramAt (line / 4294967296)) lane }
  let bits := g.greyLoad e.row words
  let arm := if e.row + 1 = g.k then some (armFrame, s.nextFrame e.frame) else none
  if x.skip then s.setLout lane o
  else if x.w.isSome then s.setLout lane { (o.feed (g.risingUi line) bits) with arm := arm }
  else s.setLout lane { o with wait := o.wait ++ [bits], arm := arm }

/-- R244: the strobes of a group for the row dwell that starts at an instant. -/
def State.strobe (s : State) (grp dwell : Nat) (g : Geo) : State :=
  let gr := SMap.get s.groups grp {}
  { s with groups := SMap.put s.groups grp { gr with edges := addEdges s.nowPs gr.edges (g.strobes dwell) } }

/-- R242: the refresh whose levels are sent in the dwell at whose start a burst passes its launch line. -/
def State.levelRefresh (s : State) (e : LedEnt) : Nat × Nat :=
  if e.row = 0 then (e.start / 4294967296, e.seq)
  else
    let n := s.refreshAfter e.frame e.j e.seq
    ((s.geoAt n.1).slotStart n.1 n.2.1 / 4294967296, n.2.2)

/-- R240 to R242, R249: a plane-mode burst is shifted with its level parts, with readback where its lane is polled. -/
def State.launchPlane (s : State) (lane line : Nat) (g : Geo) (e : LedEnt) (codes drives : List Nat) : State :=
  let at0 := line / 4294967296
  let lit := s.geoAt at0
  let litSeq := if e.row = 0 then (e.seq + 65535) % 65536 else e.seq
  let litRow := if e.row = 0 then g.k - 1 else e.row - 1
  let rb := !s.inSlate at0 && polls (s.paramAt at0) lit lane litSeq
  let bits := g.load (e.seq % 2) rb codes
  let lv := s.levelRefresh e
  let o := s.lout lane
  let s := s.setLout lane { o with
    frame := bits, start := lit.risingUi line, more := [], levels := (s.geoAt lv.1).levelSet (lv.2 % 2), levelOf := some lv, parts := lit.idleParts line bits.length
    level := (o.level + o.parts) % 6, delay := s.laneDelay (s.paramAt at0) lane }
  let d := s.led lane
  let lamps := (g.outputs lane e.row).map (fun o => o.map (fun a => g.lamp a.1 a.2.1 a.2.2))
  let s := s.setLed lane { d with lastDrv := ((e.seq, e.row, lamps.zip drives) :: d.lastDrv).take 3 }
  if rb then
    let gr := SMap.get s.groups (lane / 8) {}
    { s with groups := SMap.put s.groups (lane / 8) { gr with
      want := gr.want ++ [{ lane := lane, row := litRow, seq := litSeq, lit := line, due := line + lit.tau + 100 * 4294967296 }] } }
  else s

/-- R242, R243: a DARK burst is not shifted: in a Slate frame the lane carries CONFIG and the level set of the refresh that is
lit first, before it the parts that the refresh in progress sends. -/
def State.launchDark (s : State) (lane line : Nat) (g : Geo) (e : LedEnt) : State :=
  if s.inSlate (line / 4294967296) then s.sendConfig lane line (s.nextFrame e.frame) ((e.seq + (g.slots - e.j)) % 65536)
  else
    let o := s.lout lane
    let lit := s.geoAt (line / 4294967296)
    s.setLout lane { o with
      frame := [], more := [], start := lit.risingUi line, parts := lit.idleParts line 0, level := (o.level + o.parts) % 6
      delay := s.laneDelay (s.paramAt (line / 4294967296)) lane }

/-- R214, R227, R231, R243, R244, R261: a burst at its launch line. -/
def State.passLine (s : State) (lane line : Nat) (g : Geo) (e : LedEnt) : State :=
  let dwell := e.start + e.row * g.tau
  let next := if e.dark then none else some (g.rho e.row)
  let s := if s.idleAt lane (g.risingUi line) then s.applyHeld lane else s
  if s.quadDark (lane / 128) then
    let s := if (s.quad (lane / 128)).counting then s.count .unlockDrops 0 else s
    let s := if e.dark && s.carries (lane / 128) then s.launchDark lane line g e else s
    s.driveRows g line dwell next
  else
    let done := e.st = .computed
    let s := if done then s else s.missBurst e.seq lane
    let codes := if done then SMap.get s.modl.staging (lane * 512 + e.slot) e.codes else List.replicate g.oc 0
    let drives := if done then e.drives else List.replicate g.oc 0
    let s := if e.dark then s.launchDark lane line g e
      else if g.grey then s.launchGrey lane g e codes else s.launchPlane lane line g e codes drives
    let s := if e.dark then s else s.strobe (lane / 8) dwell g
    s.driveRows g line dwell next

/-- R156: the last burst of a refresh has passed; frames that the view's next refresh shows replace its buffers. -/
def State.refreshPassed (s : State) (e : LedEnt) : State :=
  match s.viewSlotFrom e.view (e.start + 1) 3 e.frame with
  | some t => s.applyDecided e.view (t / 4294967296)
  | none => s

/-- LAUNCH_LINE (R214): the clocks move on to the launch line of the lane's first burst in launch order; it passes. -/
def launchLineEff (lane : Nat) (s : State) : State :=
  match SMap.find s.modl.lanes lane with
  | none => s
  | some a =>
    if !(s.running && s.alive 15 && s.timeRuns) then s
    else
      let e := a.ents.headD (s.newEntry a.frame a.j a.row a.seq a.nextSlot false)
      let g := s.geoAt (e.start / 4294967296)
      let line := s.lineOf e.start e.row
      let s := s.elapse (line - s.dispFine)
      if s.dispFine < line then s
      else
        let p := s.nextPlace a.frame a.j a.row a.seq
        let s := s.setLed lane (if a.ents = [] then
          { a with frame := p.1, j := p.2.1, row := p.2.2.1, seq := p.2.2.2, shift := some e.slot }
          else { a with ents := a.ents.tail, shift := some e.slot })
        let s := match a.shift with
          | some n => { s with modl := { s.modl with staging := SMap.drop s.modl.staging (lane * 512 + n) } }
          | none => s
        let s := s.passLine lane line g e
        if e.row + 1 = g.k then s.refreshPassed e else s

/-- LAUNCH_LINE (R214). -/
def execLaunchLine (lane : Fin 512) (s : State) : Host.Outcome State Fault Refusal := .next (launchLineEff lane.val s)

/-- R254: the swap instant of a domain is fixed; its waiting loads are shifted from it on, one after another, in the order of
their launch lines. -/
def State.teSwap (s : State) (t : Nat) (x : TeDom) : State :=
  let s := s.setTe t x
  let ui := s.geo.risingUi s.dispFine
  let f := s.paramAt s.now
  { s with louts := s.louts.map (fun (p : Nat × LaneOut) =>
      if p.1 / 32 = t ∧ p.2.wait ≠ [] then
        (p.1, { p.2.wait.foldl (LaneOut.feed ui) p.2 with wait := [], delay := s.laneDelay f p.1 })
      else p) }

/-- R255: a domain's frame is given up. -/
def State.teMiss (s : State) (t : Nat) (x : TeDom) : State :=
  let s := s.setTe t { x with skip := true, missing := true }
  let s := { s with louts := s.louts.map (fun (p : Nat × LaneOut) =>
      if p.1 / 32 = t then (p.1, { p.2 with wait := [], arm := none }) else p) }
  let s := s.count .teMisses 0
  if x.missing then s else s.raise .teMissing [t, x.g]

/-- R254: the domain has frames to time: grey mode runs, no Slate frame, an enabled lane. -/
def State.teTimes (s : State) (t : Nat) : Bool :=
  s.running && s.geo.grey && !s.inSlate s.now && decide (32 * t < s.geo.n)

/-- R255: the display time in 2^-32 ns by which a domain's edge must have come. -/
def State.teDue (s : State) (x : TeDom) : Nat := x.g * 4294967296 + (s.geoAt x.g).period / 20

/-- TE_EDGE (R254). -/
def teEdgeEff (t : Nat) (s : State) : State :=
  if !s.alive (16 + t / 4) then s
  else
    let x := s.teFor t (s.frameOf s.now)
    if s.teTimes t && x.w.isNone && !x.skip then
      if s.teDue x < s.dispFine then
        let s := s.teMiss t x
        s.setTe t { SMap.get s.tes t {} with missing := false }
      else s.teSwap t { x with w := some s.now, missing := false }
    else { s with tes := SMap.put s.tes t { SMap.get s.tes t {} with missing := false } }

/-- TE_EDGE (R254). -/
def execTeEdge (input : Fin 16) (s : State) : Host.Outcome State Fault Refusal := .next (teEdgeEff input.val s)

/-- TE_TIMEOUT (R255): the clocks move on to G_f + FramePeriod / 20; with no edge the frame is given up. -/
def teTimeoutEff (t : Nat) (s : State) : State :=
  let x := s.teFor t (s.frameOf s.now)
  if s.alive (16 + t / 4) && s.timeRuns && s.teTimes t && x.w.isNone && !x.skip then
    let s := s.elapse (s.teDue x - s.dispFine)
    if s.dispFine < s.teDue x then s else s.teMiss t x
  else s

/-- TE_TIMEOUT (R255). -/
def execTeTimeout (input : Fin 16) (s : State) : Host.Outcome State Fault Refusal := .next (teTimeoutEff input.val s)

/-- R249: one step of the CRC-8 of Table 11.6. -/
def crc8Step (c : Nat) (b : Bool) : Nat :=
  let x := c * 2 % 256
  if c.testBit 7 != b then x ^^^ 0x07 else x

/-- Table 11.6: the check of a readback frame over its bits. -/
def crc8 (l : List Bool) : Nat := l.foldl crc8Step 0

/-- R251: the group's requested frame was an error. -/
def State.lrbError (s : State) (grp lane : Nat) : State :=
  let s := s.count .readbackErrors lane
  let g := SMap.get s.groups grp {}
  let s := { s with groups := SMap.put s.groups grp { g with errRun := g.errRun + 1 } }
  let old := s.rdn .readbackLost 0 (grp / 8)
  if 64 ≤ g.errRun + 1 && !old.testBit (grp % 8) then
    (s.wrn .readbackLost 0 (grp / 8) (old + 2 ^ (grp % 8))).raise .readbackLost [grp]
  else s

/-- R251: the group's good frame. -/
def State.lrbGood (s : State) (grp lane : Nat) : State :=
  let s := s.count .readbackFrames lane
  let g := SMap.get s.groups grp {}
  let s := { s with groups := SMap.put s.groups grp { g with errRun := 0 } }
  let old := s.rdn .readbackLost 0 (grp / 8)
  if old.testBit (grp % 8) then s.wrn .readbackLost 0 (grp / 8) (old - 2 ^ (grp % 8)) else s

/-- R195, R197, R251: one flag of a good frame, for the frame period at a boundary. -/
def State.observe (s : State) (frame lamp flag drive : Nat) : State :=
  let cc := s.rd .compControl 0
  let pc := s.rd .primaryCount 0
  if flag = 3 || decide (drive < s.rd .detectMinDrive 0) || !cc.testBit 4 || !s.alive 13
      || absentBit pc (s.coefRecord pc (lamp / pc)) then s
  else
    let d := s.defects
    { s with defects := { d with
      seen := if d.seen.contains (frame, lamp, flag) then d.seen else d.seen ++ [(frame, lamp, flag)]
      cause := if flag = 0 then d.cause else SMap.put d.cause lamp flag } }

/-- R251: the frame answers a request: length, start, tag and check. -/
def lrbOk (oc row : Nat) (bits : List Bool) : Bool :=
  let body := (bits.drop 1).take (2 + 2 * oc)
  bits.length = 11 + 2 * oc && bits.head? = some true && msbNat (body.take 2) = row % 4
    && crc8 body = msbNat (bits.drop (3 + 2 * oc))

/-- R197, R251: the flags of a good frame become observations for the frame period in which the row was lit. -/
def State.observeFlags (s : State) (w : Want) (bits : List Bool) : State :=
  match (s.led w.lane).lastDrv.find? (fun p => p.1 = w.seq && p.2.1 = w.row) with
  | none => s
  | some p =>
    let frame := s.frameOf (w.lit / 4294967296)
    s.forEach p.2.2.zipIdx (fun s o =>
      match o.1.1 with
      | none => s
      | some lamp => s.observe frame lamp (msbNat ((bits.drop (3 + 2 * o.2)).take 2)) o.1.2)

/-- R251: requested frames whose start bit is overdue are errors. -/
def State.lrbLate (s : State) (grp : Nat) : State :=
  let g := SMap.get s.groups grp {}
  let overdue := g.want.filter (fun w => decide (w.due < s.dispFine))
  let s := { s with groups := SMap.put s.groups grp { g with want := g.want.filter (fun w => decide (s.dispFine ≤ w.due)) } }
  s.forEach overdue (fun s w => s.lrbError grp w.lane)

/-- LRB_FRAME (R251): the frame's start bit arrives now; it answers the group's oldest request that is not overdue. -/
def lrbFrameEff (grp : Nat) (bits : List Bool) (s : State) : State :=
  if !s.alive (16 + grp / 16) then s
  else
    let s := s.lrbLate grp
    let g := SMap.get s.groups grp {}
    let s := match g.want with
      | [] => s
      | w :: t =>
        let s := { s with groups := SMap.put s.groups grp { g with want := t } }
        let c := s.geoAt (w.lit / 4294967296)
        if lrbOk c.oc w.row bits then (s.lrbGood grp w.lane).observeFlags w bits else s.lrbError grp w.lane
    s.takeVerdicts

/-- LRB_FRAME (R251). -/
def execLrbFrame (group : Fin 64) (bits : List Bool) (s : State) : Host.Outcome State Fault Refusal :=
  .next (lrbFrameEff group.val bits s)

/-- LRB_START_BIT_LATE (R251): the clocks move on past the last instant of the oldest request's start bit. -/
def lrbStartBitLateEff (grp : Nat) (s : State) : State :=
  match (SMap.get s.groups grp {}).want with
  | [] => s
  | w :: _ => if s.timeRuns then ((s.elapse (w.due + 1 - s.dispFine)).lrbLate grp).takeVerdicts else s

/-- LRB_START_BIT_LATE (R251). -/
def execLrbStartBitLate (group : Fin 64) (s : State) : Host.Outcome State Fault Refusal :=
  .next (lrbStartBitLateEff group.val s)

/-- R263: a quadrant's bit of QuadrantLocked. -/
def State.setLocked (s : State) (q : Nat) (on : Bool) : State :=
  let w := s.rd .quadrantLocked 0
  if w.testBit q = on then s else s.wr .quadrantLocked 0 (if on then w + 2 ^ q else w - 2 ^ q)

/-- LANE_PLL_UNLOCK (R261). -/
def lanePllUnlockEff (q : Nat) (s : State) : State :=
  if s.alive (16 + q) && (s.rd .quadrantLocked 0).testBit q then
    let s := (s.setLocked q false).raise .lanePllUnlock [q]
    s.beginDark q { s.quad q with unlock := true, counting := true }
  else s

/-- LANE_PLL_UNLOCK (R261). -/
def execLanePllUnlock (quadrant : Fin 4) (s : State) : Host.Outcome State Fault Refusal :=
  .next (lanePllUnlockEff quadrant.val s)

/-- LANE_PLL_RELOCK (R261). -/
def lanePllRelockEff (q : Nat) (s : State) : State :=
  if s.alive (16 + q) && (s.quad q).unlock then
    let s := (s.setLocked q true).raise .lanePllRelock [q]
    s.endDark q { s.quad q with unlock := false }
  else s

/-- LANE_PLL_RELOCK (R261). -/
def execLanePllRelock (quadrant : Fin 4) (s : State) : Host.Outcome State Fault Refusal :=
  .next (lanePllRelockEff quadrant.val s)

/-- QUADRANT_RESUME (R261). -/
def quadrantResumeEff (q : Nat) (s : State) : State :=
  match (s.quad q).relock with
  | none => s
  | some x =>
    if !s.timeRuns then s
    else
      let s := s.untilDisp (s.resumeAt x)
      if s.resumeAt x ≤ s.now then s.setQuad q { s.quad q with relock := none, counting := false } else s

/-- QUADRANT_RESUME (R261). -/
def execQuadrantResume (quadrant : Fin 4) (s : State) : Host.Outcome State Fault Refusal :=
  .next (quadrantResumeEff quadrant.val s)

/-- DEFECT_VERDICT (R197, R251): at the next frame boundary the verdicts of the period that it ends are due; readback that is
overdue is awaited no longer. -/
def defectVerdictEff (s : State) : State :=
  if s.alive 13 && s.timeRuns then
    let s := s.untilDisp (s.boundaryFrom (s.defects.since + 1))
    let s := { s with defects := { s.defects with since := s.frameOf s.now } }
    (s.forEach (s.groups.map (fun (p : Nat × GroupRb) => p.1)) (fun s g => s.lrbLate g)).takeVerdicts
  else s

/-- DEFECT_VERDICT (R197). -/
def execDefectVerdict (s : State) : Host.Outcome State Fault Refusal := .next (defectVerdictEff s)

end Sys2Proof.Machine
end

