-- ==== Sys2Proof/Machine/Capture.lean ====
section
/-! DEFINITION. Captures of a view's output into a buffer (R182). -/

namespace Sys2Proof.Machine

/-- R182: the format word of a captured image: form 0, depth 12, the target. -/
def captureFormat (target : Nat) : Nat := 12 * 256 + target * 65536

/-- R182: the checks of a write to CaptureAt, in their order. -/
def State.captureCheck (s : State) (t : Nat) : Option Status :=
  let h := s.rd .captureHandle 0
  let target := s.rd .captureTarget 0
  let need := frameBytesOf (captureFormat target) (s.rd .tileWidth 0) (s.rd .tileHeight 0)
  if s.rd .captureState 0 ≠ 0 then some .busy
  else if s.rd .viewCount 0 ≤ s.rd .captureView 0 ∨ ¬ ([0, 3, 4, 5, 6, 8].contains target = true) then some .range
  else if s.rd .handleState h = 4 then some .retirePending
  else if s.rd .handleState h ≠ 0 ∨ (s.having .ctxState (fun n => n ≠ 0)).any (fun c => s.inSet c h) ∨ s.held h then some .state
  else if s.rd .pageCount h * 65536 < need ∨ s.rd .pageCount h = 0 then some .noSpace
  else if t < s.now then some .late
  else none

/-- R182: a write to CaptureAt. -/
def captureArmEff (v : Val) (s : State) : State × Ans :=
  let t := v.headD 0
  match s.captureCheck t with
  | some st => (s, ans st)
  | none =>
    let h := s.rd .captureHandle 0
    let s := (s.setHandle h 1).wr .lastWriter h 0xFFFE
    ({ s with cap := { since := t, view := s.rd .captureView 0, handle := h, target := s.rd .captureTarget 0 } }.wr
      .captureState 0 1, ans .ok)

/-- CAPTURE_ARM (R182). -/
def execCaptureArm (e : Env) (v : Bytes) (s : State) : Host.Outcome State Fault Refusal :=
  .next (s.writeCmd e .captureAt 0 v captureArmEff)

/-- R182: the image of a view's output for a refresh at a time, written to the capture's buffer. -/
def State.captureImage (s : State) (t : Nat) : State :=
  let c := s.cap
  let f := s.tablesAt t
  let shown := s.shownAt c.view t
  let n := s.patternCount c.view t
  let w := f.n .tileWidth 0
  let h := f.n .tileHeight 0
  let s := s.forEach (List.range (w * h)) (fun s i => s.readPixel f shown c.view (i % w) (i / w))
  let fmt := captureFormat c.target
  let px := fun (p x y : Nat) => (s.viewPixel f shown c.view n x y).getD p 0 / 256
  s.forEach [0, 1, 2] (fun s p =>
    s.bufWrite c.handle (planeBase fmt w h p) (encodePlane w h 12 c.target (px p)))

/-- R231: the first boundary from one on that lies in no Slate frame, over a number of frames. -/
def State.litFrom (s : State) : Nat → Nat → Nat
  | 0, g => g
  | n + 1, g => if s.inSlate g then s.litFrom n (s.nextFrame g) else g

/-- R182, R231: the refresh captured while the modulator runs: the view's first slot from a boundary, after the Slate frames
that it meets, one more than the commits that wait. 2^-32 ns. -/
def State.captureSlot (s : State) (g : Nat) : Option Nat :=
  let x := s.litFrom (s.modl.commits.length + 2) g
  s.viewSlotFrom s.cap.view (x * 4294967296) 3 x

/-- R101, R232: while stopped, the launches due at a boundary are consumed first. -/
def State.consumeDue (s : State) (v g : Nat) : Nat → State
  | 0 => s
  | n + 1 =>
    match (s.view v).queue with
    | [] => s
    | x :: _ => if x.instant ≤ g then (launchInstantEff v s).consumeDue v g n else s

/-- CAPTURE_BOUNDARY (R182): the clocks move on to the capture's boundary, and to its refresh when the modulator runs. -/
def captureBoundaryEff (s : State) : State :=
  if s.rd .captureState 0 ≠ 1 ∨ s.timeRuns = false then s
  else
    let g := s.boundaryFrom s.cap.since
    let s := s.untilDisp g
    if s.now < g then s
    else if !s.alive 12 then s.abortCapture 2
    else if s.running then
      match s.captureSlot g with
      | none => s
      | some x =>
        let t := x / 4294967296
        let s := (s.elapse (x - s.dispFine)).decideLaunches s.cap.view t
        (s.captureImage t).wr .captureState 0 2
    else ((s.consumeDue s.cap.view g 8).captureImage g).wr .captureState 0 2

/-- CAPTURE_BOUNDARY (R182). -/
def execCaptureBoundary (s : State) : Host.Outcome State Fault Refusal :=
  .next (if s.rd .captureState 0 = 1 then (captureBoundaryEff s).stalled else s)

/-- CAPTURE_DONE (R182): the image is complete. -/
def captureDoneEff (s : State) : State :=
  if s.rd .captureState 0 = 2 then
    let h := s.cap.handle
    let s := s.count .captureNumber 0
    let n := s.rd .captureNumber 0
    ((s.makeReady h n).wr .captureState 0 0).raise .captureDone [h, n]
  else s

/-- CAPTURE_DONE (R182). -/
def execCaptureDone (s : State) : Host.Outcome State Fault Refusal := .next (captureDoneEff s)

/-- R182: a write to CaptureAbort. -/
def captureAbortEff (v : Val) (s : State) : State × Ans :=
  if v = [1] then (s.abortCapture 0, ans .ok) else if v = [0] then (s, ans .ok) else (s, ans .range)

/-- CAPTURE_ABORT (R182). -/
def execCaptureAbort (e : Env) (v : Bytes) (s : State) : Host.Outcome State Fault Refusal :=
  .next (s.writeCmd e .captureAbort 0 v captureAbortEff)

end Sys2Proof.Machine
end

