-- ==== Sys2Proof/Machine/Checks.lean ====
section
/-! DEFINITION. The entries' own checks of a written value (R5, R8, R54, R80, R97, R104, R128, R163, R164, R171, R179, R181,
R184, R188, R193, R198, R200, R204, R209, R213, R235, R351, R358, R359, R362, R373, R380, R395). -/

namespace Sys2Proof.Machine

/-- R54: the entry is a counter, which only a write of 0 changes. -/
def Ent.isCounter (e : Ent) : Bool :=
  e.info.acc = .rw && e.info.ty = .u32 && !e.info.stored && e.info.cls = .immediate
    && e ≠ .format && e ≠ .ledgerSelect

/-- The number has no bit outside a mask. -/
def within (mask n : Nat) : Bool := n &&& mask = n

/-- Each element of a list is more than the one before it by at least a step. -/
def risesBy (step : Int) : List Int → Bool
  | [] => true
  | [_] => true
  | a :: b :: t => decide (a + step ≤ b) && risesBy step (b :: t)

/-- R179: the rules of a tone curve's knots. -/
def toneOk (v : Val) : Bool :=
  let xs := (List.range 33).map (fun k => (v.getD (2 * k) 0 : Int))
  let ys := (List.range 33).map (fun k => (v.getD (2 * k + 1) 0 : Int))
  v.length = 66 && v.getD 0 0 = 0 && risesBy 1 xs && risesBy 0 ys

/-- Table 8.3: a window's Crop word. -/
def cropOk (n : Nat) : Bool :=
  let h := n / 2 ^ 48 % 4096
  let w := n / 2 ^ 32 % 8192
  within 0x0FFF1FFF07FF0FFF n && decide (1 ≤ h ∧ h ≤ 2048 ∧ 1 ≤ w ∧ w ≤ 4096)

/-- Table 8.4: a window's Destination word. -/
def destOk (n : Nat) : Bool :=
  let x := sgn 16 n
  let y := sgn 16 (n / 65536)
  decide (-4096 ≤ x ∧ x ≤ 4095 ∧ -4096 ≤ y ∧ y ≤ 4095)

/-- Table 8.5: a window's Encoding word. -/
def encodingOk (n : Nat) : Bool :=
  within 0x337 n && n % 8 ≠ 4 && n % 8 ≠ 5 && n / 256 % 4 ≠ 3

/-- Table 8.10, R181: a Pattern word. -/
def patternOk (pc n : Nat) : Bool :=
  let p := n / 16 % 8
  decide (n / 16777216 = 0 ∧ n % 16 ≤ 6 ∧ n / 256 % 256 ≠ 0 ∧ n / 65536 % 256 ≠ 0)
    && (p = 7 || p ≤ 3) && !(p = 3 && pc = 3)

/-- R188: no row omits its own primary. -/
def omitOk (n : Nat) : Bool := (List.range 4).all (fun p => n / 4 ^ p % 4 ≠ p)

/-- R200, R209: SpreadWeights. -/
def spreadOk (n : Nat) : Bool :=
  within 0x0FFF0FFF n && decide (4 * (n % 4096) + 4 * (n / 65536 % 4096) ≤ 4096)

/-- R80: an element of the route table. -/
def routeOk (n : Nat) : Bool := within 0x87 n && (n % 8 ≤ 3 || n % 8 = 7)

/-- R104: the spacing of the pulses of an output with a mode and an OutputPeriod, where it has one. -/
def State.pulseSpacing (s : State) (mode period : Nat) : Option Nat :=
  let g := s.geo
  match mode with
  | 2 => if period = 0 then none else some period
  | 3 => some g.period
  | 4 => some (if g.pattern = 1 then g.tslot else g.v * g.tslot)
  | _ => none

/-- R104: OutputWidth in ps against the spacing of the pulses. -/
def State.widthOk (s : State) (mode period width : Nat) : Bool :=
  decide (10000 ≤ width)
    && (match s.pulseSpacing mode period with | some x => decide (width * 4294967296 < x * 1000) | none => true)

/-- Table 15.8: the bounds of SupplyWarning, VCORE as an offset below its target. -/
def warningBounds : List (Nat × Nat) :=
  [(10, 55), (790, 840), (835, 890), (1100, 1190), (740, 790), (1640, 1790), (1640, 1790)]

/-- R235: entries written only while the modulator is stopped. -/
def Ent.stoppedOnly (e : Ent) : Bool :=
  match e with
  | .tileWidth => true
  | .tileHeight => true
  | .laneCount => true
  | .outputsPerLane => true
  | .laneMap => true
  | .primaryOrder => true
  | _ => false

/-- R278: the state in which an entry may be written, checked before its value. -/
def State.stateCheck (s : State) (e : Ent) (i : Nat) : Option Status :=
  if e.stoppedOnly && s.running then some .state
  else if e = .retentionMask then if s.domState (20 + i) = .ret then some .state else none
  else if e = .pageRequest then if s.rd .handleState i = 4 then some .retirePending else none
  else none

/-- The chapters' rules of an entry's value, beyond its table's range. -/
def State.valueOk (s : State) (e : Ent) (i : Nat) (v : Val) : Bool :=
  let n := v.headD 0
  match e with
  | .groupSlot => n = 0xFFFF || (n ≤ 4095 && (List.range 16).all (fun j => j = i || s.rd .groupSlot j ≠ n))
  | .routeTable => v.all routeOk
  | .framePeriod => decide (0x003F940AAAAAAAAB ≤ n ∧ n ≤ 0x027C6B2D55555555)
  | .portAsymmetry => decide (-100000 ≤ sgn 32 n ∧ sgn 32 n ≤ 100000)
  | .outputMode => s.widthOk n (s.rd .outputPeriod i) (s.rd .outputWidth i)
  | .outputPeriod => decide (1000 * 4294967296 ≤ n) && s.widthOk (s.rd .outputMode i) n (s.rd .outputWidth i)
  | .outputWidth => s.widthOk (s.rd .outputMode i) (s.rd .outputPeriod i) n
  | .outputOffset => decide (-1000000000 ≤ sgn 32 n ∧ sgn 32 n ≤ 1000000000)
  | .evictTimeout => n = 0 || decide (1000 ≤ n ∧ n ≤ 86400000)
  | .pageRequest => decide (1 ≤ n ∧ n ≤ 576)
  | .captureHandle => n ≤ 1023
  | .slotMap => v.all (· ≤ 7)
  | .layerEnable => n ≤ 15
  | .dimmer => n ≤ 32768
  | .pattern => patternOk (s.rd .primaryCount 0) n
  | .patternLevel => n ≤ 1048575
  | .toneCurve => toneOk v
  | .tilePeak => 1 ≤ n
  | .hlgGamma => decide (1000 ≤ n ∧ n ≤ 1500)
  | .control => within 0x337 n
  | .crop => cropOk n
  | .destination => destOk n
  | .alpha => n ≤ 4096
  | .encoding => encodingOk n
  | .nominalPeak => 1 ≤ n
  | .compControl => n ≤ 31
  | .omitMap => omitOk n
  | .zoneGrid => (n % 16 + 1) * (n / 16 + 1) ≤ 16
  | .spreadWeights => spreadOk n
  | .concealCeiling => n ≤ 1048575
  | .concealList => s.concealListOk v
  | .overdriveControl => n ≤ 3
  | .overdriveTable => v.all (fun x => decide (-262143 ≤ sgn 32 x ∧ sgn 32 x ≤ 262143))
  | .tileWidth => n ≤ 4096 && tileFits n (s.rd .tileHeight 0) (s.rd .primaryCount 0)
  | .tileHeight => n ≤ 2048 && tileFits (s.rd .tileWidth 0) n (s.rd .primaryCount 0)
  | .jobSpec => (v.drop 32).all (· = 0)
  | .laneCount => n ≤ 512
  | .outputsPerLane => decide (1 ≤ n ∧ n ≤ 8192)
  | .planeTable => v.all (fun x => x < 64 && x % 16 ≤ 11)
  | .ditherControl => n ≤ 1
  | .ditherMatrix => v.all (· ≤ 4095)
  | .boardDelay => decide (-800 ≤ sgn 16 n ∧ sgn 16 n ≤ 800)
  | .ledgerSelect => n < 131072
  | .alarmTicks => n = 0 || 32 ≤ n
  | .supplyWarning => (List.range 7).all (fun r =>
      let b := warningBounds.getD r (0, 0)
      decide (b.1 ≤ v.getD r 0 ∧ v.getD r 0 ≤ b.2))
  | .railAddress => v.all (· ≤ 127)
  | .railSleepMask => n ≤ 7
  | .warningLevel => n ≤ s.rd .throttleLevel 0
  | .throttleLevel => s.rd .warningLevel 0 ≤ n
  | .bandEdges => risesBy 64 (v.map (sgn 16))
  | .calRepeat => n = 0 || decide (10 ≤ n ∧ n ≤ 3600)
  | .resetCounts => v.all (· = 0)
  | e => if e.isCounter then n = 0 else true

/-- R301: what a write of JobSpec may change. -/
def State.specWriteOk (s : State) (j : Nat) (v : Val) : Bool :=
  let a := valBytes (s.rdv .jobSpec j)
  let b := valBytes v
  if s.rd .jobState j = 0 then true
  else if s.rd .jobState j = 2 then
    b.length = 48 && a.take 16 = b.take 16 && a.drop 32 = b.drop 32
      && (List.range 8).all (fun i => field a (16 + 2 * i) 2 = 0xFFFF || field a (16 + 2 * i) 2 = field b (16 + 2 * i) 2)
  else false

/-- R267, R278: the entry's own checks of a value, the state first. -/
def State.entryCheck (s : State) (e : Ent) (i : Nat) (v : Val) : Option Status :=
  match s.stateCheck e i with
  | some st => some st
  | none =>
    if e = .jobSpec ∧ !s.specWriteOk i v then some .state
    else if rangeOk e v && s.valueOk e i v then none else some .range

/-- R280: a staged write to an entry with one already staged replaces it. -/
def restage (k : Nat) (v : Val) : List (Nat × Val) → List (Nat × Val)
  | [] => [(k, v)]
  | p :: t => if p.1 = k then (k, v) :: t else p :: restage k v t

/-- R280: another session owns staging. -/
def State.stagingHeld (s : State) (n : Nat) : Bool :=
  s.rd .stagingOwner 0 ≠ 0xFFFF && s.rd .stagingOwner 0 ≠ n

/-- R278, R280: a value is staged by a session, with the entry's checks and the check of space. -/
def State.stage (s : State) (n : Nat) (e : Ent) (i : Nat) (v : Val) : State × Status :=
  match s.entryCheck e i v with
  | some st => (s, st)
  | none =>
    let t := s.setStaged (restage (key e i) v s.mgmt.staged)
    if 524288 < t.stagedTotal then (s, .noSpace) else (t.wr .stagingOwner 0 n, .ok)

/-- R80: a host write of the route table clears the learned marks. -/
def writtenForm (e : Ent) (v : Val) : Val := if e = .routeTable then v.map (· % 8) else v

/-- R279: a plain write to an IMMEDIATE entry with no effect beyond its value. -/
def plainEff (e : Ent) (i : Nat) (v : Val) (s : State) : State × Ans :=
  match s.entryCheck e i v with
  | some st => (s, ans st)
  | none =>
    let s := if 0x3030 ≤ e.info.index ∧ e.info.index < 0x3034 then s.keepOutput i else s
    (s.wrv e i (writtenForm e v), ans .ok)

end Sys2Proof.Machine
end

