-- ==== Sys2Proof/Machine/Shale.lean ====
section
/-! DEFINITION. Shale coding and its jobs: the decoder of R298 as a machine over a coder slot's record, the encoder, the
targets that bulk data reaches, jobs and their saved state (R296 to R305). -/

namespace Sys2Proof.Machine

/-- R58, Table 13.4: the check word over the decoded bytes, final inversion done. -/
def Coder.check (c : Coder) : Nat := c.crc.toNat ^^^ 0xFFFFFFFF

/-- R298: one more decoded byte. -/
def Coder.emit (c : Coder) (b : Byte) : Coder :=
  { c with
    crc := BitVec.ofNat 32 (crc32Step c.crc.toNat b)
    hist := b :: c.hist
    head := (c.head + 1) % 65536 }

/-- R298: the history holds the last 65,536 decoded bytes. -/
def Coder.trim (c : Coder) : Coder := { c with hist := c.hist.take 65536 }

/-- A decoder at work: its record, the input still to read, the output made (newest first), the room left for output, the
greatest DecodedLength that its target takes, the first error, and whether it met the end of the room. -/
structure Dec where
  co : Coder
  inp : Bytes
  out : Bytes := []
  room : Nat
  lim : Nat := 37748736
  err : Option Status := none
  full : Bool := false
  deriving DecidableEq, Repr

/-- The decoder fails. -/
def Dec.fail (d : Dec) (st : Status) : Dec := { d with err := some st }

/-- Table 13.1: the header is whole. -/
def Dec.header (d : Dec) (h : Bytes) : Dec :=
  let n := field h 4 4
  if field h 0 2 ≠ 0x4853 ∨ field h 2 1 ≠ 1 ∨ field h 3 1 ≠ 0 ∨ n = 0 ∨ 37748736 < n then d.fail .code
  else if d.lim < n then d.fail .noSpace
  else { d with co := { d.co with phase := 1, part := [], decoded := n } }

/-- R297: a tag byte. -/
def Dec.tag (d : Dec) (t : Nat) : Dec :=
  let c := d.co
  if t < 128 then
    if c.decoded < c.outDone + t + 1 then d.fail .length
    else { d with co := { c with phase := 2, remaining := t + 1 } }
  else { d with co := { c with phase := 3, part := [], remaining := if t = 255 then 0 else t - 128 + 3 } }

/-- R297, R298: the fields of a match are whole: its length and distance. -/
def Dec.startMatch (d : Dec) (len dist : Nat) : Dec :=
  let c := d.co
  if c.outDone < dist then d.fail .distance
  else if c.decoded < c.outDone + len then d.fail .length
  else { d with co := { c with phase := 4, part := [], remaining := len, distance := dist } }

/-- R297, R298: one more byte of the fields of a match; a record whose Remaining is 0 waits for a long match's length. -/
def Dec.fields (d : Dec) (p : Bytes) : Dec :=
  let c := d.co
  if c.remaining ≠ 0 then
    if p.length < 2 then { d with co := { c with part := p } } else d.startMatch c.remaining (field p 0 2 + 1)
  else if p.length = 2 ∧ 65406 < field p 0 2 then d.fail .code
  else if p.length < 4 then { d with co := { c with part := p } }
  else d.startMatch (field p 0 2 + 130) (field p 2 2 + 1)

/-- R298: the trailer is whole. -/
def Dec.trailer (d : Dec) (p : Bytes) : Dec :=
  if field p 0 4 ≠ d.co.check then d.fail .check else { d with co := { d.co with phase := 6, part := [] } }

/-- One byte goes to the output, if there is room. -/
def Dec.produce (d : Dec) (b : Byte) : Dec :=
  if d.room = 0 then { d with full := true }
  else
    { d with
      co := { d.co.emit b with remaining := d.co.remaining - 1, outDone := d.co.outDone + 1 }
      out := b :: d.out
      room := d.room - 1 }

/-- R298: one step of the procedure; none when it waits for input, is full, has failed or is done. -/
def Dec.next (d : Dec) : Option Dec :=
  let c := d.co
  if d.err.isSome || d.full then none
  else if c.phase = 1 ∧ c.outDone = c.decoded then some { d with co := { c with phase := 5, part := [] } }
  else if (c.phase = 2 ∨ c.phase = 4) ∧ c.remaining = 0 then some { d with co := { c with phase := 1 } }
  else if c.phase = 4 then some (d.produce (c.hist.getD (c.distance - 1) 0))
  else
    match d.inp with
    | [] => none
    | b :: t =>
      let e := { d with inp := t }
      let p := c.part ++ [b]
      if c.phase = 0 then
        some (if p.length < 8 then { e with co := { c with part := p } } else e.header p)
      else if c.phase = 1 then some (e.tag b.toNat)
      else if c.phase = 2 then (if d.room = 0 then some { d with full := true } else some (e.produce b))
      else if c.phase = 3 then some (e.fields p)
      else if c.phase = 5 then some (if p.length < 4 then { e with co := { c with part := p } } else e.trailer p)
      else some (d.fail .length)

/-- R298: the procedure runs on while it can. -/
def Dec.run : Nat → Dec → Dec
  | 0, d => d
  | n + 1, d => match d.next with | none => d | some e => Dec.run n e

/-- R298, R299: a block of input decoded; the record keeps the input and output counts and the history. -/
def Coder.decode (c : Coder) (inp : Bytes) (room lim : Nat) : Dec :=
  let d := Dec.run (3 * inp.length + 2 * room + 16) { co := c, inp := inp, room := room, lim := lim }
  { d with co := { d.co.trim with inDone := c.inDone + (inp.length - d.inp.length) } }

/-- R298: the length of the match at a distance back from a position of the source: the bytes there that repeat the
history, at most `n`. -/
def matchLen (hist : Bytes) (dist : Nat) : Nat → Bytes → Nat
  | 0, _ => 0
  | _, [] => 0
  | n + 1, b :: t => if 1 ≤ dist ∧ hist[dist - 1]? = some b then 1 + matchLen (b :: hist) dist n t else 0

/-- Table 13.2: the code word of a match. -/
def matchWord (len dist : Nat) : Bytes :=
  if len ≤ 129 then leBytes 1 (0x80 + len - 3) ++ leBytes 2 (dist - 1)
  else leBytes 1 0xFF ++ leBytes 2 (len - 130) ++ leBytes 2 (dist - 1)

/-- R298: one token that the encoder may send for the source at hand, by an open choice: a match of at least 4 bytes at a
distance, or a literal run. Answers the code word and the bytes that it covers. -/
def encodeToken (c : Coder) (choice : Nat) (src : Bytes) : Bytes × Nat :=
  let dist := choice / 256 % 65536 + 1
  let len := matchLen c.hist dist (min 65536 src.length) src
  if 4 ≤ len ∧ dist ≤ c.inDone then (matchWord len dist, len)
  else
    let n := min (choice % 128 + 1) src.length
    (leBytes 1 (n - 1) ++ src.take n, n)

/-- Table 13.1: the header of a stream. -/
def shaleHeader (n : Nat) : Bytes := [0x53, 0x48, 1, 0] ++ leBytes 4 n

/-- The record after source bytes were coded as a word of a length. -/
def Coder.coded (c : Coder) (src : Bytes) (word : Nat) : Coder :=
  let c := src.foldl Coder.emit c
  { c with inDone := c.inDone + src.length, outDone := c.outDone + word }

/-- The next code word of a compression, with the record once it is placed; `src` is the source still to code of this
block. None when the block is used up. -/
def Coder.word (c : Coder) (choice : Nat) (src : Bytes) : Option (Bytes × Coder × Nat) :=
  if c.phase = 0 then some (shaleHeader c.decoded, { c with phase := 1, outDone := c.outDone + 8 }, 0)
  else if c.phase = 5 then some (leBytes 4 c.check, { c with phase := 6, outDone := c.outDone + 4 }, 0)
  else if c.phase ≠ 1 then none
  else if src = [] then none
  else
    let w := encodeToken c choice src
    let c' := c.coded (src.take w.2) w.1.length
    some (w.1, if c'.inDone = c'.decoded then { c' with phase := 5 } else c', w.2)

/-- Table 14.1: where the black box starts in the MRAM. -/
def boxBase : Nat := 0x6B0000

/-- Tables 13.5 and 13.8: bytes of a source or a target: 1 coefficient, 2 previous-output, 3 table store, 4 a buffer, and
the black box. -/
def State.rangeRead (s : State) (kind handle off n : Nat) : Bytes :=
  match kind with
  | 1 => s.quarryBytes (s.storeAddr 0 + off) n
  | 2 => s.quarryBytes (s.storeAddr 1 + off) n
  | 3 => (s.tableBytes.drop off).take n
  | 4 => s.bufRead handle off n
  | _ => SMap.bytes s.secure.mram (boxBase + off) n

/-- R413: bytes written into a target. -/
def State.rangeWrite (s : State) (kind handle off : Nat) (b : Bytes) : State :=
  match kind with
  | 1 => s.quarryWrite (s.storeAddr 0 + off) b
  | 2 => s.quarryWrite (s.storeAddr 1 + off) b
  | 3 => s.tableWrite off b
  | 4 => s.bufWrite handle off b
  | _ => s

/-- The store that a kind names. -/
def kindStore (kind : Nat) : Nat := if kind = 1 then 0 else if kind = 2 then 1 else 3

/-- The bytes of a buffer (Table 7.4). -/
def State.bufBytes (s : State) (h : Nat) : Nat := s.rd .pageCount h * 65536

/-- The bytes of a source or a target. -/
def State.rangeSize (s : State) (kind handle : Nat) : Nat :=
  if kind = 4 then s.bufBytes handle
  else if kind = 1 ∨ kind = 2 ∨ kind = 3 then s.storeSize (kindStore kind) else 4194304

/-- R15: every section that holds a page of the buffer is ON. -/
def State.bufOn (s : State) (h : Nat) : Bool := (s.buf h).pages.all (fun p => s.alive (20 + s.pageBank p / 96))

/-- The sections, or the domain, that a source or a target lives in are ON. -/
def State.rangeOn (s : State) (kind handle : Nat) : Bool :=
  if kind = 4 then s.bufOn handle
  else if kind = 1 ∨ kind = 2 ∨ kind = 3 then s.storeOn (kindStore kind) else s.alive 10

/-- Table 13.5: the fields of a JobSpec. -/
structure Spec where
  op : Nat
  kind : Nat
  handle : Nat
  off : Nat
  len : Nat
  outOff : Nat
  chain : List Nat
  tail : Nat
  deriving DecidableEq, Repr

/-- Table 13.5: a JobSpec read. -/
def jobSpecOf (v : Val) : Spec :=
  let b := valBytes v
  { op := field b 0 1, kind := field b 1 1, handle := field b 2 2, off := field b 4 4, len := field b 8 4
    outOff := field b 12 4, chain := (List.range 8).map (fun i => field b (16 + 2 * i) 2), tail := field b 32 16 }

/-- The JobSpec of job j. -/
def State.spec (s : State) (j : Nat) : Spec := jobSpecOf (s.rdv .jobSpec j)

/-- The output handles of a chain. -/
def Spec.outs (p : Spec) : List Nat := p.chain.filter (· ≠ 0xFFFF)

/-- The handles that a JobSpec names, the source first. -/
def Spec.handles (p : Spec) : List Nat := if p.kind = 4 then p.handle :: p.outs else p.outs

/-- R302 step 2: the fields of Table 13.5. Ranges in an unallocated handle are left to step 5. -/
def State.specRangeOk (s : State) (p : Spec) : Bool :=
  decide ((p.op = 1 ∨ p.op = 2) ∧ 1 ≤ p.kind ∧ p.kind ≤ 5 ∧ (p.kind = 5 → p.op = 1) ∧ 1 ≤ p.len ∧ p.len ≤ 37748736
      ∧ p.tail = 0 ∧ p.handles.Nodup)
    && (if p.kind = 4 then decide (p.handle ≤ 1023) else decide (p.handle = 0)) && p.outs.all (· ≤ 1023)
    && ((p.kind = 4 && decide (s.rd .pageCount p.handle = 0)) || decide (p.off + p.len ≤ s.rangeSize p.kind p.handle))
    && (let h := p.chain.headD 0xFFFF
        h = 0xFFFF || s.rd .pageCount h = 0 || decide (p.outOff < s.bufBytes h))

/-- R302, R307: a handle is held by a job other than j, or by a transfer. -/
def State.heldBeside (s : State) (j h : Nat) : Bool :=
  (s.holdingJobs.filter (· ≠ j)).any (fun i => (s.spec i).handles.contains h)
    || s.openXfers.any (fun t => (s.xfer t).kind = 4 && (s.xfer t).handle = h)

/-- R302, R307: a handle lies in the BufferSet of a context that is not FREE. -/
def State.inUsedSet (s : State) (h : Nat) : Bool := (s.having .ctxState (· ≠ 0)).any (s.inSet · h)

/-- R302 steps 2 to 6. -/
def State.jobCheck (s : State) (j : Nat) : Option Status :=
  let p := s.spec j
  if !s.specRangeOk p then some .range
  else if p.handles.any (fun h => s.rd .handleState h = 4) then some .retirePending
  else if p.outs.any (fun h => decide (s.rd .handleState h ≠ 0) || s.inUsedSet h || s.heldBeside j h) then some .busy
  else if p.handles.any (fun h => s.rd .pageCount h = 0) then some .noSpace
  else if !(s.rangeOn p.kind p.handle && p.outs.all s.bufOn) then some .state
  else none

/-- R303: where output starts in a chain slot. -/
def Spec.start (p : Spec) (i : Nat) : Nat := if i = 0 then p.outOff else 0

/-- The bytes that slot i of a chain can still take beyond `pos`; 0 for an empty slot. -/
def State.slotRoom (s : State) (p : Spec) (i pos : Nat) : Nat :=
  let h := p.chain.getD i 0xFFFF
  if h = 0xFFFF then 0 else s.bufBytes h - p.start i - pos

/-- R303: the bytes that a chain takes from slot i on, up to the first empty slot. -/
def State.chainRoom (s : State) (p : Spec) : Nat → Nat → Nat → Nat
  | 0, _, _ => 0
  | n + 1, i, pos =>
    if p.chain.getD i 0xFFFF = 0xFFFF then 0 else s.slotRoom p i pos + s.chainRoom p n (i + 1) 0

/-- The entries of a job follow its record (Table 13.11). -/
def State.showJob (s : State) (j : Nat) : State :=
  let x := s.job j
  ((s.wr .inputDone j x.co.inDone).wr .outputDone j x.co.outDone).wrv .chainUsed j x.used

/-- R303: bytes placed at a job's place in its chain; the job moves on to the next slot when a handle is full. ChainIndex
stays at the last slot, 7, once that is full (Table 13.4). -/
def State.placeIn (s : State) (j : Nat) (p : Spec) : Nat → Bytes → State
  | 0, _ => s
  | n + 1, b =>
    let x := s.job j
    let i := x.co.chain
    let room := s.slotRoom p i x.pos
    if b = [] ∨ p.chain.getD i 0xFFFF = 0xFFFF then s
    else
      let k := min room b.length
      let s := s.bufWrite (p.chain.getD i 0) (p.start i + x.pos) (b.take k)
      let x := { x with used := x.used.set i (x.pos + k), pos := x.pos + k }
      let x := if k = room ∧ i < 7 then { x with co := { x.co with chain := i + 1 }, pos := 0 } else x
      State.placeIn (s.setJob j x) j p n (b.drop k)

/-- R301: a job changes state with a status; R283: in SUSPENDED and DONE its SavedState has a new value. -/
def State.jobTo (s : State) (j st : Nat) (status : Status) : State :=
  let t := (s.wr .jobState j st).wr .jobStatus j status.value
  if st = 2 ∨ st = 3 then
    { t with revs := SMap.put t.revs (key .savedState j) ((SMap.get t.revs (key .savedState j) 0 + 1) % 4294967296) }
  else t

/-- R301: a job is DONE. -/
def State.jobDone (s : State) (j : Nat) : State :=
  ((s.showJob j).jobTo j 3 .ok).raise .shaleJobDone [j, (s.job j).co.outDone]

/-- R303: a job is SUSPENDED. -/
def State.jobSuspend (s : State) (j : Nat) : State :=
  ((s.showJob j).jobTo j 2 .overflow).raise .shaleJobSuspended [j, (s.job j).co.outDone]

/-- R301: a job is FAILED. -/
def State.jobFail (s : State) (j : Nat) (st : Status) : State :=
  ((s.showJob j).jobTo j 4 st).raise .shaleJobFailed [j, st.value]

/-- R304: the output handles of a job without gain hold anything. -/
def State.spoil (s : State) (p : Spec) : State :=
  let s := p.outs.zipIdx.foldl (fun s a =>
    s.bufWrite a.1 0 ((List.range (s.bufBytes a.1)).map (fun o => Config.undefinedByte s.draws (a.2 * 67108864 + o)))) s
  { s with draws := s.draws + 1 }

/-- R298, R303, R304: a compress job codes the rest of a block. -/
def State.compressRun (s : State) (j : Nat) (p : Spec) : Nat → Bytes → State
  | 0, _ => s
  | n + 1, src =>
    let x := s.job j
    match x.co.word (Config.shaleChoice s.draws) src with
    | none => if x.co.phase = 6 then s.jobDone j else s.showJob j
    | some (w, c, k) =>
      if p.len ≤ x.co.outDone + w.length then (s.spoil p).jobFail j .noGain
      else
        let fits := decide (w.length ≤ s.slotRoom p x.co.chain x.pos)
        let moves := !fits && decide (p.chain.getD x.co.chain 0xFFFF ≠ 0xFFFF ∧ x.co.chain < 7)
        let x := if moves then { x with co := { x.co with chain := x.co.chain + 1 }, pos := 0 } else x
        if decide (w.length ≤ s.slotRoom p x.co.chain x.pos) then
          let s := { s.setJob j { x with co := { c.trim with chain := x.co.chain } } with draws := s.draws + 1 }
          State.compressRun (s.placeIn j p 2 w) j p n (src.drop k)
        else (s.setJob j x).jobSuspend j

/-- R299: one block of a compress job. -/
def State.compressBlock (s : State) (j : Nat) : State :=
  let p := s.spec j
  let c := (s.job j).co
  s.compressRun j p 4104 (s.rangeRead p.kind p.handle (p.off + c.inDone) (min 4096 (p.len - c.inDone)))

/-- R299: one block of a decompress job. -/
def State.decompressBlock (s : State) (j : Nat) : State :=
  let p := s.spec j
  let x := s.job j
  let src := s.rangeRead p.kind p.handle (p.off + x.co.inDone) (min 4096 (p.len - x.co.inDone))
  let d := x.co.decode src (s.chainRoom p 8 x.co.chain x.pos) 37748736
  let s := (s.setJob j { x with co := d.co }).placeIn j p 9 d.out.reverse
  let ended := decide (p.len ≤ d.co.inDone)
  match d.err with
  | some st => (s.count .decodeErrors 0).jobFail j st
  | none =>
    if d.full then s.jobSuspend j
    else if d.co.phase = 6 then
      if ended then s.jobDone j else (s.count .decodeErrors 0).jobFail j .length
    else if ended then (s.count .decodeErrors 0).jobFail j .length
    else s.showJob j

/-- R299: one block of a job's slot, while it runs and its source and handles can be reached. -/
def State.jobBlock (s : State) (j : Nat) : State :=
  let p := s.spec j
  if s.alive 8 && decide (s.rd .jobState j = 1) && s.rangeOn p.kind p.handle && p.outs.all s.bufOn then
    (if (s.job j).co.op = 1 then s.compressBlock j else s.decompressBlock j)
  else s

/-- R302: Start. -/
def jobStartEff (j : Nat) (s : State) : State × Ans :=
  if s.rd .jobState j ≠ 0 then (s, ans .state)
  else
    match s.jobCheck j with
    | some st => (s, ans st)
    | none =>
      let p := s.spec j
      let c : Coder := { op := p.op, decoded := if p.op = 1 then p.len else 0 }
      (((s.setJob j { co := c, held := true }).showJob j).wr .jobState j 1, ans .ok)

/-- R302: Resume. -/
def jobResumeEff (j : Nat) (s : State) : State × Ans :=
  if s.rd .jobState j ≠ 2 then (s, ans .state)
  else
    match s.jobCheck j with
    | some st => (s, ans st)
    | none => ((s.setJob j { s.job j with held := true }).wr .jobState j 1, ans .ok)

/-- R301: Abort. -/
def jobAbortEff (j : Nat) (s : State) : State × Ans :=
  if s.rd .jobState j = 0 ∨ s.rd .jobState j = 1 then (s, ans .state) else ((s.setJob j {}).wr .jobState j 0, ans .ok)

/-- R311: a write of JobCommand. -/
def jobCommandEff (j : Nat) (v : Val) (s : State) : State × Ans :=
  if v = [1] then jobStartEff j s else if v = [2] then jobResumeEff j s else if v = [3] then jobAbortEff j s
  else (s, ans .range)

/-- R305: D8 leaves ON. -/
def State.codecLeaves (s : State) : State :=
  s.forEach (List.range 4) (fun s j => (s.setJob j {}).wr .jobState j 0)

/-- Table 13.4: the ring of the history. -/
def Coder.ring (c : Coder) : Bytes :=
  let old := c.hist.reverse
  let pad : Bytes := List.replicate (65536 - old.length) 0
  let straight := pad ++ old
  straight.drop (65536 - c.head) ++ straight.take (65536 - c.head)

/-- Table 13.4: bytes 0 to 59 of a record. -/
def Coder.front (c : Coder) : Bytes :=
  leBytes 1 c.op ++ leBytes 1 c.phase ++ leBytes 1 c.part.length ++ leBytes 1 c.chain ++ leBytes 4 c.remaining
    ++ leBytes 4 c.distance ++ leBytes 4 c.inDone ++ leBytes 4 c.outDone ++ leBytes 4 c.decoded ++ leBytes 4 c.crc.toNat
    ++ leBytes 2 c.head ++ [0, 0] ++ (c.part ++ List.replicate (8 - c.part.length) 0) ++ List.replicate 20 0

/-- R299, Table 13.4: the record of a slot. -/
def Coder.record (c : Coder) : Bytes := c.front ++ leBytes 4 (crc32 (c.front ++ c.ring)) ++ c.ring

/-- R8, Table 13.4: the record's length and its reserved bytes. -/
def slotFieldsOk (b : Bytes) : Bool :=
  decide (b.length = 65600 ∧ field b 30 2 = 0) && ((b.drop 40).take 20).all (· = 0)

/-- R300: the record's StateCheck and Phase are good. -/
def slotRecordOk (b : Bytes) : Bool :=
  b.length = 65600 && field b 60 4 = crc32 (b.take 60 ++ b.drop 64) && decide (field b 1 1 < 6)

/-- Table 13.4: a slot from a record. -/
def coderOf (b : Bytes) : Coder :=
  let head := field b 28 2
  let count := if field b 0 1 = 1 then field b 12 4 else field b 16 4
  let r := b.drop 64
  { op := field b 0 1, phase := field b 1 1, part := (b.drop 32).take (min 7 (field b 2 1)), head := head
    chain := field b 3 1, remaining := field b 4 4, distance := field b 8 4, inDone := field b 12 4
    outDone := field b 16 4, decoded := field b 20 4, crc := BitVec.ofNat 32 (field b 24 4)
    hist := ((r.take head).reverse ++ (r.drop head).reverse).take (min 65536 count) }

/-- R8, R269, R300: a write of SavedState, whatever the state of D8. -/
def savedStateEff (j : Nat) (v : Val) (s : State) : State × Ans :=
  let b := valBytes v
  if s.rd .jobState j ≠ 0 then (s, ans .state)
  else if !slotFieldsOk b then (s, ans .range)
  else if !slotRecordOk b then (s, ans .check)
  else
    (((s.setJob j { co := coderOf b }).showJob j).jobTo j 2 .overflow, ans .ok)

/-- R300: the record that a read of SavedState returns; none while the job holds none. -/
def State.savedState (s : State) (j : Nat) : Option Bytes :=
  if s.rd .jobState j = 2 ∨ s.rd .jobState j = 3 then some (s.job j).co.record else none

/-- JOB_START (R302). -/
def execJobStart (e : Env) (job : Fin 4) (s : State) : Host.Outcome State Fault Refusal :=
  .next (s.writeCmd e .jobCommand job.val [1] (jobCommandEff job.val))

/-- JOB_RESUME (R302). -/
def execJobResume (e : Env) (job : Fin 4) (s : State) : Host.Outcome State Fault Refusal :=
  .next (s.writeCmd e .jobCommand job.val [2] (jobCommandEff job.val))

/-- JOB_ABORT (R301). -/
def execJobAbort (e : Env) (job : Fin 4) (s : State) : Host.Outcome State Fault Refusal :=
  .next (s.writeCmd e .jobCommand job.val [3] (jobCommandEff job.val))

end Sys2Proof.Machine
end

