-- ==== Sys2Proof/Machine/Nvm.lean ====
section
/-! DEFINITION. The secure store's MRAM: areas, banks, the write window and the single write path, the black box, the owner
bank's payload, images, and how bulk transfers end (R308, R313 to R327, R329, R334). -/

namespace Sys2Proof.Machine

/-- R317: the bank that a write of a pair targets. -/
def State.targetBank (s : State) (area : Nat) : Nat :=
  match s.inForce area with | none => bankBase area false | some b => bankBase area (!b)

/-- A payload cut into lines of 64 bytes, the last one filled with zeros. -/
def linesOf (a : Nat) : Nat → Bytes → List Line
  | 0, _ => []
  | n + 1, b => { addr := a, data := (b.take 64 ++ List.replicate 64 0).take 64 } :: linesOf (a + 64) n (b.drop 64)

/-- The lines of a byte string from an offset on. -/
def wholeLines (a : Nat) (b : Bytes) : List Line := linesOf a (ceilDiv b.length 64) b

/-- R317 step 1: the header line that makes a bank invalid. -/
def spoilLine (base : Nat) : Line := { addr := base, data := List.replicate 64 0 }

/-- Table 14.2: the header line of a bank. -/
def State.headLine (s : State) (area base : Nat) (payload : Bytes) : Line :=
  let h := leBytes 2 area ++ leBytes 2 1 ++ leBytes 4 (s.areaSeq area + 1) ++ leBytes 4 payload.length
    ++ leBytes 4 (s.rd .firmwareVersion 0) ++ List.replicate 12 0
  { addr := base, data := h ++ leBytes 4 (crc32 (h ++ payload)) ++ List.replicate 32 0 }

/-- R317 steps 1 to 3: the lines of a bank write. -/
def State.bankLines (s : State) (area base : Nat) (payload : Bytes) : List Line :=
  spoilLine base :: wholeLines (base + 64) payload ++ [s.headLine area base payload]

/-- R329: the entries that show the owner bank follow it. -/
def State.showOwner (s : State) : State :=
  let b := s.ownerBytes
  (s.wr .ownerSignsFirmware 0 (field b 64 1)).wr .bootCount 0 (field b 68 4)

/-- A byte string with changes at offsets. -/
def patched (b : Bytes) (p : List (Nat × Byte)) : Bytes := p.foldl (fun b x => b.set x.1 x.2) b

/-- Changes that put a byte string at an offset. -/
def patchAt (a : Nat) (b : Bytes) : List (Nat × Byte) := b.zipIdx.map (fun x => (a + x.2, x.1))

/-- The rails of Table 15.8 that are below warning. -/
def State.anyWarn (s : State) : Bool := (List.range 7).any (fun r => (s.rail r).warn)

/-- R315: the temperature lies in the write window. -/
def State.tempOpen (s : State) : Bool := s.thermal.seen && decide (-320 ≤ s.thermal.j ∧ s.thermal.j ≤ 1680)

/-- R315: lines may start. -/
def State.windowOpen (s : State) : Bool := s.tempOpen && !s.anyWarn

/-- R315: the code of a window that is closed now; a supply takes precedence. -/
def State.closedCode (s : State) : Status := if s.anyWarn then .supply else .tempWindow

/-- R315: the code of a hold; a supply takes precedence, also one that has recovered. -/
def State.windowCode (s : State) : Status := if s.secure.heldBy then .supply else s.closedCode

/-- The state with the write path's jobs changed. -/
def State.setOps (s : State) (l : List NvmOp) : State := { s with secure := { s.secure with ops := l } }

/-- R315: a line of the job waits to be written. -/
def NvmOp.hasLine (o : NvmOp) : Bool := (o.fresh && !o.more) || !o.lines.isEmpty || o.kind = .clear

/-- R315: which job's line comes next: the one with a line in progress, an owner-bank write, then order of arrival among
those that have a line. -/
def State.nextOp (s : State) : Option Nat :=
  let l := s.secure.ops
  match l.findIdx? (fun o => o.started) with
  | some i => some i
  | none =>
    match l.findIdx? (fun o => o.kind = .owner) with
    | some i => some i
    | none => l.findIdx? (fun o => o.hasLine)

/-- Table 14.2: the area of a job that writes a bank. -/
def NvmKind.area : NvmKind → Nat
  | .settings => 1
  | .calibration => 2
  | .owner => 3
  | _ => 4

/-- A request that waits, as its answer needs it. -/
def Waiter.req (w : Waiter) : Req := { env := w.env, opcode := w.opcode, index := w.index, sub := w.sub, offset := 0 }

/-- The waiter of a write to an entry. -/
def waiterOf (env : Env) (e : Ent) (i : Nat) : Waiter :=
  { env := env, opcode := 0x11, index := (e.address i).1, sub := (e.address i).2 }

/-- R276: a waiting request is answered; one whose session has closed completes without a reply. -/
def State.completeFor (s : State) (w : Waiter) (r : Reply) : State :=
  if w.mute then s.freeCore w.env else s.complete w.req r

/-- R276: the reply to a STORE; none where its session has closed. -/
def State.storeReply (s : State) (q : StoreRun) (r : Reply) : State :=
  if q.mute then s else s.complete { env := q.env, opcode := 0x20, index := 0, sub := 0, offset := 0 } r

/-- A waiting request is answered with a status. -/
def State.answer (s : State) (w : Option Waiter) (st : Status) : State :=
  match w with | none => s | some w => s.completeFor w (Reply.of st)

/-- R308: the coder slots that transfers use. -/
def State.slotUsed (s : State) (n : Nat) : Bool :=
  s.openXfers.any (fun t => (s.xfer t).coded && (s.xfer t).slot = n) || (n = 7 && s.secure.archive.isSome)

/-- R314: jobs of the write path are given up; the line in progress completes. -/
def State.dropOps (s : State) (p : NvmOp → Bool) : State :=
  let gone := s.secure.ops.filter p
  let s := s.setOps (s.secure.ops.filter (fun o => !p o))
  gone.foldl (fun s o =>
    match o.started, o.lines with | true, l :: _ => s.mramWrite l.addr l.data | _, _ => s) s

/-- R308: a transfer ends; 2 complete, 3 failed. What it had in the write path or the codec is given up. -/
def State.endXfer (s : State) (t st : Nat) (status : Status) : State :=
  let s := (s.wr .transferState t st).wr .transferStatus t status.value
  let s := s.dropOps (fun o => (o.kind = .slot || o.kind = .archive) && o.names = [t])
  { s with secure := { s.secure with archive := s.secure.archive.filter (fun a => a.xfer ≠ some t) } }

/-- R308, R312: a transfer is complete; the event names it and its target. -/
def State.doneXfer (s : State) (t : Nat) : State :=
  (s.endXfer t 2 .ok).raise .bulkDone [t, (s.xfer t).kind, (s.xfer t).handle, (s.xfer t).offset]

/-- R308, R310: a transfer fails, in a section of its file where it carries one. -/
def State.failXfer (s : State) (t : Nat) (st : Status) : State :=
  (s.endXfer t 3 st).raise .bulkFailed [t, st.value, s.rd .failedSection t]

/-- R311: a stream fails by R298. -/
def State.countDecode (s : State) (st : Status) : State :=
  if st = .code ∨ st = .distance ∨ st = .length ∨ st = .check then s.count .decodeErrors 0 else s

/-- R309: bytes of a Mehild file: directory entry i. -/
def dirEntry (b : Bytes) (i : Nat) : Bytes := (b.drop (32 + 24 * i)).take 24

/-- R320: an open transfer writes the coefficient store. -/
def State.writesCoef (s : State) (t : Nat) : Bool :=
  let x := s.xfer t
  !x.out && (x.kind = 1 || x.kind = 5 && (List.range (field x.file 4 2)).any (fun i =>
    field (dirEntry x.file i) 0 1 = 2 && field (dirEntry x.file i) 5 1 = 1))

/-- R337, R336 step 5: fuses blow until the counter has reached the running image's SecurityVersion. -/
def State.blowFuses (s : State) : State :=
  let v := (s.mramRead (s.secure.running * 3145728 + 7) 1).headD 0
  if s.windowOpen && decide (v.toNat ≤ 64) then
    { s with secure := { s.secure with fuses := max s.secure.fuses v.toNat } }
  else s

/-- R330, R331: AUTHORISED is cleared on every Izsor session. -/
def State.clearAuth (s : State) : State :=
  { s with mgmt := { s.mgmt with sessions := s.mgmt.sessions.map (fun (p : Nat × Session) =>
      if p.1 = 256 then p else (p.1, { p.2 with auth := false })) } }

/-- What an owner-bank write was for, in `names`: 0 the boot, 1 enrol, 2 replace, 3 remove, 4 OwnerSignsFirmware,
5 FirmwareActivate, 6 FirmwareConfirm, 7 TrialSlot cleared by a slot write. -/
def State.ownerDone (s : State) (o : NvmOp) : State :=
  let s := s.showOwner
  let k := o.names.headD 0
  let s :=
    if k = 1 ∨ k = 2 ∨ k = 3 then
      s.clearAuth.raise .ownerChanged [k, leNat (keyId (s.ownerBytes.take 64))]
    else if k = 6 then
      let s := { s with secure := { s.secure with trial := false } }.blowFuses
      s.raise .fwConfirmed [s.secure.running, s.secure.fuses]
    else s
  s.answer o.who .ok

/-- Table 14.7, R334 steps 1 to 4: what keeps the image of a slot from verifying, its rollback check aside.
The bytes of a delivered image are not the model's (DESIGN CHOICE, log 87): it passes steps 1 to 3. -/
def State.imageFault (s : State) (slot : Nat) : Option Status :=
  let b := s.mramRead (slot * 3145728) 192
  let n := field b 12 4
  let keys := (List.range 4).map (fun k => (List.range 64).map (Config.romKey k))
  let vendor := (keys.zipIdx.find? (fun a =>
    decide (keyId a.1 = (b.drop 48).take 8) && !Config.keyRevoked.toNat.testBit a.2)).map (fun a => a.1)
  let owner := s.ownerBytes.take 64
  let sealed := s.secure.delivered.contains slot
  if !sealed && decide (field b 0 4 ≠ 0x57465856 ∨ field b 4 2 ≠ 1 ∨ field b 6 1 ≠ 9 ∨ n = 0 ∨ 3145536 < n) then some .range
  else if !sealed && sha256 (s.mramRead (slot * 3145728 + 192) n) ≠ (b.drop 16).take 32 then some .check
  else if !sealed && !(match vendor with | some k => verify k (b.take 56) ((b.drop 56).take 64) | none => false) then some .signature
  else if s.rd .ownerSignsFirmware 0 = 1
      ∧ !(decide ((b.drop 120).take 8 = keyId owner) && verify owner (b.take 128) ((b.drop 128).take 64)) then
    some .signature
  else none

/-- R334: what keeps the image of a slot from verifying. -/
def State.verifySlot (s : State) (slot : Nat) : Option Status :=
  match s.imageFault slot with
  | some st => some st
  | none =>
    if leNat (s.mramRead (slot * 3145728 + 7) 1) < s.secure.fuses then some .rollback else none

/-- R335: the last line of a slot write is in; the image is read and verified. -/
def State.slotWritten (s : State) (t slot : Nat) : State :=
  let s := s.mramScan (slot * 3145728) 3145728
  match s.verifySlot slot with
  | none => ({ s with secure := { s.secure with slotSt := s.secure.slotSt.set slot 2 } }).doneXfer t
  | some st => (s.raise .fwRejected [slot, st.value]).failXfer t st

/-- A job joins the write path; R315: whether the window is open at its start decides if it can be held. -/
def State.pushOp (s : State) (o : NvmOp) : State := s.setOps (s.secure.ops ++ [{ o with met := o.met || s.windowOpen }])

/-- R318: an area of the running STORE fails, and the STORE with it. -/
def State.storeFail (s : State) (st : Status) : State :=
  match s.secure.stores with
  | [] => s
  | r :: t =>
    let area := r.areas.headD 0
    let s := { s with secure := { s.secure with stores := t } }
    let s := (s.count .storeFailures 0).raise .storeFailed [area, st.value]
    s.storeReply r { status := st, body := leBytes 1 r.doneMask ++ leBytes 1 area }

/-- R315: the STORE that runs has not saved an area yet, so that it is at its start. -/
def State.storeNew (s : State) : Bool := match s.secure.stores with | r :: _ => r.doneMask = 0 | [] => true

/-- R315, R320: what keeps the archive from being stored now. -/
def State.archiveBlocked (s : State) : Option Status :=
  if !(s.on 8 && s.storeOn 0) then some .state
  else if !s.windowOpen && s.storeNew then some s.closedCode
  else if s.slotUsed 7 || s.openXfers.any (fun t => s.writesCoef t || !(s.xfer t).out && (s.xfer t).kind = 7) then
    some .busy
  else none

/-- R285, R318, R320: the next area of a STORE begins, or the STORE is answered. Areas that fail at once end it. -/
def State.storeNext (s : State) : State :=
  match s.secure.stores with
  | [] => s
  | r :: t =>
    match r.areas with
    | [] =>
      { s with secure := { s.secure with stores := t } }.storeReply r { body := leBytes 1 r.doneMask ++ [0xFF] }
    | 0 :: _ =>
      if bankSize 1 < r.settings.length + 64 then s.storeFail .noSpace
      else s.pushOp { kind := .settings, payload := r.settings, met := r.doneMask ≠ 0 }
    | 1 :: _ =>
      if bankSize 2 < r.calib.length + 64 then s.storeFail .noSpace
      else s.pushOp { kind := .calibration, payload := r.calib, met := r.doneMask ≠ 0 }
    | _ =>
      match s.archiveBlocked with
      | some st => s.storeFail st
      | none => { s with secure := { s.secure with
          archive := some { since := s.aon.mono, co := { op := 1, decoded := 16777216 } } } }

/-- R285: STOREs go on until one waits for the write path or the codec. -/
def State.storeRun : Nat → State → State
  | 0, s => s
  | n + 1, s =>
    let k := s.secure.stores.length
    let t := s.storeNext
    if t.secure.stores.length < k then State.storeRun n t else t

/-- R285: the area that a STORE saves is stored. -/
def State.storeAreaDone (s : State) : State :=
  match s.secure.stores with
  | [] => s
  | r :: t =>
    let a := r.areas.headD 0
    State.storeRun 300 { s with secure := { s.secure with
      stores := { r with areas := r.areas.drop 1, doneMask := r.doneMask + 2 ^ a } :: t } }

/-- R317, R327, R335: a job of the write path has written its last line. -/
def State.opDone (s : State) (o : NvmOp) : State :=
  match o.kind with
  | .owner => s.ownerDone o
  | .slot => s.slotWritten (o.names.headD 0) (o.base / 3145728)
  | .clear => s.answer o.who .ok
  | .archive => if o.names = [] then s.storeAreaDone else s.doneXfer (o.names.headD 0)
  | _ => s.storeAreaDone

/-- R315, R317: a job of the write path fails. -/
def State.opFail (s : State) (o : NvmOp) (st : Status) : State :=
  match o.kind with
  | .owner => s.answer o.who st
  | .slot => s.failXfer (o.names.headD 0) st
  | .clear => s.answer o.who st
  | .archive => if o.names = [] then State.storeRun 300 (s.storeFail st) else s.failXfer (o.names.headD 0) st
  | _ => State.storeRun 300 (s.storeFail st)

/-- R317: the job writes a bank of a pair. -/
def NvmKind.writesBank : NvmKind → Bool
  | .slot => false
  | .clear => false
  | _ => true

/-- R317 step 4: the bank that a job wrote reads back with its CheckWord. -/
def State.readsBack (s : State) (o : NvmOp) : Bool :=
  s.bankValid o.kind.area (decide (o.base ≠ bankBase o.kind.area false))

/-- R336: the job is the boot's own, which waits for the window. -/
def NvmOp.boots (o : NvmOp) : Bool := o.kind = .owner && o.names.headD 0 = 0

/-- R317: the lines of a job are laid out as its first one starts. -/
def State.layOut (s : State) (o : NvmOp) : NvmOp :=
  if !o.fresh then o
  else
    match o.kind with
    | .owner =>
      let base := s.targetBank 3
      let p := patched s.ownerBytes o.patch
      { o with fresh := false, base := base, payload := p, lines := s.bankLines 3 base p }
    | .slot => { o with fresh := false }
    | .clear => { o with fresh := false }
    | k =>
      if o.more then { o with fresh := false }
      else
        let base := s.targetBank k.area
        { o with fresh := false, base := base, lines := s.bankLines k.area base o.payload }

/-- R326, R327: the event of a marker record (Kinds 4 and 5): Code 0, and the RecordSeq concerned. -/
def markerBytes (r : EventRec) : Bytes :=
  [0, 0, 0, 0] ++ cal80 r.cal ++ [0, 0] ++ leBytes 8 r.disp ++ leBytes 4 (r.names.headD 0) ++ List.replicate 20 0

/-- Table 14.3: a black-box record. -/
def State.recordLine (s : State) (seq kind : Nat) (r : EventRec) : Bytes :=
  let b := leBytes 4 seq ++ leBytes 1 kind ++ [0] ++ leBytes 2 (s.rd .bootCount 0)
    ++ (if kind = 4 ∨ kind = 5 then markerBytes r else r.bytes) ++ [0, 0, 0, 0]
  b ++ leBytes 4 (crc32 b)

/-- The bytes of a slot of the black box. -/
def State.boxSlot (s : State) (k : Nat) : Bytes := s.mramRead (boxBase + 64 * k) 64

/-- R324: a slot holds a record. -/
def slotGood (b : Bytes) : Bool := field b 60 4 = crc32 (b.take 60)

/-- R325: the RecordSeq of the frozen heads. -/
def State.heads (s : State) : List Nat := (s.rdv .frozenHeads 0).filter (· ≠ 0xFFFFFFFF)

/-- R325, R339: FrozenHeads shows these heads, oldest first, at most the 8 latest. -/
def State.setHeads (s : State) (l : List Nat) : State :=
  let k := l.drop (l.length - 8)
  s.wrv .frozenHeads 0 (k ++ List.replicate (8 - k.length) 0xFFFFFFFF)

/-- R325: a slot belongs to a frozen head. -/
def State.frozenSlot (s : State) (k : Nat) : Bool :=
  let b := s.boxSlot k
  slotGood b && s.heads.any (fun h => decide (h ≤ field b 0 4 ∧ field b 0 4 ≤ h + 1023))

/-- R324, R325: the slot that the next record takes: the first from a slot on that is not frozen. -/
def State.freeSlot (s : State) : Nat → Nat → Nat
  | 0, k => k % 65536
  | n + 1, k => if s.frozenSlot (k % 65536) then s.freeSlot n (k + 1) else k % 65536

/-- R323 to R325: a record is written in the next slot. -/
def State.writeRecord (s : State) (kind : Nat) (r : EventRec) : State :=
  let seq := (s.rd .blackBoxLast 0 + 1) % 4294967296
  let k := s.freeSlot 65536 s.secure.bbNext
  let s := s.mramWrite (boxBase + 64 * k) (s.recordLine seq kind r)
  let s := { s with secure := { s.secure with bbNext := k + 1, bbAt := s.aon.mono } }
  let s := s.wr .blackBoxLast 0 seq
  if kind = 2 then s.setHeads (s.heads ++ [seq]) else s

/-- R327: the record of a clear. -/
def State.clearRecordOf (s : State) : EventRec := s.record .overflowSummary [s.rd .blackBoxLast 0]

/-- R327: one line of a black-box clear; after the last slot the Kind 5 record is written. R325: a head whose Kind 2 record
is erased is a head no more. -/
def State.clearLine (s : State) (k : Nat) : State :=
  if k < 65536 then
    let b := s.boxSlot k
    let s := if slotGood b && field b 4 1 = 2 then s.setHeads (s.heads.filter (· ≠ field b 0 4)) else s
    s.mramWrite (boxBase + 64 * k) (List.replicate 64 0)
  else ({ s with secure := { s.secure with bbNext := 0 } }.setHeads []).writeRecord 5 s.clearRecordOf

/-- R327, R384: the line of a black-box clear in progress, as a reset or the loss of D10 finds it. -/
def State.clearLineOf (s : State) (k : Nat) : Line :=
  if k < 65536 then { addr := boxBase + 64 * k, data := List.replicate 64 0 }
  else { addr := boxBase, data := s.recordLine ((s.rd .blackBoxLast 0 + 1) % 4294967296) 5 s.clearRecordOf }

/-- R314: the job's line begins. -/
def State.startLine (s : State) (o : NvmOp) : NvmOp :=
  { o with started := true, lines := if o.kind = .clear then [s.clearLineOf (o.names.headD 0)] else o.lines }

/-- R315: the window is open: no line is held. -/
def State.unhold (s : State) : State :=
  { s with secure := { s.secure with
    held := none, heldBy := false, ops := s.secure.ops.map (fun o => { o with heldAt := none }) } }

/-- R315: lines are held; each held interval counts NvmHolds once. -/
def State.hold (s : State) : State :=
  let ops := s.secure.ops.map (fun o => if o.hasLine && o.heldAt.isNone then { o with heldAt := some s.aon.mono } else o)
  let t := { s with secure := { s.secure with
    ops := ops, held := some (s.secure.held.getD s.aon.mono), heldBy := s.secure.heldBy || s.anyWarn } }
  if s.secure.held.isNone then t.count .nvmHolds 0 else t

/-- R315: a job that met the window closed at its start. -/
def NvmOp.turnedAway (o : NvmOp) : Bool := o.fresh && !o.met && !o.boots

/-- R315: the write path takes its next line, if the window is open; a job that met it closed at its start fails at once,
and the lines of the others are held. -/
def State.nvmKick : Nat → State → State
  | 0, s => s
  | n + 1, s =>
    if !s.on 10 then s
    else if s.windowOpen then
      let s := s.unhold
      match s.nextOp with
      | none => s
      | some i =>
        let o := s.secure.ops.getD i {}
        if o.started then s
        else
          let o := s.layOut o
          if o.lines.isEmpty && o.kind ≠ .clear then State.nvmKick n (s.setOps (s.secure.ops.set i o))
          else s.setOps (s.secure.ops.set i (s.startLine o))
    else
      match s.secure.ops.findIdx? NvmOp.turnedAway with
      | some i => State.nvmKick n ((s.setOps (s.secure.ops.eraseIdx i)).opFail (s.secure.ops.getD i {}) s.closedCode)
      | none =>
        match s.nextOp with
        | none => s
        | some i => if (s.secure.ops.getD i {}).started then s else s.hold

/-- A job joins the write path, which serves it when its turn comes. -/
def State.enqueueOp (s : State) (o : NvmOp) : State := State.nvmKick 300 (s.pushOp o)

/-- R317: the last line of a job is written. A bank is read back; where its CheckWord does not match, its header line is
made invalid again before the job fails with E_CHECK. -/
def State.lastLine (s : State) (i : Nat) (o : NvmOp) : State :=
  let rest := s.setOps (s.secure.ops.eraseIdx i)
  if o.bad then rest.opFail o .check
  else if !o.kind.writesBank then rest.opDone o
  else
    let t := rest.mramScan o.base (bankSize o.kind.area)
    if t.readsBack o then t.opDone o
    else t.setOps (s.secure.ops.set i { o with lines := [spoilLine o.base], bad := true, started := false })

/-- R314: the line in progress of a job is complete. -/
def State.finishLine (s : State) (i : Nat) (o : NvmOp) : State :=
  if o.kind = .clear then
    let k := o.names.headD 0
    let s := s.clearLine k
    if k < 65536 then s.setOps (s.secure.ops.set i { o with names := [k + 1], started := false, lines := [] })
    else (s.setOps (s.secure.ops.eraseIdx i)).opDone o
  else
    match o.lines with
    | [] => s.setOps (s.secure.ops.set i { o with started := false })
    | l :: t =>
      let s := s.mramWrite l.addr l.data
      if t.isEmpty && !o.more then s.lastLine i o
      else s.setOps (s.secure.ops.set i { o with lines := t, started := false })

/-- NVM_LINE_DONE (R314, R315). -/
def nvmLineDoneEff (s : State) : State :=
  match s.secure.ops.findIdx? (fun o => o.started) with
  | none => s
  | some i => State.nvmKick 300 (s.finishLine i (s.secure.ops.getD i {}))

/-- NVM_LINE_DONE (R314). -/
def execNvmLineDone (s : State) : Host.Outcome State Fault Refusal :=
  .next (if s.on 10 then nvmLineDoneEff s else s)

/-- R315: lines held for StoreHoldLimit fail their job. -/
def nvmHoldLimitEff (s : State) : State :=
  if s.windowOpen || !s.on 10 then s
  else
    match s.secure.ops.findIdx? (fun o => !o.boots && !o.started && o.heldAt.isSome) with
    | none => s
    | some i =>
      let o := s.secure.ops.getD i {}
      let s := s.untilMono (o.heldAt.getD 0 + ms (s.rd .storeHoldLimit 0))
      State.nvmKick 300 ((s.setOps (s.secure.ops.eraseIdx i)).opFail o s.windowCode)

/-- NVM_HOLD_LIMIT (R315). -/
def execNvmHoldLimit (s : State) : Host.Outcome State Fault Refusal := .next (nvmHoldLimitEff s)

/-- R322: the reset-cause record of this boot has been queued, so that records may be written. -/
def State.recordsFlow (s : State) : Bool := s.boot.phase = .bringUp || s.boot.phase = .complete

/-- BLACKBOX_RECORD_WRITE (R326): at most one record in 500 us, the window open, no clear under way. -/
def recordWriteEff (s : State) : State :=
  if !(s.on 10 && s.secure.bbScanned && s.recordsFlow) || s.secure.ops.any (fun o => o.kind = .clear) then s
  else
    match s.secure.bbQueue with
    | [] => s
    | (kind, r) :: t =>
      if s.windowOpen then
        let s := s.untilMono (s.secure.bbAt + us 500)
        State.bbSummarise 64 ({ s with secure := { s.secure with bbQueue := t } }.writeRecord kind r)
      else s.hold

/-- BLACKBOX_RECORD_WRITE (R326). -/
def execBlackboxRecordWrite (s : State) : Host.Outcome State Fault Refusal := .next (recordWriteEff s)

/-- R324: the slots of the black box that hold something else than zeros. -/
def State.boxUsed (s : State) : List Nat :=
  ((s.secure.mram.filter (fun (p : Nat × Byte) => decide (boxBase ≤ p.1 ∧ p.1 < boxBase + 4194304))).map
    (fun (p : Nat × Byte) => (p.1 - boxBase) / 64)).eraseDups

/-- R324: the records found: slot and bytes. -/
def State.boxRecords (s : State) : List (Nat × Bytes) :=
  (s.boxUsed.map (fun k => (k, s.boxSlot k))).filter (fun (p : Nat × Bytes) => slotGood p.2)

/-- R325: the Kind 2 records that no later Kind 4 record names, oldest first. -/
def unnamedHeads (l : List Bytes) : List Nat :=
  ((l.filter (fun b => field b 4 1 = 2 && !l.any (fun c =>
    field c 4 1 = 4 && field c 32 4 = field b 0 4 && decide (field b 0 4 < field c 0 4)))).map
      (fun b => field b 0 4)).mergeSort (· ≤ ·)

/-- R324, R325: the scan has read every slot. -/
def scanDoneEff (s : State) : State :=
  if !s.on 10 || s.secure.bbScanned then s
  else
    let s := s.mramScan boxBase 4194304
    let l := s.boxRecords
    let top : Option (Nat × Bytes) := l.foldl (fun a p =>
      match a with | none => some p | some q => if field q.2 0 4 < field p.2 0 4 then some p else some q) (none : Option (Nat × Bytes))
    let s := { s with secure := { s.secure with
      bbScanned := true, bbNext := (top.map (fun (p : Nat × Bytes) => p.1 + 1)).getD 0 } }
    (s.wr .blackBoxLast 0 ((top.map (fun (p : Nat × Bytes) => field p.2 0 4)).getD 0)).setHeads (unnamedHeads (l.map (fun (p : Nat × Bytes) => p.2)))

/-- BLACKBOX_SCAN_DONE (R324). -/
def execBlackboxScanDone (s : State) : Host.Outcome State Fault Refusal := .next (scanDoneEff s)

/-- R325, R327: HeadRelease: the heads are then the 8 latest that no Kind 4 record names, waiting ones included. The Kind 4
record waits in the pending queue; a full queue is a resource held. -/
def headReleaseEff (v : Val) (s : State) : State × Ans :=
  let n := v.headD 0
  if !s.heads.contains n then (s, ans .range)
  else if 256 ≤ s.secure.bbQueue.length then (s, ans .busy)
  else
    let named := n :: (s.secure.bbQueue.filter (fun p => p.1 = 4)).map (fun p => p.2.names.headD 0)
    let l := (unnamedHeads (s.boxRecords.map (fun (p : Nat × Bytes) => p.2))).filter (fun h => !named.contains h)
    ((s.setHeads l).bbPut 4 (s.record .overflowSummary [n]), ans .ok)

/-- HEAD_RELEASE (R327). -/
def execHeadRelease (e : Env) (v : Bytes) (s : State) : Host.Outcome State Fault Refusal :=
  .next (s.writeCmd e .headRelease 0 v headReleaseEff)

/-- R327: BlackBoxClear. -/
def blackBoxClearEff (env : Env) (v : Val) (s : State) : State × Ans :=
  if v = [0] then (s, ans .ok)
  else if v ≠ [1] then (s, ans .range)
  else
    (s.pushOp { kind := .clear, names := [0], who := some (waiterOf env .blackBoxClear 0) }, .later)

/-- A write whose answer may wait for the write path: the path is served once the request waits. -/
def State.writeNvm (s : State) (env : Env) (e : Ent) (b : Bytes) (eff : Val → State → State × Ans) : State :=
  State.nvmKick 300 (s.writeCmd env e 0 b eff)

/-- BLACKBOX_CLEAR (R327). -/
def execBlackboxClear (e : Env) (v : Bytes) (s : State) : Host.Outcome State Fault Refusal :=
  .next (s.writeNvm e .blackBoxClear v (blackBoxClearEff e))

end Sys2Proof.Machine
end

