-- ==== Sys2Proof/Machine/Secure.lean ====
section
/-! DEFINITION. Identity, ownership, firmware slots and attestation (R328 to R338). -/

namespace Sys2Proof.Machine

/-- R290: the part's SerialNumber. -/
def serialBytes : Bytes := valBytes (Ent.dflt .serialNumber)

/-- R331: a fresh challenge for a session; the group session keeps none. -/
def State.newChallenge (s : State) (n : Nat) : State × Bytes :=
  let b := (List.range 32).map (Config.entropy s.secure.draws)
  let s := { s with secure := { s.secure with draws := s.secure.draws + 1 } }
  (if n = 255 then s else s.setSession n { s.session n with challenge := some b }, b)

/-- R331: the body of a READ of AuthChallenge, from an offset. -/
def authChallengeBody (env : Env) (off : Nat) (s : State) : State × Ans :=
  if !s.on 10 then (s, ans .state)
  else
    let c := s.newChallenge (sessionOf env)
    let r := c.1.readReply .authChallenge 0 c.2 off
    (r.1, .now r.2)

/-- AUTH_CHALLENGE (R331). -/
def execAuthChallenge (e : Env) (s : State) : Host.Outcome State Fault Refusal :=
  .next (s.request (reqOf e 0x10 .authChallenge 0) false true (authChallengeBody e 0))

/-- R330: a write of OwnerEnrol. -/
def ownerEnrolEff (env : Env) (v : Val) (s : State) : State × Ans :=
  let key := valBytes v
  if s.claimed then (s, ans .auth)
  else if !isPoint key then (s, ans .range)
  else if s.secure.ops.any (fun o => o.kind = .owner && o.names.headD 0 = 1) then (s, ans .busy)
  else
    (s.pushOp { kind := .owner, names := [1], patch := patchAt 0 key, who := some (waiterOf env .ownerEnrol 0) }, .later)

/-- OWNER_ENROL (R330). -/
def execOwnerEnrol (e : Env) (v : Bytes) (s : State) : Host.Outcome State Fault Refusal :=
  .next (s.writeNvm e .ownerEnrol v (ownerEnrolEff e))

/-- Table 14.6, R331: what refuses a token of a session whose challenge is `c`. -/
def State.tokenFault (s : State) (b : Bytes) (c : Option Bytes) : Option Status :=
  let kind := field b 2 1
  let key := s.ownerBytes.take 64
  if b.length ≠ 180 ∨ field b 0 2 ≠ 1 ∨ kind = 0 ∨ 3 < kind ∨ field b 3 1 ≠ 0
      ∨ (kind ≠ 2 ∧ ((b.drop 52).take 64).any (· ≠ 0)) then some .range
  else if !s.claimed ∨ (b.drop 4).take 16 ≠ serialBytes ∨ c ≠ some ((b.drop 20).take 32) then some .auth
  else if !verify key (b.take 116) ((b.drop 116).take 64) then some .signature
  else if kind = 2 ∧ !isPoint ((b.drop 52).take 64) then some .range
  else none

/-- R331: what an accepted token does. -/
def State.tokenActs (s : State) (env : Env) (n : Nat) (b : Bytes) : State × Ans :=
  let op (k : Nat) (key : Bytes) : NvmOp :=
    { kind := .owner, names := [k], patch := patchAt 0 key, who := some (waiterOf env .ownerToken 0) }
  match field b 2 1 with
  | 1 => (s.setSession n { s.session n with auth := true }, ans .ok)
  | 2 => (s.pushOp (op 2 ((b.drop 52).take 64)), .later)
  | _ => (s.pushOp (op 3 (List.replicate 64 0)), .later)

/-- R331: a write of OwnerToken. Accepted or refused, it consumes the challenge. -/
def ownerTokenEff (env : Env) (v : Val) (s : State) : State × Ans :=
  let n := sessionOf env
  let b := valBytes v
  match s.tokenFault b (s.session n).challenge with
  | some st => (s.tokenRefused n st, ans st)
  | none => (s.setSession n { s.session n with challenge := none }).tokenActs env n b

/-- AUTHORISE_SESSION (R331): an OwnerToken of Kind 1. -/
def execAuthoriseSession (e : Env) (v : Bytes) (s : State) : Host.Outcome State Fault Refusal :=
  .next (s.writeNvm e .ownerToken v (ownerTokenEff e))

/-- REPLACE_OWNER_KEY (R331): an OwnerToken of Kind 2. -/
def execReplaceOwnerKey (e : Env) (v : Bytes) (s : State) : Host.Outcome State Fault Refusal :=
  .next (s.writeNvm e .ownerToken v (ownerTokenEff e))

/-- REMOVE_OWNER_KEY (R331): an OwnerToken of Kind 3. -/
def execRemoveOwnerKey (e : Env) (v : Bytes) (s : State) : Host.Outcome State Fault Refusal :=
  .next (s.writeNvm e .ownerToken v (ownerTokenEff e))

/-- R329: the owner-bank write of a value of OwnerSignsFirmware. -/
def ownerSignsOp (v : Nat) (who : Option Waiter) : NvmOp :=
  { kind := .owner, names := [4], patch := [(64, BitVec.ofNat 8 v)], who := who }

/-- R329: a write of OwnerSignsFirmware goes to the owner bank; R269: with D10 not ON the value is kept until D10 next
enters ON (DEDUCED, log 95). -/
def ownerSignsEff (env : Env) (v : Val) (s : State) : State × Ans :=
  if v ≠ [0] ∧ v ≠ [1] then (s, ans .range)
  else if !s.on 10 then plainEff .ownerSignsFirmware 0 v s
  else (s.pushOp (ownerSignsOp (v.headD 0) (some (waiterOf env .ownerSignsFirmware 0))), .later)

/-- R269, R329: a value of OwnerSignsFirmware written while D10 was not ON reaches the owner bank. -/
def State.ownerSignsReturns (s : State) : State :=
  if s.rd .ownerSignsFirmware 0 = s.ownerField 64 1 then s else s.pushOp (ownerSignsOp (s.rd .ownerSignsFirmware 0) none)

/-- R337: a write of FirmwareActivate. -/
def firmwareActivateEff (env : Env) (v : Val) (s : State) : State × Ans :=
  let k := v.headD 0
  if 1 < k then (s, ans .range)
  else if k = s.secure.running ∨ s.secure.slotSt.getD k 0 ≠ 2 then (s, ans .state)
  else if leNat (s.mramRead (k * 3145728 + 7) 1) < s.secure.fuses then (s, ans .rollback)
  else
    (s.pushOp { kind := .owner, names := [5], patch := [(66, BitVec.ofNat 8 k), (67, 0)]
                who := some (waiterOf env .firmwareActivate 0) }, .later)

/-- FIRMWARE_ACTIVATE (R337). -/
def execFirmwareActivate (e : Env) (v : Bytes) (s : State) : Host.Outcome State Fault Refusal :=
  .next (s.writeNvm e .firmwareActivate v (firmwareActivateEff e))

/-- R337: a write of FirmwareConfirm. -/
def firmwareConfirmEff (env : Env) (v : Val) (s : State) : State × Ans :=
  if v = [0] then (s, ans .ok)
  else if v ≠ [1] then (s, ans .range)
  else if !s.secure.trial then (s, ans .state)
  else
    (s.pushOp { kind := .owner, names := [6], patch := [(65, BitVec.ofNat 8 s.secure.running), (66, 0xFF)]
                who := some (waiterOf env .firmwareConfirm 0) }, .later)

/-- FIRMWARE_CONFIRM (R337). -/
def execFirmwareConfirm (e : Env) (v : Bytes) (s : State) : Host.Outcome State Fault Refusal :=
  .next (s.writeNvm e .firmwareConfirm v (firmwareConfirmEff e))

/-- R338: a write of AttestNonce. -/
def attestNonceEff (env : Env) (v : Val) (s : State) : State × Ans :=
  let n := sessionOf env
  if v.length ≠ 32 then (s, ans .range)
  else
    (s.setSession n { s.session n with attest := some { nonce := valBytes v, report := none, since := s.aon.mono } }, ans .ok)

/-- ATTEST_NONCE (R338). -/
def execAttestNonce (e : Env) (v : Bytes) (s : State) : Host.Outcome State Fault Refusal :=
  .next (s.writeCmd e .attestNonce 0 v (attestNonceEff e))

/-- Table 14.8: the hash of the payload in force of a pair, or 0. -/
def State.payloadHash (s : State) (area : Nat) : Bytes :=
  match s.payload area with | some b => sha256 b | none => List.replicate 32 0

/-- Table 14.8: bytes 0 to 191 of a report composed now. -/
def State.reportBody (s : State) (nonce : Bytes) : Bytes :=
  let h := s.mramRead (s.secure.running * 3145728) 192
  leBytes 2 1 ++ [0, 0] ++ serialBytes ++ nonce ++ cal80 s.cal
    ++ leBytes 1 ((if s.claimed then 1 else 0) + (if s.secure.trial then 2 else 0)
        + (if s.rd .calendarValid 0 = 1 then 4 else 0))
    ++ leBytes 1 (s.rd .timeState 0) ++ leBytes 8 s.now ++ leBytes 4 (s.rd .firmwareVersion 0)
    ++ leBytes 1 s.secure.running ++ leBytes 1 (field h 7 1) ++ leBytes 1 s.secure.fuses ++ [0]
    ++ (h.drop 16).take 32 ++ s.payloadHash 1 ++ s.payloadHash 2
    ++ (if s.claimed then keyId (s.ownerBytes.take 64) else List.replicate 8 0)
    ++ leBytes 4 (s.rd .bootCount 0) ++ leBytes 4 (s.rd .blackBoxLast 0)

/-- R338, Table 14.8: the signed report. -/
def State.report (s : State) (nonce : Bytes) : Bytes :=
  let b := s.reportBody nonce
  b ++ (List.range 64).map (Config.deviceSignature b)

/-- ATTEST_REPORT_READY (R338). -/
def execAttestReportReady (session : Fin 257) (s : State) : Host.Outcome State Fault Refusal :=
  .next
    (match (s.session session.val).attest with
    | none => s
    | some a =>
      if a.report.isSome || !s.on 10 then s
      else
        let s := s.mramScan 0 16777216
        s.setSession session.val { s.session session.val with attest := some { a with report := some (s.report a.nonce) } })

end Sys2Proof.Machine
end

