-- ==== Sys2Proof/Machine/Transfer.lean ====
section
/-! DEFINITION. The opening, the abort and the ends of bulk transfers (R74, R306 to R308, R320, R321, R335). -/

namespace Sys2Proof.Machine

/-- R332: session n is authorised. -/
def State.authSession (s : State) (n : Nat) : Bool :=
  if n = 256 then true else if n = 255 then false else !s.claimed || (s.session n).auth

/-- R74: a bulk ACK to the source of transfer t. -/
def State.sendAck (s : State) (t : Nat) : State :=
  let x := s.xfer t
  let s := s.setXfer t { x with gap := none }
  s.originate { cls := 3, mode := .unicast, hop := Config.originHop.toNat, dest := x.peer
                source := s.rd .deviceAddress 0, channel := t, seq := 0xFFFF
                payload := leBytes 2 x.next ++ leBytes 2 32 ++ [0, 0, 0, 0] }

/-- The sections, or the domain, that a transfer's target lives in are ON. -/
def State.targetOn (s : State) (x : Xfer) : Bool :=
  if x.kind ≤ 4 then s.rangeOn x.kind x.handle else if x.kind = 5 then true else s.alive 10

/-- Table 13.8: a TransferOpen value: transfer id, transfer and whether its reserved fields are good. -/
def openFields (v : Val) : Nat × Xfer × Bool :=
  let b := valBytes v
  (field b 0 1,
   { out := field b 1 1 = 1, coded := field b 2 1 = 1, kind := field b 3 1, handle := field b 4 2, offset := field b 8 4
     length := field b 12 4, co := { op := 2 } },
   decide (b.length = 32 ∧ field b 1 1 ≤ 1 ∧ field b 2 1 ≤ 1 ∧ field b 6 2 = 0 ∧ field b 16 16 = 0))

/-- R307 step 2: the fields of Table 13.8, and the lengths of the kinds of the secure store (R321, R327, R335). -/
def State.openRangeOk (s : State) (t : Nat) (x : Xfer) : Bool :=
  decide (t ≤ 15 ∧ 1 ≤ x.kind ∧ x.kind ≤ 8 ∧ 1 ≤ x.length ∧ x.length ≤ 37748736)
    && (if x.kind = 4 then decide (x.handle ≤ 1023) else decide (x.handle = 0))
    && !(x.coded && (x.out || 5 ≤ x.kind)) && decide (x.kind ≤ 4 ∨ x.offset = 0)
    && (x.coded || 5 ≤ x.kind || (x.kind = 4 && decide (s.rd .pageCount x.handle = 0))
      || decide (x.offset + x.length ≤ s.rangeSize x.kind x.handle))
    && (match x.kind with
      | 5 => !x.out
      | 6 => !x.out && decide (193 ≤ x.length ∧ x.length ≤ 3145728)
      | 7 => if x.out then
          (match s.payload 4 with | some p => decide (x.length = p.length) | none => true)
          else decide (x.length ≤ 11173824)
      | 8 => x.out && decide (x.length = 4194304)
      | _ => true)

/-- R299: a free coder slot for a transfer. -/
def State.freeCoder (s : State) : Option Nat := [4, 5, 6, 7].find? (fun n => !s.slotUsed n)

/-- R320: the STORE that runs has area 2 still to save. -/
def State.encodesArchive (s : State) : Bool :=
  match s.secure.stores with | r :: _ => r.areas.contains 2 | [] => false

/-- R307, and R320, R321, R335 for the kinds of the secure store. -/
def State.openCheck (s : State) (n t : Nat) (x : Xfer) (good : Bool) : Option Status :=
  let h := x.handle
  if x.kind = 6 ∧ !s.authSession n then some .auth
  else if s.rd .transferState t = 1 ∧ t ≤ 15 ∨ (x.coded ∧ s.freeCoder = none) then some .busy
  else if !(good && s.openRangeOk t x) then some .range
  else if x.kind = 4 ∧ !x.out ∧ s.rd .handleState h = 4 then some .retirePending
  else if x.kind = 4 ∧ !x.out ∧ (s.rd .handleState h ≠ 0 ∨ s.inUsedSet h ∨ s.held h) then some .busy
  else if x.kind = 4 ∧ x.out ∧ s.holdingJobs.any (fun j => (s.spec j).outs.contains h) then some .busy
  else if x.kind = 4 ∧ s.rd .pageCount h = 0 then some .noSpace
  else if !s.targetOn x ∨ (x.coded ∧ !s.on 8) ∨ (x.kind = 6 ∧ s.secure.trial)
      ∨ (x.kind = 7 ∧ x.out ∧ s.inForce 4 = none) then some .state
  else if !x.out ∧ x.kind = 1 ∧ s.encodesArchive then
    some .busy
  else if !x.out ∧ (x.kind = 6 ∨ x.kind = 7) ∧ (s.openXfers.any (fun u => !(s.xfer u).out && (s.xfer u).kind = x.kind)
      ∨ (x.kind = 7 ∧ (s.encodesArchive ∨ s.secure.ops.any (fun o => o.kind = .archive)))) then some .busy
  else none

/-- R306, R315: a transfer opens; one that writes the MRAM fails at once where the window is closed. -/
def State.openXfer (s : State) (n t : Nat) (x : Xfer) : State :=
  let x := { x with session := n, peer := (s.session n).partner, slot := (s.freeCoder).getD 0, since := s.aon.mono }
  let s := s.setXfer t x
  let s := (((s.wr .transferState t 1).wr .transferStatus t 0).wr .bytesDone t 0).wr .failedSection t 0xFF
  if x.out then s
  else if (x.kind = 6 ∨ x.kind = 7) ∧ !s.windowOpen then s.failXfer t s.closedCode
  else if x.kind = 6 then
    s.pushOp { kind := .slot, base := (1 - s.secure.running) * 3145728, more := true, names := [t] }
  else if x.kind = 7 then
    let base := s.targetBank 4
    s.pushOp { kind := .archive, base := base, more := true, names := [t], lines := [spoilLine base] }
  else s

/-- TRANSFER_OPEN (R307). -/
def transferOpenEff (env : Env) (v : Val) (s : State) : State × Ans :=
  let o := openFields v
  match s.openCheck (sessionOf env) o.1 o.2.1 o.2.2 with
  | some st => (s, ans st)
  | none => (s.openXfer (sessionOf env) o.1 o.2.1, ans .ok)

/-- TRANSFER_OPEN (R307). -/
def execTransferOpen (e : Env) (v : Bytes) (s : State) : Host.Outcome State Fault Refusal :=
  .next (s.writeNvm e .transferOpen v (transferOpenEff e))

/-- R308: a write of TransferAbort. -/
def transferAbortEff (v : Val) (s : State) : State × Ans :=
  let t := v.headD 0
  if 15 < t then (s, ans .range)
  else if s.rd .transferState t ≠ 1 then (s, ans .state)
  else (s.failXfer t .state, ans .ok)

/-- TRANSFER_ABORT (R308). -/
def execTransferAbort (e : Env) (v : Bytes) (s : State) : Host.Outcome State Fault Refusal :=
  .next (State.nvmKick 300 (s.writeCmd e .transferAbort 0 v transferAbortEff))

/-- R308: TransferTimeout without an accepted packet or ACK. -/
def transferTimeoutEff (t : Nat) (s : State) : State :=
  if s.rd .transferState t ≠ 1 || !s.on 9 then s
  else State.nvmKick 300 ((s.untilMono ((s.xfer t).since + ms (s.rd .transferTimeout 0))).failXfer t .timeout)

/-- TRANSFER_TIMEOUT (R308). -/
def execTransferTimeout (transfer : Fin 16) (s : State) : Host.Outcome State Fault Refusal :=
  .next (transferTimeoutEff transfer.val s)

/-- R308: the transfers of a session end with its close. -/
def State.closeXfers (s : State) (n : Nat) : State :=
  State.nvmKick 300 (s.forEach (s.openXfers.filter (fun t => (s.xfer t).session = n)) (fun s t => s.failXfer t .session))

/-- R308: transfers whose target or coder slot is gone fail. -/
def State.loseXfers (s : State) : State :=
  s.forEach (s.openXfers.filter (fun t => !s.targetOn (s.xfer t) || ((s.xfer t).coded && !s.alive 8)))
    (fun s t => s.failXfer t .state)

end Sys2Proof.Machine
end

