-- ==== Sys2Proof/Machine/Write.lean ====
section
/-! DEFINITION. What a WRITE of a whole value to an IMMEDIATE entry does, and the staging of a value, with the checks of a
power plan and the requests of the rails (R15, R278 to R280, R291, R351, R355, R358). -/

namespace Sys2Proof.Machine

/-- The numbers of the switched domains. -/
def allDomains : List Nat := List.range 24

/-- The domains of the sections that hold a bank of a store. -/
def State.sectionsOf (s : State) (k : Nat) : List Nat :=
  [20, 21, 22, 23].filter (fun d =>
    !decide (s.storeBase k + s.storeBanks k ≤ 96 * (d - 20) ∨ 96 * (d - 20) + 96 ≤ s.storeBase k))

/-- Table 1.3: the domains that a domain needs ON. -/
def State.needs (s : State) (d : Nat) : List Nat :=
  if d ≤ 3 then [4, 5]
  else if d = 4 then [5]
  else if d = 6 then [4, 7] ++ s.sectionsOf 2 ++ s.sectionsOf 5
  else if d = 7 then s.sectionsOf 5
  else if d = 8 then [9]
  else if d = 10 then [9]
  else if d = 12 then [5, 7] ++ s.sectionsOf 5 ++ s.sectionsOf 3
  else if d = 13 then 12 :: s.sectionsOf 0
  else if d = 14 then 13 :: s.sectionsOf 1
  else if d = 15 then [5, 14] ++ s.sectionsOf 4
  else if 16 ≤ d ∧ d ≤ 19 then [5, 15]
  else []

/-- R15: every domain that a domain needs is ON. -/
def State.needsOn (s : State) (d : Nat) : Bool := (s.needs d).all s.on

/-- R15: a domain is ON, on its way to ON, or may yet stay ON. -/
def State.wantsOn (s : State) (d : Nat) : Bool :=
  let x := s.domain d
  x.st = .on || x.st = .exiting || (x.st = .entering && x.left = .on)

/-- R351: a domain would be ON after the plan. -/
def State.onAfter (s : State) (d : Nat) : Bool := s.wantsOn d && (s.rdv .planTargets 0).getD d 0 = 0

/-- PLAN_ENTER (R351): a write of PlanEnter. -/
def planEnterEff (v : Val) (s : State) : State × Ans :=
  let t := s.rdv .planTargets 0
  if v = [0] then (s, ans .ok)
  else if v ≠ [1] then (s, ans .range)
  else if s.power.plan.isSome || s.mgmt.planDue then (s, ans .busy)
  else if t.any (fun x => 2 < x) || allDomains.any (fun d => t.getD d 0 = 1 && (s.domain d).st = .off) then (s, ans .range)
  else if allDomains.any (fun d => s.onAfter d && !(s.needs d).all s.onAfter) then (s, ans .state)
  else ({ s with mgmt := { s.mgmt with planDue := true } }, ans .ok)

/-- R291: a write of Reset; the reset follows the reply. -/
def resetEff (v : Val) (s : State) : State × Ans :=
  if v = [0] then (s, ans .ok)
  else if v ≠ [1] then (s, ans .range)
  else ({ s with mgmt := { s.mgmt with resetDue := true } }, ans .ok)

/-- Table 15.1: the rails of a domain, in the order of Table 15.8. -/
def railsOf (d : Nat) : List Nat :=
  if d ≤ 3 then [0, 2] else if d = 10 then [0, 6] else if 16 ≤ d ∧ d ≤ 19 then [0, 3] else [0, 1]

/-- R355: an OPERATION of a rail, on or off, is outstanding or waits. -/
def State.asksRail (s : State) (r : Nat) (up : Bool) : Bool :=
  (s.power.reg.toList ++ s.power.regQ).any (fun q => q.rail = r && q.cmd = 1 && decide (q.mv ≠ 0) = up)

/-- R357, R358: the next regulator request goes out when none is outstanding. -/
def State.issueReg (s : State) : State :=
  match s.power.reg, s.power.regQ with
  | none, r :: t => { s with power := { s.power with
      reg := some { r with tries := 0, since := s.aon.mono }, regQ := t
      vcoreAt := if r.cmd = 0 then s.aon.mono else s.power.vcoreAt } }
  | _, _ => s

/-- R355: a regulator request is made; a rail that the T9 does not control is taken as set. -/
def State.askReg (s : State) (r : RegReq) : State :=
  if (s.rdv .railAddress 0).getD r.rail 0 = 0 then
    (if r.cmd = 1 then s.setRail r.rail { s.rail r.rail with off := false }
     else { s with power := { s.power with vcoreMv := r.mv, vcoreAt := s.aon.mono } })
  else { s with power := { s.power with regQ := s.power.regQ ++ [r] } }.issueReg

/-- R358: rails of RailSleepMask are turned off once every domain they feed is OFF and none of them waits to come up; VSRAM
stays while a section is in RET. -/
def State.railsDown (s : State) : State :=
  s.forEach [0, 1, 2] (fun s r =>
    if (s.rd .railSleepMask 0).testBit r && !(s.rail r).off && (s.rdv .railAddress 0).getD r 0 ≠ 0
        && (allDomains.filter (fun d => (railsOf d).contains r)).all (fun d =>
          (s.domain d).st = .off && (s.domain d).next.isNone)
        && !s.asksRail r false then
      s.askReg { rail := r, cmd := 1, mv := 0 }
    else s)

/-- R358: a write of RailSleepMask; rails that it names are turned off if what they feed is OFF already. -/
def railSleepEff (v : Val) (s : State) : State × Ans :=
  let r := plainEff .railSleepMask 0 v s
  (r.1.railsDown, r.2)

/-- R279: what a WRITE of a whole value to an IMMEDIATE entry does: the effect of its own row, or a plain write. -/
def writeEff (env : Env) (e : Ent) (i : Nat) : Val → State → State × Ans :=
  match e with
  | .portEnable => portEnableEff i
  | .retrain => retrainEff i
  | .sleepRequest => sleepRequestEff env i
  | .unassign => unassignEff
  | .launchPush => launchPushEff i
  | .launchFlush => launchFlushEff i
  | .ctxCommand => ctxCommandEff i
  | .owner => ctxFieldEff i .owner
  | .window => ctxFieldEff i .window
  | .launchMode => ctxFieldEff i .launchMode
  | .layerSync => ctxFieldEff i .layerSync
  | .format => ctxFieldEff i .format
  | .width => ctxFieldEff i .width
  | .height => ctxFieldEff i .height
  | .unitBytes => ctxFieldEff i .unitBytes
  | .bufferSet => ctxFieldEff i .bufferSet
  | .handleCommand => handleCommandEff i
  | .coefStorePlace => storePlacementEff 0
  | .prevOutStorePlace => storePlacementEff 1
  | .contextStorePlace => storePlacementEff 2
  | .tableStorePlace => storePlacementEff 3
  | .stagingPlace => storePlacementEff 4
  | .frameStorePlace => storePlacementEff 5
  | .captureAt => captureArmEff
  | .captureAbort => captureAbortEff
  | .primaryCount => primaryCountEff
  | .modulatorRun => modulatorRunEff
  | .reset => resetEff
  | .transferOpen => transferOpenEff env
  | .transferAbort => transferAbortEff
  | .jobCommand => jobCommandEff i
  | .savedState => savedStateEff i
  | .headRelease => headReleaseEff
  | .blackBoxClear => blackBoxClearEff env
  | .ownerEnrol => ownerEnrolEff env
  | .ownerToken => ownerTokenEff env
  | .ownerSignsFirmware => ownerSignsEff env
  | .firmwareActivate => firmwareActivateEff env
  | .firmwareConfirm => firmwareConfirmEff env
  | .attestNonce => attestNonceEff env
  | .planEnter => planEnterEff
  | .railSleepMask => railSleepEff
  | .deskewTrim => laneTrimEff .deskewTrim i
  | .swingTrim => laneTrimEff .swingTrim i
  | .impedanceTrim => laneTrimEff .impedanceTrim i
  | e => plainEff e i

/-- The refusal in an answer. -/
def Ans.refusal : Ans → Option Status
  | .now r => if r.status = .ok then none else some r.status
  | .later => none

/-- R279, R280: a value is staged, with the entry's own rules checked; those of an IMMEDIATE entry are the refusals that
its write would meet now. -/
def State.stageWrite (s : State) (env : Env) (e : Ent) (i : Nat) (v : Val) : State × Status :=
  let refused := if e.info.cls = .immediate then (writeEff env e i v s).2.refusal else none
  match refused with
  | some st => ((s.refused env e st).1, st)
  | none =>
    let r := s.stage (sessionOf env) e i v
    if r.2 = .ok then r else ((r.1.refused env e r.2).1, r.2)

/-- An envelope of a session, for what the device does for it beside its requests. -/
def State.sessionEnv (s : State) (n : Nat) : Env :=
  let x := s.session n
  ⟨if n = 256 then .spi else .izsor 0, BitVec.ofNat 16 x.partner, .unicast, Fin.ofNat 256 n, BitVec.ofNat 16 x.lastSeq⟩

/-- R278, R280: a value for the entry at an index and subindex is staged for a session, as its WRITE_STAGED would. -/
def State.stageAt (s : State) (n index sub : Nat) (b : Bytes) : State × Status :=
  match Ent.find index sub with
  | none => (s, if Ent.indexUsed index then (if sub = 0 then .access else .noSub) else .noObject)
  | some (e, i) =>
    if e.guarded && !s.authSession n then (s, .auth)
    else if e.info.acc = .ro ∨ e.info.acc = .const then (s, .access)
    else if e.info.ty.scalar ∧ b.length ≠ e.info.elt then (s, .type)
    else if s.stagingHeld n then ((s.refused (s.sessionEnv n) e .busy).1, .busy)
    else if e.info.acc = .wo && !s.served e i then ((s.refused (s.sessionEnv n) e .state).1, .state)
    else s.stageWrite (s.sessionEnv n) e i (e.info.decode b)

end Sys2Proof.Machine
end

