-- ==== Sys2Proof/Machine/Bulk.lean ====
section
/-! DEFINITION. The data of bulk transfers, Mehild table files, the blocks of the codec's slots and the table archive (R74, R299, R306,
R309, R310, R320, R321, R335). -/

namespace Sys2Proof.Machine

/-- Table 13.10: a directory entry's fields. -/
structure Sect where
  kind : Nat
  coding : Nat
  index : Nat
  sub : Nat
  store : Nat
  resv : Nat
  start : Nat
  len : Nat
  off : Nat
  check : Nat
  deriving DecidableEq, Repr

/-- Table 13.10: section i of a file. -/
def sectOf (file : Bytes) (i : Nat) : Sect :=
  let b := dirEntry file i
  { kind := field b 0 1, coding := field b 1 1, index := field b 2 2, sub := field b 4 1, store := field b 5 1
    resv := field b 6 2, start := field b 8 4, len := field b 12 4, off := field b 16 4, check := field b 20 4 }

/-- Table 13.9: the sections of a file. -/
def sectCount (file : Bytes) : Nat := field file 4 2

/-- Table 13.9: the header's fields. -/
def State.fileHeadOk (s : State) (x : Xfer) : Bool :=
  let b := x.file
  decide (field b 0 2 = 0x544D ∧ field b 2 1 = 1 ∧ field b 3 1 = 0 ∧ 1 ≤ sectCount b ∧ sectCount b ≤ 64
      ∧ field b 6 2 = s.rd .tileWidth 0 ∧ field b 8 2 = s.rd .tileHeight 0 ∧ field b 10 1 = s.rd .primaryCount 0
      ∧ field b 11 1 = 0 ∧ field b 12 4 = x.length ∧ field b 16 12 = 0)

/-- Table 13.10, R309, R310: one section's fields, after the one before it ended. -/
def State.sectOk (s : State) (x : Xfer) (d : Sect) (prev : Nat) : Bool :=
  decide (1 ≤ d.kind ∧ d.kind ≤ 3 ∧ d.coding ≤ 1 ∧ d.resv = 0 ∧ prev ≤ d.start ∧ d.start + d.len ≤ x.length
      ∧ (d.coding = 1 → d.check = 0))
    && (d.kind ≠ 3 || sectCount x.file = 1)
    && (if d.kind = 2 then
          decide (1 ≤ d.store ∧ d.store ≤ 3)
            && (d.coding = 1 || decide (d.off + d.len ≤ s.rangeSize d.store 0))
        else if d.kind = 3 ∧ d.coding = 0 then decide (193 ≤ d.len ∧ d.len ≤ 3145728) else true)

/-- R309, R310: the directory's entries in order. -/
def State.dirOk (s : State) (x : Xfer) : Bool :=
  let n := sectCount x.file
  (List.range n).all (fun i =>
    let prev := if i = 0 then 32 + 24 * n else (sectOf x.file (i - 1)).start + (sectOf x.file (i - 1)).len
    s.sectOk x (sectOf x.file i) prev)

/-- R310: what the header and the directory make of the file: a fault, or nothing. -/
def State.fileFault (s : State) (t : Nat) (x : Xfer) : Option Status :=
  let b := x.file
  let d := sectOf b 0
  if !(s.fileHeadOk x && s.dirOk x) then some .range
  else if field b 28 4 ≠ crc32 (b.take 28 ++ (b.drop 32).take (24 * sectCount b)) then some .check
  else if d.kind = 3 ∧ !s.authSession x.session then some .auth
  else if d.kind = 3 ∧ (s.secure.trial ∨ !s.alive 10) then some .state
  else if d.kind = 3 ∧ s.openXfers.any (fun u => decide (u ≠ t) && !(s.xfer u).out && (s.xfer u).kind = 6) then some .busy
  else if s.encodesArchive && s.writesCoef t then
    some .busy
  else none

/-- R310: a transfer fails in a section of its file. -/
def State.failSection (s : State) (t : Nat) (st : Status) : State :=
  (s.wr .failedSection t (s.xfer t).sect).failXfer t st

/-- R335: a slot write begins: its content is no longer an image, and a trial of it is dropped. -/
def State.beginSlot (s : State) (slot : Nat) : State :=
  let s := { s with secure := { s.secure with
    slotSt := s.secure.slotSt.set slot 1, delivered := s.secure.delivered.filter (· ≠ slot) } }
  if s.ownerField 66 1 = slot then s.pushOp { kind := .owner, names := [7], met := true, patch := [(66, 0xFF)] } else s

/-- R313, R321, R335: what has arrived for a transfer's slot or half is cut into lines; `last` when no more will come. -/
def State.feedLines (s : State) (t base : Nat) (image : Bytes) (last : Bool) : State :=
  let x := s.xfer t
  let rest := image.drop x.taken
  let n := if last then rest.length else rest.length / 64 * 64
  let l := wholeLines (base + x.taken) (rest.take n)
  let s := s.setXfer t { x with taken := x.taken + n }
  s.setOps (s.secure.ops.map (fun o =>
    if o.names = [t] && (o.kind = .slot || o.kind = .archive) then
      { o with lines := o.lines ++ l, more := o.more && !(last && o.kind = .slot) }
    else o))

/-- The whole of a section's bytes. -/
def sectBytes (file : Bytes) (d : Sect) : Bytes := (file.drop d.start).take d.len

/-- A section's value: the bytes of a raw one whose check is good, or the decoded bytes of a stream. -/
def sectValue (file : Bytes) (d : Sect) : Except Status Bytes :=
  let b := sectBytes file d
  if d.coding = 0 then (if crc32 b = d.check then .ok b else .error .check)
  else
    let r := ({ op := 2 } : Coder).decode b 37748736 37748736
    match r.err with
    | some st => .error st
    | none => if r.co.phase = 6 then .ok r.out.reverse else .error .length

/-- R309: bytes of a store section as they arrive: a raw one is written, a stream is decoded and written. -/
def State.storePart (s : State) (t : Nat) (d : Sect) (b : Bytes) : State × Option Status :=
  let x := s.xfer t
  if !s.rangeOn d.store 0 then (s, some .state)
  else if d.coding = 0 then
    ((s.setXfer t { x with taken := x.taken + b.length }).rangeWrite d.store 0 (d.off + (x.taken - d.start)) b, none)
  else
    let lim := s.rangeSize d.store 0 - d.off
    let r := x.co.decode b (lim - x.co.outDone) lim
    let s := (s.setXfer t { x with taken := x.taken + b.length, co := r.co }).rangeWrite d.store 0
      (d.off + x.co.outDone) r.out.reverse
    (s, r.err)

/-- R309: what a section's end adds: its check or trailer. -/
def sectEnd (x : Xfer) (d : Sect) : Option Status :=
  if d.kind = 2 then
    (if d.coding = 1 then (if x.co.phase = 6 then none else some .length)
     else if crc32 (sectBytes x.file d) = d.check then none else some .check)
  else match sectValue x.file d with | .ok _ => none | .error st => some st

/-- R310: every dictionary value of the file is staged at once, or none; the section that is refused. -/
def State.stageFile (s : State) (n : Nat) (file : Bytes) : State × Option (Nat × Status) :=
  let r := (List.range (sectCount file)).foldl (fun (a : State × Option (Nat × Status)) i =>
    match a.2 with
    | some _ => a
    | none =>
      let d := sectOf file i
      if d.kind ≠ 1 then a
      else match sectValue file d with
        | .error st => (a.1, some (i, st))
        | .ok b =>
          let p := a.1.stageAt n d.index d.sub b
          if p.2 = .ok then (p.1, none) else (p.1, some (i, p.2))) (s, none)
  match r.2 with
  | none => r
  | some (i, st) =>
    let d := sectOf file i
    (match Ent.find d.index d.sub with | some (e, _) => (s.refused (s.sessionEnv n) e st).1 | none => s, r.2)

/-- R310: the whole file has checked good. -/
def State.fileGood (s : State) (t : Nat) : State :=
  let x := s.xfer t
  let d := sectOf x.file 0
  if d.kind = 3 then
    match sectValue x.file d with
    | .error st => s.failSection t st
    | .ok b =>
      if b.length < 193 ∨ 3145728 < b.length then s.failSection t .range
      else
        let slot := 1 - s.secure.running
        let s := (s.setXfer t { x with taken := 0 }).beginSlot slot
        let s := s.pushOp { kind := .slot, base := slot * 3145728, more := true, names := [t] }
        s.feedLines t (slot * 3145728) b true
  else
    match s.stageFile x.session x.file with
    | (s, none) => s.doneXfer t
    | (s, some (i, st)) => (s.wr .failedSection t i).failXfer t st

/-- R309, R310: what has arrived of a Mehild file is handled, section by section. -/
def State.fileRun : Nat → Nat → State → State
  | 0, _, s => s
  | k + 1, t, s =>
    let x := s.xfer t
    let n := sectCount x.file
    if s.rd .transferState t ≠ 1 then s
    else if x.taken = 0 then
      if x.length < 32 then s.failXfer t .range
      else if x.file.length < 32 then s
      else if !s.fileHeadOk x then s.failXfer t .range
      else if x.length < 32 + 24 * n then s.failXfer t .range
      else if x.file.length < 32 + 24 * n then s
      else match s.fileFault t x with
        | some st => s.failXfer t st
        | none => State.fileRun k t (s.setXfer t { x with taken := 32 + 24 * n, sect := 0, co := { op := 2 } })
    else if n ≤ x.sect then (if x.length ≤ x.file.length then s.fileGood t else s)
    else
      let d := sectOf x.file x.sect
      let from_ := max x.taken d.start
      let stop := min (d.start + d.len) x.file.length
      if stop ≤ from_ ∧ x.file.length < d.start + d.len then s
      else
        let s := s.setXfer t { x with taken := from_ }
        let b := (x.file.drop from_).take (stop - from_)
        let r := if d.kind = 2 then s.storePart t d b else (s.setXfer t { x with taken := stop }, none)
        match r.2 with
        | some st => (r.1.countDecode st).failSection t st
        | none =>
          let s := r.1
          if stop < d.start + d.len then s
          else match sectEnd (s.xfer t) d with
            | some st => (if d.coding = 1 then s.countDecode st else s).failSection t st
            | none => State.fileRun k t (s.setXfer t { s.xfer t with sect := x.sect + 1, co := { op := 2 } })

/-- R74, R306: a packet's data is accepted into its target. -/
def State.takeData (s : State) (t o : Nat) (b : Bytes) : State :=
  let x := s.xfer t
  let done := s.rd .bytesDone t + b.length
  let s := (s.setXfer t { x with next := (x.next + 1) % 65536, since := s.aon.mono }).wr .bytesDone t done
  let x := s.xfer t
  let last := decide (x.length ≤ done)
  let s := if last || x.next % 16 = 0 then s.sendAck t else s
  let x := s.xfer t
  if x.coded then s.setXfer t { x with inq := x.inq ++ [b] }
  else if x.kind ≤ 4 then
    let s := s.rangeWrite x.kind x.handle (x.offset + o) b
    if last then s.doneXfer t else s
  else
    let first := x.file.isEmpty
    let file := x.file ++ b
    let s := s.setXfer t { x with file := file }
    if x.kind = 5 then State.fileRun 200 t s
    else if x.kind = 6 then
      let slot := 1 - s.secure.running
      (if first then s.beginSlot slot else s).feedLines t (slot * 3145728) file last
    else
      match s.secure.ops.find? (fun o => o.kind = .archive && o.names = [t]) with
      | some o => s.feedLines t (o.base + 64) file last
      | none => s

/-- R74: a packet that is not accepted: one ACK follows 100 us after the first of several, unless another is sent before
(DEDUCED, log 172). -/
def State.discardPacket (s : State) (t : Nat) : State :=
  let x := s.xfer t
  if x.gap.isSome then s else s.setXfer t { x with gap := some s.aon.mono }

/-- BULK_PACKET_RECEIVED (R74, R306). A packet with an ACK's Sequence is data where that is the one expected (DESIGN CHOICE,
log 189). -/
def bulkPacketEff (source chan seq : Nat) (p : Bytes) (s : State) : State :=
  let x := s.xfer chan
  let o := field p 0 4
  let b := p.drop 4
  if !s.on 9 || decide (15 < chan) || decide (s.rd .transferState chan ≠ 1) || x.out || decide (x.peer ≠ source)
      || decide (seq = 0xFFFF ∧ x.next ≠ 0xFFFF) then s
  else if p.length < 4 || decide (seq ≠ x.next) || decide (x.length < o + b.length)
      || ((x.coded || 5 ≤ x.kind) && decide (o ≠ s.rd .bytesDone chan)) then s.discardPacket chan
  else if !s.targetOn x || (x.coded && !s.alive 8) then State.nvmKick 300 (s.failXfer chan .state)
  else State.nvmKick 300 (s.takeData chan o b)

/-- BULK_PACKET_RECEIVED (R74). -/
def execBulkPacketReceived (source channel seq : BitVec 16) (payload : Bytes) (s : State) :
    Host.Outcome State Fault Refusal :=
  .next (if s.on 9 then (bulkPacketEff source.toNat channel.toNat seq.toNat payload s).stalled else s)

/-- R74: 100 us after a discarded packet. -/
def bulkAckTimerEff (t : Nat) (s : State) : State :=
  match (s.xfer t).gap with
  | none => s
  | some g => if s.rd .transferState t ≠ 1 || !s.on 9 then s else (s.untilMono (g + us 100)).sendAck t

/-- BULK_ACK_TIMER (R74). -/
def execBulkAckTimer (transfer : Fin 16) (s : State) : Host.Outcome State Fault Refusal :=
  .next (bulkAckTimerEff transfer.val s)

/-- R306: bytes of an outgoing transfer's target. -/
def State.outBytes (s : State) (x : Xfer) (o n : Nat) : Bytes :=
  if x.kind = 7 then (((s.payload 4).getD []).drop o).take n
  else s.rangeRead (if x.kind = 8 then 5 else x.kind) x.handle (x.offset + o) n

/-- R314: the MRAM is read for bytes of an outgoing transfer. -/
def State.outScan (s : State) (x : Xfer) (o n : Nat) : State :=
  if x.kind = 7 then
    match s.inForce 4 with | some b => s.mramScan (bankBase 4 b + 64 + o) n | none => s
  else if x.kind = 8 then s.mramScan (boxBase + x.offset + o) n else s

/-- BULK_SEND (R306): within the credit, the next packet. -/
def bulkSendEff (t : Nat) (s : State) : State :=
  let x := s.xfer t
  let o := 4092 * x.next
  if s.rd .transferState t ≠ 1 || !x.out || !s.on 9 then s
  else if !s.targetOn x then s.failXfer t .state
  else if x.acked + x.credit ≤ x.next || x.length ≤ o then s
  else
    let n := min 4092 (x.length - o)
    let b := s.outBytes x o n
    let s := s.outScan x o n
    let s := s.setXfer t { x with next := x.next + 1 }
    s.originate { cls := 3, mode := .unicast, hop := Config.originHop.toNat, dest := x.peer
                  source := s.rd .deviceAddress 0, channel := t, seq := x.next, payload := leBytes 4 o ++ b }

/-- BULK_SEND (R306). -/
def execBulkSend (transfer : Fin 16) (s : State) : Host.Outcome State Fault Refusal :=
  .next (if s.on 9 then (bulkSendEff transfer.val s).stalled else s)

/-- BULK_ACK_RECEIVED (R74): the credit, and the resend point where the ACK shows a gap: it repeats the last one, or it
comes neither after 16 packets nor at the end. -/
def bulkAckEff (source t : Nat) (p : Bytes) (s : State) : State :=
  let x := s.xfer t
  let n := field p 0 2
  let total := ceilDiv x.length 4092
  if s.rd .transferState t ≠ 1 || !x.out || !s.on 9 || decide (x.peer ≠ source) || decide (p.length ≠ 8)
      || decide (x.next < n) || decide (n < x.acked) then s
  else
    let gap := n = x.acked || (n % 16 ≠ 0 && n ≠ total)
    let s := s.setXfer t { x with acked := n, credit := field p 2 2, next := if gap then n else x.next, since := s.aon.mono }
    let s := s.wr .bytesDone t (min x.length (4092 * n))
    if total ≤ n then s.doneXfer t else s

/-- BULK_ACK_RECEIVED (R74). -/
def execBulkAckReceived (source : BitVec 16) (transfer : Fin 16) (payload : Bytes) (s : State) :
    Host.Outcome State Fault Refusal :=
  .next (bulkAckEff source.toNat transfer.val payload s)

/-- R299: one packet of a coded transfer is decoded into its target. -/
def State.xferBlock (s : State) (t : Nat) : State :=
  let x := s.xfer t
  match x.inq with
  | [] => s
  | b :: rest =>
    if !s.targetOn x then s.failXfer t .state
    else
      let lim := s.rangeSize x.kind x.handle - x.offset
      let d := x.co.decode b (lim - x.co.outDone) lim
      let s := (s.setXfer t { x with co := d.co, inq := rest }).rangeWrite x.kind x.handle (x.offset + x.co.outDone)
        d.out.reverse
      let all := decide (x.length ≤ s.rd .bytesDone t) && rest.isEmpty
      match d.err with
      | some st => (s.countDecode st).failXfer t st
      | none =>
        if all then (if d.co.phase = 6 then s.doneXfer t else (s.countDecode .length).failXfer t .length) else s

/-- R298: the encoder on a block of source: its record, the stream made and the choices drawn. -/
def encodeRun : Nat → Coder → Bytes → Bytes → Nat → Coder × Bytes × Nat
  | 0, c, _, out, k => (c, out, k)
  | n + 1, c, src, out, k =>
    match c.word (Config.shaleChoice k) src with
    | none => (c, out, k)
    | some (w, c', m) => encodeRun n c'.trim (src.drop m) (out ++ w) (k + 1)

/-- R321: an archive decode ends; one that T9 began by itself and that a domain's leaving ON cut off is still to be done. -/
def State.archiveEnds (s : State) (a : Archive) (st : Status) : State :=
  let s := { s with secure := { s.secure with archive := none } }
  let s := if st = .state ∧ a.auto then { s with power := { s.power with coefGone := true } } else s
  if st = .ok ∧ a.auto then (s.wr .coefValid 0 1).raise .archiveLoaded [s.areaSeq 4]
  else
    match a.who with
    | none => s
    | some w => s.completeFor w { status := st, body := if st = .ok then [0, 0, 0, 0] else [] }

/-- The state with the archive's progress. -/
def State.setArchive (s : State) (a : Archive) : State := { s with secure := { s.secure with archive := some a } }

/-- R321: one block of the archive's decode into the coefficient store. -/
def State.loadBlock (s : State) (a : Archive) : State :=
  let s := if a.co.inDone = 0 then s.mramScan (bankBase 4 false) (2 * bankSize 4) else s
  let p := s.bankPayload a.base
  if !s.storeOn 0 || !s.alive 10 then s.archiveEnds a .state
  else
    let b := (p.drop a.co.inDone).take 4096
    let d := a.co.decode b (16777216 - a.co.outDone) 16777216
    let s := (s.setArchive { a with co := d.co }).rangeWrite 1 0 a.co.outDone d.out.reverse
    match d.err with
    | some st => (s.countDecode st).archiveEnds a (if st = .noSpace then .check else st)
    | none =>
      if 1 ≤ d.co.phase ∧ d.co.decoded ≠ 16777216 then s.archiveEnds a .check
      else if p.length ≤ d.co.inDone then
        (if d.co.phase = 6 then s.archiveEnds a .ok else (s.countDecode .length).archiveEnds a .length)
      else s

/-- R320: one block of the archive's compression. -/
def State.storeBlock (s : State) (a : Archive) : State :=
  if !s.storeOn 0 then
    State.storeRun 300 ({ s with secure := { s.secure with archive := none } }.storeFail .state)
  else
    let src := s.quarryBytes (s.storeAddr 0 + a.co.inDone) (min 4096 (16777216 - a.co.inDone))
    let r := encodeRun 4104 a.co src a.out s.draws
    let s := { s with draws := r.2.2 }
    if 11173824 < r.2.1.length then
      State.storeRun 300 ({ s with secure := { s.secure with archive := none } }.storeFail .noSpace)
    else if r.1.phase = 6 then
      State.nvmKick 300 ({ s with secure := { s.secure with archive := none } }.pushOp
        { kind := .archive, met := true, payload := r.2.1 })
    else s.setArchive { a with co := r.1, out := r.2.1 }

/-- R321: one block of the judgement of a stream that a transfer brought. -/
def State.judgeBlock (s : State) (a : Archive) (t : Nat) : State :=
  let x := s.xfer t
  let b := (x.file.drop a.co.inDone).take (if a.co.phase = 0 then 8 else 4096)
  let d := a.co.decode b (16777216 - a.co.outDone) 37748736
  let s := s.setArchive { a with co := d.co }
  match d.err with
  | some st => State.nvmKick 300 ((s.countDecode st).failXfer t st)
  | none =>
    if 1 ≤ d.co.phase ∧ d.co.decoded ≠ 16777216 then State.nvmKick 300 (s.failXfer t .range)
    else if x.file.length ≤ d.co.inDone then
      if d.co.phase ≠ 6 then State.nvmKick 300 ((s.countDecode .length).failXfer t .length)
      else
        let s := { s with secure := { s.secure with archive := none } }
        State.nvmKick 300 (s.setOps (s.secure.ops.map (fun o =>
          if o.kind = .archive && o.names = [t] then
            { o with more := false, lines := o.lines ++ [s.headLine 4 o.base x.file] }
          else o)))
    else s

/-- R321: a kind 7 stream that is whole and not yet judged. -/
def State.unjudged (s : State) : Option Nat :=
  s.openXfers.find? (fun t => let x := s.xfer t
    !x.out && x.kind = 7 && x.sect = 0 && decide (x.length ≤ x.file.length))

/-- R299, R320, R321: one block of slot 7's work for the archive. -/
def State.archiveBlock (s : State) : State :=
  match s.secure.archive with
  | some a =>
    if a.load then s.loadBlock a else match a.xfer with | some t => s.judgeBlock a t | none => s.storeBlock a
  | none =>
    match s.unjudged with
    | none => s
    | some t => (s.setXfer t { s.xfer t with sect := 1 }).setArchive { xfer := some t, since := s.aon.mono, co := { op := 2 } }

/-- R314: a block of a job whose source is the black box reads the MRAM. -/
def State.scanJob (s : State) (j : Nat) : State :=
  let p := s.spec j
  let k := (s.job j).co.inDone
  if decide (s.rd .jobState j = 1) && p.kind = 5 && s.rangeOn p.kind p.handle && p.outs.all s.bufOn then
    s.mramScan (boxBase + p.off + k) (min 4096 (p.len - k))
  else s

/-- SHALE_BLOCK (R299): one block of a slot. -/
def shaleBlockEff (n : Nat) (s : State) : State :=
  if !s.alive 8 then s
  else if n < 4 then (s.scanJob n).jobBlock n
  else match s.openXfers.find? (fun t => (s.xfer t).coded && (s.xfer t).slot = n) with
    | some t => s.xferBlock t
    | none => if n = 7 then s.archiveBlock else s

/-- SHALE_BLOCK (R299). -/
def execShaleBlock (slot : Fin 8) (s : State) : Host.Outcome State Fault Refusal :=
  .next (if s.alive 8 then (shaleBlockEff slot.val s).stalled else s)

/-- ARCHIVE_AUTOLOAD (R321). -/
def archiveAutoloadEff (s : State) : State :=
  if s.rd .archiveAutoLoad 0 = 1 && s.power.coefGone && s.on 8 && s.on 10 && s.storeOn 0 && !s.slotUsed 7
      && (s.inForce 4).isSome then
    { s with power := { s.power with coefGone := false } }.setArchive
      { load := true, auto := true, since := s.aon.mono, base := bankBase 4 ((s.inForce 4).getD false), co := { op := 2 } }
  else s

/-- ARCHIVE_AUTOLOAD (R321). -/
def execArchiveAutoload (s : State) : Host.Outcome State Fault Refusal := .next (archiveAutoloadEff s)

end Sys2Proof.Machine
end

