-- ==== Sys2Proof/Machine/Power.lean ====
section
/-! DEFINITION. The power controller: domains, rails, transitions, refusals, plans, wakes, regulators and supply dips (R15,
R341 to R362), with what each domain's leaving and entering ON brings (R18, R95, R125, R126, R157, R182, R232, R305). -/

namespace Sys2Proof.Machine

/-- R15: a domain that wants ON depends on the domain. -/
def State.neededBy (s : State) (d : Nat) : Bool := allDomains.any (fun e => s.wantsOn e && (s.needs e).contains d)

/-- Table 15.5: the layer of a domain. -/
def layerOf (d : Nat) : Nat :=
  if d ≤ 3 ∨ d = 8 ∨ d = 10 ∨ (16 ≤ d ∧ d ≤ 19) then 1
  else if d = 6 ∨ d = 15 then 2
  else if d = 14 then 3
  else if d = 13 then 4
  else if d = 12 then 5
  else if d = 4 ∨ d = 7 then 6
  else 7

/-- The domains of a layer. -/
def layer (l : Nat) : List Nat := allDomains.filter (fun d => layerOf d = l)

/-- R15: a set of domains with everything it needs. -/
def State.closure (s : State) : Nat → List Nat → List Nat
  | 0, l => l
  | n + 1, l => State.closure s n ((l ++ l.flatMap s.needs).eraseDups)

/-- The domains of a mask, bit d for domain d. -/
def maskDomains (m : Nat) : List Nat := allDomains.filter (fun d => m.testBit d)

/-- R360: a dip is in progress. -/
def State.dip (s : State) : Bool := s.power.dipAt.isSome

/-- R357: a rail of the domain shows a fault that has not been acknowledged. -/
def State.railFault (s : State) (d : Nat) : Bool := (railsOf d).any (fun r => (s.rail r).fault)

/-- R355, R358: a rail of the domain is off, or a request for it is not acknowledged yet. -/
def State.railsWait (s : State) (d : Nat) : Bool :=
  (railsOf d).any (fun r => (s.rail r).off || s.asksRail r true || s.asksRail r false)

/-- R356: a setting of VCORE is outstanding or waits. -/
def State.vcoreAsked (s : State) : Bool := (s.power.reg.toList ++ s.power.regQ).any (fun q => q.rail = 0 && q.cmd = 0)

/-- R341, R356: the regulator has acknowledged VCORE at its target or above; a rail that the T9 does not control counts as
set. -/
def State.vcoreGood (s : State) : Bool :=
  !s.vcoreAsked && ((s.rdv .railAddress 0).getD 0 0 = 0 || decide (s.rd .vcoreTarget 0 ≤ s.power.vcoreMv))

/-- R341, R348, R356, R358: the rails of the domain are on, acknowledged and above warning. -/
def State.railsGood (s : State) (d : Nat) : Bool :=
  (railsOf d).all (fun r => !(s.rail r).off && !(s.rail r).warn && !(s.rail r).fault) && s.vcoreGood

/-- R342, Table 15.2: the body bias of a domain in mV, forward positive; none while it is released. VCORE is as the
regulator last acknowledged it (R356). -/
def State.bodyBias (s : State) (d : Nat) : Option Int :=
  match s.domState d with
  | .on => some (if s.power.vcoreMv < 725 then 100 else 0)
  | .ret => some (-300)
  | _ => none

/-- R342, Table 15.2: word-line underdrive and the cell-supply collapse guard are on. -/
def State.memoryAssist (s : State) (d : Nat) : Bool := s.domState d = .ret

/-- R342, R343: a bank of the Quarry is powered, at VSRAM or at the retention level of its section's mask. -/
def State.bankPowered (s : State) (b : Nat) : Bool :=
  match s.domState (20 + b / 96) with
  | .on => true
  | .ret => ((s.domain (20 + b / 96)).mask.getD (b % 96 / 8) 0).testBit (b % 96 % 8)
  | _ => false

/-- R276: who waits for a transition, if its session has not closed since. -/
def Domain.asker (x : Domain) : Option Env := if x.mute then none else x.env

/-- R276: who waits for a request of a domain, if its session has not closed since. -/
def DomReq.asker (r : DomReq) : Option Env := if r.mute then none else r.env

/-- R276: requests in progress of sessions that close: they complete, and their replies are not sent. -/
def State.muteWaits (s : State) (p : Env → Bool) : State :=
  let w := fun (x : Waiter) => { x with mute := x.mute || p x.env }
  { s with
    secure := { s.secure with
      ops := s.secure.ops.map (fun o => { o with who := o.who.map w })
      stores := s.secure.stores.map (fun r => { r with mute := r.mute || p r.env })
      archive := s.secure.archive.map (fun a => { a with who := a.who.map w }) }
    power := { s.power with doms := s.power.doms.map (fun (x : Nat × Domain) => (x.1, { x.2 with
      mute := x.2.mute || x.2.env.any p, next := x.2.next.map (fun r => { r with mute := r.mute || r.env.any p }) })) } }

/-- R287: a DOMAIN request is answered with a status and RefusingBlock. -/
def State.answerDom (s : State) (env : Option Env) (target : DomState) (st : Status) (block : Nat) : State :=
  match env with
  | none => s
  | some e => s.complete { env := e, opcode := if target = .on then 0x30 else 0x31, index := 0, sub := 0, offset := 0 }
      { status := st, body := leBytes 1 block }

/-- The code of a target in events: 0 ON, 1 RET, 2 OFF. -/
def targetCode (t : DomState) : Nat := match t with | .on => 0 | .ret => 1 | _ => 2

/-- R351, Table 15.6: the plan ends with an outcome. -/
def State.planEnds (s : State) (done dom : Nat) (st : Status) (block : Nat) : State :=
  let s := { s with power := { s.power with plan := none, planGap := false } }
  (s.wrv .planOutcome 0 [done, dom, st.value % 256, st.value / 256, block, 0, 0, 0]).raise .planDone [done, dom, st.value, block]

/-- R351: a refusal or an abort stops the plan that waited for the domain. -/
def State.planStops (s : State) (waits : Bool) (dom : Nat) (st : Status) (block : Nat) : State :=
  match s.power.plan with
  | some l => if waits then s.planEnds (l - 1) dom st block else s
  | none => s

/-- R283: a domain changes its state; DomainState counts the change. -/
def State.putDomain (s : State) (d : Nat) (x : Domain) : State :=
  let s := s.setDomain d x
  s.wrv .domainState 0 (allDomains.map (fun d => domCode (s.domain d).st))

/-- R346, R349: a block refuses a domain's entry. -/
def State.refuseEntry (s : State) (d block : Nat) : State :=
  let x := s.domain d
  let s := s.putDomain d { x with st := .on, window := false, env := none, plan := false }
  let s := ((s.count .refusals d).wr .lastRefuser d block).raise .domainRefused [d, targetCode x.target, block]
  (s.answerDom x.asker x.target .state block).planStops x.plan d .state block

/-- R358: the rails of a domain that are off, or are being turned off, are turned on. -/
def State.railsUp (s : State) (d : Nat) : State :=
  s.forEach ((railsOf d).filter (fun r => ((s.rail r).off || s.asksRail r false) && !s.asksRail r true)) (fun s r =>
    s.askReg { rail := r, cmd := 1, mv := 1 })

/-- R344: a domain begins its exit to ON at a slow-clock edge. -/
def State.startExit (s : State) (d : Nat) (r : DomReq) : State :=
  let x := s.domain d
  s.putDomain d { x with st := .exiting, left := x.st, target := .on, env := r.env, mute := r.mute, plan := r.plan, since := s.aon.mono }

/-- R355, R358: a domain's rails are asked for; its exit starts once they are on and acknowledged, and is pending until
then. -/
def State.exitOrWait (s : State) (d : Nat) (r : DomReq) : State :=
  let s := s.railsUp d
  if s.railsWait d then s.setDomain d { s.domain d with next := some r } else s.startExit d r

/-- R388: the request is one that the boot made, whose domains come up together. -/
def DomReq.boots (r : DomReq) : Bool := r.env.isNone && !r.plan

/-- R344: a domain begins its entry with its quiesce; the domain of an ACTIVE port asks the far end for sleep (R49). A
write of SleepRequest that waits for the same answer goes on waiting for it. A domain in RET has nothing to quiesce. -/
def State.startEntry (s : State) (d : Nat) (r : DomReq) : State :=
  let x := s.domain d
  let s := s.putDomain d { x with
    st := .entering, left := x.st, target := r.target, env := r.env, mute := r.mute, plan := r.plan
    window := decide (x.st ≠ .on), since := s.aon.mono }
  if d ≤ 3 ∧ x.st = .on ∧ s.active d then
    match (s.port d).asked with
    | none => s.askSleep d (.domain d)
    | some (.host e) => s.setPort d { s.port d with asked := some (.both e d) }
    | some _ => s
  else s

/-- R347: a request for a domain with no transition in progress starts, or is answered at once. -/
def State.startRequest (s : State) (d : Nat) (r : DomReq) : State :=
  let x := s.domain d
  if x.st = r.target then s.answerDom r.asker r.target .ok 0
  else if r.target = .on then
    if !r.boots && !s.needsOn d then s.answerDom r.asker r.target .state 0
    else if !r.boots && s.railFault d then s.answerDom r.asker r.target .supply 0
    else s.exitOrWait d r
  else if s.neededBy d then (s.answerDom r.asker r.target .state 0).planStops r.plan d .state 0
  else if r.target = .ret ∧ x.st = .off then
    (s.answerDom r.asker r.target .range 0).planStops r.plan d .range 0
  else s.startEntry d r

/-- R354, R388: a domain is left out of a bring-up. -/
def State.leaveOut (s : State) (d : Nat) : State :=
  { s with
    power := { s.power with wakeSet := s.power.wakeSet.filter (· ≠ d) }
    boot := { s.boot with refused := if s.boot.phase = .bringUp then s.boot.refused ++ [d] else s.boot.refused } }

/-- R347: a pending request of the domain is replaced: it is answered E_BUSY and counted; a plan that it belongs to stops. -/
def State.supersede (s : State) (d : Nat) : State :=
  match (s.domain d).next with
  | none => s
  | some o =>
    let s := if o.plan ∧ o.target = .on then s.leaveOut d else s
    (((s.setDomain d { s.domain d with next := none }).count .superseded d).answerDom o.asker o.target .busy 0).planStops
      (o.plan && o.target ≠ .on) d .busy 0

/-- R347: a request for a domain replaces the pending one; during a transition it becomes the pending request. -/
def State.requestDomain (s : State) (d : Nat) (r : DomReq) : State :=
  let s := s.supersede d
  if (s.domain d).st = .entering ∨ (s.domain d).st = .exiting then s.setDomain d { s.domain d with next := some r }
  else (s.startRequest d r).railsDown

/-- R347, R360: the pending request of a domain starts, unless it is an exit during a dip. -/
def State.startPending (s : State) (d : Nat) : State :=
  let x := s.domain d
  match x.next with
  | none => s
  | some r =>
    if x.st = .entering ∨ x.st = .exiting ∨ (r.target = .on ∧ s.dip) then s
    else (s.setDomain d { x with next := none }).startRequest d r

/-- R82, R95: what AON latches as D5 leaves ON, at a slow-clock edge; a latch whose accounting has not come (R96) stands, and
its ticks go on. SYNCs are no longer consecutive (R85), open exchanges are void (R88). -/
def State.takeLatch (s : State) : State :=
  let s := { s with
    time := { s.time with lockCount := 0, overCount := 0, reqs := [] }
    aon := { s.aon with alarmTaken := false, switched := s.aon.switched || s.aon.winSwitch } }
  if s.aon.latch.isSome then s
  else
    { s with aon := { s.aon with
        ticks := 0
        latch := some { disp := s.time.disp, calOfs := s.time.calOfs, state := s.rd .timeState 0, bound := s.bound
                        period := s.rd .slowPeriod 0, osc := s.time.oscWin } } }

/-- R95: D5 leaves ON: queued launches and captures go, and the outputs float (R104). -/
def State.timeLeaves (s : State) : State :=
  let s := s.forEach (List.range 8) (fun s v => (s.flushQueue v (fun _ => true)).dropStands v)
  let s := if s.aon.latch.isSome then s else s.settlePatterns s.geo s.now
  let s := { s with
    syncOut := s.syncOut.map (fun (p : Nat × SyncOut) => (p.1, { p.2 with active := false, hist := [] }))
    syncIn := s.syncIn.map (fun (p : Nat × SyncIn) => (p.1, { p.2 with caps := [] })) }
  (s.forEach ports4 State.showCaptures).takeLatch

/-- R326: the pending black-box records are coalesced as D10 leaves ON. -/
def State.boxLeaves (s : State) : State :=
  let l := s.secure.bbQueue
  let s := { s with secure := { s.secure with bbQueue := [], bbScanned := false, held := none, heldBy := false } }
  s.forEach l (fun s p =>
    let c := SMap.get s.aon.bbCoal p.2.ev.cls {}
    let c : Coal := { count := min (c.count + 1) 0xFFFFFFFF, first := if c.count = 0 then p.2.disp else c.first, last := p.2.disp }
    { s with aon := { s.aon with bbCoal := SMap.put s.aon.bbCoal p.2.ev.cls c } }.count .blackBoxCoalesced 0)

/-- R314: D10 leaves ON: a line in progress completes, and what waited for the write path is answered. -/
def State.secureLeaves (s : State) : State :=
  let gone := s.secure.ops
  let s := (s.dropOps (fun _ => true)).boxLeaves
  s.forEach gone (fun s o => s.answer o.who .state)

/-- R321: a decode or an encode of the archive loses the codec or the store it reads. -/
def State.archiveLost (s : State) : State :=
  match s.secure.archive with
  | none => s
  | some a =>
    if a.load then s.archiveEnds a .state
    else
      match a.xfer with
      | some t => { s with secure := { s.secure with archive := none } }.setXfer t { s.xfer t with sect := 0 }
      | none => State.storeRun 300 ({ s with secure := { s.secure with archive := none } }.storeFail .state)

/-- R283: what of the management core's own record outlasts D9: the counts of changes, and what READs showed. -/
def Mgmt.lost (m : Mgmt) : Mgmt :=
  let more := fun (b : Bool) => if b then 1 else 0
  { seen := m.seen
    made := { m.made with
      sessions := m.made.sessions + more (m.sessions.any (fun p => decide (p.1 < 255) && p.2.isOpen))
      staged := m.made.staged + more (!m.staged.isEmpty)
      events := m.made.events + more (!m.events.isEmpty) } }

/-- D9 leaves ON: its sessions, staging, event queue and transfers are lost; entries keep their values (R269). SWEEPs that
waited for requests now lost are acted on (R77). -/
def State.mgmtLeaves (s : State) : State :=
  let s := s.forEach s.openXfers (fun s t => s.failXfer t .session)
  let waits := s.mgmt.sweeps
  let s := s.muteWaits (fun _ => true)
  let s := { s with mgmt := s.mgmt.lost, boot := { s.boot with wdOn := false } }.wr .stagingOwner 0 0xFFFF
  s.forEach waits (fun s m => s.runSweep m.bytes m.pkt (m.sweep.getD 0))

/-- R261: every quadrant is driven dark for a cause that `f` marks. -/
def State.darkAll (s : State) (f : Quad → Quad) : State := s.forEach [0, 1, 2, 3] (fun s q => s.beginDark q (f (s.quad q)))

/-- Every quadrant's dark interval ends for the causes that `f` clears (R261). -/
def State.lightAll (s : State) (f : Quad → Quad) : State := s.forEach [0, 1, 2, 3] (fun s q => s.endDark q (f (s.quad q)))

/-- A port's domain leaves ON: its lanes are judged for the second so far (R56) and keep nothing; LINK_SLEEP is watched by AON
(R52). A port that was ACTIVE leaves the network too (R70 to R72). -/
def State.portLeaves (s : State) (n : Nat) : State :=
  let was := s.active n
  let s := (s.bipLeave n).forEach ports4 (fun s l => s.setLane n l {})
  if s.rd .portState n = 7 then s
  else if was then (s.enterDisabled n).netLeave n else s.enterDisabled n

/-- What a domain's leaving ON brings. -/
def State.leaveOn (s : State) (d : Nat) : State :=
  if d ≤ 3 then s.portLeaves d
  else if d = 5 then s.timeLeaves
  else if d = 6 then s.ingestLeaves
  else if d = 7 then
    { s with fills := s.fills.map (fun (p : Nat × Fill) => (p.1, { p.2 with map := [] })) }.abortCapture 3
  else if d = 8 then s.codecLeaves.archiveLost
  else if d = 9 then s.mgmtLeaves
  else if d = 10 then s.archiveLost.secureLeaves
  else if d = 12 then s.abortCapture 2
  else if d = 15 then s.modulatorLeaves.darkAll (fun a => { a with hot := true })
  else if 16 ≤ d ∧ d ≤ 19 then
    let q := d - 16
    let s := (s.darken q).setLocked q false
    { s with louts := s.louts.filter (fun (p : Nat × LaneOut) => decide (p.1 / 128 ≠ q)) }
  else s

/-- The watchdog is renewed or armed (R387). -/
def State.renewWatchdog (s : State) : State := { s with boot := { s.boot with wdOn := true, wdAt := s.aon.mono } }

/-- What a domain's entering ON brings, from RET or from OFF; D5 begins a new measurement window (R94). -/
def State.enterOn (s : State) (d : Nat) (fromRet : Bool) : State :=
  if d ≤ 3 then s.startPort d
  else if d = 5 then { s with aon := { s.aon with winSwitch := false } }
  else if d = 6 then s.ingestEnters
  else if d = 9 then
    let s := State.summarise 256 s
    if s.boot.phase = .firmware ∨ s.boot.phase = .bringUp ∨ s.boot.phase = .complete then s.renewWatchdog else s
  else if d = 10 then (State.bbSummarise 64 s).ownerSignsReturns
  else if d = 12 ∨ d = 13 ∨ d = 14 then s.tableReturns d
  else if d = 15 then (s.tableReturns d).lightAll (fun a => { a with hot := false })
  else if 16 ≤ d ∧ d ≤ 19 then (s.setQuad (d - 16) {}).setLocked (d - 16) true
  else if 20 ≤ d then
    let q := d - 20
    let keep := fun b => fromRet && ((s.domain d).mask.getD (b % 96 / 8) 0).testBit (b % 96 % 8)
    s.loseBanks q (fun b => decide (b / 96 = q) && !keep b)
  else s

/-- R374: phase 1 begins when D9, D10 and D11 are first all ON after a reset. -/
def State.beginCal (s : State) : State :=
  if s.thermal.calStep = 0 && s.rd .calPhase 0 = 0 && s.on 9 && s.on 10 && s.on 11 then
    { s with thermal := { s.thermal with calStep := 1, calAt := s.aon.mono } }.wr .calPhase 0 1
  else s

/-- R352: the enabled wake sources that wait, lowest code first. The level of the WAKE ball counts while it has something to
bring up and no bring-up runs. -/
def State.wakeSource (s : State) : Option Nat :=
  let en := fun k => (s.rd .wakeEnable 0).testBit k
  let ball := if s.rd .wakeBallMode 0 = 0 then
      s.aon.ball && s.power.wakeLayer.isNone && allDomains.any (fun d => !s.wantsOn d)
    else s.aon.ballEdge
  ([0, 1, 2, 3].filter (fun n => s.aon.beacons.contains n) ++ (if ball then [4] else [])
    ++ (if s.aon.alarm then [5] else []) ++ (if s.aon.spiEdge then [6] else [])).find? en

/-- R354: the domains that a wake brings up. -/
def State.wakeUp (s : State) (code : Nat) : List Nat :=
  let base := if s.rd .wakeMode 0 = 0 then s.power.lastPlan ++ allDomains.filter (fun d => (s.domain d).st = .entering && (s.domain d).plan)
    else s.closure 8 (maskDomains (s.rd .wakeTargets 0))
  if code ≤ 3 then (base ++ s.closure 8 [code]).eraseDups else base

/-- R354: pending entries are superseded; a plan that one of them belongs to ends with E_BUSY. -/
def State.dropEntries (s : State) : State :=
  s.forEach allDomains (fun s d =>
    match (s.domain d).next with
    | some r =>
      if r.target = .on then s
      else
        let t := ((s.setDomain d { s.domain d with next := none }).count .superseded d).answerDom r.asker r.target .busy 0
        t.planStops r.plan 0xFF .busy 0
    | none => s)

/-- R352: a source is taken. -/
def Aon.taken (a : Aon) (code : Nat) : Aon :=
  if code ≤ 3 then { a with beacons := a.beacons.filter (· ≠ code) }
  else if code = 4 then { a with ballEdge := false }
  else if code = 5 then { a with alarm := false, alarmTaken := true }
  else { a with spiEdge := false }

/-- R354: a wake is taken. -/
def State.takeWake (s : State) (code : Nat) : State :=
  let s := { s with aon := s.aon.taken code }.dropEntries
  let up := (s.wakeUp code ++ s.power.wakeSet).eraseDups
  let s := { s with power := { s.power with
    wakeLayer := some 7, wakeSet := up
    wakePort := if code ≤ 3 then (code :: s.power.wakePort).eraseDups else s.power.wakePort } }
  (s.wr .lastWake 0 code).raise .wake [code]

/-- R354, R360: one domain of a bring-up: its exit starts, or waits for a transition, a rail or a dip; one that R15 or a
faulty rail keeps down is left out. -/
def State.wakeDomain (s : State) (d : Nat) : State :=
  let x := s.domain d
  if x.st = .on ∨ x.st = .entering ∨ x.st = .exiting ∨ s.dip ∨ x.next.isSome then s
  else if s.needsOn d && !s.railFault d then s.exitOrWait d { target := .on, env := none, plan := true }
  else s.leaveOut d

/-- R351: where the plan takes a domain, if it has still to go there. -/
def State.planTarget (s : State) (d : Nat) : Option DomState :=
  let t := (s.rdv .planTargets 0).getD d 0
  let target : DomState := if t = 1 then .ret else .off
  if t = 0 ∨ (s.domain d).st = target then none else some target

/-- R351: the entries of a layer of the plan begin. -/
def State.planLayer (s : State) (l : Nat) : State :=
  let s := { s with power := { s.power with plan := some l, planGap := false } }
  s.forEach (layer l) (fun s d =>
    match s.planTarget d with
    | some target => if s.power.plan.isNone then s else s.requestDomain d { target := target, env := none, plan := true }
    | none => s)

/-- R351: a domain still has an entry of the plan before it. -/
def State.planWaits (s : State) (d : Nat) : Bool :=
  let x := s.domain d
  (x.st = .entering && x.plan) || (match x.next with | some r => r.plan && r.target ≠ .on | none => false)

/-- R351, R354: plans and bring-ups go on as far as they can. A layer of a plan after which another has entries to make is
followed by a gap, up to the slow-clock edge at which the next one starts; a wake falls into it (R354's example). -/
def State.advance : Nat → State → State
  | 0, s => s
  | n + 1, s =>
    match s.power.plan with
    | some l =>
      if (layer l).any s.planWaits then s
      else if 7 ≤ l then State.advance n (s.planEnds 7 0xFF .ok 0)
      else if (layer (l + 1)).any (fun d => (s.planTarget d).isSome) then
        { s with power := { s.power with planGap := true } }
      else State.advance n (s.planLayer (l + 1))
    | none =>
      match s.power.wakeLayer with
      | none => s
      | some 0 => { s with power := { s.power with wakeLayer := none, wakeSet := [] } }
      | some (l + 1) =>
        let s := s.forEach ((layer (l + 1)).filter (fun d => s.power.wakeSet.contains d)) State.wakeDomain
        if ((layer (l + 1)).filter (fun d => s.power.wakeSet.contains d)).all s.on then
          State.advance n { s with power := { s.power with wakeLayer := some l } }
        else s

/-- R349: a transition of a domain is complete. -/
def State.domainReaches (s : State) (d : Nat) : State :=
  let x := s.domain d
  let s := s.putDomain d { x with
    st := x.target, window := false, env := none, plan := false
    mask := if x.target = .ret then s.rdv .retentionMask (d - 20) else x.mask }
  let s := (s.count .transitions d).wr .lastChange d s.now
  let s := if x.plan && x.target ≠ .on then
      { s with power := { s.power with lastPlan := s.power.lastPlan ++ [d] } } else s
  s.answerDom x.asker x.target .ok 0

/-- R348, R349: what an abort of a request's transition counts, raises and answers. -/
def State.abortReq (s : State) (d : Nat) (r : DomReq) (st : Status) : State :=
  let s := (s.count .aborts d).raise .domainAborted [d, targetCode r.target, st.value]
  let s := if r.plan ∧ r.target = .on then s.leaveOut d else s
  (s.answerDom r.asker r.target st 0).planStops (r.plan && r.target ≠ .on) d st 0

/-- R348: a transition is aborted; the domain returns to the state it left. -/
def State.abortOne (s : State) (d : Nat) (st : Status) : State :=
  let x := s.domain d
  let s := s.putDomain d { x with st := x.left, window := false, env := none, plan := false }
  (s.abortReq d { target := x.target, env := x.env, mute := x.mute, plan := x.plan } st).startPending d

/-- R348, R357: an exit that waits for its rail is aborted. -/
def State.abortPending (s : State) (d : Nat) (st : Status) : State :=
  match (s.domain d).next with
  | none => s
  | some r => ((s.setDomain d { s.domain d with next := none }).abortReq d r st).railsDown

/-- R15, R348: a transition is aborted, and with an exit those of the domains that wait for it. -/
def State.abortTransition (s : State) (d : Nat) (st : Status) : State :=
  let s := s.abortOne d st
  let waits := allDomains.filter (fun e => !s.on d && (s.domain e).st = .exiting && (s.needs e).contains d)
  State.advance 40 (s.forEach waits (fun s e => s.abortOne e st)).railsDown

/-- R346, Table 15.4: the block that refuses a domain's quiesce, if one does. -/
def State.refuser (s : State) (d : Nat) : Option Nat :=
  if d ≤ 3 then (if (s.port d).nak then some 1 else none)
  else if d = 8 then
    (if (List.range 4).any (fun j => s.rd .jobState j = 1) || s.openXfers.any (fun t => (s.xfer t).coded) then some 6 else none)
  else if d = 10 then
    (if s.secure.stores ≠ [] ∨ s.secure.ops.any (fun o => o.kind ≠ .owner) then some 14 else none)
  else if 16 ≤ d ∧ d ≤ 19 then
    (if s.running && decide (128 * (d - 16) < s.geo.n) then some 12 else none)
  else none

/-- R49: a port that asked for sleep has not reached LINK_SLEEP yet. -/
def State.portBusy (s : State) (d : Nat) : Bool :=
  decide (d ≤ 3) && ((s.port d).asked.isSome || s.rd .portState d = 6) && !(s.port d).nak

/-- R354: a wake source is taken, and a plan whose layers have not all started is superseded by it. -/
def State.planSuperseded (s : State) : State :=
  match s.power.plan with
  | some l => if s.power.planGap then s.planEnds l 0xFF .busy 0 else if l < 7 then s.planEnds (l - 1) 0xFF .busy 0 else s
  | none => s

/-- R351, R353, R354: the slow-clock edge that ends the gap before a domain's layer: a wake source that waits is taken, else
the layer starts. -/
def State.nextLayer (s : State) (d : Nat) : State :=
  match s.power.plan with
  | some l =>
    if s.power.planGap && decide (layerOf d = l + 1) && (s.planTarget d).isSome then
      match s.wakeSource with
      | some c => State.advance 40 (s.planSuperseded.takeWake c)
      | none => s.planLayer (l + 1)
    else s
  | none => s

/-- DOMAIN_QUIESCE_DONE (R344, R346): refusal, or isolation and the start of the entry window; what lay in the domain can no
longer be reached by a transfer (R308). The first one of a plan's next layer starts that layer. -/
def domainQuiesceDoneEff (d : Nat) (s : State) : State :=
  let s := s.nextLayer d
  let x := s.domain d
  if x.st ≠ .entering ∨ x.window ∨ s.portBusy d then s
  else
    match s.refuser d with
    | some b =>
      let s := if d ≤ 3 then s.setPort d { s.port d with nak := false } else s
      State.advance 40 ((s.refuseEntry d b).startPending d)
    | none =>
      let s := s.leaveOn d
      (s.setDomain d { s.domain d with window := true, since := s.aon.mono }).loseXfers

/-- DOMAIN_QUIESCE_DONE (R344). -/
def execDomainQuiesceDone (domain : Fin 24) (s : State) : Host.Outcome State Fault Refusal :=
  .next (domainQuiesceDoneEff domain.val s)

/-- DOMAIN_ENTRY_WINDOW_END (R344): four slow-clock cycles after isolation. -/
def domainEntryWindowEndEff (d : Nat) (s : State) : State :=
  let x := s.domain d
  if x.st ≠ .entering ∨ !x.window then s
  else
    let s := s.untilMono (x.since + 4 * slowTick)
    State.advance 40 ((s.domainReaches d).railsDown.startPending d)

/-- DOMAIN_ENTRY_WINDOW_END (R344). -/
def execDomainEntryWindowEnd (domain : Fin 24) (s : State) : Host.Outcome State Fault Refusal :=
  .next (domainEntryWindowEndEff domain.val s)

/-- Table 15.3: the time of a domain's exit, in us; the CORE PLL locks only when it is not running. -/
def State.exitTime (s : State) (d : Nat) : Nat :=
  let ret := (s.domain d).left = .ret
  let good := if 20 ≤ d then (if ret then 60 else 400) else if ret then 20 else 150
  let core := [4, 6, 7, 8, 9, 10, 11, 12, 13, 14, 15, 20, 21, 22, 23].any s.on
  let lock := if d ≤ 3 then 100 else if d = 5 then 50 else if 16 ≤ d ∧ d ≤ 19 then 40 else if core then 0 else 50
  good + lock

/-- DOMAIN_EXIT_DONE (R15, R344, R345): the domain is ON once its rails are good, its time has passed and every domain that it
needs is ON. -/
def domainExitDoneEff (d : Nat) (s : State) : State :=
  let x := s.domain d
  if x.st ≠ .exiting || !s.railsGood d || !s.needsOn d then s
  else
    let s := s.untilMono (x.since + us (s.exitTime d))
    let s := if allDomains.any s.on then s else { s with thermal := { s.thermal with rounds := [] } }
    let s := ((s.domainReaches d).enterOn d (x.left = .ret)).beginCal
    State.advance 40 (s.startPending d)

/-- DOMAIN_EXIT_DONE (R344). -/
def execDomainExitDone (domain : Fin 24) (s : State) : Host.Outcome State Fault Refusal :=
  .next (domainExitDoneEff domain.val s)

/-- POWER_GOOD_TIMEOUT (R348): 2 ms without power-good because a rail is below its warning level; an exit starts with its
rails on (R358). -/
def powerGoodTimeoutEff (d : Nat) (s : State) : State :=
  let x := s.domain d
  if x.st = .exiting && (railsOf d).any (fun r => (s.rail r).warn) then
    (s.untilMono (x.since + ms 2)).abortTransition d .supply
  else s

/-- POWER_GOOD_TIMEOUT (R348). -/
def execPowerGoodTimeout (domain : Fin 24) (s : State) : Host.Outcome State Fault Refusal :=
  .next (powerGoodTimeoutEff domain.val s)

/-- The reply of a DOMAIN request that is refused at once. -/
def domainRefusal (st : Status) (block : Nat) : Ans := .now { status := st, body := leBytes 1 block }

/-- A DOMAIN request (Table 12.5). -/
def domReq (env : Env) (opcode : Nat) (body : Bytes) : Req :=
  { env := env, opcode := opcode, index := 0, sub := 0, offset := 0, body := body }

/-- R287, R360, R357: DOMAIN_UP. -/
def domainUpBody (env : Env) (body : Bytes) (s : State) : State × Ans :=
  let d := field body 0 1
  if body.length ≠ 1 then (s, domainRefusal .type 0)
  else if 23 < d then (s, domainRefusal .range 0)
  else if !s.needsOn d then (s, domainRefusal .state 0)
  else if s.dip || s.railFault d then (s, domainRefusal .supply 0)
  else if (s.domain d).st = .on then (s, domainRefusal .ok 0)
  else (s.requestDomain d { target := .on, env := some env, plan := false }, .later)

/-- DOMAIN_UP (R287). -/
def execDomainUp (e : Env) (body : Bytes) (s : State) : Host.Outcome State Fault Refusal :=
  .next (s.request (domReq e 0x30 body) false false (domainUpBody e body))

/-- R350: the message names D9 or the domain of the port on which it arrived. -/
def selfCut (env : Env) (d : Nat) : Bool :=
  d = 9 || (match env.via with | .izsor p => d = p.val | .spi => false)

/-- R287, R346, R350: DOMAIN_DOWN. -/
def domainDownBody (env : Env) (body : Bytes) (s : State) : State × Ans :=
  let d := field body 0 1
  let t := field body 1 1
  let target : DomState := if t = 1 then .ret else .off
  if body.length ≠ 2 then (s, domainRefusal .type 0)
  else if 23 < d ∨ t = 0 ∨ 2 < t then (s, domainRefusal .range 0)
  else if s.neededBy d then (s, domainRefusal .state 0)
  else if t = 1 ∧ (s.domain d).st = .off then (s, domainRefusal .range 0)
  else if (s.domain d).st = target then ((s.supersede d).railsDown, domainRefusal .ok 0)
  else if selfCut env d then
    (((s.count .refusals d).wr .lastRefuser d 13).raise .domainRefused [d, targetCode target, 13], domainRefusal .state 13)
  else (s.requestDomain d { target := target, env := some env, plan := false }, .later)

/-- DOMAIN_DOWN (R287). -/
def execDomainDown (e : Env) (body : Bytes) (s : State) : Host.Outcome State Fault Refusal :=
  .next (s.request (domReq e 0x31 body) false false (domainDownBody e body))

/-- PLAN_ENTER (R351). -/
def execPlanEnter (e : Env) (v : Bytes) (s : State) : Host.Outcome State Fault Refusal :=
  .next (s.writeCmd e .planEnter 0 v planEnterEff)

/-- R271: a reply of the management core waits in an egress queue. -/
def State.repliesWait (s : State) : Bool :=
  s.mgmt.spiReply.isSome || ports4.any (fun n => (s.port n).queue.any (fun p =>
    p.cls = 1 && decide (p.channel < 256) && p.source = s.rd .deviceAddress 0 && field p.payload 1 1 % 2 = 1))

/-- PLAN_EXECUTE (R351): the reply has left its port; the first layer starts. -/
def planExecuteEff (s : State) : State :=
  if s.mgmt.planDue && !s.repliesWait && s.on 9 then
    let s := { s with mgmt := { s.mgmt with planDue := false }, power := { s.power with lastPlan := [] } }
    State.advance 40 (s.planLayer ((([1, 2, 3, 4, 5, 6].find? (fun l => (layer l).any (fun d => (s.planTarget d).isSome)))).getD 7))
  else s

/-- PLAN_EXECUTE (R351). -/
def execPlanExecute (s : State) : Host.Outcome State Fault Refusal := .next (planExecuteEff s)

/-- R353: an entry window of some domain is running. -/
def State.inWindow (s : State) : Bool := allDomains.any (fun d => (s.domain d).window)

/-- WAKE_BALL_EDGE (R352, R353). -/
def wakeBallEdgeEff (rising : Bool) (s : State) : State :=
  { s with aon := { s.aon with
      ball := rising
      ballEdge := s.aon.ballEdge || (rising && s.rd .wakeBallMode 0 = 1 && !s.inWindow) } }

/-- WAKE_BALL_EDGE (R352). -/
def execWakeBallEdge (rising : Bool) (s : State) : Host.Outcome State Fault Refusal := .next (wakeBallEdgeEff rising s)

/-- SPI_CS_WAKE (R352, R353). -/
def spiCsWakeEff (s : State) : State :=
  if s.on 9 || s.inWindow then s else { s with aon := { s.aon with spiEdge := true } }

/-- SPI_CS_WAKE (R352). -/
def execSpiCsWake (s : State) : Host.Outcome State Fault Refusal := .next (spiCsWakeEff s)

/-- ALARM_EXPIRY (R352): the slow ticks since D5 last left ON reach AlarmTicks. -/
def alarmExpiryEff (s : State) : State :=
  let n := s.rd .alarmTicks 0
  if s.aon.latch.isNone || decide (n = 0) || s.aon.alarm || s.aon.alarmTaken || s.alive 5 then s
  else
    let s := s.slowTicks (n - s.aon.ticks)
    { s with aon := { s.aon with alarm := true } }

/-- ALARM_EXPIRY (R352). -/
def execAlarmExpiry (s : State) : Host.Outcome State Fault Refusal := .next (alarmExpiryEff s)

/-- WAKE (R353, R354): a source that waits is taken at a slow edge; inside an entry window the edge after it takes it. -/
def wakeEff (s : State) : State :=
  if s.inWindow || s.thermal.shut || s.boot.phase = .held then s
  else match s.wakeSource with | none => s | some c => State.advance 40 (s.planSuperseded.takeWake c)

/-- WAKE (R354). -/
def execWake (s : State) : Host.Outcome State Fault Refusal := .next (wakeEff s)

/-- R355: the fault bits of a STATUS_WORD (PMBus; the manual names POWER_GOOD# and the fault bits without their places). -/
def faultBits (w : Nat) : Bool := w &&& 0xF73F ≠ 0

/-- R355: the request is acknowledged by a STATUS_WORD; a rail that was turned off shows POWER_GOOD#. -/
def acknowledges (r : RegReq) (w : Nat) : Bool := !faultBits w && (!w.testBit 11 || (r.cmd = 1 && r.mv = 0))

/-- R359, Table 15.8: the warning level of a rail in mV. -/
def State.warnLevel (s : State) (r : Nat) : Nat :=
  let w := (s.rdv .supplyWarning 0).getD r 0
  if r = 0 then s.rd .vcoreTarget 0 - w else w

/-- Table 15.8: the reset level of a rail in mV. -/
def State.resetLevel (s : State) (r : Nat) : Nat :=
  if r = 0 then s.rd .vcoreTarget 0 - 75 else [0, 770, 815, 1080, 720, 1620, 1620].getD r 0

/-- R360: the minimum of a rail within a dip, with a value below its warning level. -/
def Rail.lowest (x : Rail) (mv : Nat) : Nat := if x.min = 0 then mv else Nat.min x.min mv

/-- R360: some rail is below its reset level. -/
def State.anyLow (s : State) : Bool := (List.range 7).any (fun r => (s.rail r).low)

/-- R360: a rail has fallen below its reset level, or a reset ends the dip. -/
def State.endDip (s : State) : State :=
  { s with power := { s.power with
    dipAt := none, dark := false
    rails := s.power.rails.map (fun (p : Nat × Rail) => (p.1, { p.2 with min := if p.2.warn then p.2.min else 0 })) } }

/-- SUPPLY_WARNING (R315, R359, R360): the rail has been below its warning level for 1 us, at a value in mV; lines that are
held are then held by a supply too. -/
def supplyWarningEff (r mv : Nat) (s : State) : State :=
  let x := s.rail r
  if x.off || decide (s.warnLevel r ≤ mv) then s
  else
    let low := x.lowest mv
    let s := (s.setRail r { x with warn := true, min := low }).wrn .supplyMin 0 r low
    { s with
      power := { s.power with dipAt := if s.anyLow then s.power.dipAt else some (s.power.dipAt.getD s.aon.mono) }
      secure := { s.secure with heldBy := s.secure.heldBy || s.secure.held.isSome } }

/-- SUPPLY_WARNING (R360). -/
def execSupplyWarning (rail : Fin 7) (mv : BitVec 16) (s : State) : Host.Outcome State Fault Refusal :=
  .next (supplyWarningEff rail.val mv.toNat s)

/-- SUPPLY_DARK (R360): the dip has lasted 10 ms. -/
def supplyDarkEff (s : State) : State :=
  match s.power.dipAt with
  | none => s
  | some t =>
    if s.power.dark then s
    else
      let s := s.untilMono (t + ms 10)
      let s := { s with power := { s.power with dark := true } }.darkAll (fun a => { a with dip := true })
      (s.count .darkDips 0).raise .supplyDark []

/-- SUPPLY_DARK (R360). -/
def execSupplyDark (s : State) : Host.Outcome State Fault Refusal := .next (supplyDarkEff s)

/-- R360: the rails of a dip, with their minimum below warning: the deepest. -/
def State.deepest (s : State) : Option (Nat × Nat) :=
  ((List.range 7).filter (fun r => (s.rail r).min ≠ 0)).foldl (fun a r =>
    let x := (r, (s.rail r).min)
    match a with
    | none => some x
    | some y => if (x.2 : Int) - s.warnLevel x.1 < (y.2 : Int) - s.warnLevel y.1 then some x else some y)
    (none : Option (Nat × Nat))

/-- R388 step 1: the domains of the boot that are OFF begin their exits. -/
def State.bootDomains (s : State) : State :=
  s.forEach [9, 10, 11] (fun s d =>
    if (s.domain d).st = .off && (s.domain d).next.isNone then s.exitOrWait d { target := .on } else s)

/-- R360: the dip ends. -/
def State.dipEnds (s : State) (t : Nat) : State :=
  let w := s.deepest.getD (0, 0)
  let s := (s.count .supplyDips 0).raise .supplyDip [w.1, w.2, (s.aon.mono - t) / us 1]
  let dark := s.power.dark
  let s := { s with power := { s.power with
    dipAt := none, dark := false
    rails := s.power.rails.map (fun (p : Nat × Rail) => (p.1, { p.2 with min := 0 })) } }
  let s := if dark then s.lightAll (fun a => { a with dip := false }) else s
  let s := if s.thermal.calStep = 1 then { s with thermal := { s.thermal with calAt := s.aon.mono } } else s
  let s := if s.boot.phase = .rom && !s.thermal.shut then s.bootDomains else s
  State.nvmKick 300 (State.advance 40 (s.forEach allDomains State.startPending))

/-- R355, R356, R358, R359: what an acknowledged request sets; the monitor of a rail that is off is masked. -/
def State.railSet (s : State) (r : RegReq) : State :=
  let x := s.rail r.rail
  let s := { s with power := { s.power with reg := none, vcoreMv := if r.cmd = 0 then r.mv else s.power.vcoreMv } }
  if r.cmd ≠ 1 then s.setRail r.rail { x with fault := false }
  else if r.mv = 0 then s.setRail r.rail { x with fault := false, off := true, warn := false, low := false }
  else s.setRail r.rail { x with fault := false, off := false }

/-- R355, R358, R360: a request is acknowledged: the next one goes out, the exits that waited for the rail start, and a dip
whose last rail was turned off ends. -/
def State.regDone (s : State) (r : RegReq) : State :=
  let s := (s.railSet r).issueReg
  match s.power.dipAt with
  | some t => if s.anyWarn then s else s.dipEnds t
  | none => (State.advance 40 (s.forEach allDomains State.startPending)).railsDown

/-- REGULATOR_ACK (R355, R357): an answer later than RegulatorTimeout acknowledges nothing. -/
def regulatorAckEff (rail w : Nat) (s : State) : State :=
  match s.power.reg with
  | none => s
  | some r =>
    if r.rail ≠ rail ∨ r.since + us (s.rd .regulatorTimeout 0) < s.aon.mono then s
    else if acknowledges r w then s.regDone r
    else if faultBits w then
      let first := !(s.rail rail).fault
      let s := (s.setRail rail { s.rail rail with fault := true }).raise .regulatorFault [rail, w]
      if first then { s with power := { s.power with regQ := { rail := rail, cmd := 3 } :: s.power.regQ } } else s
    else s

/-- REGULATOR_ACK (R355). -/
def execRegulatorAck (rail : Fin 7) (statusWord : BitVec 16) (s : State) : Host.Outcome State Fault Refusal :=
  .next (regulatorAckEff rail.val statusWord.toNat s)

/-- R348, R357: the transitions that need a request that failed: exits that wait for their rail to be turned on, or exits in
progress that a setting of VCORE or a fault of the rail holds. -/
def State.waitsReg (s : State) (r : RegReq) (d : Nat) : Bool :=
  let x := s.domain d
  (railsOf d).contains r.rail
    && (if r.cmd = 1 then decide (r.mv ≠ 0) && (x.next.any (fun q => q.target = .on)) && x.st ≠ .entering && x.st ≠ .exiting
        else x.st = .exiting && (r.up || (s.rail r.rail).fault))

/-- R357: the third failure of a request: the rail keeps its last acknowledged setting, and the transitions that need the
request fail. -/
def State.regFails (s : State) (r : RegReq) : State :=
  let l := allDomains.filter (s.waitsReg r)
  let s := { s with power := { s.power with reg := none } }.issueReg
  let s := (s.count .regulatorTimeouts 0).raise .regulatorTimeout [r.rail, r.cmd]
  State.advance 40 (s.forEach l (fun s d =>
    if r.cmd = 1 then s.abortPending d .timeout
    else if (s.domain d).st = .exiting then s.abortTransition d .timeout else s))

/-- REGULATOR_TIMEOUT (R357): two retries, then the waiting transitions fail with E_TIMEOUT. -/
def regulatorTimeoutEff (rail : Nat) (s : State) : State :=
  match s.power.reg with
  | none => s
  | some r =>
    if r.rail ≠ rail then s
    else
      let s := s.untilMono (r.since + us (s.rd .regulatorTimeout 0))
      if r.tries < 2 then
        { s with power := { s.power with reg := some { r with tries := r.tries + 1, since := s.aon.mono } } }
      else s.regFails r

/-- REGULATOR_TIMEOUT (R357). -/
def execRegulatorTimeout (rail : Fin 7) (s : State) : Host.Outcome State Fault Refusal :=
  .next (regulatorTimeoutEff rail.val s)

/-- SUPPLY_RECOVER (R359, R360): the rail has risen above warning plus hysteresis. -/
def supplyRecoverEff (r : Nat) (s : State) : State :=
  if (s.rail r).warn then
    let s := s.setRail r { s.rail r with warn := false, low := false }
    let s := { s with boot := { s.boot with goodFrom := s.aon.mono } }
    match s.power.dipAt with
    | some t => if s.anyWarn then s else s.dipEnds t
    | none =>
      let s := s.setRail r { s.rail r with min := 0 }
      if s.anyWarn && !s.anyLow then { s with power := { s.power with dipAt := some s.aon.mono } } else s
  else s

/-- SUPPLY_RECOVER (R360). -/
def execSupplyRecover (rail : Fin 7) (s : State) : Host.Outcome State Fault Refusal := .next (supplyRecoverEff rail.val s)

end Sys2Proof.Machine
end

