-- ==== Sys2Proof/Machine/Saved.lean ====
section
/-! DEFINITION. The records of the settings and calibration areas: what a STORE saves, what a boot or a RESTORE takes from
them (R286, R318, R319, R375, R378). -/

namespace Sys2Proof.Machine

/-- A record of a settings or calibration payload (R319). -/
structure SavedRec where
  index : Nat
  sub : Nat
  type : Nat
  value : Bytes
  deriving DecidableEq, Repr

/-- The bytes that carry a length up to a multiple of 4. -/
def padTo4 (n : Nat) : Nat := (4 - n % 4) % 4

/-- R319: the record of a value of an instance of an entry. -/
def recordBytes (e : Ent) (i : Nat) (v : Val) : Bytes :=
  let b := e.info.encode v
  leBytes 2 (e.address i).1 ++ leBytes 1 (e.address i).2 ++ leBytes 1 e.info.ty.code ++ leBytes 4 b.length ++ b
    ++ List.replicate (padTo4 b.length) 0

/-- R319: the records that a payload holds. -/
def parseRecords : Nat → Bytes → List SavedRec
  | 0, _ => []
  | n + 1, b =>
    let len := field b 4 4
    if b.length < 8 + len then []
    else { index := field b 0 2, sub := field b 2 1, type := field b 3 1, value := (b.drop 8).take len }
      :: parseRecords n (b.drop (8 + len + padTo4 len))

/-- The records of the payload in force of an area; none when the pair is empty. -/
def State.areaRecords (s : State) (area : Nat) : List SavedRec :=
  match s.payload area with | none => [] | some b => parseRecords b.length b

/-- R285, R318: the settings payload: the committed value of every stored entry. -/
def State.settingsPayload (s : State) : Bytes :=
  (Ent.all.filter (fun e => e.info.stored)).flatMap (fun e =>
    (List.range e.info.count).flatMap (fun i => recordBytes e i (s.committed e i)))

/-- R378: the calibration entries. -/
def calEnts : List Ent := [.adcGain, .adcOffset, .latencyTrim, .deskewTrim, .swingTrim, .impedanceTrim]

/-- R378: the calibration payload: the calibration entries' values in force. -/
def State.calibPayload (s : State) : Bytes :=
  calEnts.flatMap (fun e => (List.range e.info.count).flatMap (fun i => recordBytes e i (s.rdv e i)))

/-- R319: the instance and the value that a record gives, where the entry exists, belongs to the area and has the record's
type. -/
def recordTarget (member : Ent → Bool) (r : SavedRec) : Option (Ent × Nat × Val) :=
  match Ent.find r.index r.sub with
  | none => none
  | some (e, i) =>
    let n := r.value.length
    if !member e ∨ e.info.ty.code ≠ r.type ∨ n % e.info.elt ≠ 0 then none
    else if e.info.ty.scalar ∧ n ≠ e.info.elt then none
    else some (e, i, e.info.decode r.value)

/-- Table 16.4: a calibration value is a code its converter has; DeskewTrim is in ps. -/
def calValueOk (e : Ent) (v : Val) : Bool :=
  match e with
  | .deskewTrim => decide (-200 ≤ sgn 16 (v.headD 0) ∧ sgn 16 (v.headD 0) ≤ 200)
  | .swingTrim => v.headD 0 ≤ 63
  | .impedanceTrim => v.headD 0 ≤ 31
  | .latencyTrim => v.all (fun x => decide (-64 ≤ sgn 16 x ∧ sgn 16 x ≤ 63))
  | _ => true

/-- R319: the checks of a saved value: those of its entry, and the placement rule of the stores (R20). -/
def State.savedOk (s : State) (e : Ent) (i : Nat) (v : Val) : Bool :=
  (s.entryCheck e i v).isNone && calValueOk e v
    && (List.range 6).all (fun k => placeEnt k ≠ e || s.placeOk k (v.headD 0))

/-- R319: the usable records of an area. A value is checked beside the other values of its area (assumption log 71). -/
def State.usable (s : State) (area : Nat) (member : Ent → Bool) : List (Ent × Nat × Val) :=
  let l := (s.areaRecords area).filterMap (recordTarget member)
  let t := s.forEach (l.filter (fun x => rangeOk x.1 x.2.2)) (fun s x => s.wrv x.1 x.2.1 x.2.2)
  l.filter (fun x => t.savedOk x.1 x.2.1 x.2.2)

/-- R319: the usable records of the settings area. -/
def State.usableSettings (s : State) : List (Ent × Nat × Val) := s.usable 1 (fun e => e.info.stored)

/-- R378: the usable records of the calibration area. -/
def State.usableCalib (s : State) : List (Ent × Nat × Val) := s.usable 2 (fun e => calEnts.contains e)

/-- R319: a boot's loading of the stored entries. -/
def State.loadSettings (s : State) : State :=
  let l := s.usableSettings
  let skipped := (s.areaRecords 1).length - l.length
  let s := s.forEach l (fun s x => s.wrv x.1 x.2.1 x.2.2)
  if skipped = 0 then s else (s.wr .settingsSkipped 0 skipped).raise .settingsSkipped [skipped]

/-- R375: the calibration bank in force is loaded; the measured gain and offset stay where VREFCAL was good. -/
def State.loadCalib (s : State) : State :=
  let l := s.usableCalib.filter (fun x => s.thermal.vrefBad || !(x.1 = .adcGain || x.1 = .adcOffset))
  let has := s.usableCalib.any (fun x => x.1 = .adcGain || x.1 = .adcOffset)
  let s := s.forEach l (fun s x => s.wrv x.1 x.2.1 x.2.2)
  s.wr .calSource 0 (if !s.thermal.vrefBad then 2 else if has then 1 else 0)

end Sys2Proof.Machine
end

