-- ==== Sys2Proof/Machine/Reset.lean ====
section
/-! DEFINITION. Resets: what thermal shutdown and every reset take away, what a warm and a full reset keep (R367, R383 to
R386, R393). -/

namespace Sys2Proof.Machine

/-- R384: VNVM has crossed its reset level with a line in progress: what that line then holds is open (free values). -/
def State.tearLines (s : State) : State :=
  s.forEach (s.secure.ops.filter (fun o => o.started)) (fun s o =>
    match o.lines with
    | [] => s
    | l :: _ =>
      let d := (List.range 8).foldl (fun (p : Bytes × State) _ => let n := p.2.draw; (p.1 ++ leBytes 8 n.1, n.2)) ([], s)
      d.2.mramWrite l.addr d.1)

/-- R314, R384: a line in progress completes, unless VNVM has crossed its reset level; the other lines are given up. -/
def State.endLines (s : State) : State :=
  if (s.rail 6).low then { s.tearLines with secure := { s.tearLines.secure with ops := [] } } else s.dropOps (fun _ => true)

/-- R95: what AON latches as D5 goes OFF, if it has not latched already. -/
def State.latchTime (s : State) : State :=
  if s.timeRuns then s.takeLatch else s

/-- R341, R367, R384: every switched domain goes OFF at once and its content is lost; black-box records that waited are
coalesced in AON (R326). The buffer table, in AON, stays until the reset (R152). -/
def State.allOff (s : State) : State :=
  let s := s.endLines.boxLeaves.latchTime
  let s := (s.wr .modulatorRun 0 0).forEach ports4 (fun s n => s.wr .portState n 0)
  { s with
    ports := [], lanes := [], outcomes := [], sweeps := [], sweepPkts := [], views := [], syncIn := [], syncOut := []
    ctxs := [], shown := [], quarry := [], fills := [], cap := {}, defects := {}, modl := {}, quads := []
    groups := [], tes := [], louts := [], rows := [], mgmt := s.mgmt.lost, xfers := [], jobs := [], tables := [], tablePad := []
    secure := { s.secure with
      ops := [], stores := [], held := none, heldBy := false, bbQueue := [], bbNext := 0, bbScanned := false, archive := none }
    power := { s.power with
      doms := [], reg := none, regQ := [], plan := none, wakeLayer := none, wakeSet := [], wakePort := []
      ctxLost := true, coefGone := true, tableLost := tableDomains }
    boot := { s.boot with wdOn := false } }

/-- Table 17.2: the entries that a warm reset keeps. -/
def keptEnts : List Ent := [.shutdownCount, .resetCounts, .snapshotValid]

/-- R385: every entry takes its default, but for those kept. -/
def State.resetEntries (s : State) (kept : List Ent) : State :=
  let keep := fun k => kept.any (fun e => e.ctorIdx = k / 65536)
  { s with regs := s.regs.filter (fun p => keep p.1), revs := s.revs.filter (fun p => keep p.1) }

/-- The place of a cause among those seen for one reset. -/
def addCause (c : Nat) (l : List Nat) : List Nat := if l.contains c then l else l ++ [c]

/-- R383: the recorded cause: the lowest code. -/
def lowestCause (l : List Nat) : Nat := l.foldl min 7

/-- R384, R385: a warm reset: all domains OFF, then what Table 17.2 keeps. A thermal shutdown goes on (R394). -/
def State.warmReset (s : State) (cause : Nat) : State :=
  let s := (s.allOff.resetEntries keptEnts)
  { s with
    bufs := []
    mgmt := {}
    time := {}
    aon := { s.aon with
      refSel := if s.aon.refclk then .refclk else .startup
      ticks := 0, switched := false, winSwitch := false, latch := none, beacons := [], ballEdge := false, alarm := false
      alarmTaken := false, spiEdge := false }
    power := { rails := s.power.rails, dipAt := s.power.dipAt, vcoreAt := s.power.vcoreAt
               vcoreMv := s.power.vcoreMv
               ctxLost := true, coefGone := true, tableLost := tableDomains }
    thermal := if s.thermal.shut then s.thermal else {}
    boot := { causes := [cause], holdFrom := s.aon.mono, goodFrom := s.boot.goodFrom } }

/-- R383: a trigger: it starts a reset, or joins the one in progress. -/
def State.trigger (s : State) (cause : Nat) : State :=
  if s.boot.phase = .held then { s with boot := { s.boot with causes := addCause cause s.boot.causes } }
  else s.warmReset cause

/-- R392: the Source and the Minimum of the reset-cause record, which belong to the recorded cause. -/
def State.sourceOf (s : State) (cause source : Nat) (minimum : Int) : State :=
  if lowestCause s.boot.causes = cause then { s with boot := { s.boot with source := source, minimum := minimum } } else s

/-- R383, R385: a full reset: AON is lost as well. MRAM, fuses and factory identity stay, and so do the levels that the
surroundings hold. -/
def State.fullReset (s : State) : State :=
  let s := s.endLines
  { ({} : State) with
    aon := { mono := s.aon.mono, ball := s.aon.ball, refclk := s.aon.refclk
             refSel := if s.aon.refclk then .refclk else .startup }
    secure := { mram := s.secure.mram, slotSt := s.secure.slotSt, delivered := s.secure.delivered, fuses := s.secure.fuses
                draws := s.secure.draws }
    power := { rails := s.power.rails.map (fun (p : Nat × Rail) => (p.1, { p.2 with off := false, fault := false, min := 0 }))
               ctxLost := true, coefGone := true, tableLost := tableDomains }
    boot := { holdFrom := s.aon.mono, goodFrom := s.aon.mono }
    draws := s.draws
    pending := s.pending }

end Sys2Proof.Machine
end

