-- ==== Sys2Proof/Machine/Thermal.lean ====
section
/-! DEFINITION. The thermal block, the analog inputs and the calibration (R193, R356, R364 to R380). -/

namespace Sys2Proof.Machine

/-- Die sensor n. -/
def State.sensor (s : State) (n : Nat) : Sensor := SMap.get s.thermal.sensors n {}

/-- The state with die sensor n changed. -/
def State.setSensor (s : State) (n : Nat) (a : Sensor) : State :=
  { s with thermal := { s.thermal with sensors := SMap.put s.thermal.sensors n a } }

/-- Analog input c beside its entries. -/
def State.ain (s : State) (c : Nat) : Ain := SMap.get s.thermal.ains c {}

/-- The state with analog input c changed. -/
def State.setAin (s : State) (c : Nat) (a : Ain) : State :=
  { s with thermal := { s.thermal with ains := SMap.put s.thermal.ains c a } }

/-- The 32 sensors. -/
def sensors32 : List Nat := List.range 32

/-- A quotient rounded to nearest, halves away from zero; the divisor is positive. -/
def roundAway (n d : Int) : Int := if 0 ≤ n then (2 * n + d) / (2 * d) else -((2 * (-n) + d) / (2 * d))

/-- R364: the temperature in 1/16 degree of a count; none where the fused counts give no scale. -/
def sensorTemp (n count : Nat) : Option Int :=
  let a := ((Config.sensorC30 n).toNat : Int)
  let d := ((Config.sensorC100 n).toNat : Int) - a
  if d = 0 then none
  else
    let x := 480 * d + ((count : Int) - a) * 1120
    some (if 0 < d then roundAway x d else roundAway (-x) (-d))

/-- R365: a conversion is plausible. -/
def plausible (count : Nat) (t : Option Int) : Bool :=
  count ≠ 0 && (match t with | some x => decide (-880 ≤ x ∧ x ≤ 2400) | none => false)

/-- R365: a sensor is marked failed. -/
def State.failSensor (s : State) (n : Nat) : State :=
  let s := s.setSensor n { s.sensor n with failed := true, badRun := 0, goodRun := 0 }
  (s.wr .sensorFailed 0 (s.rd .sensorFailed 0 ||| 2 ^ n)).raise .sensorFailed [n]

/-- R365: a sensor is good again. -/
def State.healSensor (s : State) (n : Nat) : State :=
  let s := s.setSensor n { s.sensor n with failed := false, badRun := 0, goodRun := 0 }
  (s.wr .sensorFailed 0 (s.rd .sensorFailed 0 &&& (2 ^ 32 - 1 - 2 ^ n))).raise .sensorRecovered [n]

/-- R364, R365: one conversion of one sensor. -/
def State.convert (s : State) (n count : Nat) : State :=
  let t := sensorTemp n count
  let a := s.sensor n
  let s := (match t with | some x => s.wrn .sensorTemps 0 n (uns 16 (clampInt (-32768) 32767 x)) | none => s)
  let x := t.getD a.t
  if plausible count t then
    let s := s.setSensor n { a with t := x, badRun := 0, goodRun := a.goodRun + 1, plausible := true }
    if a.failed ∧ 64 ≤ a.goodRun + 1 then s.healSensor n else s
  else
    let s := s.setSensor n { a with t := x, goodRun := 0, badRun := a.badRun + 1, plausible := false }
    if !a.failed ∧ 2 ≤ a.badRun + 1 then s.failSensor n else s

/-- R365: one conversion of every sensor. -/
def State.convertAll (s : State) (counts : List Nat) : State :=
  s.forEach sensors32 (fun s n => s.convert n (counts.getD n 0))

/-- The sensors that are failed. -/
def State.failedSensors (s : State) : List Nat := sensors32.filter (fun n => (s.sensor n).failed)

/-- The sensors that are good. -/
def State.goodSensors (s : State) : List Nat := sensors32.filter (fun n => !(s.sensor n).failed)

/-- The largest of a list of readings. -/
def maxOf : List Int → Int
  | [] => 0
  | [a] => a
  | a :: b :: t => max a (maxOf (b :: t))

/-- R366: the junction temperature in 1/16 degree. -/
def State.junction (s : State) : Int :=
  if 3 ≤ s.failedSensors.length then 2016
  else
    maxOf (s.goodSensors.map (fun n => (s.sensor n).t)
      ++ s.failedSensors.map (fun _ => ((max (s.rd .throttleLevel 0 + 1) 106 : Nat) : Int) * 16))

/-- R366: J follows the conversions; the write window follows J (R315). -/
def State.setJunction (s : State) : State :=
  let j := s.junction
  State.nvmKick 300
    ({ s with thermal := { s.thermal with j := j, seen := true } }.wr .junctionTemp 0 (uns 16 (clampInt (-32768) 32767 j)))

/-- R367: the sensor whose reading shuts the die down, or 0xFE for three failed sensors. -/
def State.tooHot (s : State) : Option Nat :=
  if 3 ≤ s.failedSensors.length then some 0xFE else s.goodSensors.find? (fun n => decide (2000 ≤ (s.sensor n).t))

/-- R367: thermal shutdown. -/
def State.shutdown (s : State) (source : Nat) : State :=
  let n := s.failedSensors.length
  let s := (s.darkAll (fun a => { a with hot := true })).allOff
  let s := s.count .shutdownCount 0
  let s := { s with thermal := { s.thermal with shut := true, shutSrc := source } }
  s.raise .thermalShutdown [if source = 0xFE then n else source]

/-- R368: every good sensor is below 105 degrees and fewer than three are failed. -/
def State.coolEnough (s : State) : Bool :=
  decide (s.failedSensors.length < 3) && s.goodSensors.all (fun n => decide ((s.sensor n).t < 1680))

/-- R368: the restart after a shutdown; a reset in progress only gains the cause. -/
def State.thermalRestart (s : State) : State :=
  let src := s.thermal.shutSrc
  let j := s.thermal.j
  (({ s with thermal := {} }).trigger 3).sourceOf 3 src j

/-- R367, R368: the comparator judges the conversions. -/
def State.judgeHeat (s : State) : State :=
  if s.thermal.shut then (if s.coolEnough then s.thermalRestart else s)
  else match s.tooHot with | some src => s.shutdown src | none => s

/-- SENSOR_CONVERSION (R365 to R368): once per ms while a domain is ON, once per 10 ms while shut down. -/
def sensorConversionEff (counts : List Nat) (s : State) : State :=
  if s.thermal.shut || allDomains.any s.on then
    let s := s.untilMono (s.thermal.convAt + ms (if s.thermal.shut then 10 else 1))
    let s := { s with thermal := { s.thermal with convAt := s.aon.mono } }
    (s.convertAll counts).setJunction.judgeHeat
  else s

/-- SENSOR_CONVERSION (R365). -/
def execSensorConversion (counts : List Nat) (s : State) : Host.Outcome State Fault Refusal :=
  .next (sensorConversionEff counts s)

/-- A bit of ThermalStatus. -/
def State.thermalBit (s : State) (k : Nat) : Bool := (s.rd .thermalStatus 0).testBit k

/-- The state with a bit of ThermalStatus set or cleared. -/
def State.setThermalBit (s : State) (k : Nat) (b : Bool) : State :=
  let n := s.rd .thermalStatus 0
  s.wr .thermalStatus 0 (if b then n ||| 2 ^ k else n &&& (255 - 2 ^ k))

/-- R369: WARNING. -/
def State.warnRound (s : State) (j : Int) : State :=
  let w : Int := s.rd .warningLevel 0 * 16
  if !s.thermalBit 0 && decide (w ≤ j) then (s.setThermalBit 0 true).raise .thermalWarning [uns 16 j]
  else if s.thermalBit 0 && decide (j < w - 80) then (s.setThermalBit 0 false).raise .thermalWarningClear []
  else s

/-- R369: the rounds that the rate of rise looks back on: the last second, and the newest before it. -/
def lastSecond (now : Nat) : List (Nat × Int) → List (Nat × Int)
  | [] => []
  | p :: t => if p.1 + ms 1000 ≤ now then [p] else p :: lastSecond now t

/-- R369: the rate of rise and its hold; with less than a second of rounds, the rise since the oldest. -/
def State.rateRound (s : State) (j : Int) : State :=
  let l := lastSecond s.aon.mono ((s.aon.mono, j) :: s.thermal.rounds)
  let r := j - ((l.getLast?.map (fun p => p.2)).getD j)
  let s := { s with thermal := { s.thermal with rounds := l } }.wr .riseRate 0 (uns 16 (clampInt (-32768) 32767 r))
  if !s.thermalBit 1 && decide (48 < r) then (s.setThermalBit 1 true).raise .rateHold [uns 16 r]
  else if s.thermalBit 1 && decide (r < 16) then (s.setThermalBit 1 false).raise .rateRelease []
  else s

/-- R229, R370: a throttle decision is taken. -/
def State.decideStep (s : State) (origin : Origin) (n : Nat) : State :=
  (s.count .throttleDecisions 0).deviceCommit origin true { throttle := some n }

/-- R370: a decision's commit is pending. -/
def State.throttlePending (s : State) : Bool := s.modl.commits.any (fun p => !p.done && p.dev.throttle.isSome)

/-- R370, Table 16.1: the throttle decisions of a round. -/
def State.throttleRound (s : State) (j : Int) : State :=
  let l : Int := s.rd .throttleLevel 0 * 16
  let cool := decide (j < l - 80) && !s.thermalBit 1
  let s := { s with modl := { s.modl with coolSince := if cool then some (s.modl.coolSince.getD s.now) else none } }
  let cooled := fun (t : Nat) => match s.modl.coolSince with | some c => decide (max c t + 2000000000 ≤ s.now) | none => false
  let n := s.rd .throttleStep 0
  if s.throttlePending then s
  else if n = 0 then (if l ≤ j then s.decideStep .throttleStep 1 else s)
  else if n = 1 then
    if !s.modl.noStep2 && decide (l + 80 ≤ j ∨ (l ≤ j ∧ s.modl.t1 + 2000000000 ≤ s.now)) then
      if step2Ok (s.rd .viewCount 0) (s.rd .refreshesPerView 0) (s.rd .framePeriod 0) then s.decideStep .throttleStep 2
      else { s with modl := { s.modl with noStep2 := true } }.raise .throttleStep [2, 1]
    else if cooled (max s.modl.t1 s.modl.t2) then s.decideStep .throttleRelease 0
    else s
  else if cooled 0 then s.decideStep .throttleRelease 1
  else s

/-- R369: the AVS band that a temperature gives, edges lowered by a margin. -/
def avsBand (j margin : Int) : Nat :=
  (if 400 - margin ≤ j then 1 else 0) + (if 1040 - margin ≤ j then 1 else 0) + (if 1520 - margin ≤ j then 1 else 0)

/-- R356: the fused voltage of a die band, in mV. -/
def avsTarget (b : Nat) : Nat := 700 + 5 * (Config.avsStep b).val

/-- R356: no transition of a domain is in progress. -/
def State.settledDomains (s : State) : Bool :=
  allDomains.all (fun d => (s.domain d).st ≠ .entering && (s.domain d).st ≠ .exiting)

/-- R356: VCORE follows the AVS band: one setting at a time and at most one per ms, a lower one only while no domain is in a
transition (DEDUCED, log 113). -/
def State.vcoreRound (s : State) (b : Nat) : State :=
  let t := avsTarget b
  let s := s.wr .vcoreTarget 0 t
  if t = s.power.vcoreMv ∨ s.vcoreAsked ∨ s.aon.mono < s.power.vcoreAt + ms 1
      ∨ (t < s.power.vcoreMv ∧ ¬ s.settledDomains) then s
  else s.askReg { rail := 0, cmd := 0, mv := t, up := decide (s.power.vcoreMv < t) }

/-- R369: the AVS band. -/
def State.avsRound (s : State) (j : Int) : State :=
  let b := s.rd .thermalStatus 0 / 4 % 4
  let up := avsBand j 0
  let down := avsBand j 47
  let n := if b < up then up else if down < b ∧ !s.thermalBit 1 then down else b
  (s.wr .thermalStatus 0 (s.rd .thermalStatus 0 % 4 + 4 * n)).vcoreRound n

/-- R371: the temperature of a ratio by a thermistor's table, in 1/16 degree. -/
def thermistorValue (table : Val) (r : Nat) : Int :=
  let k := r / 2048
  let a := sgn 16 (table.getD k 0)
  let b := sgn 16 (table.getD (k + 1) 0)
  a + roundAway ((b - a) * (r % 2048 : Nat)) 2048

/-- R373: lower edge of a band; the bands below 1 have none. -/
def bandEdge (edges : Val) (k : Nat) : Int := sgn 16 (edges.getD k 0)

/-- R373: the band that a sum of values (of `n` of them) gives from the present one. -/
def nextBand (edges : Val) (b : Nat) (sum n : Int) : Nat :=
  if b < 7 ∧ n * bandEdge edges b ≤ sum then
    (((List.range 8).filter (fun x => x = 0 || decide (n * bandEdge edges (x - 1) ≤ sum))).getLast?).getD b
  else if 0 < b ∧ sum < n * (bandEdge edges (b - 1) - 32) then
    (((List.range 8).find? (fun x => x = 7 || decide (sum < n * (bandEdge edges x - 32))))).getD b
  else b

/-- R373: the band of an input as decided; a change may still wait for its effect time. -/
def State.bandOf (s : State) (c : Nat) : Nat := (s.ain c).pend.getD (s.rd .band c)

/-- R193, R373: the band of a thermistor input is judged on the mean of its last 4 values. -/
def State.judgeBand (s : State) (c : Nat) : State :=
  let l := (s.ain c).last
  let b := s.bandOf c
  let n := nextBand (s.rdv .bandEdges 0) b l.sum l.length
  if n = b then s
  else
    let s := (s.setAin c { s.ain c with pend := some n }).count .bandChanges 0
    s.deviceCommit .band false { band := [(c, n)] }

/-- R371, R375: the mean of an input's 16 samples in codes of 2^-16 of VREFCAL, by the offset and the gain in force. -/
def State.adcCode (s : State) (l : List Nat) : Int :=
  roundAway (((l.sum : Int) - 16 * sgn 16 (s.rd .adcOffset 0)) * s.rd .adcGain 0) 1048576

/-- The 16 samples of an input of the converter: 0 to 15 the analog inputs, 16 to 22 the internal senses of the rails. -/
def samplesOf (l : List Nat) (c : Nat) : List Nat := (l.drop (16 * c)).take 16

/-- R371, R372: one analog input's conversion, from its code: the ratio of a thermistor, or a voltage in mV; VREFCAL is
1.25 V. -/
def State.convertInput (s : State) (c : Nat) (code : Int) : State :=
  match s.rd .channelKind c with
  | 1 =>
    let r := (clampInt 0 65535 code).toNat
    if r < 1024 ∨ 64512 < r then
      let told := s.rd .channelFault c = 1
      let s := s.wr .channelFault c 1
      if told then s else s.raise .ainFault [c]
    else
      let v := thermistorValue (s.rdv .thermistorTable c) r
      let s := (s.wr .channelFault c 0).wr .value c (uns 32 v)
      (s.setAin c { s.ain c with last := (v :: (s.ain c).last).take 4 }).judgeBand c
  | 2 => s.wr .value c (uns 32 (clampInt (-2147483648) 2147483647 (roundAway (code * 1250 * s.rd .voltageGain c) 4294967296)))
  | _ => s

/-- R371: the seven rails by their internal senses, in mV; the scale of a sense is open (Config.senseGain). -/
def State.railSenses (s : State) (ain : List Nat) : List Nat :=
  (List.range 7).map (fun r =>
    (roundAway (s.adcCode (samplesOf ain (16 + r)) * 1250 * (Config.senseGain r).toNat) 4294967296).toNat)

/-- R356, R371: the senses are taken, and VCORE is checked to lie within 10 mV of its target; nothing follows from the check
(DESIGN CHOICE, log 177). -/
def State.senseRails (s : State) (ain : List Nat) : State :=
  let l := s.railSenses ain
  let d := ((l.getD 0 0 : Nat) : Int) - s.rd .vcoreTarget 0
  { s with
    thermal := { s.thermal with senses := l }
    power := { s.power with vcoreOk := decide (d.natAbs ≤ 10) } }

/-- R369: the analog half's part of a round. -/
def State.analogRound (s : State) (ain : List Nat) : State :=
  if s.on 11 then
    (s.forEach (List.range 16) (fun s c => s.convertInput c (s.adcCode (samplesOf ain c)))).senseRails ain
  else s

/-- R369: SlowRound in whole ticks of the slow clock, in 2^-32 ns. -/
def State.roundTime (s : State) : Nat := max 1 ((ms (s.rd .slowRound 0) + slowTick / 2) / slowTick) * slowTick

/-- SLOW_ROUND (R369 to R373). -/
def slowRoundEff (ain : List Nat) (s : State) : State :=
  if s.thermal.shut || !allDomains.any s.on then s
  else
    let s := s.untilMono (s.thermal.roundAt + s.roundTime)
    let s := { s with thermal := { s.thermal with roundAt := s.aon.mono } }
    if !s.thermal.seen then s
    else
      let j := s.thermal.j
      ((((s.warnRound j).rateRound j).throttleRound j).avsRound j).analogRound ain

/-- SLOW_ROUND (R369). -/
def execSlowRound (ain : List Nat) (s : State) : Host.Outcome State Fault Refusal := .next (slowRoundEff ain s)

/-- R375: VREFCAL reads within 1 % of the fused code of the internal reference. -/
def vrefGood (reading : Nat) : Bool :=
  let f := Config.fusedVrefCode.toNat
  decide (100 * ((reading : Int) - f).natAbs ≤ f)

/-- R374, R375: step 1: VREFCAL's code, then the gain and the offset measured. -/
def State.cal1 (s : State) (reading : List Nat) : State :=
  let v := reading.getD 0 0
  if vrefGood v then
    let s := { s with thermal := { s.thermal with vrefBad := false } }
    (s.wr .adcGain 0 (reading.getD 1 0 % 4294967296)).wr .adcOffset 0 (reading.getD 2 0 % 65536)
  else { s with thermal := { s.thermal with vrefBad := true } }.raise .vrefcalFault [v]

/-- The middle of a list of readings in rising order, doubled. -/
def median2 (l : List Int) : Int :=
  let a := l.mergeSort (fun x y => decide (x ≤ y))
  a.getD ((a.length - 1) / 2) 0 + a.getD (a.length / 2) 0

/-- R365: the median check: sensors more than 15 degrees from the median of the plausible sensors are failed. -/
def State.medianCheck (s : State) : State :=
  let l := sensors32.filter (fun n => (s.sensor n).plausible)
  let m := median2 (l.map (fun n => (s.sensor n).t))
  if l = [] then s
  else s.forEach (s.goodSensors.filter (fun n => decide (480 < (2 * (s.sensor n).t - m).natAbs))) State.failSensor

/-- R374: step 2: two conversions of every sensor, each judged by the comparator (R367), and the median check; a third
failure shuts the die down (R379). -/
def State.cal2 (s : State) (reading : List Nat) : State :=
  let s := (s.convertAll reading).setJunction.judgeHeat
  if s.thermal.shut then s else ((s.convertAll (reading.drop 32)).medianCheck).setJunction.judgeHeat

/-- R374: step 3: the calibration bank; phase 1 is done but for its step in the Slate frame. -/
def State.cal3 (s : State) : State :=
  let s := s.loadCalib.wr .calPhase 0 3
  s.raise .calPhase1Done [s.rd .calSource 0]

/-- R92, R374: step 4: the latency of each quadrant that is ON is trimmed. -/
def State.cal4 (s : State) (reading : List Nat) : State :=
  s.forEach ((List.range 4).filter (fun q => s.on (16 + q))) (fun s q =>
    s.wrn .latencyTrim 0 q (uns 16 (clampInt (-64) 63 (sgn 16 (reading.getD q 0)))))

/-- The state with phase 1 at its next step. -/
def State.calNext (s : State) (k : Nat) : State :=
  { s with thermal := { s.thermal with calStep := k, calAt := s.aon.mono } }

/-- CAL_PHASE1_STEP (R374, R375, R379): the step in progress ends and the next begins. -/
def calPhase1StepEff (reading : List Nat) (s : State) : State :=
  let k := s.thermal.calStep
  if !s.on 11 then s
  else if k = 4 then
    match s.modl.slate with
    | none => s
    | some (e, _) =>
      if s.modl.wasSlate || !s.running || s.thermal.cal4 = some e then s
      else
        let s := s.untilDisp (e + 2000000)
        { s.cal4 reading with thermal := { s.thermal with cal4 := some e } }
  else if k = 0 ∨ (k = 1 ∧ s.dip) then s
  else
    let s := s.untilMono (s.thermal.calAt + ms 2)
    if k = 1 then (s.cal1 reading).calNext 2
    else if k = 2 then (s.calNext 3).cal2 reading
    else s.cal3.calNext 4

/-- CAL_PHASE1_STEP (R374). -/
def execCalPhase1Step (reading : List Nat) (s : State) : Host.Outcome State Fault Refusal :=
  .next (calPhase1StepEff reading s)

/-- R376: the lane's quadrant is lit, so that phase 2 goes on for it. -/
def State.measurable (s : State) (l : Nat) : Bool :=
  decide (l < s.rd .laneCount 0) && s.on (16 + l / 128) && !s.quadDark (l / 128)

/-- R376: phase 2 runs: the modulator has lit, and D11 is ON. -/
def State.phase2Runs (s : State) : Bool := s.running && s.modl.wasSlate && s.on 11 && s.thermal.calStep = 4

/-- R376: a pass begins. -/
def State.beginPass (s : State) (phase : Nat) : State :=
  let s := { s with
    louts := s.louts.map (fun (p : Nat × LaneOut) => (p.1, { p.2 with newTrim := none, trimmed := false }))
    thermal := { s.thermal with passAt := s.aon.mono } }
  (s.wr .phase2Lanes 0 0).wr .calPhase 0 phase

/-- CAL_PHASE2_MEASURED (R376): a lane's new trims are computed; the first measurement after first light opens the first
pass. -/
def calPhase2MeasuredEff (l : Nat) (t : TrimSet) (s : State) : State :=
  if s.phase2Runs && s.measurable l then
    let s := if s.rd .calPhase 0 = 3 ∧ !s.thermal.firstPass then s.beginPass 2 else s
    if s.rd .calPhase 0 = 2 ∨ s.rd .calPhase 0 = 4 then
      if (s.lout l).trimmed then s
      else s.setLout l { s.lout l with newTrim := some (clampInt (-40) 40 t.deskew, min t.swing 63, min t.impedance 31) }
    else s
  else s

/-- CAL_PHASE2_MEASURED (R376). -/
def execCalPhase2Measured (lane : Fin 512) (trim : TrimSet) (s : State) : Host.Outcome State Fault Refusal :=
  .next (calPhase2MeasuredEff lane.val trim s)

/-- A value moved toward another by at most a step. -/
def toward (step a b : Int) : Int := if a < b then min (a + step) b else max (a - step) b

/-- R376: one lane's trims are applied, in a repeat pass by at most one step each; the lane is done when they have come. -/
def State.trimLane (s : State) (l : Nat) : State :=
  match (s.lout l).newTrim with
  | none => s
  | some (d, w, z) =>
    let slow := s.rd .calPhase 0 = 4
    let d := 5 * d
    let d0 := sgn 16 (s.rd .deskewTrim l)
    let d1 := if slow then toward 5 d0 d else d
    let w1 := if slow then toward 1 (s.rd .swingTrim l) w else w
    let z1 := if slow then toward 1 (s.rd .impedanceTrim l) z else z
    let s := ((s.wr .deskewTrim l (uns 16 d1)).wr .swingTrim l w1.toNat).wr .impedanceTrim l z1.toNat
    if d1 = d ∧ w1 = w ∧ z1 = z then
      (s.setLout l { s.lout l with newTrim := none, trimmed := true }).count .phase2Lanes 0
    else s

/-- R376: a pass ends when every enabled lane has been trimmed in it. -/
def State.endPass (s : State) : State :=
  if (List.range (s.rd .laneCount 0)).all (fun l => (s.lout l).trimmed) then
    let first := s.rd .calPhase 0 = 2
    let s := { s with thermal := { s.thermal with firstPass := true } }.wr .calPhase 0 3
    if first then s.raise .calPhase2Done [s.rd .phase2Lanes 0] else s
  else s

/-- R211, R376: of the row dwell that a display instant lies in, the start of its dead time and that of the next dwell;
2^-32 ns. -/
def State.deadOf (s : State) (x : Nat) : Nat × Nat :=
  let f := s.frameOf (x / 4294967296)
  let g := s.geoAt f
  let y := x - f * 4294967296
  let j := min (y / g.tslot) (g.slots - 1)
  let row := min ((y - j * g.tslot) / g.tau) (g.k - 1)
  let dwell := f * 4294967296 + j * g.tslot + row * g.tau
  (dwell + g.light,
    if row + 1 < g.k then dwell + g.tau
    else if j + 1 < g.slots then f * 4294967296 + (j + 1) * g.tslot
    else s.nextFrame f * 4294967296)

/-- R376: the row dead time of the dwell in progress, or the next one when that has been used. -/
def State.nextGap (s : State) : Nat :=
  let d := s.deadOf s.dispFine
  if s.thermal.gapAt = some d.1 then (s.deadOf d.2).1 else d.1

/-- R256: the display instant at which the frame in progress on a lane ends, 2^-32 ns; 0 when there is none. -/
def State.frameEnd (s : State) (l : Nat) : Nat :=
  let ui := s.geo.uiAt s.dispFine
  (((s.lout l).frames s.geo).filter (fun p => decide (p.1 < ui ∧ ui < freeUi p))).foldl
    (fun a p => max a (ceilDiv ((2 * freeUi p - 1) * 1000 * 4294967296) (2 * s.geo.b))) 0

/-- R256, R376: the clocks move on to a row dead time that no lane has been trimmed in, and there to the end of the frames in
progress on the lanes to be trimmed. -/
def State.toGap (s : State) : State :=
  let d := s.nextGap
  let s := s.elapse (d - s.dispFine)
  let last := ((s.louts.filter (fun p => p.2.newTrim.isSome)).map (fun p => s.frameEnd p.1)).foldl max 0
  let s := s.elapse (last - s.dispFine)
  { s with thermal := { s.thermal with gapAt := some d } }

/-- R256, R376: a lane is in a gap and between frames, so that its trims may change; a gap is the row dead time in plane mode,
and in grey mode the time from the domain's ARM to its next load, in which no other lane of the group was trimmed. -/
def State.trimmable (s : State) (l : Nat) : Bool :=
  s.laneIdle l
    && (!s.geo.grey || (s.greyGap l && (List.range 8).all (fun i => !(s.lout (l / 8 * 8 + i)).spent)))

/-- CAL_PHASE2_APPLY (R256, R376): in a gap each group applies the new trims of one of its lanes. In plane mode the clocks
move on to the row dead time. -/
def calPhase2ApplyEff (s : State) : State :=
  if s.phase2Runs && (s.rd .calPhase 0 = 2 || s.rd .calPhase 0 = 4) then
    let s := if s.geo.grey || !s.timeRuns then s else s.toGap
    let s := s.forEach (List.range 64) (fun s g =>
      match ((List.range 8).map (fun i => 8 * g + i)).find? (fun l =>
          s.measurable l && (s.lout l).newTrim.isSome && s.trimmable l) with
      | some l => let s := s.trimLane l; s.setLout l { s.lout l with spent := s.geo.grey }
      | none => s)
    s.endPass
  else s

/-- CAL_PHASE2_APPLY (R376). -/
def execCalPhase2Apply (s : State) : Host.Outcome State Fault Refusal := .next (calPhase2ApplyEff s)

/-- CAL_REPEAT (R376): a later pass starts every CalRepeat s. -/
def calRepeatEff (s : State) : State :=
  let n := s.rd .calRepeat 0
  if s.phase2Runs && s.thermal.firstPass && decide (n ≠ 0) && s.rd .calPhase 0 = 3 then
    (s.untilMono (s.thermal.passAt + ms (1000 * n))).beginPass 4
  else s

/-- CAL_REPEAT (R376). -/
def execCalRepeat (s : State) : Host.Outcome State Fault Refusal := .next (calRepeatEff s)

end Sys2Proof.Machine
end

