-- ==== Sys2Proof/Machine/Startup.lean ====
section
/-! DEFINITION. Start-up: reset triggers and release, the boot ROM, the firmware's boot, AutoStart, the watchdog and the
oscillators (R16, R17, R336, R382 to R393). -/

namespace Sys2Proof.Machine

/-- POWER_ON_RESET (R383). -/
def execPowerOnReset (s : State) : Host.Outcome State Fault Refusal := .next s.fullReset

/-- SUPPLY_RESET (R383, R384, R392): a monitored rail has been below its reset level for 1 us, at a value in mV. VAON gives
a full reset; of several rails the record names the lowest value (R392). -/
def supplyResetEff (r mv : Nat) (s : State) : State :=
  let x := s.rail r
  if x.off || decide (s.resetLevel r ≤ mv) then s
  else if r = 4 then let s := s.fullReset; s.setRail 4 { s.rail 4 with warn := true, low := true }
  else
    let low := x.lowest mv
    let s := (s.setRail r { x with warn := true, low := true, min := low }).wrn .supplyMin 0 r low
    let deeper := decide (s.boot.phase ≠ .held ∨ ¬ s.boot.causes.contains 2 ∨ (low : Int) < s.boot.minimum)
    (if deeper then (s.trigger 2).sourceOf 2 r low else s.trigger 2).endDip

/-- SUPPLY_RESET (R383). -/
def execSupplyReset (rail : Fin 7) (mv : BitVec 16) (s : State) : Host.Outcome State Fault Refusal :=
  .next (supplyResetEff rail.val mv.toNat s)

/-- CRYSTAL_DETECTED (R382): 1,024 consecutive cycles of the crystal. -/
def crystalDetectedEff (s : State) : State :=
  if s.aon.slow = .crystal then s
  else { s with aon := { s.aon with slow := .crystal, crystal := true, switched := true, winSwitch := true } }

/-- CRYSTAL_DETECTED (R382). -/
def execCrystalDetected (s : State) : Host.Outcome State Fault Refusal := .next (crystalDetectedEff s)

/-- CRYSTAL_OSCILLATION_LOST (R17, R94, R95). -/
def crystalLostEff (s : State) : State :=
  if s.aon.slow = .rc then s
  else { s with aon := { s.aon with slow := .rc, crystal := false, switched := true, winSwitch := true } }

/-- CRYSTAL_OSCILLATION_LOST (R17). -/
def execCrystalOscillationLost (s : State) : Host.Outcome State Fault Refusal := .next (crystalLostEff s)

/-- REFCLK_CLOCK_CHANGE (R16): REFCLK is taken only where no upstream port has been active. -/
def refclkEff (present : Bool) (s : State) : State :=
  { s with aon := { s.aon with
      refclk := present
      refSel := match s.aon.refSel with
        | .recovered => .recovered
        | .held => .held
        | _ => if present then .refclk else .startup } }

/-- REFCLK_CLOCK_CHANGE (R16). -/
def execRefclkClockChange (present : Bool) (s : State) : Host.Outcome State Fault Refusal := .next (refclkEff present s)

/-- R382, R384: the reset waits for the supplies. -/
def State.waitsSupply (s : State) : Bool := s.boot.causes.contains 1 || s.boot.causes.contains 2

/-- R383, R392, R395: what is recorded of a reset at its release. -/
def State.recordCause (s : State) : State :=
  let c := lowestCause s.boot.causes
  let s := (s.wr .lastResetCause 0 c).wr .resetCauseSet 0 ((s.boot.causes.map (fun k => 2 ^ (k - 1))).sum)
  s.wrn .resetCounts 0 (c - 1) (min (s.rdn .resetCounts 0 (c - 1) + 1) 0xFFFFFFFF)

/-- RESET_RELEASE (R368, R382, R384): time 0 of the boot; the exits of D9, D10 and D11 begin (R388). -/
def resetReleaseEff (s : State) : State :=
  if s.boot.phase ≠ .held || (s.waitsSupply && s.anyWarn) || s.thermal.shut then s
  else
    let s := s.untilMono (max (s.boot.holdFrom + ms 1) (if s.waitsSupply then s.boot.goodFrom + ms 1 else 0))
    let s := { s with
      boot := { s.boot with phase := .rom, release := s.aon.mono }
      secure := { s.secure with fallback := false, fallSlot := 0xFF } }.recordCause
    if s.dip then s else s.bootDomains

/-- RESET_RELEASE (R382). -/
def execResetRelease (s : State) : Host.Outcome State Fault Refusal := .next (resetReleaseEff s)

/-- RESET_BALL (R386): RESET_N is low for a time; below 1 us it gives no reset. The reset is held while the ball is low. -/
def resetBallEff (lowNs : Nat) (s : State) : State :=
  if lowNs < 1000 then s
  else (((s.elapse (us 1)).trigger 4).sourceOf 4 0xFF 0).elapse ((lowNs - 1000) * 4294967296)

/-- RESET_BALL (R386). -/
def execResetBall (lowNs : Nat) (s : State) : Host.Outcome State Fault Refusal := .next (resetBallEff lowNs s)

/-- WATCHDOG_EXPIRY (R387). -/
def watchdogExpiryEff (s : State) : State :=
  if s.boot.wdOn && s.on 9 then
    ((s.untilMono (s.boot.wdAt + ms 1000)).trigger 5).sourceOf 5 0xFF 0
  else s

/-- WATCHDOG_EXPIRY (R387). -/
def execWatchdogExpiry (s : State) : Host.Outcome State Fault Refusal := .next (watchdogExpiryEff s)

/-- R336 steps 1 and 2: the changes of the owner bank that count a boot: BootCount, and TrialCount or TrialSlot. -/
def State.bootPatch (s : State) : List (Nat × Byte) :=
  let trial := s.ownerField 66 1
  let n := s.ownerField 67 1
  patchAt 68 (leBytes 4 (s.ownerField 68 4 + 1))
    ++ (if trial < 2 then (if n < 3 then [(67, BitVec.ofNat 8 (n + 1))] else [(66, 0xFF)]) else [])

/-- An owner-bank write of the boot, which the boot waits for (R336, R389). -/
def State.bootWrite (s : State) (p : List (Nat × Byte)) : State :=
  s.enqueueOp { kind := .owner, names := [0], patch := p }

/-- R336 step 2: the trial is abandoned in this boot. -/
def State.abandonTrial (s : State) (slot : Nat) : State :=
  { s with secure := { s.secure with fallback := true, fallSlot := slot } }

/-- R336 steps 1 and 2. -/
def State.countBoot (s : State) : State :=
  let t := s.ownerField 66 1
  let s := if t < 2 ∧ ¬ s.ownerField 67 1 < 3 then s.abandonTrial t else s
  { s with boot := { s.boot with counted := true } }.bootWrite s.bootPatch

/-- R336 steps 4 and 5: a slot starts, and its watchdog is armed (R387). -/
def State.startSlot (s : State) (slot : Nat) (trial : Bool) : State :=
  let s := { s with
    secure := { s.secure with running := slot, trial := trial }
    boot := { s.boot with phase := .firmware } }
  let s := (s.wr .firmwareVersion 0 (leNat (s.mramRead (slot * 3145728 + 8) 4))).renewWatchdog
  if trial then s else s.blowFuses

/-- R336 step 3: the slot tried is verified; a slot that fails gives way to the next choice. -/
def State.trySlot (s : State) : State :=
  let s := s.mramScan 0 6291456
  let t := s.ownerField 66 1
  let p := s.ownerField 65 1 % 2
  if t < 2 then
    if (s.verifySlot t).isNone then s.startSlot t true else (s.abandonTrial t).bootWrite [(66, 0xFF)]
  else if (s.verifySlot p).isNone then s.startSlot p false
  else if (s.verifySlot (1 - p)).isNone then s.bootWrite [(65, BitVec.ofNat 8 (1 - p))]
  else { s with boot := { s.boot with phase := .dead } }

/-- BOOT_ROM (R336, R388, R389): it goes on as far as the owner-bank writes it waits for let it. -/
def bootRomEff (s : State) : State :=
  if s.boot.phase ≠ .rom || !s.on 9 || !s.on 10 || !s.on 11 then s
  else if !s.boot.counted then s.showOwner.countBoot
  else if s.secure.ops.any NvmOp.boots then s
  else s.trySlot

/-- BOOT_ROM (R336). -/
def execBootRom (s : State) : Host.Outcome State Fault Refusal := .next (bootRomEff s)

/-- Table 17.3: the Detail of EV_RESET_CAUSE. -/
def State.causeDetail (s : State) : List Nat :=
  [s.rd .lastResetCause 0, s.rd .resetCauseSet 0, s.secure.running, if s.secure.fallback then 1 else 0]
    ++ byteVal (leBytes 4 (s.rd .bootCount 0)) ++ [s.boot.source, 0] ++ byteVal (leBytes 2 (uns 16 s.boot.minimum))

/-- R322, R392: EV_RESET_CAUSE is raised, and its record goes ahead of every other record of the boot. -/
def State.raiseCause (s : State) : State :=
  let r := s.record .resetCause s.causeDetail
  let s := (s.count .eventsRaised 0).queueEvent r
  let l := s.secure.bbQueue
  let s := { s with secure := { s.secure with bbQueue := (2, r) :: l.take 255 } }
  s.forEach (l.drop 255) (fun s p =>
    let c := (SMap.get s.aon.bbCoal p.2.ev.cls {}).add p.2.disp
    { s with aon := { s.aon with bbCoal := SMap.put s.aon.bbCoal p.2.ev.cls c } }.count .blackBoxCoalesced 0)

/-- FIRMWARE_BOOT (R319, R388 steps 4 and 5, R392). -/
def firmwareBootEff (s : State) : State :=
  if s.boot.phase ≠ .firmware || !s.on 9 || !s.on 10 || !s.on 11 then s
  else
    let s := (s.mramScan (bankBase 1 false) (2 * bankSize 1)).loadSettings.renewWatchdog.raiseCause
    let s := if s.secure.trial then s.raise .fwTrial [s.secure.running, s.ownerField 67 1] else s
    let s := if s.secure.fallback then s.raise .fwFallback [s.secure.fallSlot] else s
    (State.advance 40 { s with
      boot := { s.boot with phase := .bringUp, refused := [] }
      power := { s.power with
        wakeLayer := some 7, wakeSet := (s.power.wakeSet ++ s.closure 8 (maskDomains (s.rd .bootTargets 0))).eraseDups } }).railsDown

/-- FIRMWARE_BOOT (R388). -/
def execFirmwareBoot (s : State) : Host.Outcome State Fault Refusal := .next (firmwareBootEff s)

/-- BOOT_COMPLETE (R388 step 6). -/
def bootCompleteEff (s : State) : State :=
  if s.boot.phase = .bringUp && s.power.wakeLayer.isNone && s.on 9 then
    let t := min ((s.aon.mono - s.boot.release) / us 1) 0xFFFFFFFF
    let s := { s with boot := { s.boot with phase := .complete } }.wr .bootTime 0 t
    s.raise .bootComplete [t, (s.boot.refused.eraseDups.map (fun d => 2 ^ d)).sum]
  else s

/-- BOOT_COMPLETE (R388). -/
def execBootComplete (s : State) : Host.Outcome State Fault Refusal := .next (bootCompleteEff s)

/-- R390: AutoStart may act now. -/
def State.autoReady (s : State) : Bool :=
  s.boot.phase = .complete && s.rd .autoStart 0 = 1 && !s.boot.autoTried && s.on 9 && s.rd .coefValid 0 = 1
    && (s.rd .timeState 0 = 2 || s.rd .freeRunPermit 0 = 1)

/-- AUTOSTART (R390). -/
def autostartEff (s : State) : State :=
  if s.autoReady then
    let r := startEff { s with boot := { s.boot with autoTried := true } }
    match r.2 with
    | .now a => if a.status = .ok then r.1 else r.1.raise .autostartRefused [a.status.value]
    | .later => r.1
  else s

/-- AUTOSTART (R390). -/
def execAutostart (s : State) : Host.Outcome State Fault Refusal := .next (autostartEff s)

end Sys2Proof.Machine
end

