-- ==== Sys2Proof/Machine/Jtag.lean ====
section
/-! DEFINITION. The JTAG port: its instructions, the boundary register and the TEST reset (R383, R408). The cells stand in the
order of Table 18.1's groups, the true leg of a pair before its complement; the cell at TDO is cell 0 (DESIGN CHOICE,
log 179). -/

namespace Sys2Proof.Machine

/-- R408: the instruction drives or floats the balls. -/
def JtagReg.drives : JtagReg → Bool
  | .extest => true
  | .clamp => true
  | .highz => true
  | _ => false

/-- R383, R408: exit from EXTEST, CLAMP or HIGHZ: the device drives its balls again and is reset; the test-logic reset
selects IDCODE (PRESUMED, log 118). -/
def State.leaveTest (s : State) : State :=
  if s.jtag.ir.drives then
    (({ s with jtag := { s.jtag with ir := .idcode, pins := none, floats := false, bypass := false } }).trigger 7).sourceOf 7 0xFF 0
  else s

/-- R408, Table 18.1: the boundary cells: the LVCMOS, SLVS-400 and M-LVDS balls without the test port's own (IEEE 1149.1):
LD 0 to 1,023, LCLK to 1,151, LSTB to 1,279, LRB to 1,407, RLD to 1,423, RLG to 1,439, TE to 1,455, SYNCI to 1,459, SYNCO to
1,463, SPI to 1,467, AVSBus to 1,470, WAKE and RESET_N. -/
def boundaryCells : Nat := 1473

/-- The level of a leg of a pair that carries a level. -/
def leg (c : Nat) (level : Bool) : Bool := if c % 2 = 0 then level else !level

/-- R361, R408: the level that the device drives onto a boundary ball; none where it drives none, and for signals whose
level at an instant the state does not hold (a running LCLK, SPI data out, AVSBus). -/
def State.ballLevel (s : State) (c : Nat) : Option Bool :=
  if c < 1024 then (if s.alive (16 + c / 256) then some (leg c (s.laneLevel (c / 2))) else none)
  else if c < 1152 then
    let g := (c - 1024) / 2
    if s.alive (16 + g / 16) && s.lclk g = 0 then some (leg c false) else none
  else if c < 1280 then
    let g := (c - 1152) / 2
    if s.alive (16 + g / 16) then some (leg c (s.lstb g)) else none
  else if c < 1408 then none
  else if c < 1424 then
    let j := (c - 1408) / 2
    if s.alive (16 + j / 2) then some (leg c (s.rld j)) else none
  else if c < 1440 then
    let j := (c - 1424) / 2
    if s.alive (16 + j / 2) then some (leg c (s.rlg j)) else none
  else if 1460 ≤ c ∧ c < 1464 then s.outputPin (c - 1460)
  else none

/-- Table 18.1: the cell belongs to an output of the device. -/
def cellDrives (c : Nat) : Bool :=
  decide (c < 1280 ∨ (1408 ≤ c ∧ c < 1440) ∨ (1460 ≤ c ∧ c < 1464) ∨ c = 1466 ∨ c = 1468 ∨ c = 1469)

/-- The content of the boundary register. -/
def Jtag.boundary (j : Jtag) : List Bool := j.cells ++ List.replicate (boundaryCells - j.cells.length) false

/-- R408: what the boundary register captures of the balls: the levels that the device or the test drives, and elsewhere the
levels at the balls. -/
def State.captured (s : State) (sample : List Bool) : List Bool :=
  (List.range boundaryCells).map (fun c =>
    match s.jtag.pins with
    | some l => if cellDrives c then l.getD c false else sample.getD c false
    | none => (s.ballLevel c).getD (sample.getD c false))

/-- R408: a data scan of the boundary register: its capture shifts out, cell 0 first, as bits shift in behind it. -/
def State.scan (s : State) (sample bits : List Bool) : Jtag :=
  let l := s.captured sample ++ bits
  { s.jtag with cells := l.drop bits.length, shift := l.take bits.length }

/-- R408: IDCODE. -/
def idcode : Nat := 0x195126B5

/-- JTAG_BYPASS (R408): one bit passes the bypass register, which holds 0 when it is first selected. -/
def jtagBypassEff (tdi : Bool) (s : State) : State :=
  let out := decide (s.jtag.ir = .bypass) && s.jtag.bypass
  let s := s.leaveTest
  { s with jtag := { s.jtag with ir := .bypass, bypass := tdi, shift := [out] } }

/-- JTAG_BYPASS (R408). -/
def execJtagBypass (tdi : Bool) (s : State) : Host.Outcome State Fault Refusal := .next (jtagBypassEff tdi s)

/-- JTAG_IDCODE (R408): the 32 bits shift out, bit 0 first. -/
def jtagIdcodeEff (_tdi : Bool) (s : State) : State :=
  let s := s.leaveTest
  { s with jtag := { s.jtag with ir := .idcode, bypass := false, shift := bitList 32 idcode } }

/-- JTAG_IDCODE (R408). -/
def execJtagIdcode (tdi : Bool) (s : State) : Host.Outcome State Fault Refusal := .next (jtagIdcodeEff tdi s)

/-- JTAG_SAMPLE_PRELOAD (R408): the levels sampled shift out as the values preloaded shift in. -/
def jtagSampleEff (sample preload : List Bool) (s : State) : State :=
  let s := s.leaveTest
  { s with jtag := { s.scan sample preload with ir := .sample, bypass := false } }

/-- JTAG_SAMPLE_PRELOAD (R408). -/
def execJtagSamplePreload (sample preload : List Bool) (s : State) : Host.Outcome State Fault Refusal :=
  .next (jtagSampleEff sample preload s)

/-- JTAG_EXTEST (R408): the boundary cells drive the balls, whatever the domain states, and the register captures the balls and
shifts its capture out. The levels at the inputs are free values, and nothing is shifted in: the row has no operands
(DESIGN CHOICE, log 180). -/
def jtagExtestEff (s : State) : State :=
  let s := { s with jtag := { s.jtag with ir := .extest, pins := some s.jtag.boundary, floats := false, bypass := false } }
  let c := s.captured ((List.range boundaryCells).map (Config.ballLevel s.draws))
  { s with draws := s.draws + 1, jtag := { s.jtag with cells := c, shift := c } }

/-- JTAG_EXTEST (R408). -/
def execJtagExtest (s : State) : Host.Outcome State Fault Refusal := .next (jtagExtestEff s)

/-- JTAG_CLAMP (R408): the balls hold the boundary values, with the bypass register selected. -/
def jtagClampEff (s : State) : State :=
  { s with jtag := { s.jtag with ir := .clamp, pins := some s.jtag.boundary, floats := false, bypass := false } }

/-- JTAG_CLAMP (R408). -/
def execJtagClamp (s : State) : Host.Outcome State Fault Refusal := .next (jtagClampEff s)

/-- JTAG_HIGHZ (R408): the covered outputs float. -/
def jtagHighzEff (s : State) : State :=
  { s with jtag := { s.jtag with ir := .highz, pins := none, floats := true, bypass := false } }

/-- JTAG_HIGHZ (R408). -/
def execJtagHighz (s : State) : Host.Outcome State Fault Refusal := .next (jtagHighzEff s)

/-- TEST_RESET (R383, R408): exit from EXTEST, CLAMP or HIGHZ. -/
def execTestReset (s : State) : Host.Outcome State Fault Refusal := .next s.leaveTest

end Sys2Proof.Machine
end

