-- ==== Sys2Proof/Machine/Time.lean ====
section
/-! DEFINITION. Display time and calendar time: time transfer, servo, time states, sleep accounting, capture inputs
(R82 to R96, R102, R105). -/

namespace Sys2Proof.Machine

/-- Table 4.4: the SYNC payload as it is queued; the stamp and the calendar are inserted as it leaves. -/
def State.syncPayload (s : State) : Bytes :=
  List.replicate 22 0 ++ leBytes 1 (s.rd .timeState 0) ++ leBytes 1 (s.rd .rootDistance 0)
    ++ leBytes 4 s.reportBound ++ leBytes 2 (s.rd .taiUtcOffset 0) ++ leBytes 1 (s.rd .calendarValid 0)
    ++ List.replicate 17 0

/-- SYNC_SEND (R87, R62): SyncInterval has passed since the last SYNCs. -/
def syncSendEff (s : State) : State :=
  if s.alive 5 && decide (s.rd .deviceAddress 0 ≠ 0xFFFF) then
    let s := s.untilMono (s.time.syncSent + us (s.rd .syncInterval 0))
    let s := { s with time := { s.time with syncSent := s.aon.mono } }
    s.forEach (ports4.filter s.isChild) (fun s n => s.sendLocal n 0 1 s.syncPayload false)
  else s

/-- SYNC_SEND (R87). -/
def execSyncSend (s : State) : Host.Outcome State Fault Refusal := .next (syncSendEff s)

/-- R88: MeanPathDelay: the mean of m over the exchanges of the upstream port, in ps. -/
def TimeUnit.mean (t : TimeUnit) : Int := (t.exch.sum * 1000).tdiv (2 * max t.exch.length 1 * 4294967296 : Nat)

/-- R88, R89: the offset of a SYNC with its origin, received at `rx` at the network layer, in ps: t_r - t_s - d_down with
the mean of m and A / 2 taken exactly, brought to whole ps once (log 39). -/
def State.theta (s : State) (n origin rx : Nat) : Int :=
  let k : Int := (2 * max s.time.exch.length 1 : Nat)
  (k * (((rx : Int) - origin) * 1000 - (s.rd .rxLatency n : Int) * 4294967296) - s.time.exch.sum * 1000
    - sgn 32 (s.rd .portAsymmetry n) * (k / 2) * 4294967296).tdiv (k * 4294967296)

/-- R85: LOCKED is entered when the lock condition holds. -/
def State.tryLock (s : State) : State :=
  if s.upstream.isSome && decide (1 ≤ s.time.exchPort ∧ 1 ≤ s.time.upState ∧ s.time.upState ≤ 2 ∧ 16 ≤ s.time.lockCount
      ∧ s.rd .timeState 0 ≠ 2) then
    ({ s with time := { s.time with overCount := 0 } }.wr .timeState 0 2).raise .timeLocked []
  else s

/-- R85: LOCKED is left after |theta| above UnlockThreshold on 2 SYNCs running. -/
def State.unlockCheck (s : State) (theta : Int) : State :=
  let n := if s.rd .unlockThreshold 0 < theta.natAbs then s.time.overCount + 1 else 0
  let s := { s with time := { s.time with overCount := n } }
  if 2 ≤ n then s.toHoldover else s

/-- R89: the fractional frequency and the integral after one SYNC with a clamped offset. -/
def servo (theta tau ival integ : Int) : Int × Int :=
  let p := (theta * 1099511627776).tdiv tau
  let integ := integ + (p * ival).tdiv (4 * tau)
  (clampInt (-109951163) 109951163 (p + integ), integ)

/-- R89: Increment of a fractional frequency. -/
def incrementOf (f : Int) : Nat := (3435973837 - (3435973837 * f).tdiv 1099511627776).toNat

/-- R89: the servo and its lock count run on an offset within 1 us. -/
def State.slew (s : State) (theta : Int) : State :=
  let r := servo theta ((s.rd .servoTau 0 : Int) * 1000000000) ((s.rd .syncInterval 0 : Int) * 1000000) s.time.integ
  let n := if theta.natAbs ≤ s.rd .lockThreshold 0 then s.time.lockCount + 1 else 0
  { s with time := { s.time with integ := r.2, lockCount := n } }.wr .increment 0 (incrementOf r.1)

/-- R90, R181: display time moves by minus theta; frame boundaries that it jumps over are not crossed. -/
def State.timeStep (s : State) (theta : Int) : State :=
  let d := BitVec.ofInt 96 ((s.time.disp.toNat : Int) - ofPs theta)
  let s := s.jumpPatterns (d.toNat / 4294967296)
  ({ s with time := { s.time with disp := d, integ := 0, lockCount := 0 } }.count .steps 0).raise .timeStep
    [uns 64 theta]

/-- R89, R90: the servo on a SYNC received after a completed exchange. An episode of blocked steps ends with an offset within
1 µs (R106; DESIGN CHOICE, log 191). -/
def State.runServo (s : State) (theta : Int) : State :=
  let s := s.wr .lastOffset 0 (uns 32 (clampInt (-2147483648) 2147483647 theta))
  let s := s.unlockCheck theta
  if 1000000 < theta.natAbs then
    if !s.running then s.timeStep theta
    else
      let s := if s.time.blocked then s else s.raise .timeStepBlocked [uns 64 theta]
      ({ s with time := { s.time with blocked := true } }).slew (clampInt (-1000000) 1000000 theta)
  else ({ s with time := { s.time with blocked := false } }).slew theta

/-- SYNC_RECEIVED (R83, R85 to R90): every SYNC sets the calendar offset (DEDUCED, log 37); an upstream that reports FREE ends LOCKED, with the bound that LOCKED had. -/
def syncReceivedEff (n : Nat) (b : Bytes) (rx : Nat) (s : State) : State :=
  if !(s.alive 5 && s.active n) then s
  else if s.upstream ≠ some n ∨ b.length ≠ 48 then s.count .timeMessageErrors 0
  else
    let origin := stampOf b
    let s := if field b 22 1 = 0 then s.toHoldover else s
    let s := { s with time := { s.time with
      calOfs := (calNs (b.drop 12) * 4294967296 : Int) - origin
      upState := field b 22 1, upBound := field b 24 4, syncAt := s.aon.mono } }
    let s := (s.wr .calendarValid 0 (field b 30 1 % 2)).wr .taiUtcOffset 0 (field b 28 2)
    if s.time.exchPort = 0 then s else (s.runServo (s.theta n origin rx)).tryLock

/-- SYNC_RECEIVED (R89). -/
def execSyncReceived (port : Fin 4) (payload : Bytes) (rx : BitVec 96) (s : State) :
    Host.Outcome State Fault Refusal :=
  .next (syncReceivedEff port.val payload rx.toNat s)

/-- R88: the time from one exchange to the next: 50 us within the first four, then 16 SyncIntervals. -/
def State.exchGap (s : State) : Nat := if 1 < s.time.exchLeft then us 50 else us (16 * s.rd .syncInterval 0)

/-- DELAY_EXCHANGE_TIMER (R88): the exchange that is due sends DELAY_REQ on the upstream port. -/
def delayExchangeTimerEff (s : State) : State :=
  match s.upstream with
  | some u =>
    if s.alive 5 && s.active u then
      let s := s.untilMono s.time.exchAt
      let s := { s with time := { s.time with exchAt := s.aon.mono + s.exchGap, exchLeft := s.time.exchLeft - 1 } }
      s.sendLocal u 0 2 (List.replicate 16 0) false
    else s
  | none => s

/-- DELAY_EXCHANGE_TIMER (R88). -/
def execDelayExchangeTimer (s : State) : Host.Outcome State Fault Refusal := .next (delayExchangeTimerEff s)

/-- R88: a receive stamp of the network layer referred to the balls of port n. -/
def State.atBalls (s : State) (n rx : Nat) : Nat := rx - (ofPs (s.rd .rxLatency n)).toNat

/-- DELAY_REQ_RECEIVED (R62, R87): answered with DELAY_RESP on a child port, by a device that has an address. -/
def delayReqReceivedEff (n seq : Nat) (b : Bytes) (rx : Nat) (s : State) : State :=
  if !(s.alive 5 && s.active n) then s
  else if !s.isChild n || decide (b.length ≠ 16) then s.count .timeMessageErrors 0
  else if s.rd .deviceAddress 0 = 0xFFFF then s
  else
    s.sendLocal n 0 3 (stamp12 (s.atBalls n rx) ++ List.replicate 12 0 ++ leBytes 2 seq ++ List.replicate 6 0) false

/-- DELAY_REQ_RECEIVED (R87). -/
def execDelayReqReceived (port : Fin 4) (seq : BitVec 16) (payload : Bytes) (rx : BitVec 96) (s : State) :
    Host.Outcome State Fault Refusal :=
  .next (delayReqReceivedEff port.val seq.toNat payload rx.toNat s)

/-- DELAY_RESP_RECEIVED (R87, R88): an exchange completes, is void, or the answer names no outstanding request. -/
def delayRespReceivedEff (n : Nat) (b : Bytes) (rx : Nat) (s : State) : State :=
  if !(s.alive 5 && s.active n) then s
  else if s.upstream ≠ some n ∨ b.length ≠ 32 then s.count .timeMessageErrors 0
  else
    match s.time.reqs.find? (fun q => q.1 = field b 24 2) with
    | none => s.count .timeMessageErrors 0
    | some q =>
      let t41 := (s.atBalls n rx : Int) - q.2.1
      let t32 := (stampOf (b.drop 12) : Int) - stampOf b
      let s := { s with time := { s.time with reqs := s.time.reqs.erase q } }
      if (us 100 : Int) < t41 then s.count .timeMessageErrors 0
      else if (us 20 : Int) < t41 then s
      else
        let s := { s with time := { s.time with
          exch := ((t41 - t32) :: s.time.exch).take 8, exchPort := s.time.exchPort + 1 } }
        s.wr .meanPathDelay 0 (min s.time.mean.toNat 0xFFFFFFFF)

/-- DELAY_RESP_RECEIVED (R88). -/
def execDelayRespReceived (port : Fin 4) (payload : Bytes) (rx : BitVec 96) (s : State) :
    Host.Outcome State Fault Refusal :=
  .next (delayRespReceivedEff port.val payload rx.toNat s)

/-- DELAY_RESP_TIMEOUT (R88): 100 us after its request the oldest outstanding exchange is void. -/
def delayRespTimeoutEff (s : State) : State :=
  match s.time.reqs with
  | [] => s
  | q :: l =>
    if s.alive 5 then
      let s := s.untilMono (q.2.2 + us 100)
      { s with time := { s.time with reqs := l } }
    else s

/-- DELAY_RESP_TIMEOUT (R88). -/
def execDelayRespTimeout (s : State) : Host.Outcome State Fault Refusal := .next (delayRespTimeoutEff s)

/-- SYNC_LOSS (R85): no SYNC for 8 SyncIntervals. -/
def syncLossEff (s : State) : State :=
  if s.alive 5 && decide (s.rd .timeState 0 = 2) then
    (s.untilMono (s.time.syncAt + us (8 * s.rd .syncInterval 0))).toHoldover
  else s

/-- SYNC_LOSS (R85). -/
def execSyncLoss (s : State) : Host.Outcome State Fault Refusal := .next (syncLossEff s)

/-- R85: the internal bound exceeds HoldoverLimit. -/
def State.overLimit (s : State) : Bool := s.rd .holdoverLimit 0 * 1000000000 < s.bound

/-- R86: the display time in ns at which the bound of HOLDOVER passes HoldoverLimit. -/
def State.limitAt (s : State) : Nat :=
  s.time.boundAt + ceilDiv ((s.rd .holdoverLimit 0 * 1000000000 + 1 - s.time.bound) * 1000000) (s.rd .holdoverRate 0)

/-- HOLDOVER_LIMIT (R85, R86). -/
def holdoverLimitEff (s : State) : State :=
  if s.alive 5 && decide (s.rd .timeState 0 = 1) then
    let s := if s.overLimit || s.rd .holdoverRate 0 = 0 then s else s.untilDisp s.limitAt
    if s.overLimit then (s.wr .timeState 0 0).raise .timeFree [] else s
  else s

/-- HOLDOVER_LIMIT (R85). -/
def execHoldoverLimit (s : State) : Host.Outcome State Fault Refusal := .next (holdoverLimitEff s)

/-- SLOW_WINDOW_END (R94). -/
def slowWindowEndEff (period : Nat) (s : State) : State :=
  if s.timeRuns then
    { s with
      time := { s.time with oscWin := s.aon.slow }
      aon := { s.aon with switched := s.aon.winSwitch, winSwitch := false } }.wr .slowPeriod 0 period
  else s

/-- SLOW_WINDOW_END (R94). -/
def execSlowWindowEnd (period : BitVec 64) (s : State) : Host.Outcome State Fault Refusal :=
  .next (slowWindowEndEff period.toNat s)

/-- R96: the rate k in ppm of a sleep. -/
def State.sleepRate (s : State) (l : TimeLatch) : Nat :=
  if s.aon.switched || l.osc ≠ s.aon.slow then 10000
  else if s.aon.slow = .crystal then s.rd .sleepCrystalPpm 0 else s.rd .sleepRcPpm 0

/-- R96: the bound after a sleep of `np` (2^-32 ns) in ps: B + 2 ns + n P (k + 0.1) 10^-6. -/
def sleepBound (b np k : Nat) : Nat := b + 2000 + ceilDiv (np * 1000 * (10 * k + 1)) (4294967296 * 10000000)

/-- SLEEP_ACCOUNTING (R85, R95, R96, R105): on the first slow edge after D5 is back, display time, state and bound are set; a
LOCKED that the sleep ended is counted in LockLosses. -/
def sleepAccountingEff (s : State) : State :=
  match s.aon.latch with
  | none => s
  | some l =>
    if !s.alive 5 then s
    else
      let s := s.slowTicks 1
      let np := s.aon.ticks * l.period
      let b := sleepBound l.bound np (s.sleepRate l)
      let disp := BitVec.ofNat 96 (l.disp.toNat + np)
      let s := { s with
        time := { s.time with disp := disp, calOfs := l.calOfs, bound := b, boundAt := disp.toNat / 4294967296 }
        aon := { s.aon with latch := none } }
      let s := s.restartPatterns s.now
      let s := s.wr .sleepTicks 0 s.aon.ticks
      let s := if s.rd .timeState 0 = 2 then s.count .lockLosses 0 else s
      let s := { s with aon := { s.aon with ticks := 0 } }
      if l.state = 0 then s.wr .timeState 0 0
      else if s.rd .holdoverLimit 0 * 1000000000 < b then (s.wr .timeState 0 0).raise .timeFree []
      else (s.wr .timeState 0 1).raise .timeHoldover []

/-- SLEEP_ACCOUNTING (R96). -/
def execSleepAccounting (s : State) : Host.Outcome State Fault Refusal := .next (sleepAccountingEff s)

/-- SYNCI_EDGE (R102). The operand is the stamp at its resolution (DESIGN CHOICE, log 192). -/
def synciEdgeEff (i : Nat) (falling : Bool) (stamp : BitVec 96) (s : State) : State :=
  if !(s.alive 5 && (s.rd .captureEnable i).testBit (if falling then 1 else 0)) then s
  else
    let a := s.syncI i
    if a.caps.length < 16 then
      let c : Capt := { falling := falling, stamp := stamp, cal := (stamp.toNat : Int) + s.time.calOfs,
                        state := s.rd .timeState 0 }
      (s.setSyncI i { a with caps := a.caps ++ [c] }).showCaptures i
    else
      let s := s.count .captureOverflows i
      if a.told then s else (s.setSyncI i { a with told := true }).raise .syncCaptureOverflow [i]

/-- SYNCI_EDGE (R102). -/
def execSynciEdge (input : Fin 4) (falling : Bool) (stamp : BitVec 96) (s : State) :
    Host.Outcome State Fault Refusal :=
  .next (synciEdgeEff input.val falling stamp s)

/-- Table 4.9: the 28 bytes of a capture. -/
def Capt.bytes (c : Capt) (i : Nat) : Bytes :=
  leBytes 1 i ++ leBytes 1 (if c.falling then 1 else 0) ++ [0, 0] ++ stamp12 c.stamp.toNat ++ cal80 c.cal
    ++ leBytes 1 c.state ++ [0]

/-- R102: the oldest capture is read, from an offset, and removed. -/
def capturePopBody (i off : Nat) (s : State) : State × Ans :=
  if !s.on 5 then (s, ans .state)
  else
    let a := s.syncI i
    match a.caps with
    | [] => (s, ans .state)
    | c :: t =>
      let r := ((s.setSyncI i { a with caps := t, told := false }).showCaptures i).readReply .capturePop i (c.bytes i) off
      (r.1, .now r.2)

/-- CAPTURE_POP (R102). -/
def execCapturePop (e : Env) (input : Fin 4) (s : State) : Host.Outcome State Fault Refusal :=
  .next (s.request (reqOf e 0x10 .capturePop input.val) false true (capturePopBody input.val 0))

end Sys2Proof.Machine
end

