-- ==== Sys2Proof/Machine/Reading.lean ====
section
/-! DEFINITION. What a READ of an entry returns (R22, R23, R265, R268, R269, R280, R283 and the entry tables): registers in
the core, committed or staged values, and the values that the device makes at the read. -/

namespace Sys2Proof.Machine

/-- R23: the configuration that would hold if all staged writes were committed now. -/
def State.wouldBe (s : State) : Geo := geoOf s.withStaged 0

/-- R23, R279: the contexts that would be bound, their staged commands having acted. -/
def State.wouldBind (s : State) : List Nat :=
  let cmd := fun (c : Nat) => SMap.find s.mgmt.staged (key .ctxCommand c)
  let more := s.mgmt.staged.filterMap (fun (p : Nat × Val) =>
    if p.1 / 65536 = Ent.ctxCommand.ctorIdx ∧ p.2 = [1] then some (p.1 % 65536) else none)
  (s.boundCtxs.filter (fun c => cmd c = none ∨ cmd c = some [1]) ++ more).eraseDups

/-- Tables 1.9 and 1.10: a demand of half bits per frame in Mb/s, rounded up. -/
def State.mbps (s : State) (halfBits : Nat) : Nat := ceilDiv (halfBits * 500 * 4294967296) s.wouldBe.period

/-- Table 5.1: AssemblyMap as 512 bytes. -/
def State.mapBytes (s : State) (c : Nat) : Val := byteVal (leBytes 512 (s.ctx c).amap)

/-- R291: a session's record of SessionTable. -/
def State.sessionRecord (s : State) (n : Nat) : Nat :=
  let x := s.session n
  let isOpen := x.isOpen
  let flags := (if isOpen then 1 else 0) + (if s.rd .stagingOwner 0 = n then 2 else 0) + (if x.seg.isSome then 4 else 0)
    + (if x.auth ∨ n = 256 then 8 else 0)
  let idle := min ((s.aon.mono - x.lastAt) / ms 10) 65535
  leNat (leBytes 2 (if isOpen then x.partner else 0xFFFF) ++ leBytes 2 (if isOpen then x.lastSeq else 0) ++ leBytes 1 flags ++ [0] ++ leBytes 2 (if isOpen then idle else 0))

/-- Table 10.4: a ledger entry as a word. -/
def LedEnt.word (x : LedEnt) : Nat :=
  let st := match x.st with | .empty => 0 | .computing => 1 | .computed => 2 | .squashed => 3
  st + x.view % 8 * 4 + x.row % 64 * 32 + x.gen % 65536 * 2 ^ 11 + x.seq % 65536 * 2 ^ 27 + x.slot % 65536 * 2 ^ 43
    + (if x.skipod then 2 ^ 59 else 0) + (if x.dark then 2 ^ 60 else 0)

/-- R235: the ledger entry that LedgerSelect names: the live bursts of a lane, in launch order. -/
def State.ledgerWord (s : State) : Nat :=
  let n := s.rd .ledgerSelect 0
  match (s.led (n / 256)).ents[n % 256]? with | some x => x.word | none => 0

/-- Table 9.6: the lamps whose state code lies between two bounds. -/
def State.lampsIn (s : State) (lo hi : Nat) : Nat :=
  (s.defects.st.filter (fun (p : Nat × Nat) => decide (lo ≤ p.2 ∧ p.2 ≤ hi))).length

/-- R232: TimingState. -/
def State.timing (s : State) : Nat :=
  if s.modl.stopE.isSome then 3 else if !s.running then 0 else if s.inSlate s.now then 1 else 2

/-- SlotInfo's record of a firmware slot. -/
def State.slotRecord (s : State) (k : Nat) : Nat :=
  let h := s.mramRead (k * 3145728) 48
  leNat (leBytes 1 (s.secure.slotSt.getD k 0) ++ (h.drop 7).take 1 ++ [0, 0] ++ (h.drop 8).take 4 ++ (h.drop 16).take 8)

/-- The values that the device makes at a read; none for an entry held in a register. The demands are those of their
formulas at the default configuration too, where Table 1.10 prints Default 0 (log 146). -/
def State.derived (s : State) (e : Ent) (i : Nat) : Option Val :=
  match e with
  | .planeDemand => some [s.mbps (2 * s.wouldBe.frameBits)]
  | .planeLimit => some [94 * s.wouldBe.n * s.wouldBe.b / 100]
  | .ledgerDemand => some [s.wouldBe.d * s.wouldBe.k % 65536]
  | .stagingDemand => some [ceilDiv s.wouldBe.stagingBytes 524288 % 65536]
  | .ingestDemand => some [s.mbps ((s.wouldBind.map (ctxBits2Of s.withStaged)).sum)]
  | .displayTime => some [s.now % 2 ^ 64]
  | .calendarTime => some [leNat (cal80 s.cal)]
  | .errorBound => some [s.reportBound]
  | .queueDepth => some [(s.view i).queue.length]
  | .captureCount => some [(s.syncI i).caps.length]
  | .boundCount => some [s.boundCtxs.length % 65536]
  | .openCount => some [(s.having .ctxState (· = 1)).length % 65536]
  | .parkedCount => some [(s.having .ctxState (· = 4)).length % 65536]
  | .assemblyMap => some (s.mapBytes i)
  | .framePages => some [s.framePageCount]
  | .freePages => some [s.freePageList.length]
  | .retirePendingCount => some [(s.having .handleState (· = 4)).length]
  | .repairedColumns => some ((List.range 4).map (fun q => (Config.repairedColumns q).toNat))
  | .bytes => some [s.rd .pageCount i * 65536]
  | .pageList => some (s.buf i).pages
  | .suspectCount => some [s.lampsIn 1 7]
  | .concealedCount => some [s.lampsIn 9 9 % 65536]
  | .overflowCount => some [s.lampsIn 10 10]
  | .planeDurations => some s.geo.durations
  | .effectiveDitherBits => some [s.geo.m]
  | .effectiveRefreshes => some [s.geo.r]
  | .timingState => some [s.timing]
  | .pendingCommits => some [s.hostPending]
  | .squashHorizon => some [ceilDiv s.horizon 4294967296 % 4294967296]
  | .ledgerEntry => some [s.ledgerWord]
  | .ledgerLive => some [(s.modl.lanes.map (fun (p : Nat × LaneLed) => p.2.ents.length)).foldl max 0]
  | .readbackFits => some [if s.geo.readbackFits then 1 else 0]
  | .activeSlot => some [s.secure.running]
  | .openSessions => some [((List.range 255).filter (fun n => (s.session n).isOpen)).length]
  | .stagedBytes => some [s.stagedTotal]
  | .sessionTable => some ((List.range 257).map s.sessionRecord)
  | .eventCount => some [s.mgmt.events.length]
  | .coalesceCounts => some ((List.range 64).map (fun k => (SMap.get s.aon.coal k {}).count))
  | .openTransfers => some [(s.openXfers.map (fun t => 2 ^ t)).sum]
  | .blackBoxRecord => some (byteVal (s.boxSlot (s.rd .blackBoxSelect 0)))
  | .settingsSequence => some [s.areaSeq 1]
  | .calibrationSequence => some [s.areaSeq 2]
  | .archiveSequence => some [s.areaSeq 4]
  | .antiRollbackCounter => some [s.secure.fuses]
  | .vendorKeyRevoked => some [Config.keyRevoked.toNat]
  | .slotInfo => some [s.slotRecord 0, s.slotRecord 1]
  | .bootControl => some (byteVal ((s.ownerBytes.drop 65).take 3))
  | .ownerKeyId => some (byteVal (if s.claimed then keyId (s.ownerBytes.take 64) else List.replicate 8 0))
  | .domainState => some (allDomains.map (fun d => domCode (s.domain d).st))
  | _ => none

/-- R280: what a plain READ shows of a register: the committed value. -/
def State.shownValue (s : State) (e : Ent) (i : Nat) (staged : Bool) : Val :=
  if staged then s.withStaged e i
  else if e.info.cls = .refresh ∨ e.info.cls = .frame then s.committed e i
  else s.rdv e i

/-- R283: a READ of a register. -/
def State.registerReply (s : State) (e : Ent) (i off : Nat) (staged : Bool) : Status × Reply :=
  let b := e.info.encode (s.shownValue e i staged)
  if b.length ≤ off then (.range, {})
  else (.ok, { body := (b.drop off).take 4076, type := e.info.ty.code, total := b.length
               revision := SMap.get s.revs (key e i) 0 })

/-- R283: a READ of bytes that the device makes; `s` has consumed what the read consumes. -/
def State.madeReply (s t : State) (e : Ent) (i : Nat) (b : Bytes) (off : Nat) : State × Ans :=
  if b.length ≤ off then (s, ans .range)
  else
    let r := t.readReply e i b off
    (r.1, .now r.2)

/-- R283: the Revision of a value that the device makes at a READ, where the model counts its changes. -/
def State.madeRevision (s : State) (e : Ent) (i : Nat) : Option Nat :=
  match e with
  | .openSessions => some s.mgmt.made.sessions
  | .stagedBytes => some s.mgmt.made.staged
  | .eventCount => some s.mgmt.made.events
  | .freePages => some s.mgmt.made.pages
  | .bytes => some (SMap.get s.revs (key .pageCount i) 0)
  | .pageList => some (SMap.get s.revs (key .pageCount i) 0)
  | .queueDepth => some (SMap.get s.revs (key e i) 0)
  | .captureCount => some (SMap.get s.revs (key e i) 0)
  | .openCount => some (SMap.get s.revs (key e i) 0)
  | .boundCount => some (SMap.get s.revs (key e i) 0)
  | .parkedCount => some (SMap.get s.revs (key e i) 0)
  | .retirePendingCount => some (SMap.get s.revs (key e i) 0)
  | .pendingCommits => some (SMap.get s.revs (key e i) 0)
  | .domainState => some (SMap.get s.revs (key e i) 0)
  | .openTransfers => some ((List.range 16).map (fun t => SMap.get s.revs (key .transferState t) 0)).sum
  | _ => none

/-- R283: the reply to a READ of such a value. -/
def countedReply (e : Ent) (b : Bytes) (n off : Nat) : Ans :=
  if b.length ≤ off then ans .range
  else .now { body := (b.drop off).take 4076, type := e.info.ty.code, total := b.length, revision := n % 4294967296 }

/-- R293: EventPop. -/
def eventPopBody (off : Nat) (s : State) : State × Ans :=
  match s.mgmt.events with
  | [] => (s, ans .state)
  | r :: l =>
    if 48 ≤ off then (s, ans .range)
    else
      let t := s.readReply .eventPop 0 r.bytes off
      (State.summarise 256 { t.1 with mgmt := t.1.mgmt.withEvents l }, .now t.2)

/-- R338: AttestReport. -/
def attestBody (n off : Nat) (s : State) : State × Ans :=
  match (s.session n).attest with
  | none => (s, ans .state)
  | some a => match a.report with | none => (s, ans .busy) | some b => s.madeReply s .attestReport 0 b off

/-- R300: SavedState. -/
def savedStateBody (j off : Nat) (s : State) : State × Ans :=
  match s.savedState j with
  | none => (s, ans .state)
  | some b => (s, countedReply .savedState b (SMap.get s.revs (key .savedState j) 0) off)

/-- R278, R283: a READ of an entry that may be read. -/
def readEntry (env : Env) (e : Ent) (i off : Nat) (staged : Bool) (s : State) : State × Ans :=
  if e.info.acc = .ro ∧ !s.served e i then (s, ans .state)
  else
    match e with
    | .eventPop => eventPopBody off s
    | .capturePop => if 28 ≤ off then (s, ans .range) else capturePopBody i off s
    | .authChallenge => if 32 ≤ off then (s, ans .range) else authChallengeBody env off s
    | .attestReport => attestBody (sessionOf env) off s
    | .savedState =>
      if staged && (SMap.find s.mgmt.staged (key .savedState i)).isSome then
        let r := s.registerReply .savedState i off true
        (s, if r.1 = .ok then .now r.2 else ans r.1)
      else savedStateBody i off s
    | e =>
      match s.derived e i with
      | some v =>
        if e = .blackBoxRecord then
          s.madeReply (s.mramScan (boxBase + 64 * s.rd .blackBoxSelect 0) 64) e i (e.info.encode v) off
        else match s.madeRevision e i with
        | some n => (s, countedReply e (e.info.encode v) n off)
        | none => s.madeReply s e i (e.info.encode v) off
      | none =>
        let r := s.registerReply e i off staged
        (s, if r.1 = .ok then .now r.2 else ans r.1)

/-- R265: a READ of subindex 0x00: the highest subindex in use, a U8 constant. -/
def subCountReply (index off : Nat) : Ans :=
  if 1 ≤ off then ans .range
  else .now { body := leBytes 1 (Ent.highestSub index), type := Ty.u8.code, total := 1 }

/-- R265, R270, R278, R283: READ. -/
def readBody (env : Env) (m : EntryMsg) (s : State) : State × Ans :=
  let index := m.index.toNat
  let sub := m.sub.toNat
  if 0xF000 ≤ index then (s, ans .auth)
  else
    match Ent.find index sub with
    | none =>
      if !Ent.indexUsed index then (s, ans .noObject)
      else if sub ≠ 0 then (s, ans .noSub)
      else if m.body ≠ [] then (s, ans .type)
      else (s, subCountReply index m.offset)
    | some (e, i) =>
      if e.info.acc = .wo then (s, ans .access)
      else if m.body ≠ [] then (s, ans .type)
      else readEntry env e i m.offset m.stagedView s

/-- Table 12.4: the Flags of a request that names an entry. -/
def EntryMsg.flags (m : Sys2Proof.EntryMsg) : Nat :=
  (if m.segFirst then 2 else 0) + (if m.segLast then 4 else 0) + (if m.stagedView then 8 else 0)

/-- A request whose message names an entry (Table 12.4). -/
def msgReq (env : Env) (opcode : Nat) (m : EntryMsg) : Req :=
  { env := env, opcode := opcode, index := m.index.toNat, sub := m.sub.toNat, offset := m.offset
    flags := EntryMsg.flags m, total := m.total, body := m.body }

/-- Table 12.4: the message of a request that names an entry. -/
def Req.msg (q : Req) : EntryMsg :=
  { index := BitVec.ofNat 16 q.index, sub := BitVec.ofNat 8 q.sub, offset := q.offset, total := q.total
    segFirst := q.flags.testBit 1, segLast := q.flags.testBit 2, stagedView := q.flags.testBit 3, body := q.body }

/-- R270, R331: an authorised session names the restricted range, whose content the manual does not give. -/
def restrictedFor (s : State) (env : Env) (index : Nat) : Bool := decide (0xF000 ≤ index) && s.authorised env

/-- R270, R331: a request that is executed at once names the restricted range. -/
def State.restricted (s : State) (env : Env) (isRead : Bool) (m : EntryMsg) : Bool :=
  restrictedFor s env m.index.toNat && s.coreFree && s.judge env false isRead = .run

/-- READ (R283). -/
def execRead (e : Env) (m : EntryMsg) (s : State) : Host.Outcome State Fault Refusal :=
  if s.restricted e true m then .refused .restrictedDiagnostics
  else .next (s.request (msgReq e 0x10 m) false true (readBody e m))

/-- EVENT_POP (R293). -/
def execEventPop (e : Env) (s : State) : Host.Outcome State Fault Refusal :=
  .next (s.request (reqOf e 0x10 .eventPop 0) false true (eventPopBody 0))

end Sys2Proof.Machine
end

