-- ==== Sys2Proof/Machine/Dict.lean ====
section
/-! DEFINITION. The object dictionary's requests: writes, staging, segments, commits, sessions, STORE and RESTORE, the SPI
port and the host reset (R265 to R291). -/

namespace Sys2Proof.Machine

/-- R267, R278, R279: a whole value written: applied, or staged. -/
def State.writeWhole (s : State) (env : Env) (e : Ent) (i : Nat) (staged : Bool) (b : Bytes) : State × Ans :=
  if e.info.ty.scalar ∧ b.length ≠ e.info.elt then (s, ans .type)
  else if e.info.acc = .wo && !s.served e i then s.refused env e .state
  else if staged then
    let r := s.stageWrite env e i (e.info.decode b)
    (r.1, ans r.2)
  else writeEff env e i (e.info.decode b) s

/-- R282: the message is a segment of a transfer. -/
def EntryMsg.isSegment (m : Sys2Proof.EntryMsg) : Bool := m.segFirst || m.segLast || m.total ≠ 0 || m.offset ≠ 0

/-- R282: SEG_LAST stands on the segment that completes a value, and on no other. -/
def EntryMsg.lastOk (m : Sys2Proof.EntryMsg) : Bool :=
  decide (m.offset + m.body.length ≤ m.total) && (m.segLast == decide (m.offset + m.body.length = m.total))

/-- R282: a request refused with E_SEGMENT discards the open transfer. -/
def State.badSegment (s : State) (n : Nat) : State × Ans := (s.dropSegment n 0, ans .segment)

/-- R282, R331: the same for a segment of an entry. -/
def State.badSegmentOf (s : State) (env : Env) (e : Ent) : State × Ans :=
  (s.dropSegment (sessionOf env) 0).refused env e .segment

/-- R282: the first segment of a transfer. -/
def State.firstSegment (s : State) (env : Env) (e : Ent) (i : Nat) (opStaged staged : Bool) (m : EntryMsg) : State × Ans :=
  let n := sessionOf env
  if m.offset ≠ 0 ∨ m.total = 0 ∨ 524288 < m.total ∨ !EntryMsg.lastOk m then s.badSegmentOf env e
  else if m.segLast then s.writeWhole env e i staged m.body
  else
    (s.setSession n { s.session n with seg := some {
      staged := opStaged, index := m.index.toNat, sub := m.sub.toNat, total := m.total, data := m.body, since := s.aon.mono } },
      ans .ok)

/-- R282: a further segment of an open transfer. -/
def State.nextSegment (s : State) (env : Env) (e : Ent) (i : Nat) (opStaged staged : Bool) (m : EntryMsg) (g : SegXfer) :
    State × Ans :=
  let n := sessionOf env
  if opStaged ≠ g.staged ∨ m.index.toNat ≠ g.index ∨ m.sub.toNat ≠ g.sub ∨ m.total ≠ g.total ∨ m.offset ≠ g.data.length
      ∨ !EntryMsg.lastOk m then s.badSegmentOf env e
  else if m.segLast then
    (s.setSession n { s.session n with seg := none }).writeWhole env e i staged (g.data ++ m.body)
  else
    (s.setSession n { s.session n with seg := some { g with data := g.data ++ m.body, since := s.aon.mono } }, ans .ok)

/-- R278, R282: a WRITE or WRITE_STAGED of an entry, whole or as a segment. -/
def State.writeSegments (s : State) (env : Env) (e : Ent) (i : Nat) (opStaged : Bool) (m : EntryMsg) : State × Ans :=
  let n := sessionOf env
  let staged := opStaged || e.info.cls = .refresh || e.info.cls = .frame
  if !EntryMsg.isSegment m ∧ e.info.ty.scalar ∧ m.body.length ≠ e.info.elt then (s, ans .type)
  else if staged && s.stagingHeld n then s.refused env e .busy
  else
    match (s.session n).seg with
    | none =>
      if !EntryMsg.isSegment m then s.writeWhole env e i staged m.body
      else if m.segFirst then s.firstSegment env e i opStaged staged m
      else s.badSegmentOf env e
    | some g => if !EntryMsg.isSegment m ∨ m.segFirst then s.badSegmentOf env e else s.nextSegment env e i opStaged staged m g

/-- R265, R270, R278: a WRITE or WRITE_STAGED. -/
def writeBodyOf (env : Env) (opStaged : Bool) (m : EntryMsg) (s : State) : State × Ans :=
  let index := m.index.toNat
  if 0xF000 ≤ index then (s, ans .auth)
  else
    match Ent.find index m.sub.toNat with
    | none =>
      (s, ans (if !Ent.indexUsed index then .noObject else if m.sub.toNat ≠ 0 then .noSub else .access))
    | some (e, i) =>
      if e.guarded && !s.authorised env then (s, ans .auth)
      else if e.info.acc = .ro ∨ e.info.acc = .const then (s, ans .access)
      else s.writeSegments env e i opStaged m

/-- R291, R384: a host reset happens once its reply has left the port. -/
def State.resetIfDue (s : State) : State :=
  if s.mgmt.resetDue && !s.repliesWait then (s.trigger 6).sourceOf 6 0xFF 0 else s

/-- R69, R285, R291, R315: what follows a request that `s` made of `before`: the address goes, the first STORE begins, the
write path goes on, and a reset that is due happens. -/
def State.settled (s before : State) : State :=
  let s := s.unassignIfDue
  let s := if before.secure.stores = [] ∧ s.secure.stores ≠ [] then State.storeRun 300 s else s
  (State.nvmKick 300 s).resetIfDue

/-- A WRITE or WRITE_STAGED. -/
def State.writeMsg (s : State) (e : Env) (opStaged : Bool) (m : EntryMsg) : State :=
  (s.request (msgReq e (if opStaged then 0x12 else 0x11) m) false false (writeBodyOf e opStaged m)).settled s

/-- WRITE (R279). -/
def execWrite (e : Env) (m : EntryMsg) (s : State) : Host.Outcome State Fault Refusal :=
  if s.restricted e false m then .refused .restrictedDiagnostics else .next (s.writeMsg e false m)

/-- WRITE_STAGED (R280). -/
def execWriteStaged (e : Env) (m : EntryMsg) (s : State) : Host.Outcome State Fault Refusal :=
  if s.restricted e false m then .refused .restrictedDiagnostics else .next (s.writeMsg e true m)

/-- SAVED_STATE_WRITE (R300): a WRITE, as a rule in segments, of a job's SavedState. -/
def execSavedStateWrite (e : Env) (job : Fin 4) (m : EntryMsg) (s : State) : Host.Outcome State Fault Refusal :=
  let a := Ent.savedState.address job.val
  .next (s.writeMsg e false { m with index := BitVec.ofNat 16 a.1, sub := BitVec.ofNat 8 a.2 })

/-- HOST_RESET (R291). -/
def execHostReset (e : Env) (v : Bytes) (s : State) : Host.Outcome State Fault Refusal :=
  .next ((s.writeCmd e .reset 0 v resetEff).settled s)

/-- EGRESS_TRANSMIT (R72): a packet leaves; a reset that waited for it happens (R291). -/
def execEgressTransmit (port : Fin 4) (s : State) : Host.Outcome State Fault Refusal :=
  .next (egressTransmitEff port.val s).resetIfDue

/-- A request that names no entry (Table 12.5). -/
def plainReq (e : Env) (opcode : Nat) (body : Bytes) : Req :=
  { env := e, opcode := opcode, index := 0, sub := 0, offset := 0, body := body }

/-- R279: the envelope under which a commit's IMMEDIATE values act: that of its session, with a Sequence that no request
waiting for an answer has, since the COMMIT alone is answered. -/
def quietEnv (env : Env) : Env := { env with seq := env.seq + 0x8000 }

/-- R279, R284: the staged values of IMMEDIATE entries, and calibration values (R378), take effect as the commit is
accepted; the refusal that one of them meets, with its entry. -/
def State.runStaged (s : State) (env : Env) (l : List (Nat × Val)) : State × Option (Ent × Status) :=
  l.foldl (fun (a : State × Option (Ent × Status)) p =>
    if a.2.isSome || keyClass p.1 = .refresh || keyClass p.1 = .frame then a
    else
      match entOfKey p.1 with
      | none => a
      | some e => let r := writeEff (quietEnv env) e (p.1 % 65536) p.2 a.1; (r.1, r.2.refusal.map (e, ·))) (s, none)

/-- R221, R224, R225, R279, R281, R284: COMMIT. The configuration is checked as it would hold with the IMMEDIATE values in
force; staged launch entries are accepted with it and take the higher generations; a refusal leaves everything as it was. -/
def commitBody (env : Env) (body : Bytes) (s : State) : State × Ans :=
  let n := sessionOf env
  if body.length ≠ 8 then (s, ans .type)
  else if s.stagingHeld n then (s, ans .busy)
  else if (s.session n).seg.isSome then s.badSegment n
  else if s.rd .stagingOwner 0 ≠ n then (s, ans .state)
  else if 16 ≤ s.hostPending then (s, ans .busy)
  else
    let push := fun (p : Nat × Val) => entOfKey p.1 = some .launchPush
    let r := s.runStaged env (s.mgmt.staged.filter (fun p => !push p))
    match r.2 with
    | some x => s.refused env x.1 x.2
    | none =>
      match r.1.hostCommit (leNat body) with
      | (_, some (p, late)) =>
        let q := (r.1.acceptHost p late).runStaged env (s.mgmt.staged.filter push)
        match q.2 with
        | some x => s.refused env x.1 x.2
        | none => (q.1.releaseStaging n, .now { body := leBytes 8 p.e ++ leBytes 4 p.gen })
      | (st, none) => (s, ans st)

/-- COMMIT (R225). -/
def execCommit (e : Env) (body : Bytes) (s : State) : Host.Outcome State Fault Refusal :=
  .next ((s.request (plainReq e 0x13 body) false false (commitBody e body)).settled s)

/-- R281, R282: DISCARD. -/
def discardBody (env : Env) (body : Bytes) (s : State) : State × Ans :=
  let n := sessionOf env
  if body ≠ [] then (s, ans .type)
  else if (s.session n).seg.isSome then s.badSegment n
  else (s.releaseStaging n, ans .ok)

/-- DISCARD (R281). -/
def execDiscard (e : Env) (body : Bytes) (s : State) : Host.Outcome State Fault Refusal :=
  .next (s.request (plainReq e 0x14 body) false false (discardBody e body))

/-- R274, R276: a session's staged writes and open transfer are discarded. -/
def State.emptySession (s : State) (n : Nat) : State :=
  (s.releaseStaging n).setSession n { s.session n with seg := none }

/-- R283: OpenSessions changes. -/
def Mgmt.sessionsChange (m : Mgmt) : Mgmt := { m with made := { m.made with sessions := m.made.sessions + 1 } }

/-- R274, R276: OPEN. The group session and the local one are always open. -/
def openBody (env : Env) (body : Bytes) (s : State) : State × Ans :=
  let n := sessionOf env
  let t := leNat body
  if body.length ≠ 4 then (s, ans .type)
  else if t ≠ 0 ∧ (t < 1000 ∨ 600000 < t) then (s, ans .range)
  else
    let was := (s.session n).isOpen
    let s := s.emptySession n
    if 255 ≤ n then (s, ans .ok)
    else
      let s := s.setSession n {
        isOpen := true, partner := env.source.toNat, lastSeq := env.seq.toNat, lastAt := s.aon.mono
        link := if env.mode = .linkLocal then (match env.via with | .izsor p => some p.val | .spi => none) else none
        timeout := if t = 0 then s.rd .sessionTimeout 0 else t }
      let s := if was then s else { s with mgmt := s.mgmt.sessionsChange }
      (if was then s else s.raise .sessionOpened [n, env.source.toNat], ans .ok)

/-- OPEN (R274). -/
def execOpenSession (e : Env) (body : Bytes) (s : State) : Host.Outcome State Fault Refusal :=
  .next (s.request (plainReq e 0x01 body) true false (openBody e body))

/-- R276, R308: a session closes. -/
def State.closeSession (s : State) (n : Nat) : State :=
  let s := s.emptySession n
  if 255 ≤ n then s
  else
    let s := if (s.session n).isOpen then { s with mgmt := s.mgmt.sessionsChange } else s
    ((s.closeXfers n).muteWaits (fun e => decide (sessionOf e = n))).setSession n {}

/-- R276: CLOSE. -/
def closeBody (env : Env) (body : Bytes) (s : State) : State × Ans :=
  if body ≠ [] then (s, ans .type) else (s.closeSession (sessionOf env), ans .ok)

/-- CLOSE (R276). -/
def execCloseSession (e : Env) (body : Bytes) (s : State) : Host.Outcome State Fault Refusal :=
  .next (s.request (plainReq e 0x02 body) false false (closeBody e body))

/-- SESSION_EXPIRY (R276). -/
def sessionExpiryEff (n : Nat) (s : State) : State :=
  let x := s.session n
  if 255 ≤ n ∨ !x.isOpen ∨ !s.on 9 then s
  else
    let s := (s.untilMono (x.lastAt + ms x.timeout)).closeSession n
    (s.count .sessionExpiries 0).raise .sessionExpired [n, x.partner]

/-- SESSION_EXPIRY (R276). -/
def execSessionExpiry (session : Fin 256) (s : State) : Host.Outcome State Fault Refusal :=
  .next (sessionExpiryEff session.val s)

/-- SEGMENT_TIMEOUT (R282): 100 ms without a segment. -/
def segmentTimeoutEff (n : Nat) (s : State) : State :=
  match (s.session n).seg with
  | none => s
  | some g => (s.untilMono (g.since + ms 100)).dropSegment n 1

/-- SEGMENT_TIMEOUT (R282). -/
def execSegmentTimeout (session : Fin 257) (s : State) : Host.Outcome State Fault Refusal :=
  .next (segmentTimeoutEff session.val s)

/-- R272: a STORE's refusal carries its body. -/
def storeRefusal (st : Status) (area : Nat) : Ans := .now { status := st, body := leBytes 1 0 ++ leBytes 1 area }

/-- The areas of a mask, in order (R285). -/
def areasOf (mask : Nat) : List Nat := [0, 1, 2].filter (fun a => mask.testBit a)

/-- R285, R318: STORE is accepted: its values are those committed now. -/
def storeBody (env : Env) (body : Bytes) (s : State) : State × Ans :=
  let m := leNat body
  if body.length ≠ 1 then (s, storeRefusal .type 0xFF)
  else if m = 0 ∨ 7 < m then (s, storeRefusal .range 0xFF)
  else if !s.on 10 then (s, storeRefusal .state ((areasOf m).headD 0))
  else
    let r : StoreRun := { env := env, areas := areasOf m, settings := s.settingsPayload, calib := s.calibPayload }
    ({ s with secure := { s.secure with stores := s.secure.stores ++ [r] } }, .later)

/-- STORE (R285): the STORE at the head begins at once. -/
def execStore (e : Env) (body : Bytes) (s : State) : Host.Outcome State Fault Refusal :=
  .next ((s.request (plainReq e 0x20 body) false false (storeBody e body)).settled s)

/-- R286: what refuses the staging of restored values: each is checked as WRITE_STAGED would, beside the other values of
its area (log 71). -/
def State.restoreRefusal (s : State) (env : Env) (l : List (Ent × Nat × Val)) : Option Status :=
  let t := s.forEach (l.filter (fun x => rangeOk x.1 x.2.2)) (fun s x => s.wrv x.1 x.2.1 x.2.2)
  l.findSome? (fun x =>
    if x.1.info.cls = .immediate then (writeEff env x.1 x.2.1 x.2.2 t).2.refusal else t.entryCheck x.1 x.2.1 x.2.2)

/-- R286: RESTORE of the settings or the calibration area: the value of every entry saved there is staged, or none. -/
def State.restoreArea (s : State) (env : Env) (area : Nat) : State × Ans :=
  let n := sessionOf env
  if s.stagingHeld n then (s, ans .busy)
  else if (s.inForce (area + 1)).isNone then (s, ans .check)
  else
    let s := s.mramScan (bankBase (area + 1) false) (2 * bankSize (area + 1))
    let l := (s.areaRecords (area + 1)).filterMap
      (recordTarget (if area = 0 then fun e => e.info.stored else fun e => calEnts.contains e))
    match s.restoreRefusal env l with
    | some st => (s, ans st)
    | none =>
      let t := s.setStaged (l.foldl (fun q x => restage (key x.1 x.2.1) x.2.2 q) s.mgmt.staged)
      if 524288 < t.stagedTotal then (s, ans .noSpace)
      else ((if l = [] then t else t.wr .stagingOwner 0 n), .now { body := leBytes 4 l.length })

/-- R286, R321: RESTORE of the table archive: it is decoded into the coefficient store. -/
def State.restoreArchive (s : State) (env : Env) : State × Ans :=
  if !(s.on 8 && s.storeOn 0) then (s, ans .state)
  else if s.slotUsed 7 then (s, ans .busy)
  else if (s.inForce 4).isNone then (s, ans .check)
  else
    (s.setArchive { load := true, since := s.aon.mono, base := bankBase 4 ((s.inForce 4).getD false), co := { op := 2 }
                    who := some { env := env, opcode := 0x21, index := 0, sub := 0 } }, .later)

/-- R286: RESTORE. -/
def restoreBody (env : Env) (body : Bytes) (s : State) : State × Ans :=
  let a := leNat body
  if body.length ≠ 1 then (s, ans .type)
  else if 2 < a then (s, ans .range)
  else if !s.on 10 then (s, ans .state)
  else if a = 2 then s.restoreArchive env else s.restoreArea env a

/-- RESTORE (R286). -/
def execRestore (e : Env) (body : Bytes) (s : State) : Host.Outcome State Fault Refusal :=
  .next ((s.request (plainReq e 0x21 body) false false (restoreBody e body)).settled s)

/-- R288: the message of a SEND transaction whose Length and check are good and which was clocked whole. -/
def sendMessage (b : Bytes) (early : Bool) : Option Bytes :=
  let n := field b 0 2
  if early ∨ n < 20 ∨ 4096 < n ∨ b.length < n + 4 ∨ field b (n + 2) 2 ≠ crc16 (b.take (n + 2)) then none
  else some ((b.drop 2).take n)

/-- The envelope of the local session (R289). -/
def spiEnv : Env := ⟨.spi, 0, .unicast, 0, 0⟩

/-- R288: the data output of the maintenance port floats while D9 is not ON. -/
def State.spiIdle (s : State) : State := { s with mgmt := { s.mgmt with spiOut := [] } }

/-- SPI_SEND (R288, R289): an accepted message waits for the core; another sets FAULT. -/
def spiSendEff (b : Bytes) (early : Bool) (s : State) : State :=
  if !s.on 9 then s.spiIdle
  else
    match sendMessage b early with
    | none => { s with mgmt := { s.mgmt with spiFault := true } }
    | some m => s.takeIn spiEnv m

/-- SPI_SEND (R288). -/
def execSpiSend (bytes : Bytes) (early : Bool) (s : State) : Host.Outcome State Fault Refusal :=
  .next (spiSendEff bytes early s)

/-- R288: what a FETCH clocks out: Length, the reply and its check. -/
def fetchBytes (r : Option Bytes) : Bytes :=
  let b := leBytes 2 (r.getD []).length ++ r.getD []
  b ++ leBytes 2 (crc16 b)

/-- SPI_FETCH (R288, R289): a reply that has been clocked whole is removed. -/
def spiFetchEff (clocked : Nat) (s : State) : State :=
  if !s.on 9 then s.spiIdle
  else
    let b := fetchBytes s.mgmt.spiReply
    let s := { s with mgmt := { s.mgmt with
      spiOut := b.take clocked, spiReply := if b.length ≤ clocked then none else s.mgmt.spiReply } }
    s.resetIfDue

/-- SPI_FETCH (R289). -/
def execSpiFetch (clocked : Nat) (s : State) : Host.Outcome State Fault Refusal := .next (spiFetchEff clocked s)

/-- R288: the STATUS byte. -/
def State.spiStatus (s : State) : Nat :=
  (if s.mgmt.spiReply.isSome then 1 else 0) + (if s.mgmt.spiBusy then 2 else 0) + (if s.mgmt.spiFault then 4 else 0)

/-- SPI_STATUS (R288). -/
def execSpiStatus (s : State) : Host.Outcome State Fault Refusal :=
  .next (if s.on 9 then { s with mgmt := { s.mgmt with spiOut := leBytes 1 s.spiStatus } } else s.spiIdle)

/-- R8, Table 12.4: a message of the maintenance port has a reserved flag set; those of an Izsor packet are ignored. -/
def Req.reserved (q : Req) : Bool := decide (sessionOf q.env = 256 ∧ 16 ≤ q.flags)

/-- R8: a WRITE or WRITE_STAGED; where nothing else refuses it, a reserved flag does. -/
def Req.write (q : Req) (staged : Bool) (s : State) : State × Ans :=
  let r := writeBodyOf q.env staged q.msg s
  if q.reserved && r.2.refusal.isNone then
    match Ent.find q.index q.sub with
    | some (e, _) => s.refused q.env e .range
    | none => (s, ans .range)
  else r

/-- R272, Table 12.5: what a request does, by its opcode; an unknown one is refused (R271). -/
def Req.act (q : Req) : State → State × Ans :=
  match q.opcode with
  | 0x01 => openBody q.env q.body
  | 0x02 => closeBody q.env q.body
  | 0x10 => readBody q.env q.msg
  | 0x11 => q.write false
  | 0x12 => q.write true
  | 0x13 => commitBody q.env q.body
  | 0x14 => discardBody q.env q.body
  | 0x20 => storeBody q.env q.body
  | 0x21 => restoreBody q.env q.body
  | 0x30 => domainUpBody q.env q.body
  | 0x31 => domainDownBody q.env q.body
  | _ => fun s => (s, ans .access)

/-- R277: the oldest item that waits for the core. -/
def coreItem (m : Msg) (rest : List Msg) (s : State) : Host.Outcome State Fault Refusal :=
  let q := Req.ofBytes m.env m.bytes
  let t := { s with mgmt := { s.mgmt with inbox := rest } }
  match m.sweep with
  | some ret => .next (t.meetSweep m ret)
  | none =>
    if (q.opcode = 0x10 ∨ q.opcode = 0x11 ∨ q.opcode = 0x12) && restrictedFor s q.env q.index then
      .refused .restrictedDiagnostics
    else .next ((t.execute q (q.opcode = 0x10) q.act).settled s)

/-- R77, R277: while no command waits, the core acts on a SWEEP whose requests are complete, or executes the oldest item that
waits for it, if nothing holds it. -/
def coreStep (s : State) : Host.Outcome State Fault Refusal :=
  if s.on 9 && s.mgmt.core.isNone then
    match s.freeSweep, s.mgmt.inbox with
    | some t, _ => .next t
    | none, [] => .next s
    | none, m :: rest => coreItem m rest s
  else .next s

end Sys2Proof.Machine
end

