-- ==== Sys2Proof/Machine/Dispatch.lean ====
section
/-! DEFINITION. One arm for each command: its meaning, or its rejection by name. -/

namespace Sys2Proof.Machine

/-- The effect of a command on everything but the queue. -/
def exec (i : Instr) (s : State) : Host.Outcome State Fault Refusal :=
  match i with
  | .portEnableWrite e port v => Sys2Proof.Machine.execPortEnableWrite e port v s
  | .detectPulse port terminated => Sys2Proof.Machine.execDetectPulse port terminated s
  | .rateStepStart port => Sys2Proof.Machine.execRateStepStart port s
  | .serdesPllLock port => Sys2Proof.Machine.execSerdesPllLock port s
  | .stateTimeLimit port => Sys2Proof.Machine.execStateTimeLimit port s
  | .trainIdleEnd port => Sys2Proof.Machine.execTrainIdleEnd port s
  | .blockReceived port lane blk => Sys2Proof.Machine.execBlockReceived port lane blk s
  | .alignReceived port lane payload arrival => Sys2Proof.Machine.execAlignReceived port lane payload arrival s
  | .orderedSetReceived port lane payload eye => Sys2Proof.Machine.execOrderedSetReceived port lane payload eye s
  | .linkDownIdleEnd port => Sys2Proof.Machine.execLinkDownIdleEnd port s
  | .retrain e port v => Sys2Proof.Machine.execRetrain e port v s
  | .packetReceived port bytes bad => Sys2Proof.Machine.execPacketReceived port bytes bad s
  | .egressTransmit port => Sys2Proof.Machine.execEgressTransmit port s
  | .berWindowEnd port lane => Sys2Proof.Machine.execBerWindowEnd port lane s
  | .bipSecondEnd => Sys2Proof.Machine.execBipSecondEnd s
  | .adaptWindowEnd port lane coef => Sys2Proof.Machine.execAdaptWindowEnd port lane coef s
  | .eyeBelowFloor port lane eye => Sys2Proof.Machine.execEyeBelowFloor port lane eye s
  | .sleepRequest e port v => Sys2Proof.Machine.execSleepRequest e port v s
  | .sleepReqReceived port => Sys2Proof.Machine.execSleepReqReceived port s
  | .sleepAckReceived port => Sys2Proof.Machine.execSleepAckReceived port s
  | .sleepNakReceived port => Sys2Proof.Machine.execSleepNakReceived port s
  | .sleepReqTimeout port => Sys2Proof.Machine.execSleepReqTimeout port s
  | .sleepEntryDone port => Sys2Proof.Machine.execSleepEntryDone port s
  | .wakeBeaconQualified port => Sys2Proof.Machine.execWakeBeaconQualified port s
  | .portResume port => Sys2Proof.Machine.execPortResume port s
  | .helloTimer => Sys2Proof.Machine.execHelloTimer s
  | .helloReceived port payload => Sys2Proof.Machine.execHelloReceived port payload s
  | .helloTimeout port => Sys2Proof.Machine.execHelloTimeout port s
  | .assignReceived port payload => Sys2Proof.Machine.execAssignReceived port payload s
  | .relayAssignReceived source payload => Sys2Proof.Machine.execRelayAssignReceived source payload s
  | .unassign e v => Sys2Proof.Machine.execUnassign e v s
  | .sweepReceived port payload => Sys2Proof.Machine.execSweepReceived port payload s
  | .sweepReturnReceived port payload => Sys2Proof.Machine.execSweepReturnReceived port payload s
  | .sweepReturnTime tagSource tagSequence => Sys2Proof.Machine.execSweepReturnTime tagSource tagSequence s
  | .bulkPacketReceived source channel seq payload => Sys2Proof.Machine.execBulkPacketReceived source channel seq payload s
  | .bulkAckTimer transfer => Sys2Proof.Machine.execBulkAckTimer transfer s
  | .bulkAckReceived source transfer payload => Sys2Proof.Machine.execBulkAckReceived source transfer payload s
  | .bulkSend transfer => Sys2Proof.Machine.execBulkSend transfer s
  | .syncSend => Sys2Proof.Machine.execSyncSend s
  | .syncReceived port payload rx => Sys2Proof.Machine.execSyncReceived port payload rx s
  | .delayExchangeTimer => Sys2Proof.Machine.execDelayExchangeTimer s
  | .delayReqReceived port seq payload rx => Sys2Proof.Machine.execDelayReqReceived port seq payload rx s
  | .delayRespReceived port payload rx => Sys2Proof.Machine.execDelayRespReceived port payload rx s
  | .delayRespTimeout => Sys2Proof.Machine.execDelayRespTimeout s
  | .syncLoss => Sys2Proof.Machine.execSyncLoss s
  | .holdoverLimit => Sys2Proof.Machine.execHoldoverLimit s
  | .slowWindowEnd period => Sys2Proof.Machine.execSlowWindowEnd period s
  | .sleepAccounting => Sys2Proof.Machine.execSleepAccounting s
  | .launchPush e view v => Sys2Proof.Machine.execLaunchPush e view v s
  | .launchFlush e view v => Sys2Proof.Machine.execLaunchFlush e view v s
  | .launchInstant view => Sys2Proof.Machine.execLaunchInstant view s
  | .synciEdge input falling stamp => Sys2Proof.Machine.execSynciEdge input falling stamp s
  | .capturePop e input => Sys2Proof.Machine.execCapturePop e input s
  | .syncoPulse output begins => Sys2Proof.Machine.execSyncoPulse output begins s
  | .videoUnit source channel seq payload => Sys2Proof.Machine.execVideoUnit source channel seq payload s
  | .contextFieldWrite e ctx field v => Sys2Proof.Machine.execContextFieldWrite e ctx field v s
  | .bindContext e ctx => Sys2Proof.Machine.execBindContext e ctx s
  | .park e ctx => Sys2Proof.Machine.execPark e ctx s
  | .release e ctx => Sys2Proof.Machine.execRelease e ctx s
  | .parkTimeout ctx => Sys2Proof.Machine.execParkTimeout ctx s
  | .evictTimeout ctx => Sys2Proof.Machine.execEvictTimeout ctx s
  | .allocate e handle => Sys2Proof.Machine.execAllocate e handle s
  | .free e handle => Sys2Proof.Machine.execFree e handle s
  | .storePlacementWrite e store v => Sys2Proof.Machine.execStorePlacementWrite e store v s
  | .captureArm e v => Sys2Proof.Machine.execCaptureArm e v s
  | .captureBoundary => Sys2Proof.Machine.execCaptureBoundary s
  | .captureDone => Sys2Proof.Machine.execCaptureDone s
  | .captureAbort e v => Sys2Proof.Machine.execCaptureAbort e v s
  | .primaryCountWrite e v => Sys2Proof.Machine.execPrimaryCountWrite e v s
  | .lrbFrame group bits => Sys2Proof.Machine.execLrbFrame group bits s
  | .defectVerdict => Sys2Proof.Machine.execDefectVerdict s
  | .burstCompute lane => Sys2Proof.Machine.execBurstCompute lane s
  | .burstComputed lane => Sys2Proof.Machine.execBurstComputed lane s
  | .launchLine lane => Sys2Proof.Machine.execLaunchLine lane s
  | .commitEffect => Sys2Proof.Machine.execCommitEffect s
  | .slateFrameEnd => Sys2Proof.Machine.execSlateFrameEnd s
  | .modulatorStart e => Sys2Proof.Machine.execModulatorStart e s
  | .modulatorStop e => Sys2Proof.Machine.execModulatorStop e s
  | .modulatorStartEffect => Sys2Proof.Machine.execModulatorStartEffect s
  | .modulatorStopEffect => Sys2Proof.Machine.execModulatorStopEffect s
  | .teEdge input => Sys2Proof.Machine.execTeEdge input s
  | .teTimeout input => Sys2Proof.Machine.execTeTimeout input s
  | .lanePllUnlock quadrant => Sys2Proof.Machine.execLanePllUnlock quadrant s
  | .lanePllRelock quadrant => Sys2Proof.Machine.execLanePllRelock quadrant s
  | .quadrantResume quadrant => Sys2Proof.Machine.execQuadrantResume quadrant s
  | .openSession e body => Sys2Proof.Machine.execOpenSession e body s
  | .closeSession e body => Sys2Proof.Machine.execCloseSession e body s
  | .read e m => Sys2Proof.Machine.execRead e m s
  | .write e m => Sys2Proof.Machine.execWrite e m s
  | .writeStaged e m => Sys2Proof.Machine.execWriteStaged e m s
  | .commit e body => Sys2Proof.Machine.execCommit e body s
  | .discard e body => Sys2Proof.Machine.execDiscard e body s
  | .store e body => Sys2Proof.Machine.execStore e body s
  | .restore e body => Sys2Proof.Machine.execRestore e body s
  | .domainUp e body => Sys2Proof.Machine.execDomainUp e body s
  | .domainDown e body => Sys2Proof.Machine.execDomainDown e body s
  | .sessionExpiry session => Sys2Proof.Machine.execSessionExpiry session s
  | .segmentTimeout session => Sys2Proof.Machine.execSegmentTimeout session s
  | .spiSend bytes early => Sys2Proof.Machine.execSpiSend bytes early s
  | .spiFetch clocked => Sys2Proof.Machine.execSpiFetch clocked s
  | .spiStatus => Sys2Proof.Machine.execSpiStatus s
  | .eventPop e => Sys2Proof.Machine.execEventPop e s
  | .hostReset e v => Sys2Proof.Machine.execHostReset e v s
  | .transferOpen e v => Sys2Proof.Machine.execTransferOpen e v s
  | .transferAbort e v => Sys2Proof.Machine.execTransferAbort e v s
  | .transferTimeout transfer => Sys2Proof.Machine.execTransferTimeout transfer s
  | .jobStart e job => Sys2Proof.Machine.execJobStart e job s
  | .jobResume e job => Sys2Proof.Machine.execJobResume e job s
  | .jobAbort e job => Sys2Proof.Machine.execJobAbort e job s
  | .savedStateWrite e job m => Sys2Proof.Machine.execSavedStateWrite e job m s
  | .shaleBlock slot => Sys2Proof.Machine.execShaleBlock slot s
  | .archiveAutoload => Sys2Proof.Machine.execArchiveAutoload s
  | .nvmLineDone => Sys2Proof.Machine.execNvmLineDone s
  | .nvmHoldLimit => Sys2Proof.Machine.execNvmHoldLimit s
  | .blackboxRecordWrite => Sys2Proof.Machine.execBlackboxRecordWrite s
  | .blackboxScanDone => Sys2Proof.Machine.execBlackboxScanDone s
  | .headRelease e v => Sys2Proof.Machine.execHeadRelease e v s
  | .blackboxClear e v => Sys2Proof.Machine.execBlackboxClear e v s
  | .ownerEnrol e v => Sys2Proof.Machine.execOwnerEnrol e v s
  | .authChallenge e => Sys2Proof.Machine.execAuthChallenge e s
  | .authoriseSession e v => Sys2Proof.Machine.execAuthoriseSession e v s
  | .replaceOwnerKey e v => Sys2Proof.Machine.execReplaceOwnerKey e v s
  | .removeOwnerKey e v => Sys2Proof.Machine.execRemoveOwnerKey e v s
  | .firmwareActivate e v => Sys2Proof.Machine.execFirmwareActivate e v s
  | .firmwareConfirm e v => Sys2Proof.Machine.execFirmwareConfirm e v s
  | .attestNonce e v => Sys2Proof.Machine.execAttestNonce e v s
  | .attestReportReady session => Sys2Proof.Machine.execAttestReportReady session s
  | .domainQuiesceDone domain => Sys2Proof.Machine.execDomainQuiesceDone domain s
  | .domainEntryWindowEnd domain => Sys2Proof.Machine.execDomainEntryWindowEnd domain s
  | .domainExitDone domain => Sys2Proof.Machine.execDomainExitDone domain s
  | .powerGoodTimeout domain => Sys2Proof.Machine.execPowerGoodTimeout domain s
  | .planEnter e v => Sys2Proof.Machine.execPlanEnter e v s
  | .planExecute => Sys2Proof.Machine.execPlanExecute s
  | .wakeBallEdge rising => Sys2Proof.Machine.execWakeBallEdge rising s
  | .spiCsWake => Sys2Proof.Machine.execSpiCsWake s
  | .alarmExpiry => Sys2Proof.Machine.execAlarmExpiry s
  | .wake => Sys2Proof.Machine.execWake s
  | .regulatorAck rail statusWord => Sys2Proof.Machine.execRegulatorAck rail statusWord s
  | .regulatorTimeout rail => Sys2Proof.Machine.execRegulatorTimeout rail s
  | .supplyWarning rail mv => Sys2Proof.Machine.execSupplyWarning rail mv s
  | .supplyDark => Sys2Proof.Machine.execSupplyDark s
  | .supplyRecover rail => Sys2Proof.Machine.execSupplyRecover rail s
  | .supplyReset rail mv => Sys2Proof.Machine.execSupplyReset rail mv s
  | .sensorConversion counts => Sys2Proof.Machine.execSensorConversion counts s
  | .slowRound ain => Sys2Proof.Machine.execSlowRound ain s
  | .calPhase1Step reading => Sys2Proof.Machine.execCalPhase1Step reading s
  | .calPhase2Measured lane trim => Sys2Proof.Machine.execCalPhase2Measured lane trim s
  | .calPhase2Apply => Sys2Proof.Machine.execCalPhase2Apply s
  | .calRepeat => Sys2Proof.Machine.execCalRepeat s
  | .powerOnReset => Sys2Proof.Machine.execPowerOnReset s
  | .crystalDetected => Sys2Proof.Machine.execCrystalDetected s
  | .resetRelease => Sys2Proof.Machine.execResetRelease s
  | .resetBall lowNs => Sys2Proof.Machine.execResetBall lowNs s
  | .watchdogExpiry => Sys2Proof.Machine.execWatchdogExpiry s
  | .bootRom => Sys2Proof.Machine.execBootRom s
  | .firmwareBoot => Sys2Proof.Machine.execFirmwareBoot s
  | .bootComplete => Sys2Proof.Machine.execBootComplete s
  | .autostart => Sys2Proof.Machine.execAutostart s
  | .jtagBypass tdi => Sys2Proof.Machine.execJtagBypass tdi s
  | .jtagIdcode tdi => Sys2Proof.Machine.execJtagIdcode tdi s
  | .jtagSamplePreload sample preload => Sys2Proof.Machine.execJtagSamplePreload sample preload s
  | .jtagExtest => Sys2Proof.Machine.execJtagExtest s
  | .jtagClamp => Sys2Proof.Machine.execJtagClamp s
  | .jtagHighz => Sys2Proof.Machine.execJtagHighz s
  | .testReset => Sys2Proof.Machine.execTestReset s
  | .crystalOscillationLost => Sys2Proof.Machine.execCrystalOscillationLost s
  | .refclkClockChange present => Sys2Proof.Machine.execRefclkClockChange present s
  | .lrbStartBitLate group => Sys2Proof.Machine.execLrbStartBitLate group s

end Sys2Proof.Machine
end

