-- ==== Sys2Proof/WellFormed.lean ====
section
/-! DEFINITION. Well-formed commands: their operands stay within the lengths and widths the manual gives them. The
machine itself judges whatever a message, packet or frame can spell; these bounds hold of what a channel can carry. -/

namespace Sys2Proof

/-- Table 12.4, R282: the body of a request is at most 4,076 bytes. -/
def Bytes.wfBody (b : Bytes) : Bool := b.length ≤ 4076

/-- Table 3.1: the payload of a packet that was delivered is at most 4,096 bytes. -/
def Bytes.wfPayload (b : Bytes) : Bool := b.length ≤ 4096

/-- Table 12.4: Offset and TotalLength are U32, and the body is a body. -/
def EntryMsg.wf (m : EntryMsg) : Bool := decide (m.offset < 4294967296) && decide (m.total < 4294967296) && m.body.wfBody

/-- R376: the ranges of the three trim codes. -/
def TrimSet.wf (t : TrimSet) : Bool :=
  decide (-40 ≤ t.deskew) && decide (t.deskew ≤ 40) && decide (t.swing ≤ 63) && decide (t.impedance ≤ 31)

/-- R364: one count of each of the 32 sensors. -/
def wfCounts (l : List Nat) : Bool := decide (l.length = 32)

/-- R371: 16 samples of the 16-bit converter for each of the 16 analog inputs and the seven internal senses. -/
def wfAnalog (l : List Nat) : Bool := decide (l.length = 368) && l.all (· < 65536)

/-- A command is well formed. -/
def WellFormed (i : Instr) : Bool :=
  match i with
  | .portEnableWrite _ _ v | .retrain _ _ v | .sleepRequest _ _ v | .unassign _ v | .launchPush _ _ v
  | .launchFlush _ _ v | .contextFieldWrite _ _ _ v | .storePlacementWrite _ _ v | .captureArm _ v
  | .captureAbort _ v | .primaryCountWrite _ v | .hostReset _ v | .transferOpen _ v | .transferAbort _ v
  | .headRelease _ v | .blackboxClear _ v | .ownerEnrol _ v | .authoriseSession _ v | .replaceOwnerKey _ v
  | .removeOwnerKey _ v | .firmwareActivate _ v | .firmwareConfirm _ v | .attestNonce _ v | .planEnter _ v
  | .openSession _ v | .closeSession _ v | .commit _ v | .discard _ v | .store _ v | .restore _ v
  | .domainUp _ v | .domainDown _ v => v.wfBody
  | .helloReceived _ p | .assignReceived _ p | .relayAssignReceived _ p | .sweepReceived _ p
  | .sweepReturnReceived _ p | .bulkPacketReceived _ _ _ p | .bulkAckReceived _ _ p | .syncReceived _ p _
  | .delayReqReceived _ _ p _ | .delayRespReceived _ p _ | .videoUnit _ _ _ p => p.wfPayload
  | .read _ m | .write _ m | .writeStaged _ m | .savedStateWrite _ _ m => m.wf
  | .sensorConversion counts => wfCounts counts
  | .slowRound ain => wfAnalog ain
  | .calPhase2Measured _ t => t.wf
  | .jtagSamplePreload a b => decide (a.length = 1473) && decide (b.length ≤ 1473)
  | .detectPulse _ _ | .rateStepStart _ | .serdesPllLock _ | .stateTimeLimit _ | .trainIdleEnd _
  | .blockReceived _ _ _ | .alignReceived _ _ _ _ | .orderedSetReceived _ _ _ _ | .linkDownIdleEnd _
  | .packetReceived _ _ _ | .egressTransmit _ | .berWindowEnd _ _ | .bipSecondEnd | .adaptWindowEnd _ _ _
  | .eyeBelowFloor _ _ _ | .sleepReqReceived _ | .sleepAckReceived _ | .sleepNakReceived _ | .sleepReqTimeout _
  | .sleepEntryDone _ | .wakeBeaconQualified _ | .portResume _ | .helloTimer | .helloTimeout _
  | .sweepReturnTime _ _ | .bulkAckTimer _ | .bulkSend _ | .syncSend | .delayExchangeTimer | .delayRespTimeout
  | .syncLoss | .holdoverLimit | .slowWindowEnd _ | .sleepAccounting | .launchInstant _ | .synciEdge _ _ _
  | .capturePop _ _ | .syncoPulse _ _ | .bindContext _ _ | .park _ _ | .release _ _ | .parkTimeout _
  | .evictTimeout _ | .allocate _ _ | .free _ _ | .captureBoundary | .captureDone | .lrbFrame _ _
  | .defectVerdict | .burstCompute _ | .burstComputed _ | .launchLine _ | .commitEffect | .slateFrameEnd
  | .modulatorStart _ | .modulatorStop _ | .modulatorStartEffect | .modulatorStopEffect | .teEdge _
  | .teTimeout _ | .lanePllUnlock _ | .lanePllRelock _ | .quadrantResume _ | .sessionExpiry _
  | .segmentTimeout _ | .spiSend _ _ | .spiFetch _ | .spiStatus | .eventPop _ | .transferTimeout _
  | .jobStart _ _ | .jobResume _ _ | .jobAbort _ _ | .shaleBlock _ | .archiveAutoload | .nvmLineDone
  | .nvmHoldLimit | .blackboxRecordWrite | .blackboxScanDone | .authChallenge _ | .attestReportReady _
  | .domainQuiesceDone _ | .domainEntryWindowEnd _ | .domainExitDone _ | .powerGoodTimeout _ | .planExecute
  | .wakeBallEdge _ | .spiCsWake | .alarmExpiry | .wake | .regulatorAck _ _ | .regulatorTimeout _
  | .supplyWarning _ _ | .supplyDark | .supplyRecover _ | .supplyReset _ _ | .calPhase1Step _
  | .calPhase2Apply | .calRepeat | .powerOnReset | .crystalDetected | .resetRelease | .resetBall _
  | .watchdogExpiry | .bootRom | .firmwareBoot | .bootComplete | .autostart | .jtagBypass _ | .jtagIdcode _
  | .jtagExtest | .jtagClamp | .jtagHighz | .testReset | .crystalOscillationLost | .refclkClockChange _
  | .lrbStartBitLate _ => true

end Sys2Proof
end

