-- ==== Sys2Proof/Safety.lean ====
section
/-! DEFINITION. What the claims are stated in: a request that its session lets run, the answer it gets, the
canonical form that every step keeps, and the counters that a reply may move. -/

namespace Sys2Proof.Machine

/-- R273, R277: the session lets a request run, and the core is free for it. -/
def State.runs (s : State) (e : Env) (isOpen isRead : Bool) : Prop :=
  s.judge e isOpen isRead = .run ∧ s.coreFree = true

/-- R273 to R278: the session lets a write run, the core is free (R277), and the write passes the checks that come before
the entry's own: authorisation, access, length, no open segment, the domain of a write-only entry ON. -/
def State.mayWrite (s : State) (e : Env) (x : Ent) (i : Nat) (v : Bytes) : Prop :=
  s.runs e false false ∧ s.preWrite e x v = none
    ∧ (x.info.acc = .wo → s.served x i = true)

/-- Nothing follows a request: no job waits in the write path, and no reset and no change of address is due. -/
def State.still (s : State) : Prop :=
  s.secure.ops = [] ∧ s.mgmt.resetDue = false ∧ s.mgmt.unassignDue = false

/-- Nothing follows a request, and no job of the write path is held at the temperature window (R315). -/
def State.atRest (s : State) : Prop :=
  s.still ∧ s.secure.held = none ∧ s.secure.heldBy = false

/-- R271, Table 12.5: the envelope of a request command, whether it is an OPEN, and whether it is a READ. -/
def requestOf : Instr → Option (Env × Bool × Bool)
  | .openSession e _ => some (e, true, false)
  | .capturePop e _ => some (e, false, true)
  | .read e _ => some (e, false, true)
  | .eventPop e => some (e, false, true)
  | .authChallenge e => some (e, false, true)
  | .portEnableWrite e _ _ => some (e, false, false)
  | .retrain e _ _ => some (e, false, false)
  | .sleepRequest e _ _ => some (e, false, false)
  | .unassign e _ => some (e, false, false)
  | .launchPush e _ _ => some (e, false, false)
  | .launchFlush e _ _ => some (e, false, false)
  | .contextFieldWrite e _ _ _ => some (e, false, false)
  | .bindContext e _ => some (e, false, false)
  | .park e _ => some (e, false, false)
  | .release e _ => some (e, false, false)
  | .allocate e _ => some (e, false, false)
  | .free e _ => some (e, false, false)
  | .storePlacementWrite e _ _ => some (e, false, false)
  | .captureArm e _ => some (e, false, false)
  | .captureAbort e _ => some (e, false, false)
  | .primaryCountWrite e _ => some (e, false, false)
  | .modulatorStart e => some (e, false, false)
  | .modulatorStop e => some (e, false, false)
  | .closeSession e _ => some (e, false, false)
  | .write e _ => some (e, false, false)
  | .writeStaged e _ => some (e, false, false)
  | .commit e _ => some (e, false, false)
  | .discard e _ => some (e, false, false)
  | .store e _ => some (e, false, false)
  | .restore e _ => some (e, false, false)
  | .domainUp e _ => some (e, false, false)
  | .domainDown e _ => some (e, false, false)
  | .hostReset e _ => some (e, false, false)
  | .transferOpen e _ => some (e, false, false)
  | .transferAbort e _ => some (e, false, false)
  | .jobStart e _ => some (e, false, false)
  | .jobResume e _ => some (e, false, false)
  | .jobAbort e _ => some (e, false, false)
  | .savedStateWrite e _ _ => some (e, false, false)
  | .headRelease e _ => some (e, false, false)
  | .blackboxClear e _ => some (e, false, false)
  | .ownerEnrol e _ => some (e, false, false)
  | .authoriseSession e _ => some (e, false, false)
  | .replaceOwnerKey e _ => some (e, false, false)
  | .removeOwnerKey e _ => some (e, false, false)
  | .firmwareActivate e _ => some (e, false, false)
  | .firmwareConfirm e _ => some (e, false, false)
  | .attestNonce e _ => some (e, false, false)
  | .planEnter e _ => some (e, false, false)
  | _ => none

/-- R271, R273: the reply to a request, which every session but the group session gives. -/
def State.answered (t : State) (e : Env) (st : Status) : Prop :=
  sessionOf e ≠ 255 → ∃ r, t.mgmt.rep = some r ∧ r.status = st

/-- Entries and memories are in their canonical form: equal contents are equal data. -/
def State.canonical (s : State) : Prop :=
  SMap.sorted s.regs = true ∧ SMap.sorted s.revs = true ∧ Memory.wf s.quarry = true ∧ Memory.wf s.secure.mram = true

/-- The counters that a reply may count in when its packet finds no room or no route (R71, R72). -/
def Ent.dropCounter (e : Ent) : Bool :=
  decide (e = .mgmtQueueDrops) || decide (e = .videoQueueDrops) || decide (e = .bulkQueueDrops)
    || decide (e = .noRouteDrops)

/-- The counters that a sent packet may count in: its egress queue has no room (R72). -/
def sendEnts : List Ent := [.mgmtQueueDrops, .videoQueueDrops, .bulkQueueDrops]

/-- What a reply over the network may count in (R71, R72). -/
def replyEnts : List Ent := sendEnts ++ [.noRouteDrops]

/-- What a request may count in beside its effect (R275, R276). -/
def requestEnts : List Ent := replyEnts ++ [.resendReplies, .sessionRefusals]

/-- What recording an event may count in (R293, R325). -/
def eventEnts : List Ent := [.eventsRaised, .eventsCoalesced, .blackBoxCoalesced]

/-- What a request that writes may change beside its effect: it discards an open segment, with its event (R282). -/
def writeEnts : List Ent := requestEnts ++ eventEnts ++ [.segmentFailures]

/-- What the failing of a job of the write path may change (R315, R317). -/
def lineEnts : List Ent := [.storeFailures, .nvmHolds, .transferState, .transferStatus]

/-- What a new choice of the upstream port may change (R66, R86). -/
def upstreamEnts : List Ent :=
  [.childPorts, .isUpstream, .lockLosses, .meanPathDelay, .rootAddress, .rootDistance, .routeTable, .timeState,
    .upstreamChanges, .upstreamPort]

/-- What a change of a handle's state changes (R155). -/
def handleEnts : List Ent := [.handleState, .lastStateChange, .frameTag, .retirePendingCount]

/-- What a change of a context's state changes (R108, R283). -/
def ctxStateEnts : List Ent := [.ctxState, .openCount, .boundCount, .parkedCount]

/-- What the end of a plan changes (R347). -/
def planEnts : List Ent := [.planOutcome, .superseded]

/-- The entries of one port. -/
def portEnts : List Ent :=
  [.portEnable, .portState, .trainFailures, .rateFallbacks, .linkDowns, .badPackets, .sleepNaks, .lineRate, .rxLatency,
    .farCapability]

/-- The entries of one lane of a port. -/
def laneEnts : List Ent :=
  [.invalidHeaders, .blockLockLosses, .bipErrors, .adaptReverts, .eyeMargin, .skew, .snapshotValid]

/-- The entries of one job. -/
def jobEnts : List Ent := [.chainUsed, .inputDone, .jobState, .jobStatus, .outputDone]

/-- R319: what a boot's loading of the settings may set. -/
def savedEnts : List Ent := Ent.all.filter (fun x => x.info.stored)

/-- The entries that a command may change, of any instance; none where it may change every entry: a general write or a
commit, a reset. -/
def frameEnts : Instr → Option (List Ent)
  | .portEnableWrite _ _ _ => some (upstreamEnts ++ writeEnts ++ [.badPackets, .lineRate, .linkDowns, .portEnable,
      .portState, .rxLatency])
  | .detectPulse _ _ => some ([])
  | .rateStepStart _ => some (eventEnts ++ [.portState, .rateFallbacks, .trainFailures])
  | .serdesPllLock _ => some ([.portState])
  | .stateTimeLimit _ => some (eventEnts ++ [.rateFallbacks])
  | .trainIdleEnd _ => some ([.portState])
  | .blockReceived _ _ _ => some (upstreamEnts ++ eventEnts ++ replyEnts ++ [.badPackets, .blockLockLosses,
      .invalidHeaders, .lineRate, .linkDowns, .portState, .rxLatency])
  | .alignReceived _ _ _ _ => some (eventEnts ++ replyEnts ++ [.bipErrors, .farCapability, .lineRate, .portState,
      .rxLatency, .skew])
  | .orderedSetReceived _ _ _ _ => some (eventEnts ++ replyEnts ++ [.eyeMargin, .farCapability, .lineRate,
      .portState, .rxLatency])
  | .linkDownIdleEnd _ => some (replyEnts ++ [.badPackets, .portState])
  | .retrain _ _ _ => some (upstreamEnts ++ writeEnts ++ [.badPackets, .lineRate, .linkDowns, .portState, .rxLatency])
  | .packetReceived _ _ _ => some (requestEnts ++ [.badPackets, .deliveryDrops, .headerCheckErrors, .hopLimitDrops,
      .packetCheckErrors, .routeTable, .timeMessageErrors])
  | .egressTransmit _ => some ([])
  | .berWindowEnd _ _ => some ([])
  | .bipSecondEnd => some (eventEnts)
  | .adaptWindowEnd _ _ _ => some ([.snapshotValid])
  | .eyeBelowFloor _ _ _ => some (eventEnts ++ [.adaptReverts, .eyeMargin])
  | .sleepRequest _ _ _ => some (writeEnts)
  | .sleepReqReceived _ => some (upstreamEnts ++ eventEnts ++ replyEnts ++ [.lineRate, .portState, .rxLatency,
      .sleepNaks])
  | .sleepAckReceived _ => some (upstreamEnts ++ eventEnts ++ replyEnts ++ [.lineRate, .portState, .rxLatency])
  | .sleepNakReceived _ => some (replyEnts)
  | .sleepReqTimeout _ => some (upstreamEnts ++ eventEnts ++ replyEnts ++ [.badPackets, .lineRate, .portState,
      .rxLatency])
  | .sleepEntryDone _ => some (eventEnts ++ replyEnts ++ [.badPackets, .portState])
  | .wakeBeaconQualified _ => some ([])
  | .portResume _ => some (eventEnts ++ [.portState])
  | .helloTimer => some (sendEnts)
  | .helloReceived _ _ => some (upstreamEnts ++ eventEnts ++ replyEnts ++ [.headerCheckErrors])
  | .helloTimeout _ => some (eventEnts ++ replyEnts ++ [.isUpstream, .lockLosses, .meanPathDelay, .rootAddress,
      .rootDistance, .routeTable, .timeState, .upstreamChanges, .upstreamPort])
  | .assignReceived _ _ => some (eventEnts ++ replyEnts ++ [.assignRefusals, .assigner, .deviceAddress,
      .headerCheckErrors, .isUpstream, .lockLosses, .meanPathDelay, .rootAddress, .rootDistance, .routeTable,
      .timeState, .upstreamChanges, .upstreamPort])
  | .relayAssignReceived _ _ => some (replyEnts ++ [.headerCheckErrors])
  | .unassign _ _ => some (writeEnts ++ [.deviceAddress, .isUpstream, .lockLosses, .meanPathDelay, .rootAddress,
      .rootDistance, .routeTable, .timeState, .upstreamChanges, .upstreamPort])
  | .sweepReceived _ _ => some (sendEnts ++ [.headerCheckErrors, .hopLimitDrops, .lateSweepReturns])
  | .sweepReturnReceived _ _ => some (sendEnts ++ [.headerCheckErrors, .lateSweepReturns])
  | .sweepReturnTime _ _ => some (sendEnts)
  | .bulkPacketReceived _ _ _ _ => some (lineEnts ++ eventEnts ++ replyEnts ++ [.bankConflictStalls, .bytesDone,
      .decodeErrors, .failedSection, .sameWordConflicts, .stagingOwner])
  | .bulkAckTimer _ => some (replyEnts)
  | .bulkAckReceived _ _ _ => some (eventEnts ++ [.bytesDone, .transferState, .transferStatus])
  | .bulkSend _ => some (eventEnts ++ replyEnts ++ [.bankConflictStalls, .nvmCorrected, .sameWordConflicts,
      .transferState, .transferStatus])
  | .syncSend => some (sendEnts)
  | .syncReceived _ _ _ => some (eventEnts ++ [.calendarValid, .increment, .lastOffset, .lockLosses, .steps,
      .taiUtcOffset, .timeMessageErrors, .timeState])
  | .delayExchangeTimer => some (sendEnts)
  | .delayReqReceived _ _ _ _ => some (sendEnts ++ [.timeMessageErrors])
  | .delayRespReceived _ _ _ => some ([.meanPathDelay, .timeMessageErrors])
  | .delayRespTimeout => some ([])
  | .syncLoss => some (eventEnts ++ [.lockLosses, .timeState])
  | .holdoverLimit => some (eventEnts ++ [.timeState])
  | .slowWindowEnd _ => some ([.slowPeriod])
  | .sleepAccounting => some (eventEnts ++ [.lockLosses, .sleepTicks, .timeState])
  | .launchPush _ _ _ => some (handleEnts ++ writeEnts ++ [.generation, .launchMisses, .pageCount, .queueDepth,
      .squashedEntries])
  | .launchFlush _ _ _ => some (writeEnts ++ [.launchFlushes, .queueDepth])
  | .launchInstant _ => some (handleEnts ++ eventEnts ++ [.lastLaunch, .launchMisses, .pageCount, .queueDepth])
  | .synciEdge _ _ _ => some (eventEnts ++ [.captureCount, .captureOverflows])
  | .capturePop _ _ => some (requestEnts ++ [.captureCount])
  | .syncoPulse _ _ => some ([])
  | .videoUnit _ _ _ _ => some (ctxStateEnts ++ handleEnts ++ eventEnts ++ [.assemblingFrame, .bankConflictStalls,
      .discards, .duplicateUnits, .flags, .foreignDrops, .formatDrops, .framesCompleted, .framesIncomplete,
      .generation, .lastUnitTime, .lastWriter, .launchMisses, .launchRefusals, .newestFrame, .noBufferDrops,
      .owner, .pageCount, .queueDepth, .sameWordConflicts, .sequenceGaps, .squashedEntries, .staleUnits,
      .unadmittedDrops, .unitsReceived])
  | .contextFieldWrite _ _ f _ => some (writeEnts ++ [fieldEnt f] ++ [.frameBytes, .unitCount])
  | .bindContext _ _ => some (ctxStateEnts ++ handleEnts ++ writeEnts ++ ctxRecordEnts ++ [.framesIncomplete])
  | .park _ _ => some (ctxStateEnts ++ handleEnts ++ writeEnts ++ ctxRecordEnts ++ [.framesIncomplete])
  | .release _ _ => some (ctxStateEnts ++ handleEnts ++ writeEnts ++ ctxRecordEnts ++ [.framesIncomplete])
  | .parkTimeout _ => some (ctxStateEnts ++ handleEnts ++ eventEnts ++ [.framesIncomplete])
  | .evictTimeout _ => some (ctxStateEnts ++ handleEnts ++ eventEnts ++ ctxRecordEnts ++ [.framesIncomplete])
  | .allocate _ _ => some (handleEnts ++ writeEnts ++ [.earlyFrees, .pageCount])
  | .free _ _ => some (handleEnts ++ writeEnts ++ [.earlyFrees, .pageCount])
  | .storePlacementWrite _ k _ => some (handleEnts ++ writeEnts ++ [placeEnt k] ++ ctxCounterEnts ++ ctxRecordEnts
      ++ [.boundCount, .coefValid, .contextStoreResets, .lastWriter, .openCount, .pageCount, .parkedCount])
  | .captureArm _ _ => some (handleEnts ++ writeEnts ++ [.captureState, .lastWriter])
  | .captureBoundary => some (handleEnts ++ eventEnts ++ [.bankConflictStalls, .captureState, .concealedBlocks,
      .lastLaunch, .lastRejection, .launchMisses, .pageCount, .queueDepth, .rejectedRows, .sameWordConflicts,
      .shiftFaultRows])
  | .captureDone => some (handleEnts ++ eventEnts ++ [.captureNumber, .captureState])
  | .captureAbort _ _ => some (handleEnts ++ writeEnts ++ [.captureState])
  | .primaryCountWrite _ _ => some (writeEnts ++ [.coefValid, .concealList, .primaryCount])
  | .lrbFrame _ _ => some (handleEnts ++ eventEnts ++ [.band, .captureState, .concealList, .generation,
      .lastCommit, .launchFlushes, .pageCount, .pendingCommits, .queueDepth, .readbackErrors, .readbackFrames,
      .readbackLost, .slateFrames, .squashedEntries, .throttleStep])
  | .defectVerdict => some (handleEnts ++ eventEnts ++ [.band, .captureState, .concealList, .generation,
      .lastCommit, .launchFlushes, .pageCount, .pendingCommits, .queueDepth, .readbackErrors, .readbackLost,
      .slateFrames, .squashedEntries, .throttleStep])
  | .burstCompute _ => some (handleEnts ++ eventEnts ++ [.bankConflictStalls, .concealedBlocks, .concealedClipped,
      .lastRejection, .launchMisses, .pageCount, .rejectedRows, .sameWordConflicts, .shiftFaultRows, .squashSkips])
  | .burstComputed _ => some ([])
  | .launchLine _ => some (handleEnts ++ eventEnts ++ [.missedBursts, .pageCount, .teLastSwap, .unlockDrops])
  | .commitEffect => some (handleEnts ++ eventEnts ++ [.band, .captureState, .launchFlushes, .pageCount,
      .pendingCommits, .queueDepth, .slateFrames, .throttleStep])
  | .slateFrameEnd => some (eventEnts)
  | .modulatorStart _ => some (writeEnts)
  | .modulatorStop _ => some (writeEnts)
  | .modulatorStartEffect => some (eventEnts ++ [.generation, .modulatorRun, .slateFrames])
  | .modulatorStopEffect => some (handleEnts ++ eventEnts ++ [.band, .captureState, .launchFlushes, .launchMisses,
      .modulatorRun, .pageCount, .pendingCommits, .queueDepth, .slateFrames, .throttleStep])
  | .teEdge _ => some (eventEnts ++ [.teLastSwap, .teMisses])
  | .teTimeout _ => some (eventEnts ++ [.teLastSwap, .teMisses])
  | .lanePllUnlock _ => some (eventEnts ++ [.quadrantLocked])
  | .lanePllRelock _ => some (eventEnts ++ [.quadrantLocked])
  | .quadrantResume _ => some ([])
  | .openSession _ _ => some (eventEnts ++ requestEnts ++ [.stagingOwner])
  | .closeSession _ _ => some (lineEnts ++ eventEnts ++ requestEnts ++ [.stagingOwner])
  | .read _ _ => some (requestEnts ++ [.captureCount, .nvmCorrected])
  | .write _ _ => none
  | .writeStaged _ _ => none
  | .commit _ _ => none
  | .discard _ _ => some (writeEnts ++ [.stagingOwner])
  | .store _ _ => some (lineEnts ++ eventEnts ++ requestEnts ++ [.deviceAddress, .isUpstream, .lockLosses,
      .meanPathDelay, .modulatorRun, .portState, .rootAddress, .rootDistance, .routeTable, .timeState,
      .upstreamChanges, .upstreamPort])
  | .restore _ _ => some (lineEnts ++ eventEnts ++ requestEnts ++ [.deviceAddress, .isUpstream, .lockLosses,
      .meanPathDelay, .modulatorRun, .nvmCorrected, .portState, .rootAddress, .rootDistance, .routeTable,
      .stagingOwner, .timeState, .upstreamChanges, .upstreamPort])
  | .domainUp _ _ => some (planEnts ++ eventEnts ++ requestEnts ++ [.domainState])
  | .domainDown _ _ => some (planEnts ++ eventEnts ++ requestEnts ++ [.domainState, .lastRefuser, .refusals])
  | .sessionExpiry _ => some (lineEnts ++ eventEnts ++ replyEnts ++ [.sessionExpiries, .stagingOwner])
  | .segmentTimeout _ => some (eventEnts ++ [.segmentFailures])
  | .spiSend _ _ => some (requestEnts)
  | .spiFetch _ => some ([])
  | .spiStatus => some ([])
  | .eventPop _ => some (requestEnts)
  | .hostReset _ _ => none
  | .transferOpen _ _ => some (lineEnts ++ writeEnts ++ [.bytesDone, .failedSection])
  | .transferAbort _ _ => some (lineEnts ++ writeEnts)
  | .transferTimeout _ => some (lineEnts ++ eventEnts ++ replyEnts)
  | .jobStart _ _ => some (writeEnts ++ [.chainUsed, .inputDone, .jobState, .outputDone])
  | .jobResume _ _ => some (writeEnts ++ [.chainUsed, .inputDone, .jobState, .outputDone])
  | .jobAbort _ _ => some (writeEnts ++ [.chainUsed, .inputDone, .jobState, .outputDone])
  | .savedStateWrite _ _ _ => none
  | .shaleBlock _ => some (lineEnts ++ eventEnts ++ replyEnts ++ [.bankConflictStalls, .chainUsed, .coefValid,
      .decodeErrors, .inputDone, .jobState, .jobStatus, .nvmCorrected, .outputDone, .sameWordConflicts])
  | .archiveAutoload => some ([])
  | .nvmLineDone => some (lineEnts ++ eventEnts ++ replyEnts ++ [.blackBoxLast, .bootCount, .frozenHeads,
      .nvmCorrected, .ownerSignsFirmware])
  | .nvmHoldLimit => some (lineEnts ++ eventEnts ++ replyEnts)
  | .blackboxRecordWrite => some ([.blackBoxLast, .frozenHeads, .nvmHolds])
  | .blackboxScanDone => some ([.blackBoxLast, .frozenHeads, .nvmCorrected])
  | .headRelease _ _ => some (writeEnts ++ [.frozenHeads])
  | .blackboxClear _ _ => some (lineEnts ++ writeEnts)
  | .ownerEnrol _ _ => some (lineEnts ++ writeEnts)
  | .authChallenge _ => some (requestEnts)
  | .authoriseSession _ _ => some (lineEnts ++ writeEnts)
  | .replaceOwnerKey _ _ => some (lineEnts ++ writeEnts)
  | .removeOwnerKey _ _ => some (lineEnts ++ writeEnts)
  | .firmwareActivate _ _ => some (lineEnts ++ writeEnts)
  | .firmwareConfirm _ _ => some (lineEnts ++ writeEnts)
  | .attestNonce _ _ => some (writeEnts)
  | .attestReportReady _ => some ([.nvmCorrected])
  | .domainQuiesceDone _ => some (planEnts ++ ctxStateEnts ++ handleEnts ++ upstreamEnts ++ eventEnts ++ replyEnts
      ++ [.badPackets, .band, .captureCount, .captureState, .coefValid, .domainState, .framesIncomplete,
      .hopLimitDrops, .jobState, .lastRefuser, .lastWake, .launchFlushes, .launchMisses, .lineRate, .modulatorRun,
      .pageCount, .pendingCommits, .portState, .quadrantLocked, .queueDepth, .refusals, .rxLatency, .slateFrames,
      .stagingOwner, .storeFailures, .throttleStep, .transferState, .transferStatus])
  | .domainEntryWindowEnd _ => some (planEnts ++ eventEnts ++ replyEnts ++ [.domainState, .lastChange, .transitions])
  | .domainExitDone _ => some (planEnts ++ handleEnts ++ eventEnts ++ replyEnts ++ ctxCounterEnts ++ ctxRecordEnts
      ++ [.badPackets, .boundCount, .calPhase, .coefValid, .contentLosses, .contextStoreResets, .domainState,
      .lastChange, .openCount, .pageCount, .parkedCount, .portState, .quadrantLocked, .transitions])
  | .powerGoodTimeout _ => some (planEnts ++ eventEnts ++ replyEnts ++ [.aborts, .domainState])
  | .planEnter _ _ => some (writeEnts)
  | .planExecute => some (planEnts ++ eventEnts ++ replyEnts ++ [.domainState])
  | .wakeBallEdge _ => some ([])
  | .spiCsWake => some ([])
  | .alarmExpiry => some ([])
  | .wake => some (planEnts ++ eventEnts ++ replyEnts ++ [.domainState, .lastWake])
  | .regulatorAck _ _ => some (planEnts ++ lineEnts ++ eventEnts ++ replyEnts ++ [.domainState, .supplyDips])
  | .regulatorTimeout _ => some (planEnts ++ eventEnts ++ replyEnts ++ [.aborts, .domainState, .regulatorTimeouts])
  | .supplyWarning _ _ => some ([.supplyMin])
  | .supplyDark => some (eventEnts ++ [.darkDips])
  | .supplyRecover _ => some (planEnts ++ lineEnts ++ eventEnts ++ replyEnts ++ [.domainState, .supplyDips])
  | .supplyReset _ _ => none
  | .sensorConversion _ => some (lineEnts ++ eventEnts ++ replyEnts ++ [.junctionTemp, .modulatorRun, .portState,
      .sensorFailed, .sensorTemps, .shutdownCount])
  | .slowRound _ => some (handleEnts ++ eventEnts ++ [.band, .bandChanges, .captureState, .channelFault,
      .generation, .lastCommit, .launchFlushes, .pageCount, .pendingCommits, .queueDepth, .riseRate, .slateFrames,
      .squashedEntries, .thermalStatus, .throttleDecisions, .throttleStep, .value, .vcoreTarget])
  | .calPhase1Step _ => some (lineEnts ++ eventEnts ++ replyEnts ++ calEnts ++ [.adcGain, .adcOffset, .calPhase,
      .calSource, .junctionTemp, .latencyTrim, .modulatorRun, .portState, .sensorFailed, .sensorTemps,
      .shutdownCount])
  | .calPhase2Measured _ _ => some ([.calPhase, .phase2Lanes])
  | .calPhase2Apply => some (eventEnts ++ [.calPhase, .deskewTrim, .impedanceTrim, .phase2Lanes, .swingTrim])
  | .calRepeat => some ([.calPhase, .phase2Lanes])
  | .powerOnReset => none
  | .crystalDetected => some ([])
  | .resetRelease => some ([.domainState, .lastResetCause, .resetCauseSet, .resetCounts])
  | .resetBall _ => none
  | .watchdogExpiry => none
  | .bootRom => some (lineEnts ++ eventEnts ++ replyEnts ++ [.bootCount, .firmwareVersion, .nvmCorrected,
      .ownerSignsFirmware])
  | .firmwareBoot => some (planEnts ++ eventEnts ++ replyEnts ++ savedEnts ++ [.domainState, .nvmCorrected,
      .settingsSkipped])
  | .bootComplete => some (eventEnts ++ [.bootTime])
  | .autostart => some (eventEnts)
  | .jtagBypass _ => none
  | .jtagIdcode _ => none
  | .jtagSamplePreload _ _ => none
  | .jtagExtest => some ([])
  | .jtagClamp => some ([])
  | .jtagHighz => some ([])
  | .testReset => none
  | .crystalOscillationLost => some ([])
  | .refclkClockChange _ => some ([])
  | .lrbStartBitLate _ => some (handleEnts ++ eventEnts ++ [.band, .captureState, .concealList, .generation,
      .lastCommit, .launchFlushes, .pageCount, .pendingCommits, .queueDepth, .readbackErrors, .readbackLost,
      .slateFrames, .squashedEntries, .throttleStep])

/-- The port that a command names. -/
def portOf : Instr → Option Nat
  | .portEnableWrite _ n _ => some n.val
  | .detectPulse n _ => some n.val
  | .rateStepStart n => some n.val
  | .serdesPllLock n => some n.val
  | .stateTimeLimit n => some n.val
  | .trainIdleEnd n => some n.val
  | .blockReceived n _ _ => some n.val
  | .alignReceived n _ _ _ => some n.val
  | .orderedSetReceived n _ _ _ => some n.val
  | .linkDownIdleEnd n => some n.val
  | .retrain _ n _ => some n.val
  | .packetReceived n _ _ => some n.val
  | .egressTransmit n => some n.val
  | .berWindowEnd n _ => some n.val
  | .adaptWindowEnd n _ _ => some n.val
  | .eyeBelowFloor n _ _ => some n.val
  | .sleepRequest _ n _ => some n.val
  | .sleepReqReceived n => some n.val
  | .sleepAckReceived n => some n.val
  | .sleepNakReceived n => some n.val
  | .sleepReqTimeout n => some n.val
  | .sleepEntryDone n => some n.val
  | .wakeBeaconQualified n => some n.val
  | .portResume n => some n.val
  | .helloReceived n _ => some n.val
  | .helloTimeout n => some n.val
  | .assignReceived n _ => some n.val
  | .sweepReceived n _ => some n.val
  | .sweepReturnReceived n _ => some n.val
  | .syncReceived n _ _ => some n.val
  | .delayReqReceived n _ _ _ => some n.val
  | .delayRespReceived n _ _ => some n.val
  | _ => none

/-- The context that a command names. -/
def ctxOf : Instr → Option Nat
  | .contextFieldWrite _ n _ _ => some n.val
  | .bindContext _ n => some n.val
  | .park _ n => some n.val
  | .release _ n => some n.val
  | .parkTimeout n => some n.val
  | .evictTimeout n => some n.val
  | _ => none

/-- The handle that a command names. -/
def handleOf : Instr → Option Nat
  | .allocate _ n => some n.val
  | .free _ n => some n.val
  | _ => none

/-- The job that a command names. -/
def jobOf : Instr → Option Nat
  | .jobStart _ n => some n.val
  | .jobResume _ n => some n.val
  | .jobAbort _ n => some n.val
  | _ => none

/-- The one port, context, handle or job whose entries a command that names it may change. -/
def ownOf (c : Instr) (x : Ent) : Option Nat :=
  if portEnts.contains x || laneEnts.contains x then portOf c
  else if ctxRecordEnts.contains x || ctxCounterEnts.contains x then ctxOf c
  else if (handleEnts.contains x && decide (x ≠ .retirePendingCount)) || decide (x = .pageCount) then handleOf c
  else if jobEnts.contains x then jobOf c
  else none

/-- The port, context, handle or job that an instance of an entry belongs to; a port has four lanes. -/
def ownerOf (x : Ent) (i : Nat) : Nat := i % 65536 / (if laneEnts.contains x then 4 else 1)

/-- R226, R232: the commands in which waiting commits may take effect. -/
def takesEffect : Instr → Bool
  | .commitEffect => true
  | .modulatorStopEffect => true
  | .domainQuiesceDone _ => true
  | _ => false

/-- R261, R378: the commands in which a lane's held trims may apply. -/
def appliesTrims : Instr → Bool
  | .launchLine _ => true
  | .modulatorStopEffect => true
  | .lanePllUnlock _ => true
  | .domainQuiesceDone _ => true
  | .supplyDark => true
  | .sensorConversion _ => true
  | .calPhase1Step _ => true
  | _ => false

/-- R368: the commands whose conversion may end a thermal shutdown, which is a reset. -/
def mayRestart (c : Instr) (s : State) : Bool :=
  s.thermal.shut && (match c with | .sensorConversion _ => true | .calPhase1Step _ => true | _ => false)

/-- A command may change an instance of an entry: it is one of the command's own, a waiting commit or a held trim sets it, or
the die restarts. -/
def mayChange (c : Instr) (s : State) (x : Ent) (i : Nat) : Bool :=
  (match frameEnts c with
    | none => true
    | some l => l.contains x && (match ownOf c x with | none => true | some n => decide (ownerOf x i = n)))
  || (takesEffect c && s.modl.commits.any (fun p => p.values.any (fun v => v.1 = key x i)))
  || (appliesTrims c && s.louts.any (fun p => p.2.held.any (fun v => v.1 = key x i)))
  || mayRestart c s

/-- The commands that may store to the Quarry or lose its content. -/
def storesQuarry : Instr → Bool
  | .bulkPacketReceived _ _ _ _ => true
  | .videoUnit _ _ _ _ => true
  | .storePlacementWrite _ _ _ => true
  | .captureBoundary => true
  | .lrbFrame _ _ => true
  | .defectVerdict => true
  | .burstCompute _ => true
  | .commitEffect => true
  | .modulatorStartEffect => true
  | .modulatorStopEffect => true
  | .write _ _ => true
  | .writeStaged _ _ => true
  | .commit _ _ => true
  | .store _ _ => true
  | .restore _ _ => true
  | .hostReset _ _ => true
  | .savedStateWrite _ _ _ => true
  | .shaleBlock _ => true
  | .domainQuiesceDone _ => true
  | .domainExitDone _ => true
  | .supplyReset _ _ => true
  | .sensorConversion _ => true
  | .slowRound _ => true
  | .calPhase1Step _ => true
  | .powerOnReset => true
  | .resetBall _ => true
  | .watchdogExpiry => true
  | .jtagBypass _ => true
  | .jtagIdcode _ => true
  | .jtagSamplePreload _ _ => true
  | .testReset => true
  | .lrbStartBitLate _ => true
  | _ => false

/-- The commands that may store to the MRAM. -/
def storesMram : Instr → Bool
  | .bulkPacketReceived _ _ _ _ => true
  | .bulkAckReceived _ _ _ => true
  | .bulkSend _ => true
  | .closeSession _ _ => true
  | .read _ _ => true
  | .write _ _ => true
  | .writeStaged _ _ => true
  | .commit _ _ => true
  | .store _ _ => true
  | .restore _ _ => true
  | .sessionExpiry _ => true
  | .hostReset _ _ => true
  | .transferOpen _ _ => true
  | .transferAbort _ _ => true
  | .transferTimeout _ => true
  | .savedStateWrite _ _ _ => true
  | .shaleBlock _ => true
  | .nvmLineDone => true
  | .nvmHoldLimit => true
  | .blackboxRecordWrite => true
  | .blackboxScanDone => true
  | .blackboxClear _ _ => true
  | .ownerEnrol _ _ => true
  | .authoriseSession _ _ => true
  | .replaceOwnerKey _ _ => true
  | .removeOwnerKey _ _ => true
  | .firmwareActivate _ _ => true
  | .firmwareConfirm _ _ => true
  | .attestReportReady _ => true
  | .domainQuiesceDone _ => true
  | .regulatorAck _ _ => true
  | .supplyRecover _ => true
  | .supplyReset _ _ => true
  | .sensorConversion _ => true
  | .calPhase1Step _ => true
  | .powerOnReset => true
  | .resetBall _ => true
  | .watchdogExpiry => true
  | .bootRom => true
  | .firmwareBoot => true
  | .jtagBypass _ => true
  | .jtagIdcode _ => true
  | .jtagSamplePreload _ _ => true
  | .testReset => true
  | _ => false

/-- The commands that may change the modulator. -/
def movesModulator : Instr → Bool
  | .launchPush _ _ _ => true
  | .videoUnit _ _ _ _ => true
  | .lrbFrame _ _ => true
  | .defectVerdict => true
  | .burstCompute _ => true
  | .burstComputed _ => true
  | .launchLine _ => true
  | .commitEffect => true
  | .slateFrameEnd => true
  | .modulatorStart _ => true
  | .modulatorStop _ => true
  | .modulatorStartEffect => true
  | .modulatorStopEffect => true
  | .write _ _ => true
  | .writeStaged _ _ => true
  | .commit _ _ => true
  | .store _ _ => true
  | .restore _ _ => true
  | .hostReset _ _ => true
  | .savedStateWrite _ _ _ => true
  | .domainQuiesceDone _ => true
  | .supplyReset _ _ => true
  | .sensorConversion _ => true
  | .slowRound _ => true
  | .calPhase1Step _ => true
  | .powerOnReset => true
  | .resetBall _ => true
  | .watchdogExpiry => true
  | .autostart => true
  | .jtagBypass _ => true
  | .jtagIdcode _ => true
  | .jtagSamplePreload _ _ => true
  | .testReset => true
  | .lrbStartBitLate _ => true
  | _ => false

/-- R223: the burst that a lane computes next: a squashed entry again once its computation has ended, or a new one while
the run-ahead has room. -/
def State.nextBurst (s : State) (lane : Nat) : Option LedEnt :=
  match SMap.find s.modl.lanes lane with
  | none => none
  | some a =>
    match firstSquashed a.ents with
    | some i =>
      let x := a.ents.getD i {}
      if x.busy then none else some (s.newEntry x.frame x.j x.row x.seq x.slot x.skipod)
    | none =>
      if min ((s.geoAt a.frame).d * (s.geoAt a.frame).k) 256 ≤ a.ents.length then none
      else some (s.newEntry a.frame a.j a.row a.seq a.nextSlot false)

/-- R203: a place of the Quarry at which the next burst of a lane stores: the previous-output code of one of its lamps. -/
def State.burstStores (s : State) (lane a : Nat) : Bool :=
  match s.nextBurst lane with
  | none => false
  | some e =>
    !e.dark && ((s.geoAt (e.start / 4294967296)).outputs lane e.row).any (fun o =>
      match o with
      | none => false
      | some (x, y, p) => decide (a = s.prevAddr ((s.geoAt (e.start / 4294967296)).lamp x y p)))

/-- R203, R231: the commands in which a Slate frame may begin, which clears the previous-output store. -/
def mayBeginSlate : Instr → Bool
  | .commitEffect => true
  | .modulatorStartEffect => true
  | .lrbFrame _ _ => true
  | .lrbStartBitLate _ => true
  | .defectVerdict => true
  | .slowRound _ => true
  | _ => false

/-- R113, R114, R123: the buffer that a unit is written into: a PARKED context resumes, another frame's assembly is abandoned,
and a BOUND context starts the unit's frame. -/
def State.unitBuffer (s : State) (c : Nat) (u : UnitHdr) : Nat :=
  let s := if s.rd .ctxState c = 4 then (s.resume c).getD s else s
  let s := if s.rd .ctxState c = 3 ∧ u.frame ≠ s.rd .assemblingFrame c then s.abandon c else s
  let s := if s.rd .ctxState c = 2 then s.startFrame c u.frame u.launch else s
  (s.ctx c).asmBuf

/-- R413: the place in the Quarry of byte o of a range: the coefficient store, the persistence store, a buffer; the other
ranges are not in the Quarry. -/
def State.rangeAddr (s : State) (kind h o : Nat) : Option Nat :=
  match kind with
  | 1 => some (s.storeAddr 0 + o)
  | 2 => some (s.storeAddr 1 + o)
  | 4 => some (s.bufAddr h o)
  | _ => none

/-- R299, R303, R309, R320: a place of the Quarry that a block of a slot may write: in an output handle of its job, in the
target of a coded transfer that has the slot, in the coefficient store by the archive of slot 7. -/
def State.blockTouches (s : State) (n a : Nat) : Prop :=
  (n < 4 ∧ ∃ h ∈ (s.spec n).outs, ∃ o, o < s.bufBytes h ∧ a = s.bufAddr h o) ∨
  (∃ t ∈ s.openXfers, (s.xfer t).coded = true ∧ (s.xfer t).slot = n ∧
    ∃ o, o < s.rangeSize (s.xfer t).kind (s.xfer t).handle ∧ s.rangeAddr (s.xfer t).kind (s.xfer t).handle o = some a) ∨
  (n = 7 ∧ s.storeAddr 0 ≤ a ∧ a < s.storeAddr 0 + 16777216)

/-- R314, R317, R327, R335: a place of the MRAM that the line in progress may change: the bytes of the line, and behind a job's
last line what is read back, in which a word that cannot be corrected reads as it stands from then on (log 157). -/
def State.lineTouches (s : State) (a : Nat) : Bool :=
  match s.secure.ops.find? (fun o => o.started) with
  | none => false
  | some o =>
    if o.kind = .clear then
      let k := o.names.headD 0
      let b := boxBase + (if k < 65536 then 64 * k else 0)
      decide (b ≤ a ∧ a < b + 64)
    else
      match o.lines with
      | [] => false
      | l :: t =>
        let b := if o.kind = .slot then o.base / 3145728 * 3145728 else o.base
        let n := if o.kind = .slot then 3145728 else bankSize o.kind.area
        decide (l.addr ≤ a ∧ a < l.addr + l.data.length)
          || (t.isEmpty && !o.more && !o.bad && decide (b ≤ a ∧ a < b + n))

/-- The families of the opcode table's commands. -/
inductive Family where
  | links | network | time | video | modulator | management | transfers | store | power | housekeeping | startup
  deriving DecidableEq, Repr

/-- The family of a command. -/
def familyOf : Instr → Family
  | .portEnableWrite _ _ _ => .links
  | .detectPulse _ _ => .links
  | .rateStepStart _ => .links
  | .serdesPllLock _ => .links
  | .stateTimeLimit _ => .links
  | .trainIdleEnd _ => .links
  | .blockReceived _ _ _ => .links
  | .alignReceived _ _ _ _ => .links
  | .orderedSetReceived _ _ _ _ => .links
  | .linkDownIdleEnd _ => .links
  | .retrain _ _ _ => .links
  | .packetReceived _ _ _ => .links
  | .egressTransmit _ => .links
  | .berWindowEnd _ _ => .links
  | .bipSecondEnd => .links
  | .adaptWindowEnd _ _ _ => .links
  | .eyeBelowFloor _ _ _ => .links
  | .sleepRequest _ _ _ => .links
  | .sleepReqReceived _ => .links
  | .sleepAckReceived _ => .links
  | .sleepNakReceived _ => .links
  | .sleepReqTimeout _ => .links
  | .sleepEntryDone _ => .links
  | .wakeBeaconQualified _ => .links
  | .portResume _ => .links
  | .helloTimer => .network
  | .helloReceived _ _ => .network
  | .helloTimeout _ => .network
  | .assignReceived _ _ => .network
  | .relayAssignReceived _ _ => .network
  | .unassign _ _ => .network
  | .sweepReceived _ _ => .network
  | .sweepReturnReceived _ _ => .network
  | .sweepReturnTime _ _ => .network
  | .bulkPacketReceived _ _ _ _ => .network
  | .bulkAckTimer _ => .network
  | .bulkAckReceived _ _ _ => .network
  | .bulkSend _ => .network
  | .syncSend => .time
  | .syncReceived _ _ _ => .time
  | .delayExchangeTimer => .time
  | .delayReqReceived _ _ _ _ => .time
  | .delayRespReceived _ _ _ => .time
  | .delayRespTimeout => .time
  | .syncLoss => .time
  | .holdoverLimit => .time
  | .slowWindowEnd _ => .time
  | .sleepAccounting => .time
  | .launchPush _ _ _ => .video
  | .launchFlush _ _ _ => .video
  | .launchInstant _ => .video
  | .synciEdge _ _ _ => .video
  | .capturePop _ _ => .video
  | .syncoPulse _ _ => .video
  | .videoUnit _ _ _ _ => .video
  | .contextFieldWrite _ _ _ _ => .video
  | .bindContext _ _ => .video
  | .park _ _ => .video
  | .release _ _ => .video
  | .parkTimeout _ => .video
  | .evictTimeout _ => .video
  | .allocate _ _ => .video
  | .free _ _ => .video
  | .storePlacementWrite _ _ _ => .video
  | .captureArm _ _ => .video
  | .captureBoundary => .video
  | .captureDone => .video
  | .captureAbort _ _ => .video
  | .primaryCountWrite _ _ => .modulator
  | .lrbFrame _ _ => .modulator
  | .defectVerdict => .modulator
  | .burstCompute _ => .modulator
  | .burstComputed _ => .modulator
  | .launchLine _ => .modulator
  | .commitEffect => .modulator
  | .slateFrameEnd => .modulator
  | .modulatorStart _ => .modulator
  | .modulatorStop _ => .modulator
  | .modulatorStartEffect => .modulator
  | .modulatorStopEffect => .modulator
  | .teEdge _ => .modulator
  | .teTimeout _ => .modulator
  | .lanePllUnlock _ => .modulator
  | .lanePllRelock _ => .modulator
  | .quadrantResume _ => .modulator
  | .openSession _ _ => .management
  | .closeSession _ _ => .management
  | .read _ _ => .management
  | .write _ _ => .management
  | .writeStaged _ _ => .management
  | .commit _ _ => .management
  | .discard _ _ => .management
  | .store _ _ => .management
  | .restore _ _ => .management
  | .domainUp _ _ => .power
  | .domainDown _ _ => .power
  | .sessionExpiry _ => .management
  | .segmentTimeout _ => .management
  | .spiSend _ _ => .management
  | .spiFetch _ => .management
  | .spiStatus => .management
  | .eventPop _ => .management
  | .hostReset _ _ => .management
  | .transferOpen _ _ => .transfers
  | .transferAbort _ _ => .transfers
  | .transferTimeout _ => .transfers
  | .jobStart _ _ => .transfers
  | .jobResume _ _ => .transfers
  | .jobAbort _ _ => .transfers
  | .savedStateWrite _ _ _ => .transfers
  | .shaleBlock _ => .transfers
  | .archiveAutoload => .transfers
  | .nvmLineDone => .store
  | .nvmHoldLimit => .store
  | .blackboxRecordWrite => .store
  | .blackboxScanDone => .store
  | .headRelease _ _ => .store
  | .blackboxClear _ _ => .store
  | .ownerEnrol _ _ => .store
  | .authChallenge _ => .store
  | .authoriseSession _ _ => .store
  | .replaceOwnerKey _ _ => .store
  | .removeOwnerKey _ _ => .store
  | .firmwareActivate _ _ => .store
  | .firmwareConfirm _ _ => .store
  | .attestNonce _ _ => .store
  | .attestReportReady _ => .store
  | .domainQuiesceDone _ => .power
  | .domainEntryWindowEnd _ => .power
  | .domainExitDone _ => .power
  | .powerGoodTimeout _ => .power
  | .planEnter _ _ => .power
  | .planExecute => .power
  | .wakeBallEdge _ => .power
  | .spiCsWake => .power
  | .alarmExpiry => .power
  | .wake => .power
  | .regulatorAck _ _ => .power
  | .regulatorTimeout _ => .power
  | .supplyWarning _ _ => .power
  | .supplyDark => .power
  | .supplyRecover _ => .power
  | .supplyReset _ _ => .power
  | .sensorConversion _ => .housekeeping
  | .slowRound _ => .housekeeping
  | .calPhase1Step _ => .housekeeping
  | .calPhase2Measured _ _ => .housekeeping
  | .calPhase2Apply => .housekeeping
  | .calRepeat => .housekeeping
  | .powerOnReset => .startup
  | .crystalDetected => .startup
  | .resetRelease => .startup
  | .resetBall _ => .startup
  | .watchdogExpiry => .startup
  | .bootRom => .startup
  | .firmwareBoot => .startup
  | .bootComplete => .startup
  | .autostart => .startup
  | .jtagBypass _ => .startup
  | .jtagIdcode _ => .startup
  | .jtagSamplePreload _ _ => .startup
  | .jtagExtest => .startup
  | .jtagClamp => .startup
  | .jtagHighz => .startup
  | .testReset => .startup
  | .crystalOscillationLost => .startup
  | .refclkClockChange _ => .startup
  | .lrbStartBitLate _ => .modulator

/-- What the frame of a command says: an instance of an entry that the command may not change reads as before, and the
Quarry, the MRAM and the modulator stay where the command does not act on them. -/
def Framed (c : Instr) (s t : State) : Prop :=
  (∀ x i, mayChange c s x i = false → t.rdv x i = s.rdv x i) ∧
  (storesQuarry c = false → t.quarry = s.quarry) ∧
  (storesMram c = false → t.secure.mram = s.secure.mram) ∧
  (movesModulator c = false → t.modl = s.modl)

end Sys2Proof.Machine
end

