-- ==== Sys2Proof/Certificates/Slice0/Obligations.lean ====
section
/-! DEFINITION. The statements: what each command does and leaves, by the rules of the spec; what every step keeps; and
where the model stops. -/

open Sys2Proof Sys2Proof.Machine

/-- R36, R40, R41: the bring-up of a port, step by step: a detect pulse that finds the far end starts the 2 ms of
electrical idle; its end starts a step at code 3 with seeded scramblers, in electrical idle when RateMask does not
offer that rate; lock of the SerDes PLL enters QUARTZ; a time limit idles the port until the step ends and counts the
fallback of a step that is not the last; the end of the last step fails the cycle, counted in TrainFailures, and 100
ms later the port is in DETECT again. R36: a write of 0 to PortEnable disables a port that is not ACTIVE; a write of
1 in DISABLED enters DETECT. R42: a write of 1 to Retrain, or of 0 to PortEnable, makes an ACTIVE port leave ACTIVE
with LinkDowns counted; after 2 ms of electrical idle the port is in DETECT, or in DISABLED when PortEnable is 0. It
rests on choices of the model: log 1, 32, 33, 183. -/
def Obligations.PortsComeUp : Prop :=
  ((∀ (n : Fin 4) (s : State), s.alive n = true → (s.port n).phase = 1 → (s.port n).idle = .none →
    exec (.detectPulse n true) s = .next (s.setPort n { s.port n with idle := .detect, idleSince := s.aon.mono })
      ∧ exec (.detectPulse n false) s = .next s) ∧
  (∀ (n : Fin 4) (s : State), s.alive n = true → (s.port n).idle = .detect → (s.port n).fast = false →
    s.rcAlone = false → (s.port n).idleSince + ms 2 ≤ s.aon.mono →
    ∃ t, exec (.rateStepStart n) s = .next t ∧ (t.port n).step = 3 ∧ (t.port n).phase = 0
      ∧ (t.port n).quiet = !(s.port n).mask.testBit 2
      ∧ (t.port n).stepStart = s.aon.mono ∧ (∀ l : Fin 4, (t.lane n l).txScr = scramblerSeed n l)
      ∧ t.regs = s.regs) ∧
  (∀ (n : Fin 4) (s : State), s.alive n = true → (s.port n).step ≠ 0 → (s.port n).phase = 0 →
    (s.port n).quiet = false → s.active n = false → s.rcAlone = false →
    ∃ t, exec (.serdesPllLock n) s = .next t ∧ (t.port n).phase = 2
      ∧ t.rd .portState n = (if (s.port n).fast then s.rd .portState n else 2)
      ∧ ∀ l : Fin 4, (t.lane n l).locked = false ∧ (t.lane n l).txScr = scramblerSeed n l) ∧
  (∀ (n : Fin 4) (s : State), s.alive n = true → 2 ≤ (s.port n).phase → (s.port n).step ≠ 0 →
    (s.port n).limit ≤ s.aon.mono →
    ∃ t, exec (.stateTimeLimit n) s = .next t ∧ (t.port n).phase = 0 ∧ (t.port n).idle = .step
      ∧ t.rd .rateFallbacks n = (if (s.port n).fast ∨ 1 < (s.port n).step
          then min (s.rd .rateFallbacks n + 1) 0xFFFFFFFF else s.rd .rateFallbacks n)
      ∧ t.rd .portState n = s.rd .portState n) ∧
  (∀ (n : Fin 4) (s : State), s.alive n = true → (s.port n).idle ≠ .detect → (s.port n).step = 1 →
    (s.port n).fast = false → s.active n = false → s.rcAlone = false → (s.port n).stepStart + ms 26 ≤ s.aon.mono →
    ∃ t, exec (.rateStepStart n) s = .next t ∧ (t.port n).idle = .fail ∧ (t.port n).step = 0
      ∧ t.rd .trainFailures n = min (s.rd .trainFailures n + 1) 0xFFFFFFFF
      ∧ t.rd .rateFallbacks n = s.rd .rateFallbacks n ∧ t.rd .portState n = s.rd .portState n) ∧
  (∀ (n : Fin 4) (s : State), s.alive n = true → (s.port n).idle = .fail →
    (s.port n).idleSince + ms 100 ≤ s.aon.mono →
    ∃ t, exec (.trainIdleEnd n) s = .next t ∧ t.rd .portState n = 1 ∧ (t.port n).phase = 1
      ∧ (t.port n).mask = s.rd .rateMask n ∧ ∀ l : Fin 4, (t.lane n l).floor = s.rd .eyeFloor n)) ∧
  ((∀ (e : Env) (n : Fin 4) (v : Bytes) (s : State), s.mayWrite e .portEnable n v → s.alive n = true →
    Ent.portEnable.info.decode v = [0] → (s.port n).idle ≠ .down →
    ∃ t, exec (.portEnableWrite e n v) s = .next t ∧ t.rd .portEnable n = 0
      ∧ t.rd .portState n = (if s.active n then 1 else 0)
      ∧ t.rd .linkDowns n = (if s.active n then min (s.rd .linkDowns n + 1) 0xFFFFFFFF else s.rd .linkDowns n)
      ∧ t.answered e .ok) ∧
  (∀ (e : Env) (n : Fin 4) (v : Bytes) (s : State), s.mayWrite e .portEnable n v → s.alive n = true →
    Ent.portEnable.info.decode v = [1] →
    ∃ t, exec (.portEnableWrite e n v) s = .next t ∧ t.rd .portEnable n = 1
      ∧ t.rd .portState n = (if s.rd .portState n = 0 then 1 else s.rd .portState n) ∧ t.answered e .ok) ∧
  (∀ (e : Env) (n : Fin 4) (v : Bytes) (s : State), s.mayWrite e .retrain n v → s.active n = true →
    Ent.retrain.info.decode v = [1] →
    ∃ t, exec (.retrain e n v) s = .next t ∧ t.rd .portState n = 1
      ∧ t.rd .linkDowns n = min (s.rd .linkDowns n + 1) 0xFFFFFFFF ∧ (t.port n).idle = .down
      ∧ t.rd .portEnable n = s.rd .portEnable n ∧ t.answered e .ok) ∧
  (∀ (n : Fin 4) (s : State), s.alive n = true → (s.port n).idle = .down → (s.port n).idleSince + ms 2 ≤ s.aon.mono →
    ∃ t, exec (.linkDownIdleEnd n) s = .next t
      ∧ t.rd .portState n = (if s.rd .portEnable n = 0 then 0 else 1) ∧ (t.port n).idle = .none
      ∧ (t.port n).term = decide (s.rd .portEnable n ≠ 0)))

/-- R26, R27, R30, R37: a block received in QUARTZ on a lane without lock is descrambled; 64 valid blocks running
lock the lane, an invalid one is counted and starts the run again. R34, R35: an ALIGN block on a port that is ACTIVE
adds the bits in which its BIP8 differs to BipErrors, starts the lane's parity again and keeps its MarkerCount; R37,
R38: an ordered set shows the measured eye in EyeMargin, and in BASALT a lane is ready once its eye has reached the
EyeFloor taken at DETECT and takes the far end's coefficient requests. R39: the set with which every lane has had 8
identical GRANITE sets with ACK, on aligned lanes and with a record that fits, puts the port into ACTIVE at the
step's rate, and FarCapability shows the record. R46, R47, R55, R56: the windows of a lane: the bad-header count
starts again at the end of its window and the BIP errors of a second at the end of the second, without an event where
no lane exceeded its threshold; a data-carrying window without a low eye or a BIP error updates the snapshot, any
other leaves it; an eye below the floor in a window that has too few packet blocks or a BIP error reloads the
snapshot and is counted. It rests on choices of the model: log 1, 51, 143, 145, 152, 165, 166, 167, 169, 175. -/
def Obligations.LanesReceiveBlocks : Prop :=
  (∀ (n l : Fin 4) (blk : BitVec 66) (s : State), s.alive n = true → (s.port n).phase = 2 → s.rd .portState n ≠ 5 →
    s.rd .portState n ≠ 6 → (s.lane n l).locked = false →
    ∃ t, exec (.blockReceived n l blk) s = .next t
      ∧ (t.lane n l).rxScr = (descramble (s.lane n l).rxScr (blk.extractLsb' 2 64)).2
      ∧ (if blockValid (blk.extractLsb' 0 2).toNat (descramble (s.lane n l).rxScr (blk.extractLsb' 2 64)).1 = true then
          (t.lane n l).locked = decide (64 ≤ (s.lane n l).goodRun + 1)
            ∧ t.rd .invalidHeaders (4 * n + l) = s.rd .invalidHeaders (4 * n + l)
        else (t.lane n l).locked = false ∧ (t.lane n l).goodRun = 0
          ∧ t.rd .invalidHeaders (4 * n + l) = min (s.rd .invalidHeaders (4 * n + l) + 1) 0xFFFFFFFF)) ∧
  ((∀ (n l : Fin 4) (w : BitVec 64) (a : Nat) (s : State), s.alive n = true → s.rd .portState n = 5 →
    (s.port n).phase ≠ 4 →
    ∃ t, exec (.alignReceived n l w a) s = .next t ∧ (t.lane n l).bip = 0
      ∧ (t.lane n l).align = some (field (blockBytes w) 2 2, a)
      ∧ t.rd .bipErrors (4 * n + l) = min (s.rd .bipErrors (4 * n + l)
          + popCount 8 ((s.lane n l).bip ^^^ (blockBytes w).getD 4 0).toNat) 0xFFFFFFFF) ∧
  (∀ (n l : Fin 4) (w : BitVec 64) (eye : BitVec 8) (s : State), s.alive n = true → (s.port n).phase = 3 →
    field (blockBytes w) 1 1 = 2 →
    ∃ t, exec (.orderedSetReceived n l w eye) s = .next t ∧ t.rd .eyeMargin (4 * n + l) = eye.toNat
      ∧ (t.lane n l).ready = ((s.lane n l).ready || decide ((s.lane n l).floor ≤ eye.toNat))
      ∧ (t.lane n l).farReady = ((blockBytes w).getD 6 0).getLsbD 0
      ∧ (t.lane n l).resp = ((s.lane n l).basalt (field (blockBytes w) 3 1)).resp) ∧
  (∀ (n l : Fin 4) (w : BitVec 64) (eye : BitVec 8) (u s : State), s.alive n = true → (s.port n).phase = 4 →
    s.rcAlone = false → field (blockBytes w) 1 1 = 3 →
    u = s.setLane n l ((s.lane n l).graniteSet ((blockBytes w).drop 2)) → (∀ k : Fin 4, 8 ≤ (u.lane n k).ackRun) →
    s.aligned n = true → recordOk (u.graniteRecord n) (s.port n).step = true →
    ∃ t, exec (.orderedSetReceived n l w eye) s = .next t ∧ t.rd .portState n = 5
      ∧ t.rd .lineRate n = (s.port n).step ∧ t.rdv .farCapability n = (u.graniteRecord n).map BitVec.toNat
      ∧ (t.port n).phase = 0 ∧ (t.port n).step = 0)) ∧
  ((∀ (n l : Fin 4) (s : State), s.alive n = true → s.active n = true →
    (s.lane n l).berAt + blockSpan (s.rateOf n) 1048576 ≤ s.aon.mono →
    ∃ t, exec (.berWindowEnd n l) s = .next t ∧ (t.lane n l).badWin = 0 ∧ t.regs = s.regs ∧ t.ports = s.ports) ∧
  (∀ (s : State), ∃ t, exec .bipSecondEnd s = .next t
      ∧ (∀ n l : Fin 4, s.alive n = true → (t.lane n l).bipSec = 0)
      ∧ ((∀ n l : Fin 4, (s.lane n l).bipSec ≤ s.rd .bipWarnThreshold n) → t.regs = s.regs ∧ t.mgmt = s.mgmt)) ∧
  (∀ (n l : Fin 4) (coef : Nat) (s : State), s.alive n = true → s.active n = true →
    (s.lane n l).winAt + blockSpan (s.rateOf n) 65536 ≤ s.aon.mono →
    ∃ t, exec (.adaptWindowEnd n l coef) s = .next t
      ∧ (if (s.lane n l).carries = true ∧ (s.lane n l).winLow = false ∧ (s.lane n l).winBip = false then
          SMap.find t.aon.snaps (4 * n + l) = some coef ∧ t.rd .snapshotValid (4 * n + l) = 1
            ∧ (t.lane n l).eq = (if (s.lane n l).heldEq then (s.lane n l).eq else some coef)
        else t.aon.snaps = s.aon.snaps ∧ t.regs = s.regs)
      ∧ (t.lane n l).winData = 0 ∧ (t.lane n l).floor = s.rd .eyeFloor n) ∧
  (∀ (n l : Fin 4) (eye : BitVec 8) (s : State), s.alive n = true → s.active n = true →
    eye.toNat < (s.lane n l).floor →
    ∃ t, exec (.eyeBelowFloor n l eye) s = .next t ∧ (t.lane n l).winLow = true
      ∧ t.rd .eyeMargin (4 * n + l) = eye.toNat
      ∧ (if (s.lane n l).carries = true ∧ (s.lane n l).winBip = false then t.rd .adaptReverts (4 * n + l) = s.rd .adaptReverts (4 * n + l)
            ∧ (t.lane n l).eq = (s.lane n l).eq
        else t.rd .adaptReverts (4 * n + l) = min (s.rd .adaptReverts (4 * n + l) + 1) 0xFFFFFFFF
            ∧ (t.lane n l).eq = SMap.find s.aon.snaps (4 * n + l))))

/-- R49: a write of 1 to SleepRequest on an ACTIVE port sends SLEEP_REQ on all lanes, and its answer follows the
handshake; a SLEEP_REQ received is answered with SLEEP_ACK and sleep when no packet is queued, and with SLEEP_NAK,
counted, when one is; SLEEP_ACK received begins the entry. R49, R50, R52, R53: a SLEEP_NAK ends the request, a
waiting write is answered E_BUSY and an entry that asked is told; 100 µs without an answer, or electrical idle after
the handshake, put the port in LINK_SLEEP with its termination off and a waiting write is answered E_OK; a qualified
beacon of a port in LINK_SLEEP is held; a woken port whose domain is ON enters RESUME, a fast step when a rate is
stored, and a local wake has sent its beacon for 400 µs before. It rests on choices of the model: log 1, 34, 35, 130,
145, 168, 183. -/
def Obligations.PortsSleepAndWake : Prop :=
  ((∀ (e : Env) (n : Fin 4) (v : Bytes) (s : State), s.mayWrite e .sleepRequest n v → s.active n = true →
    Ent.sleepRequest.info.decode v = [1] → (s.port n).asked = none →
    ∃ t, exec (.sleepRequest e n v) s = .next t ∧ (t.port n).asked = some (.host e) ∧ (t.port n).ordered = some 0x10
      ∧ (t.session (sessionOf e)).busy = decide (sessionOf e ≠ 255) ∧ t.mgmt.core = some e ∧ t.mgmt.rep = s.mgmt.rep ∧ t.regs = s.regs) ∧
  (∀ (n : Fin 4) (s : State), s.alive n = true → s.active n = true → (s.port n).asked = none →
    (s.port n).queue = [] →
    ∃ t, exec (.sleepReqReceived n) s = .next t ∧ (t.port n).ordered = some 0x11 ∧ t.rd .portState n = 6) ∧
  (∀ (n : Fin 4) (s : State), s.alive n = true → s.active n = true → (s.port n).asked = none →
    (s.port n).queue ≠ [] →
    ∃ t, exec (.sleepReqReceived n) s = .next t ∧ (t.port n).ordered = some 0x12 ∧ t.rd .portState n = 5
      ∧ t.rd .sleepNaks n = min (s.rd .sleepNaks n + 1) 0xFFFFFFFF ∧ (t.port n).queue = (s.port n).queue) ∧
  (∀ (n : Fin 4) (s : State), s.alive n = true → s.active n = true → (s.port n).asked ≠ none →
    ∃ t, exec (.sleepReqReceived n) s = .next t ∧ t.rd .portState n = 6) ∧
  (∀ (n : Fin 4) (s : State), s.alive n = true → s.active n = true → (s.port n).asked ≠ none →
    ∃ t, exec (.sleepAckReceived n) s = .next t ∧ t.rd .portState n = 6 ∧ (t.port n).asked = (s.port n).asked)) ∧
  ((∀ (n : Fin 4) (e : Env) (s : State), s.alive n = true → s.active n = true → (s.port n).asked = some (.host e) →
    ∃ t, exec (.sleepNakReceived n) s = .next t ∧ (t.port n).asked = none ∧ t.rd .portState n = 5
      ∧ t = (s.setPort n { s.port n with asked := none, ordered := none }).complete (reqOf e 0x11 .sleepRequest n)
          (Reply.of .busy)) ∧
  (∀ (n : Fin 4) (d : Nat) (s : State), s.alive n = true → s.active n = true →
    (s.port n).asked = some (.domain d) →
    ∃ t, exec (.sleepNakReceived n) s = .next t ∧ (t.port n).asked = none ∧ (t.port n).nak = true
      ∧ t.regs = s.regs) ∧
  (∀ (n : Fin 4) (e : Env) (d : Nat) (s : State), s.alive n = true → s.active n = true →
    (s.port n).asked = some (.both e d) →
    ∃ t, exec (.sleepNakReceived n) s = .next t ∧ (t.port n).asked = none ∧ (t.port n).nak = true
      ∧ t.rd .portState n = 5) ∧
  (∀ (n : Fin 4) (s : State), s.alive n = true → s.active n = true → (s.port n).asked ≠ none →
    (s.port n).askedAt + us 100 ≤ s.aon.mono →
    ∃ t, exec (.sleepReqTimeout n) s = .next t ∧ t.rd .portState n = 7 ∧ (t.port n).term = false
      ∧ (t.port n).asked = none) ∧
  (∀ (n : Fin 4) (s : State), s.rd .portState n = 6 →
    ∃ t, exec (.sleepEntryDone n) s = .next t ∧ t.rd .portState n = 7 ∧ (t.port n).term = false
      ∧ (t.port n).asked = none) ∧
  (∀ (n : Fin 4) (s : State), s.rd .portState n = 7 → n.val ∉ s.aon.beacons →
    ∃ t, exec (.wakeBeaconQualified n) s = .next t ∧ t.aon.beacons = s.aon.beacons ++ [n.val] ∧ t.regs = s.regs
      ∧ t.ports = s.ports) ∧
  (∀ (n : Fin 4) (s : State), s.alive n = true → s.rd .portState n = 7 →
    ∃ t, exec (.portResume n) s = .next t ∧ t.rd .portState n = 8 ∧ (t.port n).phase = 1
      ∧ (t.port n).mask = s.rd .rateMask n ∧ (t.port n).fast = (SMap.find s.aon.lastRate n).isSome
      ∧ (n.val ∈ s.power.wakePort → (t.port n).beacon = (s.port n).beacon ∧ t.aon.mono = s.aon.mono)
      ∧ (n.val ∉ s.power.wakePort → (t.port n).beacon = some (s.aon.mono, t.aon.mono))) ∧
  (∀ (n : Fin 4) (e : Env) (s : State), (s.port n).asked = some (.host e) → (s.session (sessionOf e)).busy = true →
    (s.session (sessionOf e)).lastSeq = e.seq.toNat →
    sessionOf e = 256 ∨ (s.session (sessionOf e)).partner = e.source.toNat →
    (s.alive n = true → s.active n = true → (s.port n).askedAt + us 100 ≤ s.aon.mono →
      ∃ t, exec (.sleepReqTimeout n) s = .next t ∧ t.answered e .ok) ∧
    (s.rd .portState n = 6 → ∃ t, exec (.sleepEntryDone n) s = .next t ∧ t.answered e .ok)))

/-- R28, R59, R60, R71: a packet that ends bad is counted in BadPackets; one that a check of R59 finds wrong is
counted where the check says; a sound unicast packet to another device goes to the port of its route with its
HopLimit one lower; and a device's address is learned from a packet that does not come from upstream. R29, R30, R32,
R72: an ACTIVE port starts the next packet of its egress queue, lowest class number first, with its stamps taken, and
the packet leaves the queue; it ends with ERROR when it has proved bad. It rests on choices of the model: log 1, 145,
148. -/
def Obligations.PacketsMoveOn : Prop :=
  ((∀ (n : Fin 4) (b : Bytes) (s : State), s.alive n = true → s.alive 4 = true → s.active n = true →
    ∃ t, exec (.packetReceived n b true) s = .next t ∧ t.rd .badPackets n = min (s.rd .badPackets n + 1) 0xFFFFFFFF
      ∧ t.rdv .routeTable 0 = s.rdv .routeTable 0) ∧
  (∀ (n : Fin 4) (b : Bytes) (x : Ent) (s : State), s.alive n = true → s.alive 4 = true → s.active n = true →
    packetFault b = some x →
    ∃ t, exec (.packetReceived n b false) s = .next t ∧ t.rd x 0 = min (s.rd x 0 + 1) 0xFFFFFFFF
      ∧ t.rdv .routeTable 0 = s.rdv .routeTable 0) ∧
  (∀ (n r : Fin 4) (b : Bytes) (s : State), s.alive n = true → s.alive 4 = true → s.active n = true →
    packetFault b = none → (Packet.ofBytes b).mode = .unicast → s.rd .deviceAddress 0 ≠ 0xFFFF →
    (Packet.ofBytes b).dest ≠ s.rd .deviceAddress 0 → (Packet.ofBytes b).dest < 0x1000 → (Packet.ofBytes b).hop ≠ 0 →
    0x1000 ≤ (Packet.ofBytes b).source → s.rdn .routeTable 0 (Packet.ofBytes b).dest % 8 = r → r ≠ n →
    s.active r = true →
    queueRoom (s.port r).queue { Packet.ofBytes b with hop := (Packet.ofBytes b).hop - 1 } = true →
    ∃ t, exec (.packetReceived n b false) s = .next t
      ∧ (t.port r).queue = (s.port r).queue ++ [{ Packet.ofBytes b with hop := (Packet.ofBytes b).hop - 1 }]
      ∧ t.regs = s.regs) ∧
  (∀ (n : Fin 4) (b : Bytes) (s : State), s.alive n = true → s.alive 4 = true → s.active n = true →
    packetFault b = none → (Packet.ofBytes b).mode = .unicast → s.rd .deviceAddress 0 ≠ 0xFFFF →
    (Packet.ofBytes b).dest ≠ s.rd .deviceAddress 0 → (Packet.ofBytes b).source < (s.rdv .routeTable 0).length →
    (Packet.ofBytes b).source < 0x1000 → s.upstream ≠ some n.val →
    4 ≤ s.rdn .routeTable 0 (Packet.ofBytes b).source →
    ∃ t, exec (.packetReceived n b false) s = .next t
      ∧ t.rdn .routeTable 0 (Packet.ofBytes b).source = 128 + n.val)) ∧
  (∀ (n : Fin 4) (p : Packet) (s : State), s.alive n = true → s.active n = true →
    nextPacket (s.port n).queue = some p → s.txFree n ≤ s.aon.mono → s.mgmt.resetDue = false →
    ∃ t, exec (.egressTransmit n) s = .next t ∧ (t.port n).queue = (s.port n).queue.erase p
      ∧ (t.port n).sent = some (stampPacket p (s.dispFine + (ofPs Config.txLatency.toNat).toNat)
          (((s.dispFine + (ofPs Config.txLatency.toNat).toNat : Nat) : Int) + s.time.calOfs))
      ∧ (t.port n).sentBad = (packetFault (stampPacket p (s.dispFine + (ofPs Config.txLatency.toNat).toNat)
          (((s.dispFine + (ofPs Config.txLatency.toNat).toNat : Nat) : Int) + s.time.calOfs)).bytes).isSome)

/-- R64, R65, R66: a millisecond after its last HELLO, every ACTIVE port sends one ahead of its queue; a HELLO
received becomes the port's path offer; 3 ms without one leaves the port without an offer. R69, R70: an ASSIGN with a
device address is accepted while the device has none: DeviceAddress and Assigner are set; a second one with another
address is refused and counted; Unassign clears DeviceAddress and the route table and sets RootDistance to 255; a
RELAY_ASSIGN sends ASSIGN on the port it names, or is counted in NoRouteDrops when that port is not ACTIVE. It rests
on choices of the model: log 1, 36, 150, 160, 170. -/
def Obligations.PathsAndAddresses : Prop :=
  ((∀ (s : State), s.alive 4 = true →
    (∀ m : Fin 4, s.active m = true → (s.port m).helloAt + ms 1 ≤ s.aon.mono) →
    ∃ t, exec .helloTimer s = .next t ∧ ∀ (n : Fin 4) (p : Packet), s.active n = true →
      p = { cls := 1, mode := .linkLocal, hop := Config.originHop.toNat, dest := 0, source := s.rd .deviceAddress 0,
            channel := 0xFF01, seq := s.nextSeq n 0xFF01, payload := s.helloPayload n } →
      queueRoom (s.port n).queue p = true → (t.port n).queue = p :: (s.port n).queue) ∧
  (∀ (n : Fin 4) (b : Bytes) (s : State), s.alive 4 = true → s.active n = true → b.length = 8 →
    ∃ t, exec (.helloReceived n b) s = .next t ∧ (t.port n).hello = some (helloOf b s.aon.mono)
      ∧ (t.port n).heard = true ∧ t.rd .deviceAddress 0 = s.rd .deviceAddress 0) ∧
  (∀ (n : Fin 4) (s : State), s.alive 4 = true → s.active n = true → (s.port n).heard = true →
    ((s.port n).hello.map Hello.since).getD 0 + ms 3 ≤ s.aon.mono →
    ∃ t, exec (.helloTimeout n) s = .next t ∧ (t.port n).heard = false ∧ t.offers n = false)) ∧
  ((∀ (n : Fin 4) (b : Bytes) (s : State), s.alive 4 = true → s.active n = true → b.length = 4 →
    field b 0 2 < 0x1000 → s.rd .deviceAddress 0 = 0xFFFF →
    ∃ t, exec (.assignReceived n b) s = .next t ∧ t.rd .deviceAddress 0 = field b 0 2
      ∧ t.rd .assigner 0 = field b 2 2 ∧ t.rd .assignRefusals 0 = s.rd .assignRefusals 0) ∧
  (∀ (n : Fin 4) (b : Bytes) (s : State), s.alive 4 = true → s.active n = true → b.length = 4 →
    s.rd .deviceAddress 0 ≠ 0xFFFF → field b 0 2 ≠ s.rd .deviceAddress 0 →
    ∃ t, exec (.assignReceived n b) s = .next t ∧ t.rd .deviceAddress 0 = s.rd .deviceAddress 0
      ∧ t.rd .assignRefusals 0 = min (s.rd .assignRefusals 0 + 1) 0xFFFFFFFF) ∧
  (∀ (e : Env) (s : State), s.mayWrite e .unassign 0 [1] →
    ∃ t, exec (.unassign e [1]) s = .next t ∧ t.rd .deviceAddress 0 = 0xFFFF
      ∧ t.rdv .routeTable 0 = List.replicate 4096 7 ∧ t.rd .rootDistance 0 = 255
      ∧ t.rd .assigner 0 = s.rd .assigner 0 ∧ t.answered e .ok) ∧
  (∀ (src : BitVec 16) (b : Bytes) (s : State), s.alive 4 = true → s.rd .deviceAddress 0 ≠ 0xFFFF →
    0xE000 ≤ src.toNat → src.toNat ≤ 0xEFFF → b.length = 4 → s.active (field b 0 1 % 4) = false →
    ∃ t, exec (.relayAssignReceived src b) s = .next t
      ∧ t.rd .noRouteDrops 0 = min (s.rd .noRouteDrops 0 + 1) 0xFFFFFFFF ∧ t.ports = s.ports) ∧
  (∀ (src : BitVec 16) (b : Bytes) (s : State) (p : Packet), s.alive 4 = true → s.rd .deviceAddress 0 ≠ 0xFFFF →
    0xE000 ≤ src.toNat → src.toNat ≤ 0xEFFF → b.length = 4 → s.active (field b 0 1 % 4) = true →
    p = { cls := 1, mode := .linkLocal, hop := Config.originHop.toNat, dest := 0, source := s.rd .deviceAddress 0,
          channel := 0xFF02, seq := s.nextSeq (field b 0 1 % 4) 0xFF02
          payload := leBytes 2 (field b 2 2) ++ leBytes 2 src.toNat } →
    queueRoom (s.port (field b 0 1 % 4)).queue p = true →
    ∃ t, exec (.relayAssignReceived src b) s = .next t
      ∧ (t.port (field b 0 1 % 4)).queue = (s.port (field b 0 1 % 4)).queue ++ [p] ∧ t.regs = s.regs))

/-- R76, R77: a SWEEP from upstream whose return time lies ahead waits for the child ports with this device's bits in
its maps, once the requests before it have run, those too that released the core; one more than the four that may run
is discarded and counted; a child's SWEEP_RETURN is OR-ed into the maps, and one that matches no running sweep is
counted in LateSweepReturns; at the return time the sweep ends. It rests on choices of the model: log 48, 173. -/
def Obligations.SweepsGatherMaps : Prop :=  (∀ (n : Fin 4) (b : Bytes) (s : State), s.alive 4 = true → s.active n = true → s.upstream = some n.val →
    b.length = 1560 → (∀ w ∈ s.sweeps, ¬ (w.tagSource = field b 0 2 ∧ w.tagSeq = field b 2 2)) →
    s.sweeps.length < 4 → ports4.filter s.isChild ≠ [] → s.coreFree = true → s.releasedEnvs = [] →
    s.now < field b 4 8 - s.rd .rootDistance 0 * 8000 →
    ∃ t, exec (.sweepReceived n b) s = .next t ∧ t.sweeps = s.sweeps ++ [{
      tagSource := field b 0 2, tagSeq := field b 2 2, ret := field b 4 8 - s.rd .rootDistance 0 * 8000, head := b.take 24
      maps := s.ownMaps b, waiting := ports4.filter s.isChild }]) ∧
  (∀ (n : Fin 4) (b : Bytes) (s : State), s.alive 4 = true → s.active n = true → s.upstream = some n.val →
    b.length = 1560 → (∀ w ∈ s.sweeps, ¬ (w.tagSource = field b 0 2 ∧ w.tagSeq = field b 2 2)) →
    4 ≤ s.sweeps.length → s.coreFree = true → s.releasedEnvs = [] →
    ∃ t, exec (.sweepReceived n b) s = .next t ∧ t.sweeps = s.sweeps ∧ t.ports = s.ports
      ∧ t.rd .lateSweepReturns 0 = min (s.rd .lateSweepReturns 0 + 1) 0xFFFFFFFF) ∧
  (∀ (n : Fin 4) (b : Bytes) (s : State), s.alive 4 = true → s.active n = true → s.upstream = some n.val →
    b.length = 1560 → s.coreFree = false →
    ∃ t, exec (.sweepReceived n b) s = .next t ∧ t.sweeps = s.sweeps ∧ t.regs = s.regs
      ∧ t.mgmt.inbox = s.mgmt.inbox ++ [{ bytes := b, sweep := some (s.returnTime b), pkt := s.sweepPacket b }]) ∧
  (∀ (n : Fin 4) (b : Bytes) (s : State), s.alive 4 = true → s.active n = true → s.upstream = some n.val →
    b.length = 1560 → s.coreFree = true → s.releasedEnvs ≠ [] →
    ∃ t, exec (.sweepReceived n b) s = .next t ∧ t.sweeps = s.sweeps ∧ t.regs = s.regs
      ∧ t.mgmt.held = s.mgmt.held ++ [{ bytes := b, sweep := some (s.returnTime b), pkt := s.sweepPacket b
                                        waits := s.releasedEnvs }]) ∧
  (∀ (n m : Fin 4) (b : Bytes) (w : Sweep) (s : State), s.alive 4 = true → s.active n = true → b.length = 1560 →
    s.sweeps = [w] → w.tagSource = field b 0 2 → w.tagSeq = field b 2 2 → n.val ∈ w.waiting → m ≠ n →
    m.val ∈ w.waiting →
    exec (.sweepReturnReceived n b) s = .next { s with sweeps :=
      [{ w with maps := orBytes w.maps (b.drop 24), waiting := w.waiting.filter (· ≠ n.val) }] }) ∧
  (∀ (n : Fin 4) (b : Bytes) (s : State), s.alive 4 = true → s.active n = true → b.length = 1560 →
    (∀ w ∈ s.sweeps, ¬ (w.tagSource = field b 0 2 ∧ w.tagSeq = field b 2 2)) →
    exec (.sweepReturnReceived n b) s = .next (s.count .lateSweepReturns 0)) ∧
  (∀ (src sq : BitVec 16) (w : Sweep) (s : State), s.alive 4 = true → s.sweeps = [w] → w.tagSource = src.toNat →
    w.tagSeq = sq.toNat → w.ret ≤ s.now →
    ∃ t, exec (.sweepReturnTime src sq) s = .next t ∧ t.sweeps = [] ∧ t.rd .lateSweepReturns 0 = s.rd .lateSweepReturns 0)

/-- R83, R85, R87, R88, R89: every SyncInterval, SYNC goes to every child port; a SYNC from upstream sets the
calendar offset from its origin stamp and its calendar, and one from another port is counted; after a completed
exchange it also runs the servo on its offset theta, clamped to 1 µs while the modulator runs: the integral,
Increment and the lock count follow, and a stopped modulator with a theta above 1 µs steps display time instead; an
exchange sends DELAY_REQ upstream, a DELAY_REQ on a child port is answered with DELAY_RESP, and a DELAY_RESP within
20 µs that names the outstanding request completes the exchange. It rests on choices of the model: log 1, 37, 39, 50,
160. -/
def Obligations.TimeTransfer : Prop :=  (∀ (p : Nat → Packet) (s : State), s.alive 5 = true → s.rd .deviceAddress 0 ≠ 0xFFFF →
    s.time.syncSent + us (s.rd .syncInterval 0) ≤ s.aon.mono →
    (∀ n, p n = { cls := 0, mode := .linkLocal, hop := Config.originHop.toNat, dest := 0, source := s.rd .deviceAddress 0,
                  channel := 1, seq := s.nextSeq n 1, payload := s.syncPayload }) →
    (∀ n < 4, s.isChild n = true → s.active n = true ∧ queueRoom (s.port n).queue (p n) = true) →
    ∃ t, exec .syncSend s = .next t ∧ t.regs = s.regs ∧
      ∀ n < 4, (t.port n).queue = (s.port n).queue ++ (if s.isChild n then [p n] else [])) ∧
  (∀ (n : Fin 4) (b : Bytes) (rx : BitVec 96) (s : State), s.alive 5 = true → s.active n = true →
    s.upstream = some n.val → b.length = 48 → s.time.exchPort = 0 →
    ∃ t, exec (.syncReceived n b rx) s = .next t
      ∧ t.time.calOfs = (calNs (b.drop 12) * 4294967296 : Int) - stampOf b ∧ t.time.syncAt = s.aon.mono
      ∧ t.rd .calendarValid 0 = field b 30 1 % 2 ∧ t.rd .taiUtcOffset 0 = field b 28 2
      ∧ t.time.disp = s.time.disp ∧ t.rd .increment 0 = s.rd .increment 0) ∧
  (∀ (n : Fin 4) (b : Bytes) (rx : BitVec 96) (th x p i tau ival : Int) (s : State), s.alive 5 = true →
    s.active n = true → s.upstream = some n.val → b.length = 48 → s.time.exchPort ≠ 0 →
    th = s.theta n (stampOf b) rx.toNat → th.natAbs ≤ 1000000 ∨ s.running = true →
    x = clampInt (-1000000) 1000000 th → tau = (s.rd .servoTau 0 : Int) * 1000000000 →
    ival = (s.rd .syncInterval 0 : Int) * 1000000 → p = (x * 2 ^ 40).tdiv tau →
    i = s.time.integ + (p * ival).tdiv (4 * tau) →
    ∃ t, exec (.syncReceived n b rx) s = .next t ∧ t.time.disp = s.time.disp ∧ t.time.integ = i
      ∧ t.rd .increment 0
        = (3435973837 - (3435973837 * clampInt (-109951163) 109951163 (p + i)).tdiv (2 ^ 40)).toNat
      ∧ t.time.lockCount = (if x.natAbs ≤ s.rd .lockThreshold 0 then s.time.lockCount + 1 else 0)
      ∧ t.rd .lastOffset 0 = uns 32 (clampInt (-2147483648) 2147483647 th)
      ∧ t.rd .steps 0 = s.rd .steps 0) ∧
  (∀ (n : Fin 4) (b : Bytes) (rx : BitVec 96) (th : Int) (s : State), s.alive 5 = true → s.active n = true →
    s.upstream = some n.val → b.length = 48 → s.time.exchPort ≠ 0 → th = s.theta n (stampOf b) rx.toNat →
    1000000 < th.natAbs → s.running = false →
    ∃ t, exec (.syncReceived n b rx) s = .next t
      ∧ t.time.disp = BitVec.ofInt 96 ((s.time.disp.toNat : Int) - ofPs th) ∧ t.time.integ = 0 ∧ t.time.lockCount = 0
      ∧ t.rd .increment 0 = s.rd .increment 0 ∧ t.rd .steps 0 = min (s.rd .steps 0 + 1) 0xFFFFFFFF) ∧
  (∀ (n : Fin 4) (b : Bytes) (rx : BitVec 96) (s : State), s.alive 5 = true → s.active n = true →
    s.upstream ≠ some n.val →
    exec (.syncReceived n b rx) s = .next (s.count .timeMessageErrors 0)) ∧
  (∀ (u : Fin 4) (p : Packet) (s : State), s.alive 5 = true → s.active u = true → s.upstream = some u.val →
    s.time.exchAt ≤ s.aon.mono →
    p = { cls := 0, mode := .linkLocal, hop := Config.originHop.toNat, dest := 0, source := s.rd .deviceAddress 0,
          channel := 2, seq := s.nextSeq u 2, payload := List.replicate 16 0 } →
    queueRoom (s.port u).queue p = true →
    ∃ t, exec .delayExchangeTimer s = .next t ∧ (t.port u).queue = (s.port u).queue ++ [p]
      ∧ t.time.exchLeft = s.time.exchLeft - 1 ∧ t.time.exchAt = s.aon.mono + s.exchGap) ∧
  (∀ (n : Fin 4) (sq : BitVec 16) (b : Bytes) (rx : BitVec 96) (p : Packet) (s : State), s.alive 5 = true →
    s.active n = true → s.isChild n = true → b.length = 16 → s.rd .deviceAddress 0 ≠ 0xFFFF →
    p = { cls := 0, mode := .linkLocal, hop := Config.originHop.toNat, dest := 0, source := s.rd .deviceAddress 0,
          channel := 3, seq := s.nextSeq n 3
          payload := stamp12 (s.atBalls n rx.toNat) ++ List.replicate 12 0 ++ leBytes 2 sq.toNat
            ++ List.replicate 6 0 } → queueRoom (s.port n).queue p = true →
    ∃ t, exec (.delayReqReceived n sq b rx) s = .next t ∧ (t.port n).queue = (s.port n).queue ++ [p]
      ∧ t.regs = s.regs) ∧
  (∀ (n : Fin 4) (b : Bytes) (rx : BitVec 96) (t1 m : Nat) (s : State), s.alive 5 = true → s.active n = true →
    s.upstream = some n.val → b.length = 32 → s.time.reqs = [(field b 24 2, t1, m)] →
    (s.atBalls n rx.toNat : Int) - t1 ≤ us 20 →
    ∃ t, exec (.delayRespReceived n b rx) s = .next t ∧ t.time.reqs = []
      ∧ t.time.exchPort = s.time.exchPort + 1
      ∧ t.time.exch.head? = some ((s.atBalls n rx.toNat : Int) - t1 - ((stampOf (b.drop 12) : Int) - stampOf b))
      ∧ t.rd .meanPathDelay 0 = min t.time.mean.toNat 0xFFFFFFFF)

/-- R85, R86, R88, R94: an exchange without an answer in 100 µs is void; a LOCKED time unit without a SYNC for 8
SyncIntervals enters HOLDOVER and counts LockLosses; in HOLDOVER, a bound above HoldoverLimit makes it FREE; the end
of a window of 1,024 slow periods updates SlowPeriod. R95, R96: on the first slow edge after D5 is back, display time
goes on by n × P from the latched time, the calendar offset is restored, SleepTicks shows n, a LOCKED that the sleep
ended is counted in LockLosses, and the state is FREE, or HOLDOVER when the bound stays within HoldoverLimit. It
rests on choices of the model: log 1, 38, 160. -/
def Obligations.TimeStatesAndSleep : Prop :=
  ((∀ (q : Nat × Nat × Nat) (l : List (Nat × Nat × Nat)) (s : State), s.alive 5 = true → s.time.reqs = q :: l →
    q.2.2 + us 100 ≤ s.aon.mono →
    exec .delayRespTimeout s = .next { s with time := { s.time with reqs := l } }) ∧
  (∀ (s : State), s.alive 5 = true → s.rd .timeState 0 = 2 →
    s.time.syncAt + us (8 * s.rd .syncInterval 0) ≤ s.aon.mono →
    ∃ t, exec .syncLoss s = .next t ∧ t.rd .timeState 0 = 1
      ∧ t.rd .lockLosses 0 = min (s.rd .lockLosses 0 + 1) 0xFFFFFFFF ∧ t.time.bound = s.time.upBound + 150
      ∧ t.time.disp = s.time.disp ∧ t.time.calOfs = s.time.calOfs) ∧
  (∀ (s : State), s.alive 5 = true → s.rd .timeState 0 = 1 → s.rd .holdoverLimit 0 * 1000000000 < s.bound →
    ∃ t, exec .holdoverLimit s = .next t ∧ t.rd .timeState 0 = 0 ∧ t.time = s.time) ∧
  (∀ (p : BitVec 64) (s : State), s.timeRuns = true →
    ∃ t, exec (.slowWindowEnd p) s = .next t ∧ t.rd .slowPeriod 0 = p.toNat ∧ t.time.oscWin = s.aon.slow
      ∧ t.aon.switched = s.aon.winSwitch ∧ t.aon.winSwitch = false)) ∧
  (∀ (l : TimeLatch) (s : State), s.alive 5 = true → s.aon.latch = some l →
    ∃ t, exec .sleepAccounting s = .next t ∧ t.aon.latch = none ∧ t.aon.ticks = 0
      ∧ t.time.disp = BitVec.ofNat 96 (l.disp.toNat + (s.aon.ticks + 1) * l.period) ∧ t.time.calOfs = l.calOfs
      ∧ t.rd .sleepTicks 0 = s.aon.ticks + 1
      ∧ t.rd .lockLosses 0 = (if s.rd .timeState 0 = 2 then min (s.rd .lockLosses 0 + 1) 0xFFFFFFFF
          else s.rd .lockLosses 0)
      ∧ t.time.bound = sleepBound l.bound ((s.aon.ticks + 1) * l.period) (s.sleepRate l)
      ∧ t.rd .timeState 0 = (if l.state = 0 ∨ s.rd .holdoverLimit 0 * 1000000000 < t.time.bound then 0 else 1))

/-- R98, R99, R100, R105: a launch entry that passes its checks joins its view's queue, and one that does not is
answered with the check's status and queues nothing; LaunchFlush empties the queue and counts its entries; at its
instant the oldest entry is consumed and LastLaunch shows it. R96, R99: the checks of a launch entry, in their order:
time not LOCKED, or not yet accounted for after a sleep, without FreeRunPermit is E_STATE; a bad value, a view not in
use, an instant off the frame boundaries or not after the last is E_RANGE; a ninth entry is E_BUSY; an instant closer
than H is E_LATE. It rests on choices of the model: log 12, 21, 22. -/
def Obligations.LaunchesAreQueued : Prop :=
  ((∀ (e : Env) (v : Fin 8) (b : Bytes) (s : State), s.mayWrite e .launchPush v b → b.length = 16 → field b 12 4 = 0 →
    s.launchCheck v (field b 0 8) true = none →
    ∃ t, exec (.launchPush e v b) s = .next t
      ∧ (t.view v).queue.map LaunchEnt.instant = (s.view v).queue.map LaunchEnt.instant ++ [field b 0 8]
      ∧ (t.view v).queue.map LaunchEnt.tag = (s.view v).queue.map LaunchEnt.tag ++ [field b 8 4]
      ∧ t.answered e .ok) ∧
  (∀ (e : Env) (v : Fin 8) (b : Bytes) (st : Status) (s : State), s.mayWrite e .launchPush v b → b.length = 16 →
    s.launchCheck v (field b 0 8) (decide (field b 12 4 = 0)) = some st →
    ∃ t, exec (.launchPush e v b) s = .next t ∧ t.views = s.views ∧ t.answered e st) ∧
  (∀ (e : Env) (v : Fin 8) (s : State), s.mayWrite e .launchFlush v [1] →
    ∃ t, exec (.launchFlush e v [1]) s = .next t ∧ (t.view v).queue = []
      ∧ t.rd .launchFlushes 0 = min (s.rd .launchFlushes 0 + (s.view v).queue.length) 0xFFFFFFFF
      ∧ t.rd .lastLaunch v = s.rd .lastLaunch v ∧ t.answered e .ok) ∧
  (∀ (v : Fin 8) (x : LaunchEnt) (q : List LaunchEnt) (s : State), s.timeRuns = true → (s.view v).queue = x :: q →
    x.instant ≤ s.now →
    ∃ t, exec (.launchInstant v) s = .next t ∧ t.rd .lastLaunch v = x.instant
      ∧ (t.view v).queue.map LaunchEnt.instant = q.map LaunchEnt.instant)) ∧
  (∀ (v instant : Nat) (ok : Bool) (s : State),
    (s.rd .timeState 0 ≠ 2 ∨ s.aon.latch.isSome = true → s.rd .freeRunPermit 0 ≠ 1 → s.launchCheck v instant ok = some .state) ∧
    ((s.rd .timeState 0 = 2 ∧ s.aon.latch = none) ∨ s.rd .freeRunPermit 0 = 1 →
      (ok = false ∨ s.rd .viewCount 0 ≤ v ∨ (s.geoAt instant).isBoundary instant = false ∨ instant ≤ s.lastInstant v →
        s.launchCheck v instant ok = some .range) ∧
      (ok = true → v < s.rd .viewCount 0 → (s.geoAt instant).isBoundary instant = true → s.lastInstant v < instant →
        (8 ≤ (s.view v).queue.length → s.launchCheck v instant ok = some .busy) ∧
        ((s.view v).queue.length < 8 → instant * 4294967296 < s.dispFine + s.horizon →
          s.launchCheck v instant ok = some .late) ∧
        ((s.view v).queue.length < 8 → s.dispFine + s.horizon ≤ instant * 4294967296 →
          s.launchCheck v instant ok = none))))

/-- R102, R104: an enabled edge on a SYNCI input is captured with its stamp, its calendar time and the time state,
and one that finds 16 captures is counted; CapturePop answers the oldest capture and removes it; a scheduled SYNCO
pulse begins at its instant on the 100 ps step, at the level that its OutputInvert gives, and ends after its width.
It rests on choices of the model: log 27, 159, 176. -/
def Obligations.SyncPins : Prop :=  (∀ (i : Fin 4) (f : Bool) (stamp : BitVec 96) (s : State), s.alive 5 = true →
    (s.rd .captureEnable i).testBit (if f then 1 else 0) = true → (s.syncI i).caps.length < 16 →
    exec (.synciEdge i f stamp) s = .next ((s.setSyncI i { s.syncI i with caps := (s.syncI i).caps ++ [{
      falling := f, stamp := stamp, cal := (stamp.toNat : Int) + s.time.calOfs, state := s.rd .timeState 0 }] }).wr
        .captureCount i ((s.syncI i).caps.length + 1))) ∧
  (∀ (i : Fin 4) (f : Bool) (stamp : BitVec 96) (s : State), s.alive 5 = true →
    (s.rd .captureEnable i).testBit (if f then 1 else 0) = true → 16 ≤ (s.syncI i).caps.length →
    ∃ t, exec (.synciEdge i f stamp) s = .next t ∧ (t.syncI i).caps = (s.syncI i).caps
      ∧ t.rd .captureOverflows i = min (s.rd .captureOverflows i + 1) 0xFFFFFFFF) ∧
  (∀ (e : Env) (i : Fin 4) (c : Capt) (q : List Capt) (s : State), s.runs e false true →
    s.on 5 = true → (s.syncI i).caps = c :: q →
    ∃ t, exec (.capturePop e i) s = .next t ∧ (t.syncI i).caps = q
      ∧ (sessionOf e ≠ 255 → ∃ r, t.mgmt.rep = some r ∧ r.status = .ok ∧ r.body = (c.bytes i).take 4076)) ∧
  (∀ (o : Fin 4) (at_ : Nat) (vals : List Nat) (pres : Bool) (s : State), s.timeRuns = true → (SMap.get s.syncOut o {}).active = false →
    s.pulseFrom o (SMap.get s.syncOut o {}).single s.dispFine (SMap.get s.syncOut o {}).hist = some (at_, vals, pres) →
    ∃ t, exec (.syncoPulse o true) s = .next t ∧ (SMap.get t.syncOut o {}).active = true
      ∧ (SMap.get t.syncOut o {}).began = placed at_
      ∧ (SMap.get t.syncOut o {}).ends = placed (at_ + (ofPs (vals.getD 3 0)).toNat)
      ∧ (SMap.get t.syncOut o {}).single = ((SMap.get s.syncOut o {}).single || (pres && decide (vals.getD 0 0 = 1)))
      ∧ (SMap.get t.syncOut o {}).level = decide (vals.getD 6 0 = 0) ∧ t.regs = s.regs) ∧
  (∀ (o : Fin 4) (s : State), s.timeRuns = true → (SMap.get s.syncOut o {}).active = true →
    (SMap.get s.syncOut o {}).ends ≤ s.dispFine →
    ∃ t, exec (.syncoPulse o false) s = .next t ∧ (SMap.get t.syncOut o {}).active = false ∧ t.regs = s.regs)

/-- R110, R111, R122, R124: a binding field of a context that is neither BOUND nor ASSEMBLING takes an allowed value
and FrameBytes and UnitCount follow, and in BOUND the write is E_STATE; R107: its record in the context store is the
1,024 bytes of Table 5.1; Bind binds a context that passes every check, and answers the first check that fails:
E_STATE in BOUND or ASSEMBLING, E_RANGE for a bad binding field, then those of R111's steps 3 to 7; Park parks a
BOUND or ASSEMBLING context; Release frees a context in any state but FREE. R122, R124: ParkTimeout parks a BOUND or
ASSEMBLING context, and EvictTimeout frees an OPEN or PARKED one; EvictTimeout 0 frees none. It rests on choices of
the model: log 26. -/
def Obligations.ContextsLiveAndEnd : Prop :=
  ((∀ (e : Env) (c : Fin 16384) (f : CtxField) (v : Bytes) (s : State), s.mayWrite e (fieldEnt f) c v →
    s.rd .ctxState c ≠ 2 → s.rd .ctxState c ≠ 3 → s.fieldOk c f ((fieldEnt f).info.decode v) = true →
    ∃ t, exec (.contextFieldWrite e c f v) s = .next t ∧ t.rdv (fieldEnt f) c = (fieldEnt f).info.decode v
      ∧ t.rd .frameBytes c = frameBytesOf (t.rd .format c) (t.rd .width c) (t.rd .height c)
      ∧ t.rd .unitCount c = (if t.rd .unitBytes c = 0 then 0
          else ceilDiv (t.rd .frameBytes c) (t.rd .unitBytes c) % 65536)
      ∧ t.rd .ctxState c = s.rd .ctxState c ∧ t.answered e .ok) ∧
  (∀ (e : Env) (c : Fin 16384) (f : CtxField) (v : Bytes) (s : State), s.mayWrite e (fieldEnt f) c v →
    s.rd .ctxState c = 2 ∨ s.rd .ctxState c = 3 →
    ∃ t, exec (.contextFieldWrite e c f v) s = .next t ∧ t.rdv (fieldEnt f) c = s.rdv (fieldEnt f) c
      ∧ t.answered e .state) ∧
  (∀ (e : Env) (c : Fin 16384) (s : State), s.mayWrite e .ctxCommand c [1] → s.rd .ctxState c ≠ 2 →
    s.rd .ctxState c ≠ 3 → s.bindRange c = true → s.bindCheck c = none →
    ∃ t, exec (.bindContext e c) s = .next t ∧ t.rd .ctxState c = 2 ∧ t.rd .unitsReceived c = 0
      ∧ t.rd .lastUnitTime c = s.now ∧ (t.ctx c).amap = 0 ∧ t.answered e .ok) ∧
  (∀ (e : Env) (c : Fin 16384) (s : State), s.mayWrite e .ctxCommand c [1] →
    s.rd .ctxState c = 2 ∨ s.rd .ctxState c = 3 →
    ∃ t, exec (.bindContext e c) s = .next t ∧ t.rd .ctxState c = s.rd .ctxState c ∧ t.answered e .state) ∧
  (∀ (e : Env) (c : Fin 16384) (s : State), s.mayWrite e .ctxCommand c [1] → s.rd .ctxState c ≠ 2 →
    s.rd .ctxState c ≠ 3 → s.bindRange c = false →
    ∃ t, exec (.bindContext e c) s = .next t ∧ t.rd .ctxState c = s.rd .ctxState c ∧ t.answered e .range) ∧
  (∀ (e : Env) (c : Fin 16384) (st : Status) (s : State), s.mayWrite e .ctxCommand c [1] → s.rd .ctxState c ≠ 2 →
    s.rd .ctxState c ≠ 3 → s.bindRange c = true → s.bindCheck c = some st →
    ∃ t, exec (.bindContext e c) s = .next t ∧ t.rd .ctxState c = s.rd .ctxState c ∧ t.answered e st) ∧
  (∀ (e : Env) (c : Fin 16384) (s : State), s.mayWrite e .ctxCommand c [2] →
    s.rd .ctxState c = 2 ∨ s.rd .ctxState c = 3 →
    ∃ t, exec (.park e c) s = .next t ∧ t.rd .ctxState c = 4 ∧ t.rd .window c = s.rd .window c
      ∧ t.answered e .ok) ∧
  (∀ (e : Env) (c : Fin 16384) (s : State), s.mayWrite e .ctxCommand c [3] → s.rd .ctxState c ≠ 0 →
    ∃ t, exec (.release e c) s = .next t ∧ t.rd .ctxState c = 0 ∧ t.rdv .owner c = Ent.owner.dflt
      ∧ t.rd .framesCompleted c = s.rd .framesCompleted c ∧ t.answered e .ok) ∧
  (∀ (c : Nat) (s : State), (s.rdv .bufferSet c).length = 8 → c < 16384 → s.power.ctxLost = false →
    16777216 ≤ s.storeSize 2 →
    (s.ctxRecord c).length = 1024 ∧
    (∀ k < 1024, s.quarryByte (s.storeAddr 2 + 1024 * c + k) = (s.ctxRecord c).getD k 0) ∧
    field (s.ctxRecord c) 0 512 = (s.ctx c).amap % 2 ^ 4096 ∧ field (s.ctxRecord c) 512 1 = s.rd .ctxState c % 256 ∧
    field (s.ctxRecord c) 516 2 = s.rd .owner c % 65536 ∧ field (s.ctxRecord c) 552 4 = s.rd .assemblingFrame c % 2 ^ 32)) ∧
  ((∀ (c : Fin 16384) (s : State), s.alive 6 = true → s.rd .ctxState c = 2 ∨ s.rd .ctxState c = 3 →
    s.rd .lastUnitTime c + s.rd .parkTimeout 0 * 1000000 ≤ s.now →
    ∃ t, exec (.parkTimeout c) s = .next t ∧ t.rd .ctxState c = 4) ∧
  (∀ (c : Fin 16384) (s : State), s.alive 6 = true → s.rd .ctxState c = 1 ∨ s.rd .ctxState c = 4 →
    s.rd .evictTimeout 0 ≠ 0 → (s.ctx c).since + s.rd .evictTimeout 0 * 1000000 < s.now →
    ∃ t, exec (.evictTimeout c) s = .next t ∧ t.rd .ctxState c = 0) ∧
  (∀ (c : Fin 16384) (s : State), s.rd .evictTimeout 0 = 0 → exec (.evictTimeout c) s = .next s))

/-- R109, R112, R114: a video unit for a FREE context admits it with AutoAdmit and is counted without; one from
another source is a foreign drop, one for an OPEN context a discard; a unit of the frame being assembled that passes
every check is written at its place in the buffer and counted in UnitsReceived (the stall counters of the Quarry move
too, R159). R115: a Sequence that is not the expected one is counted once. R117: the first unit of a frame takes the
first buffer that qualifies, in slot order, and enters WRITING with it; without one the frame is counted in
NoBufferDrops. R118: the last unit missing completes the frame: its buffer is READY with the frame's tag, and the
context BOUND. R119: a unit of a newer frame abandons the one being assembled, counted in FramesIncomplete. It rests
on choices of the model: log 133. -/
def Obligations.VideoUnits : Prop :=  (∀ (src chan sq : BitVec 16) (b : Bytes) (s : State), s.on 6 = true → s.rd .ctxState (chan.toNat % 16384) = 0 →
    s.rd .autoAdmit 0 = 1 →
    ∃ t, exec (.videoUnit src chan sq b) s = .next t ∧ t.rd .ctxState (chan.toNat % 16384) = 1
      ∧ t.rd .owner (chan.toNat % 16384) = src.toNat) ∧
  (∀ (src chan sq : BitVec 16) (b : Bytes) (s : State), s.on 6 = true → s.rd .ctxState (chan.toNat % 16384) = 0 →
    s.rd .autoAdmit 0 ≠ 1 →
    exec (.videoUnit src chan sq b) s = .next (s.count .unadmittedDrops 0).stalled) ∧
  (∀ (src chan sq : BitVec 16) (b : Bytes) (s : State), s.on 6 = true → s.rd .ctxState (chan.toNat % 16384) ≠ 0 →
    s.rd .owner (chan.toNat % 16384) ≠ 0xFFFF → s.rd .owner (chan.toNat % 16384) ≠ src.toNat →
    exec (.videoUnit src chan sq b) s = .next (s.count .foreignDrops (chan.toNat % 16384)).stalled) ∧
  (∀ (src chan sq : BitVec 16) (b : Bytes) (s : State), s.on 6 = true → s.rd .ctxState (chan.toNat % 16384) = 1 →
    s.rd .owner (chan.toNat % 16384) = src.toNat →
    exec (.videoUnit src chan sq b) s = .next (s.count .discards (chan.toNat % 16384)).stalled) ∧
  (∀ (src chan sq : BitVec 16) (b : Bytes) (c : Nat) (s : State), s.on 6 = true → c = chan.toNat % 16384 →
    s.rd .ctxState c = 3 → s.rd .owner c = src.toNat → s.unitOk c (unitOf b) = true →
    (unitOf b).frame = s.rd .assemblingFrame c → (s.rd .flags c).testBit 0 = false →
    (s.ctx c).asmBuf ≠ 0xFFFF → (s.ctx c).amap.testBit (unitOf b).unit = false →
    (unitOf b).launch = (s.ctx c).asmLaunch → s.rd .unitsReceived c + 1 < s.rd .unitCount c →
    ∃ t, exec (.videoUnit src chan sq b) s = .next t ∧ t.rd .unitsReceived c = s.rd .unitsReceived c + 1
      ∧ (t.ctx c).amap = (s.ctx c).amap ||| 2 ^ (unitOf b).unit ∧ t.rd .lastUnitTime c = s.now
      ∧ t.quarry = (s.bufWrite (s.ctx c).asmBuf ((unitOf b).unit * s.rd .unitBytes c) (unitOf b).data).quarry) ∧
  (∀ (src chan sq : BitVec 16) (b : Bytes) (c : Nat) (s : State), s.on 6 = true → c = chan.toNat % 16384 →
    s.rd .ctxState c = 2 ∨ s.rd .ctxState c = 3 → s.rd .owner c = src.toNat → s.unitOk c (unitOf b) = false →
    ∃ t, exec (.videoUnit src chan sq b) s = .next t ∧ (t.ctx c).expSeq = (sq.toNat + 1) % 65536
      ∧ t.rd .sequenceGaps c = (if (s.rd .flags c).testBit 1 = true ∧ sq.toNat ≠ (s.ctx c).expSeq
          then min (s.rd .sequenceGaps c + 1) 0xFFFFFFFF else s.rd .sequenceGaps c)
      ∧ t.rd .formatDrops c = min (s.rd .formatDrops c + 1) 0xFFFFFFFF ∧ t.rd .ctxState c = s.rd .ctxState c
      ∧ t.quarry = s.quarry) ∧
  (∀ (src chan sq : BitVec 16) (b : Bytes) (c : Nat) (s : State), s.on 6 = true → c = chan.toNat % 16384 →
    s.rd .ctxState c = 2 → s.rd .owner c = src.toNat → s.unitOk c (unitOf b) = true →
    (s.rd .flags c).testBit 0 = false → 1 < s.rd .unitCount c →
    ∃ t, exec (.videoUnit src chan sq b) s = .next t ∧ t.rd .ctxState c = 3
      ∧ t.rd .assemblingFrame c = (unitOf b).frame ∧ t.rd .lastUnitTime c = s.now ∧
      (∀ i h, (slotOrder (s.ctx c).nextSlot).find? (fun k => s.qualifies c ((s.rdv .bufferSet c).getD k 0xFFFF)) = some i →
        h = (s.rdv .bufferSet c).getD i 0xFFFF →
        (t.ctx c).asmBuf = h ∧ (t.ctx c).nextSlot = (i + 1) % 8 ∧ t.rd .handleState h = 1 ∧ t.rd .lastWriter h = c
          ∧ (t.ctx c).amap = 2 ^ (unitOf b).unit ∧ (t.ctx c).asmLaunch = (unitOf b).launch ∧ t.rd .unitsReceived c = 1
          ∧ t.rd .noBufferDrops c = s.rd .noBufferDrops c) ∧
      ((slotOrder (s.ctx c).nextSlot).find? (fun k => s.qualifies c ((s.rdv .bufferSet c).getD k 0xFFFF)) = none →
        (t.ctx c).asmBuf = 0xFFFF ∧ t.rd .noBufferDrops c = min (s.rd .noBufferDrops c + 1) 0xFFFFFFFF
          ∧ t.rd .unitsReceived c = 0 ∧ t.quarry = s.quarry)) ∧
  (∀ (src chan sq : BitVec 16) (b : Bytes) (c : Nat) (s : State), s.on 6 = true → c = chan.toNat % 16384 →
    s.rd .ctxState c = 3 → s.rd .owner c = src.toNat → s.unitOk c (unitOf b) = true →
    (unitOf b).frame = s.rd .assemblingFrame c → (s.rd .flags c).testBit 0 = false → (s.rd .flags c).testBit 2 = false →
    (unitOf b).last = false → (s.ctx c).asmBuf ≠ 0xFFFF → (s.ctx c).amap.testBit (unitOf b).unit = false →
    (unitOf b).launch = (s.ctx c).asmLaunch → s.rd .unitsReceived c + 1 = s.rd .unitCount c → s.rd .launchMode c = 0 →
    ∃ t, exec (.videoUnit src chan sq b) s = .next t ∧ t.rd .ctxState c = 2
      ∧ t.rd .newestFrame c = (unitOf b).frame ∧ (t.rd .flags c).testBit 0 = true
      ∧ t.rd .handleState (s.ctx c).asmBuf = 2 ∧ t.rd .frameTag (s.ctx c).asmBuf = (unitOf b).frame
      ∧ t.rd .framesCompleted c = min (s.rd .framesCompleted c + 1) 0xFFFFFFFF) ∧
  (∀ (src chan sq : BitVec 16) (b : Bytes) (c : Nat) (s : State), s.on 6 = true → c = chan.toNat % 16384 →
    s.rd .ctxState c = 3 → s.rd .owner c = src.toNat → s.unitOk c (unitOf b) = true →
    0 < sgn 32 ((unitOf b).frame + 4294967296 - s.rd .assemblingFrame c) → (s.rd .flags c).testBit 0 = false →
    (s.ctx c).asmBuf ≠ 0xFFFF → 1 < s.rd .unitCount c →
    ∃ t, exec (.videoUnit src chan sq b) s = .next t ∧ t.rd .ctxState c = 3
      ∧ t.rd .assemblingFrame c = (unitOf b).frame
      ∧ t.rd .framesIncomplete c = min (s.rd .framesIncomplete c + 1) 0xFFFFFFFF
      ∧ (t.rd .handleState (s.ctx c).asmBuf = 0 ∨ (t.ctx c).asmBuf = (s.ctx c).asmBuf))

/-- R153, R154: Allocate gives a handle without pages the lowest free pages it asks for; Free returns the pages of a
FREE or READY handle that nothing holds, and moves a SHOWING one to RETIRE_PENDING, counted. R20: a placement write
that is allowed and changes a store's place clears it. It rests on choices of the model: log 29, 163. -/
def Obligations.BufferCommands : Prop :=  (∀ (e : Env) (h : Fin 1024) (s : State), s.mayWrite e .handleCommand h [1] → s.rd .handleState h ≠ 4 →
    s.rd .pageCount h = 0 → 1 ≤ s.rd .pageRequest h → s.rd .pageRequest h ≤ 576 →
    s.rd .pageRequest h ≤ s.freePageList.length →
    ∃ t, exec (.allocate e h) s = .next t ∧ (t.buf h).pages = s.freePageList.take (s.rd .pageRequest h)
      ∧ t.rd .pageCount h = s.rd .pageRequest h ∧ t.answered e .ok) ∧
  (∀ (e : Env) (h : Fin 1024) (s : State), s.mayWrite e .handleCommand h [1] → s.rd .handleState h ≠ 4 →
    s.rd .pageCount h = 0 → 1 ≤ s.rd .pageRequest h → s.rd .pageRequest h ≤ 576 →
    s.freePageList.length < s.rd .pageRequest h →
    ∃ t, exec (.allocate e h) s = .next t ∧ t.bufs = s.bufs ∧ t.answered e .noSpace) ∧
  (∀ (e : Env) (h : Fin 1024) (s : State), s.mayWrite e .handleCommand h [2] → s.rd .pageCount h ≠ 0 →
    s.rd .handleState h = 0 ∨ s.rd .handleState h = 2 → (∀ c ∈ s.boundCtxs, s.inSet c h = false) → s.held h = false →
    ∃ t, exec (.free e h) s = .next t ∧ (t.buf h).pages = [] ∧ t.rd .pageCount h = 0 ∧ t.rd .handleState h = 0
      ∧ t.answered e .ok) ∧
  (∀ (e : Env) (h : Fin 1024) (s : State), s.mayWrite e .handleCommand h [2] → s.rd .pageCount h ≠ 0 →
    s.rd .handleState h = 3 → (∀ c ∈ s.boundCtxs, s.inSet c h = false) → s.held h = false →
    ∃ t, exec (.free e h) s = .next t ∧ t.rd .handleState h = 4 ∧ (t.buf h).pages = (s.buf h).pages
      ∧ t.rd .earlyFrees 0 = min (s.rd .earlyFrees 0 + 1) 0xFFFFFFFF ∧ t.answered e .ok) ∧
  (∀ (e : Env) (k : Fin 6) (v : Bytes) (w : Nat) (s : State), s.mayWrite e (placeEnt k) 0 v →
    (placeEnt k).info.decode v = [w] → s.running = false → s.having .handleState (· ≠ 0) = [] → s.openJobs = [] →
    s.openXfers = [] → s.placeOk k w = true → s.rd (placeEnt k) 0 ≠ w →
    ∃ t, exec (.storePlacementWrite e k v) s = .next t ∧ t.rd (placeEnt k) 0 = w ∧ t.answered e .ok
      ∧ ∀ a, w % 512 * 524288 ≤ a → a < w % 512 * 524288 + w / 65536 % 512 * 524288 → SMap.get t.quarry a 0 = 0)

/-- R182: a capture that passes its checks is armed with its handle in WRITING; at its boundary, with the modulator
stopped and no launch queued, the three planes of the view's output, as its reads leave it decided, go into the
handle's pages and the capture runs, or it aborts when D12 is not ON; when the image is complete the handle is READY
under the capture's number; CaptureAbort frees the handle. It rests on choices of the model: log 68. -/
def Obligations.CaptureRuns : Prop :=  (∀ (e : Env) (v : Bytes) (at_ : Nat) (s : State), s.mayWrite e .captureAt 0 v →
    Ent.captureAt.info.decode v = [at_] → s.captureCheck at_ = none →
    ∃ t, exec (.captureArm e v) s = .next t ∧ t.rd .captureState 0 = 1 ∧ t.rd .handleState (s.rd .captureHandle 0) = 1
      ∧ t.cap = { since := at_, view := s.rd .captureView 0, handle := s.rd .captureHandle 0
                  target := s.rd .captureTarget 0 } ∧ t.answered e .ok) ∧
  (∀ (e : Env) (v : Bytes) (at_ : Nat) (st : Status) (s : State), s.mayWrite e .captureAt 0 v →
    Ent.captureAt.info.decode v = [at_] → s.captureCheck at_ = some st →
    ∃ t, exec (.captureArm e v) s = .next t ∧ t.rd .captureState 0 = s.rd .captureState 0 ∧ t.answered e st) ∧
  (∀ (s : State), s.rd .captureState 0 = 1 → s.timeRuns = true → s.boundaryFrom s.cap.since ≤ s.now →
    s.running = false → s.alive 12 = true →
    ∃ t, exec .captureBoundary s = .next t ∧ t.rd .captureState 0 = 2) ∧
  (∀ (g w h n : Nat) (f : Look) (m : SMap Shown) (u s : State), s.rd .captureState 0 = 1 → s.timeRuns = true →
    g = s.boundaryFrom s.cap.since → g ≤ s.now → s.running = false → s.alive 12 = true →
    (s.view s.cap.view).queue = [] → f = s.tablesAt g → m = s.shownAt s.cap.view g →
    n = s.patternCount s.cap.view g → w = f.n .tileWidth 0 → h = f.n .tileHeight 0 →
    u = s.forEach (List.range (w * h)) (fun a i => a.readPixel f m s.cap.view (i % w) (i / w)) →
    ∃ t, exec .captureBoundary s = .next t ∧ t.quarry = (([0, 1, 2] : List Nat).foldl (fun a p =>
      a.bufWrite s.cap.handle (planeBase (12 * 256 + s.cap.target * 65536) w h p)
        (encodePlane w h 12 s.cap.target (fun x y => (u.viewPixel f m s.cap.view n x y).getD p 0 / 256))) u).quarry) ∧
  (∀ (s : State), s.rd .captureState 0 = 1 → s.timeRuns = true → s.boundaryFrom s.cap.since ≤ s.now →
    s.alive 12 = false →
    ∃ t, exec .captureBoundary s = .next t ∧ t.rd .captureState 0 = 0 ∧ t.rd .handleState s.cap.handle = 0) ∧
  (∀ (s : State), s.rd .captureState 0 = 2 →
    ∃ t, exec .captureDone s = .next t ∧ t.rd .captureState 0 = 0 ∧ t.rd .handleState s.cap.handle = 2
      ∧ t.rd .captureNumber 0 = min (s.rd .captureNumber 0 + 1) 0xFFFFFFFF
      ∧ t.rd .frameTag s.cap.handle = t.rd .captureNumber 0) ∧
  (∀ (e : Env) (s : State), s.mayWrite e .captureAbort 0 [1] → s.rd .captureState 0 ≠ 0 →
    ∃ t, exec (.captureAbort e [1]) s = .next t ∧ t.rd .captureState 0 = 0 ∧ t.rd .handleState s.cap.handle = 0
      ∧ t.answered e .ok)

/-- R191: a change of PrimaryCount while stopped clears CoefValid, the defect states and ConcealList, a staged one
too; while the modulator runs it is E_STATE. R225, R226: at its effect time a waiting commit of one entry takes
effect: the value is in force and the commit waits no longer. (The entries whose changes act on the time grid, the
views, the patterns or the defect states have their own effects beside it.) All the values of a commit take effect
together, those of timing entries too; R230, R231: one whose change is incompatible begins a Slate frame at its
effect time, with the previous-output store clear (R203), and another begins none; R229, R193, R233: a commit that
the device makes sets bands or the throttle step. It rests on choices of the model: log 11, 12, 29. -/
def Obligations.ParametersTakeEffect : Prop :=
  ((∀ (e : Env) (v : Bytes) (n : Nat) (s : State), s.mayWrite e .primaryCount 0 v →
    Ent.primaryCount.info.decode v = [n] → n = 3 ∨ n = 4 → n ≠ s.rd .primaryCount 0 → s.running = false →
    tileFits (s.rd .tileWidth 0) (s.rd .tileHeight 0) n = true →
    ∃ t, exec (.primaryCountWrite e v) s = .next t ∧ t.rd .primaryCount 0 = n ∧ t.rd .coefValid 0 = 0
      ∧ t.rdv .concealList 0 = [] ∧ t.defects = { since := s.defects.since }
      ∧ (∀ p ∈ t.mgmt.staged, p.1 = key .concealList 0 → p.2 = []) ∧ t.answered e .ok) ∧
  (∀ (e : Env) (v : Bytes) (s : State), s.mayWrite e .primaryCount 0 v → s.running = true →
    ∃ t, exec (.primaryCountWrite e v) s = .next t ∧ t.rd .primaryCount 0 = s.rd .primaryCount 0
      ∧ t.defects = s.defects ∧ t.answered e .state)) ∧
  ((∀ (x : Ent) (i : Nat) (v : Val) (p : Pend) (s : State), s.modl.commits = [p] → p.done = false → p.e ≤ s.now →
    p.values = [(key x i, v)] → p.dev = {} → x.info.cls = .refresh ∨ x.info.cls = .frame → x ∉ timingEnts → x ≠ .concealList →
    x ≠ .pattern → x ≠ .throttleStep →
    ∃ t, exec .commitEffect s = .next t ∧ t.rdv x i = v ∧ t.modl.commits = [] ∧ t.mgmt.staged = s.mgmt.staged) ∧
  (∀ (p : Pend) (s : State), s.modl.commits = [p] → p.done = false → p.e ≤ s.now → p.dev = {} →
    (p.values.map Prod.fst).Nodup →
    (∀ q ∈ p.values, ∃ x i, q.1 = key x i ∧ (x.info.cls = .refresh ∨ x.info.cls = .frame) ∧ x ≠ .concealList
      ∧ x ≠ .throttleStep) →
    ∃ t, exec .commitEffect s = .next t ∧ t.modl.commits = [] ∧ (∀ x i v, (key x i, v) ∈ p.values → t.rdv x i = v) ∧
      (s.running = true → s.slateAt p.e = true → s.modl.slate.map Prod.fst ≠ some p.e →
        t.modl.slate.map Prod.fst = some p.e ∧ t.rd .slateFrames 0 = min (s.rd .slateFrames 0 + 1) 0xFFFFFFFF
          ∧ ∀ a, s.storeAddr 1 ≤ a → a < s.storeAddr 1 + s.storeSize 1 → SMap.get t.quarry a 0 = 0) ∧
      (s.running = false ∨ s.slateAt p.e = false → t.modl.slate = s.modl.slate ∧ t.rd .slateFrames 0 = s.rd .slateFrames 0)) ∧
  (∀ (p : Pend) (l : List (Nat × Nat)) (s : State), s.modl.commits = [p] → p.done = false → p.e ≤ s.now → p.values = [] →
    p.dev = { band := l } → (l.map Prod.fst).Nodup → (∀ a ∈ l, a.1 < 65536) →
    ∃ t, exec .commitEffect s = .next t ∧ t.modl.commits = [] ∧ ∀ a ∈ l, t.rd .band a.1 = a.2) ∧
  (∀ (p : Pend) (n : Nat) (s : State), s.modl.commits = [p] → p.done = false → p.e ≤ s.now → p.values = [] →
    p.dev = { throttle := some n } →
    n ≠ 2 ∨ step2Ok (s.rd .viewCount 0) (s.rd .refreshesPerView 0) (s.rd .framePeriod 0) = true →
    ∃ t, exec .commitEffect s = .next t ∧ t.modl.commits = [] ∧ t.rd .throttleStep 0 = n))

/-- R231, R232: a write of 1 to ModulatorRun of a stopped modulator whose configuration passes R221 schedules a
start, and a write of 0 to a running one a stop at a frame boundary; while one is scheduled a further write, of 1 or
of 0, is E_BUSY; at its boundary the start sets ModulatorRun, starts the generations again and begins a Slate frame,
with the previous-output store clear from its start (the model's choice, log 15), and the stop clears ModulatorRun
and empties the ledger; the Slate frame ends at its end time. It rests on choices of the model: log 13, 15, 31, 58. -/
def Obligations.ModulatorStartsAndStops : Prop :=  (∀ (e : Env) (s : State), s.mayWrite e .modulatorRun 0 [1] → s.modl.startE = none → s.modl.stopE = none →
    s.running = false → s.lanesOn (s.committed.n .laneCount 0) = true → s.configCheck s.committed [] true = none →
    ∃ t at_, exec (.modulatorStart e) s = .next t ∧ t.modl.startE = some at_ ∧ t.running = false ∧ t.answered e .ok) ∧
  (∀ (e : Env) (s : State), s.mayWrite e .modulatorRun 0 [0] → s.modl.startE = none → s.modl.stopE = none →
    s.running = true →
    ∃ t, exec (.modulatorStop e) s = .next t
      ∧ t.modl.stopE = some (s.effectTime (s.dispFine + s.horizon) true) ∧ t.running = true ∧ t.answered e .ok) ∧
  (∀ (e : Env) (s : State), s.mayWrite e .modulatorRun 0 [1] → s.modl.startE.isSome = true ∨ s.modl.stopE.isSome = true →
    ∃ t, exec (.modulatorStart e) s = .next t ∧ t.modl = s.modl ∧ t.answered e .busy) ∧
  (∀ (at_ : Nat) (s : State), s.modl.startE = some at_ → s.alive 15 = true → at_ ≤ s.now →
    ∃ t, exec .modulatorStartEffect s = .next t ∧ t.rd .modulatorRun 0 = 1 ∧ t.rd .generation 0 = 0
      ∧ t.modl.startE = none ∧ t.modl.slate.map Prod.fst = some at_
      ∧ ∀ a, s.storeAddr 1 ≤ a → a < s.storeAddr 1 + s.storeSize 1 → SMap.get t.quarry a 0 = 0) ∧
  (∀ (at_ : Nat) (s : State), s.modl.stopE = some at_ → s.running = true → at_ ≤ s.now → s.modl.commits = [] →
    ∃ t, exec .modulatorStopEffect s = .next t ∧ t.rd .modulatorRun 0 = 0 ∧ t.modl.lanes = []
      ∧ t.modl.stopE = none ∧ t.modl.slate = none) ∧
  (∀ (a b : Nat) (s : State), s.modl.slate = some (a, b) → s.running = true → b ≤ s.now →
    ∃ t, exec .slateFrameEnd s = .next t ∧ t.modl.slate = none ∧ t.modl.wasSlate = true
      ∧ t.rd .modulatorRun 0 = s.rd .modulatorRun 0) ∧
  (∀ (e : Env) (s : State), s.mayWrite e .modulatorRun 0 [0] → s.modl.startE.isSome = true ∨ s.modl.stopE.isSome = true →
    ∃ t, exec (.modulatorStop e) s = .next t ∧ t.modl = s.modl ∧ t.answered e .busy)

/-- R223, R224: with room in a lane's run-ahead the next burst in launch order is begun and its ledger entry is
COMPUTING; its computation ends with the entry COMPUTED and its codes in staging; a squashed one's result is
discarded. R214, R227, R261: at its launch line the first burst of a lane leaves the ledger; one that is not computed
is counted in MissedBursts; in a quadrant that is dark for lost lock it is dropped and counted in UnlockDrops. R217,
R218, R205, R207: a new burst that is not DARK has the code and the drive of each of its outputs under the parameters
of its refresh, and the log codes of its lamps enter the previous-output store. A lamp whose drive is forced to 0 has
code 0 and stores 0; another takes its drive through overdrive and first-row gain and then the plane code (or grey
word), and every one of the 2^m thresholds is met in 2^m slots in turn. R178, R179, R180: the window of a layer is
blended by its Alpha, OVER or ADD; the tone curve acts on the largest primary of the pixel by its knots and keeps the
ratios between its primaries; the last stage dims, limits and scales every primary, and no output exceeds 1,048,575.
It rests on choices of the model: log 14, 15, 57, 59, 156, 164. -/
def Obligations.BurstsRunTheirCourse : Prop :=
  ((∀ (l : Fin 512) (a : LaneLed) (s : State), s.running = true → s.alive 15 = true → s.recordsInside = true →
    SMap.find s.modl.lanes l = some a → firstSquashed a.ents = none →
    a.ents.length < min ((s.geoAt a.frame).d * (s.geoAt a.frame).k) 256 →
    ∃ t x, exec (.burstCompute l) s = .next t ∧ (t.led l).ents = a.ents ++ [x] ∧ x.st = .computing ∧ x.busy = true
      ∧ x.row = a.row ∧ x.frame = a.frame ∧ x.j = a.j ∧ x.seq = a.seq ∧ x.gen = s.modl.gen.toNat % 65536) ∧
  (∀ (l : Fin 512) (x : LedEnt) (q r : List LedEnt) (s : State), (s.led l).ents = q ++ x :: r →
    (∀ y ∈ q, y.busy = false) → x.busy = true → x.st = .computing →
    ∃ t, exec (.burstComputed l) s = .next t ∧ (t.led l).ents = q ++ { x with busy := false, st := .computed } :: r
      ∧ SMap.find t.modl.staging (l * 512 + x.slot) = some x.codes ∧ t.regs = s.regs) ∧
  (∀ (l : Fin 512) (x : LedEnt) (q r : List LedEnt) (s : State), (s.led l).ents = q ++ x :: r →
    (∀ y ∈ q, y.busy = false) → x.busy = true → x.st = .squashed →
    ∃ t, exec (.burstComputed l) s = .next t ∧ (t.led l).ents = q ++ { x with busy := false } :: r
      ∧ t.modl.staging = s.modl.staging ∧ t.regs = s.regs)) ∧
  (∀ (l : Fin 512) (a : LaneLed) (x : LedEnt) (q : List LedEnt) (s : State), s.running = true → s.alive 15 = true →
    s.timeRuns = true → SMap.find s.modl.lanes l = some a → a.ents = x :: q →
    s.lineOf x.start x.row ≤ s.dispFine →
    ∃ t, exec (.launchLine l) s = .next t ∧ (t.led l).ents = q ∧
      (s.quadDark (l / 128) = false → t.rd .missedBursts 0 =
        (if x.st = .computed then s.rd .missedBursts 0 else min (s.rd .missedBursts 0 + 1) 0xFFFFFFFF)) ∧
      (s.quadDark (l / 128) = true → (s.quad (l / 128)).counting = true →
        t.rd .unlockDrops 0 = min (s.rd .unlockDrops 0 + 1) 0xFFFFFFFF ∧ t.rd .missedBursts 0 = s.rd .missedBursts 0)) ∧
  ((∀ (l : Fin 512) (a : LaneLed) (e : LedEnt) (w : State) (f : Look) (g : Geo) (shown : SMap Shown) (dead : List Nat)
    (u : State) (vals : List OutVal) (s : State), s.running = true → s.alive 15 = true → s.recordsInside = true →
    SMap.find s.modl.lanes l = some a → firstSquashed a.ents = none →
    a.ents.length < min ((s.geoAt a.frame).d * (s.geoAt a.frame).k) 256 →
    e = s.newEntry a.frame a.j a.row a.seq a.nextSlot false → e.dark = false →
    w = s.decideLaunches e.view (e.start / 4294967296) → f = w.tablesAt (e.start / 4294967296) →
    g = w.geoAt (e.start / 4294967296) → shown = w.shownAt e.view (e.start / 4294967296) →
    dead = w.concealedAt (e.start / 4294967296) → u = w.readBurst f shown dead e.view (g.outputs l e.row) →
    vals = (g.outputs l e.row).map (u.outVal f g dead (u.shutAt (e.start / 4294967296))
      (u.viewPixel f shown e.view (u.patternCount e.view (e.start / 4294967296))) e) →
    ∃ t x, exec (.burstCompute l) s = .next t ∧ (t.led l).ents = a.ents ++ [x] ∧ x.codes = vals.map (fun v => v.code)
      ∧ x.drives = vals.map (fun v => v.drive)
      ∧ t.quarry = (u.forEach (vals.filterMap (fun v => v.store))
          (fun z q => z.quarryWrite (z.prevAddr q.1) [BitVec.ofNat 8 q.2])).quarry) ∧
  (∀ (f : Look) (g : Geo) (dead shut : List Nat) (pv : Nat → Nat → List Nat) (e : LedEnt) (x y p : Nat) (v : OutVal)
    (s : State), f.n .pattern e.view % 16 = 0 → v = s.outVal f g dead shut pv e (some (x, y, p)) →
    (absentBit (f.n .primaryCount 0) (s.coefRecord (f.n .primaryCount 0) (y * f.n .tileWidth 0 + x)) = true ∨
      ((f.n .compControl 0).testBit 3 = true ∧ (y * f.n .tileWidth 0 + x) * f.n .primaryCount 0 + p ∈ dead) →
      v.drive = 0 ∧ v.code = 0 ∧ v.store = some (g.lamp x y p, 0)) ∧
    ((s.driveValue f dead shut (e.start / 4294967296) pv x y p).2.1 = false →
      v.drive = transition f p (SMap.get s.quarry (s.prevAddr (g.lamp x y p)) 0).toNat
        (s.driveValue f dead shut (e.start / 4294967296) pv x y p).1 e.skipod (e.row = 0)
      ∧ v.code = (if g.grey = true then min ((v.drive + ditherAt f (g.lastK e.frame) x y p / 1024) / 4) 65535
          else planeCode g.p g.m (g.viewSlot e.j) (ditherAt f (g.lastK e.frame) x y p) v.drive)
      ∧ v.store = some (g.lamp x y p, logCode (s.driveValue f dead shut (e.start / 4294967296) pv x y p).1)) ∧
    v.drive ≤ 262143) ∧
  (∀ (f : Look) (p prev d i j : Nat) (a b : Int) (tab : Nat → Nat → Int), (f.n .overdriveControl 0).testBit 0 = true →
    i = prev / 8 → j = logCode d / 8 → a = (prev % 8 : Nat) → b = (logCode d % 8 : Nat) →
    (∀ i j, tab i j = sgn 32 ((f .overdriveTable 0).getD (p * 1089 + i * 33 + j) 0)) →
    transition f p prev d false false = (min 262143 (max 0 ((d : Int) + ((8 - a) * (8 - b) * tab i j
      + a * (8 - b) * tab (i + 1) j + (8 - a) * b * tab i (j + 1) + a * b * tab (i + 1) (j + 1) + 32) / 64))).toNat) ∧
  (∀ (f : Look) (p prev d : Nat), d ≤ 262143 → transition f p prev d true false = d ∧
    transition f p prev d true true = (if (f.n .overdriveControl 0).testBit 1 = true then
      min ((d * (f .firstRowGain 0).getD p 0 + 16384) / 32768) 262143 else d)) ∧
  (∀ (planes m j cell x : Nat), planes ≤ 18 → m ≤ 18 - planes →
    (planeCode planes m j cell x < 2 ^ planes ∧
    ∀ t, t < 2 ^ m → ∃ k, k < 2 ^ m ∧ planeCode planes m k cell x = min ((x + t * 2 ^ (18 - planes - m)
      + if m < 18 - planes then 2 ^ (18 - planes - m - 1) else 0) / 2 ^ (18 - planes)) (2 ^ planes - 1)))) ∧
  ((∀ (f : Look) (shown : SMap Shown) (v px py pc layer w c r p : Nat) (x : Shown) (below top : List Nat) (s : State),
    (f.n .layerEnable v).testBit layer = true → layerWindow f shown v layer px py = some (w, x, c, r) →
    top = toTile (f (primariesEnt (f.n .encoding w / 256 % 4)) 0) pc
      (luminance f (f.n .encoding w) (f.n .nominalPeak w) (s.rgbPrime x (f.n .encoding w) c r)) →
    below.length = pc → p < pc →
    (s.blendLayer f shown v px py pc below layer).getD p 0 =
      (if (f.n .control w).testBit 9 = true then
        min (below.getD p 0 + (f.n .alpha w * top.getD p 0 + 2048) / 4096) 4294967295
       else (f.n .alpha w * top.getD p 0 + (4096 - f.n .alpha w) * below.getD p 0 + 2048) / 4096)) ∧
  (∀ (knots : Val) (px : List Nat) (m k p t : Nat), (∀ i, i < 32 → knots.getD (2 * i) 0 < knots.getD (2 * i + 2) 0) →
    knots.getD 0 0 = 0 → px.length = 3 ∨ px.length = 4 → p < px.length → m ∈ px → (∀ a ∈ px, a ≤ m) →
    (m = 0 → tone knots px = px) ∧
    (0 < m → (knots.getD 64 0 ≤ m ∧ t = knots.getD 65 0) ∨
        (k < 32 ∧ knots.getD (2 * k) 0 ≤ m ∧ m < knots.getD (2 * k + 2) 0 ∧
          t = knots.getD (2 * k + 1) 0 + ((m - knots.getD (2 * k) 0) * (knots.getD (2 * k + 3) 0 - knots.getD (2 * k + 1) 0)
            + (knots.getD (2 * k + 2) 0 - knots.getD (2 * k) 0) / 2) / (knots.getD (2 * k + 2) 0 - knots.getD (2 * k) 0)) →
      (tone knots px).length = px.length ∧ (tone knots px).getD p 0 = min ((px.getD p 0 * t + m / 2) / m) 4294967295)) ∧
  (∀ (f : Look) (shown : SMap Shown) (v px py : Nat) (s : State), 0 < f.n .tilePeak 0 →
    ∀ q ∈ s.composite f shown v px py, q ≤ 1048575) ∧
  (∀ (f : Look) (v p : Nat) (px : List Nat), px.length = 3 ∨ px.length = 4 → p < px.length →
    (finishPixel f v px).length = px.length ∧ (finishPixel f v px).getD p 0 =
      (min ((px.getD p 0 * f.n .dimmer v + 16384) / 32768) (min (f.n .brightnessLimit v) (f.n .tilePeak 0) * 262144) * 1048575
        + f.n .tilePeak 0 * 131072) / (f.n .tilePeak 0 * 262144)))

/-- R197, R251: at a frame boundary, with no readback awaited, a lamp seen only faulty in a frame period that has
ended goes one step on, from OK to SUSPECT; one seen good in it goes back to OK. R196, R198, R199: the verdict after
count 7 confirms it: with a slot free it is appended to ConcealList and to a staged one, and a frame-class commit of
the device conceals it, at once where the modulator is stopped; R198: a committed ConcealList conceals the lamps it
names and takes others back to OK. R251: a readback frame that answers the group's oldest request with the right
length, start bit, tag and check is counted in ReadbackFrames and clears the run of errors; any other is counted in
ReadbackErrors; and so is a request whose start bit does not come in time. (While no verdict of an ended frame period
is due.) It rests on choices of the model: log 55, 56. -/
def Obligations.LampVerdictsAndReadback : Prop :=
  ((∀ (lamp f k : Nat) (s : State), s.alive 13 = true → s.timeRuns = true → s.boundaryFrom (s.defects.since + 1) ≤ s.now →
    (∀ p ∈ s.groups, p.2.want = []) → s.defects.seen = [(f, lamp, k)] → k ≠ 0 → f < s.frameOf s.now →
    s.defState lamp = 0 →
    ∃ t, exec .defectVerdict s = .next t ∧ t.defState lamp = 1 ∧ t.defects.seen = []) ∧
  (∀ (lamp f k : Nat) (s : State), s.alive 13 = true → s.timeRuns = true → s.boundaryFrom (s.defects.since + 1) ≤ s.now →
    (∀ p ∈ s.groups, p.2.want = []) → s.defects.seen = [(f, lamp, k), (f, lamp, 0)] → f < s.frameOf s.now →
    1 ≤ s.defState lamp → s.defState lamp ≤ 7 →
    ∃ t, exec .defectVerdict s = .next t ∧ t.defState lamp = 0 ∧ t.defects.seen = []) ∧
  (∀ (lamp f k c e : Nat) (s : State), s.alive 13 = true → s.timeRuns = true →
    s.boundaryFrom (s.defects.since + 1) ≤ s.now → (∀ p ∈ s.groups, p.2.want = []) → s.defects.seen = [(f, lamp, k)] →
    k ≠ 0 → f < s.frameOf s.now → s.defState lamp = 7 → c = SMap.get s.defects.cause lamp 0 → s.slotFree = true →
    (∀ r ∈ s.rdv .concealList 0, recLamp r ≠ lamp) → lamp < 4194304 →
    e = s.effectTime (s.dispFine + horizon2 s.geo s.geo) true →
    ∃ t, exec .defectVerdict s = .next t ∧ t.rdv .concealList 0 = s.rdv .concealList 0 ++ [lamp + 4194304 * c] ∧
      (∀ v, (key .concealList 0, v) ∈ s.mgmt.staged → (∀ r ∈ v, recLamp r ≠ lamp) →
        (key .concealList 0, v ++ [lamp + 4194304 * c]) ∈ t.mgmt.staged) ∧
      (s.running = false → t.defState lamp = 9) ∧
      (s.running = true → s.now < e → t.defState lamp = 8 ∧
        ∃ p ∈ t.modl.commits, p.e = e ∧ p.origin = .conceal ∧ p.isFrame = true ∧ p.dev = { conceal := [(lamp, c)] })) ∧
  (∀ (p : Pend) (v : Val) (s : State), s.modl.commits = [p] → p.done = false → p.e ≤ s.now →
    p.values = [(key .concealList 0, v)] → p.kept = [] → p.dev = {} → SMap.sorted s.defects.st = true →
    ∃ t, exec .commitEffect s = .next t ∧ t.rdv .concealList 0 = v ∧ (∀ r ∈ v, t.defState (recLamp r) = 9) ∧
      (∀ lamp, lamp ∉ v.map recLamp → 9 ≤ s.defState lamp → s.defState lamp ≤ 10 → t.defState lamp = 0) ∧
      (∀ lamp, lamp ∉ v.map recLamp → s.defState lamp ≤ 8 → t.defState lamp = s.defState lamp))) ∧
  ((∀ (g : Fin 64) (bits : List Bool) (w : Want) (q : List Want) (s : State),
    s.alive (16 + g / 16) = true → (SMap.get s.groups g {}).want = w :: q → (∀ v ∈ w :: q, s.dispFine ≤ v.due) →
    (∀ o ∈ s.defects.seen, s.defects.since ≤ o.1) → s.defects.since ≤ s.frameOf (w.lit / 4294967296) →
    ∃ t, exec (.lrbFrame g bits) s = .next t ∧ (SMap.get t.groups g {}).want = q ∧
      (if lrbOk (s.geoAt (w.lit / 4294967296)).oc w.row bits = true then
        t.rd .readbackFrames w.lane = min (s.rd .readbackFrames w.lane + 1) 0xFFFFFFFF
          ∧ (SMap.get t.groups g {}).errRun = 0
      else t.rd .readbackErrors w.lane = min (s.rd .readbackErrors w.lane + 1) 0xFFFFFFFF
          ∧ (SMap.get t.groups g {}).errRun = (SMap.get s.groups g {}).errRun + 1)) ∧
  (∀ (g : Fin 64) (w : Want) (s : State), s.timeRuns = true →
    (SMap.get s.groups g {}).want = [w] → w.due < s.dispFine → (∀ o ∈ s.defects.seen, s.defects.since ≤ o.1) →
    ∃ t, exec (.lrbStartBitLate g) s = .next t ∧ (SMap.get t.groups g {}).want = []
      ∧ t.rd .readbackErrors w.lane = min (s.rd .readbackErrors w.lane + 1) 0xFFFFFFFF))

/-- R254, R255: a TE edge in time fixes its domain's swap instant, shown in TeLastSwap; no edge in FramePeriod ÷ 20
gives the frame up and is counted in TeMisses. R261, R263: a lane-quadrant PLL that loses lock clears its bit of
QuadrantLocked and darkens its quadrant; its relock sets the bit again; the quadrant resumes its loads at its frame
boundary. It rests on choices of the model: log 57, 58, 134. -/
def Obligations.TearingAndDarkQuadrants : Prop :=
  ((∀ (i : Fin 16) (s : State), s.alive (16 + i / 4) = true → s.teTimes i = true →
    (s.teFor i (s.frameOf s.now)).w = none → (s.teFor i (s.frameOf s.now)).skip = false →
    s.dispFine ≤ s.teDue (s.teFor i (s.frameOf s.now)) → i.val < (s.rdv .teLastSwap 0).length →
    ∃ t, exec (.teEdge i) s = .next t ∧ (SMap.get t.tes i {}).w = some s.now
      ∧ (SMap.get t.tes i {}).missing = false ∧ t.rdn .teLastSwap 0 i = s.now) ∧
  (∀ (i : Fin 16) (s : State), s.alive (16 + i / 4) = true → s.timeRuns = true → s.teTimes i = true →
    (s.teFor i (s.frameOf s.now)).w = none → (s.teFor i (s.frameOf s.now)).skip = false →
    s.teDue (s.teFor i (s.frameOf s.now)) ≤ s.dispFine →
    ∃ t, exec (.teTimeout i) s = .next t ∧ (SMap.get t.tes i {}).skip = true
      ∧ t.rd .teMisses 0 = min (s.rd .teMisses 0 + 1) 0xFFFFFFFF)) ∧
  ((∀ (q : Fin 4) (s : State), s.alive (16 + q) = true → (s.rd .quadrantLocked 0).testBit q = true →
    ∃ t, exec (.lanePllUnlock q) s = .next t ∧ (t.rd .quadrantLocked 0).testBit q = false
      ∧ (t.quad q).unlock = true ∧ (t.quad q).counting = true ∧ t.quadDark q = true) ∧
  (∀ (q : Fin 4) (s : State), s.alive (16 + q) = true → (s.quad q).unlock = true → (s.quad q).dip = false →
    (s.quad q).hot = false → (s.rd .quadrantLocked 0).testBit q = false →
    ∃ t, exec (.lanePllRelock q) s = .next t ∧ (t.rd .quadrantLocked 0).testBit q = true
      ∧ (t.quad q).unlock = false ∧ (t.quad q).relock = some s.dispFine) ∧
  (∀ (q : Fin 4) (x : Nat) (s : State), (s.quad q).relock = some x → s.timeRuns = true → s.resumeAt x ≤ s.now →
    exec (.quadrantResume q) s = .next (s.setQuad q { s.quad q with relock := none, counting := false })))

/-- R274, R276: OPEN on a session opens it for the request's Source with its Sequence and time-out, discarding the
session's staged writes and open segment; CLOSE closes it and discards the same; a session without a request for its
time-out expires, counted in SessionExpiries. R282: 100 ms without a segment discards a session's open transfer,
counted in SegmentFailures; so does a DISCARD that meets it, answered E_SEGMENT. It rests on choices of the model:
log 1, 44, 124, 160. -/
def Obligations.SessionsAndSegments : Prop :=
  ((∀ (e : Env) (b : Bytes) (s : State), s.runs e true false → b.length = 4 →
    leNat b = 0 ∨ (1000 ≤ leNat b ∧ leNat b ≤ 600000) → sessionOf e < 255 →
    ∃ t, exec (.openSession e b) s = .next t ∧ (t.session (sessionOf e)).isOpen = true
      ∧ (t.session (sessionOf e)).partner = e.source.toNat ∧ (t.session (sessionOf e)).lastSeq = e.seq.toNat
      ∧ (t.session (sessionOf e)).timeout = (if leNat b = 0 then s.rd .sessionTimeout 0 else leNat b)
      ∧ (t.session (sessionOf e)).seg = none
      ∧ (s.rd .stagingOwner 0 = sessionOf e → t.mgmt.staged = [] ∧ t.rd .stagingOwner 0 = 0xFFFF)
      ∧ (s.rd .stagingOwner 0 ≠ sessionOf e → t.mgmt.staged = s.mgmt.staged) ∧ t.answered e .ok) ∧
  (∀ (e : Env) (s : State), s.runs e false false → sessionOf e < 255 → s.secure.ops = [] →
    (∀ k ∈ s.openXfers, (s.xfer k).session ≠ sessionOf e) →
    ∃ t, exec (.closeSession e []) s = .next t ∧ (t.session (sessionOf e)).isOpen = false
      ∧ (t.session (sessionOf e)).seg = none ∧ t.modl = s.modl
      ∧ (s.rd .stagingOwner 0 = sessionOf e → t.mgmt.staged = [] ∧ t.rd .stagingOwner 0 = 0xFFFF)
      ∧ (s.rd .stagingOwner 0 ≠ sessionOf e → t.mgmt.staged = s.mgmt.staged) ∧ t.answered e .ok) ∧
  (∀ (n : Fin 256) (s : State), n.val < 255 → s.on 9 = true → (s.session n).isOpen = true →
    (s.session n).lastAt + ms (s.session n).timeout ≤ s.aon.mono → s.secure.ops = [] →
    (∀ k ∈ s.openXfers, (s.xfer k).session ≠ n.val) →
    ∃ t, exec (.sessionExpiry n) s = .next t ∧ (t.session n).isOpen = false ∧ t.modl = s.modl
      ∧ t.rd .sessionExpiries 0 = min (s.rd .sessionExpiries 0 + 1) 0xFFFFFFFF
      ∧ t.rd .eventsRaised 0 = min (s.rd .eventsRaised 0 + 1) 0xFFFFFFFF)) ∧
  ((∀ (n : Fin 257) (g : SegXfer) (s : State), (s.session n).seg = some g → g.since + ms 100 ≤ s.aon.mono →
    ∃ t, exec (.segmentTimeout n) s = .next t ∧ (t.session n).seg = none
      ∧ t.rd .segmentFailures 0 = min (s.rd .segmentFailures 0 + 1) 0xFFFFFFFF
      ∧ t.rd .eventsRaised 0 = min (s.rd .eventsRaised 0 + 1) 0xFFFFFFFF) ∧
  (∀ (e : Env) (g : SegXfer) (s : State), s.runs e false false → (s.session (sessionOf e)).seg = some g →
    ∃ t, exec (.discard e []) s = .next t ∧ t.answered e .segment ∧ (t.session (sessionOf e)).seg = none
      ∧ t.rd .segmentFailures 0 = min (s.rd .segmentFailures 0 + 1) 0xFFFFFFFF ∧ t.mgmt.staged = s.mgmt.staged))

/-- R278: a WRITE whose index holds no entry is answered E_NO_OBJECT, one of an unused subindex E_NO_SUB, one of an
entry that needs an authorised session (R332) on another E_AUTH, one of a read-only entry E_ACCESS, and one of a
scalar with a wrong length E_TYPE; each leaves every entry but the network's counters as it was. It rests on choices
of the model: log 62. -/
def Obligations.WritesAreCheckedInOrder : Prop :=  ∀ (e : Env) (m : EntryMsg) (s : State), s.runs e false false → m.index.toNat < 0xF000 →
    s.still →
    ∃ t, exec (.write e m) s = .next t ∧
      (Ent.indexUsed m.index.toNat = false →
        t.answered e .noObject ∧ ∀ y j, y.dropCounter = false → t.rdv y j = s.rdv y j) ∧
      (Ent.indexUsed m.index.toNat = true → Ent.find m.index.toNat m.sub.toNat = none → m.sub.toNat ≠ 0 →
        t.answered e .noSub ∧ ∀ y j, y.dropCounter = false → t.rdv y j = s.rdv y j) ∧
      (∀ x i, Ent.find m.index.toNat m.sub.toNat = some (x, i) → x.guarded = true → s.authorised e = false →
        t.answered e .auth ∧ ∀ y j, y.dropCounter = false → t.rdv y j = s.rdv y j) ∧
      (∀ x i, Ent.find m.index.toNat m.sub.toNat = some (x, i) → x.guarded = false → x.info.acc = .ro ∨ x.info.acc = .const →
        t.answered e .access ∧ ∀ y j, y.dropCounter = false → t.rdv y j = s.rdv y j) ∧
      (∀ x i, Ent.find m.index.toNat m.sub.toNat = some (x, i) → x.guarded = false → x.info.acc = .rw →
        Machine.EntryMsg.isSegment m = false → x.info.ty.scalar = true → m.body.length ≠ x.info.elt →
        t.answered e .type ∧ ∀ y j, y.dropCounter = false → t.rdv y j = s.rdv y j)

/-- R265, R280, R283: a READ of an entry that is held returns the bytes of its value from Offset with its type,
TotalLength and Revision; of a REFRESH or FRAME entry the committed value, and the staged one where STAGED_VIEW asks
for it; of an entry whose value the device makes at the read, that value; at an Offset beyond the value E_RANGE, of a
write-only entry E_ACCESS; R269: RW and CONST entries are read in any state of the domains, an RO entry of a domain
that is not ON is E_STATE; R300: a SavedState is read as its record. It rests on choices of the model: log 10, 121. -/
def Obligations.ReadsReturnValues : Prop :=  (∀ (e : Env) (m : EntryMsg) (x : Ent) (i : Nat) (s : State), s.runs e false true → m.index.toNat < 0xF000 →
    Ent.find m.index.toNat m.sub.toNat = some (x, i) → x.info.acc ≠ .wo → (x.info.acc = .ro → s.served x i = true) →
    x ∉ [.savedState, .eventPop, .capturePop, .authChallenge, .attestReport] → m.body = [] →
    s.derived x i = none → m.offset < (x.info.encode (s.shownValue x i m.stagedView)).length → sessionOf e ≠ 255 →
    ∃ t r, exec (.read e m) s = .next t ∧ t.mgmt.rep = some r ∧ r.status = .ok
      ∧ r.body = ((x.info.encode (s.shownValue x i m.stagedView)).drop m.offset).take 4076
      ∧ r.total = (x.info.encode (s.shownValue x i m.stagedView)).length ∧ r.type = x.info.ty.code
      ∧ r.revision = SMap.get s.revs (key x i) 0
      ∧ ∀ y j, y.dropCounter = false → t.rdv y j = s.rdv y j) ∧
  (∀ (e : Env) (m : EntryMsg) (x : Ent) (i : Nat) (s : State), s.runs e false true → m.index.toNat < 0xF000 →
    Ent.find m.index.toNat m.sub.toNat = some (x, i) → x.info.acc = .rw → x ≠ .savedState → m.body = [] →
    s.derived x i = none → (x.info.encode (s.shownValue x i m.stagedView)).length ≤ m.offset →
    ∃ t, exec (.read e m) s = .next t ∧ t.answered e .range) ∧
  (∀ (e : Env) (m : EntryMsg) (x : Ent) (i : Nat) (v : Val) (s : State), s.runs e false true → m.index.toNat < 0xF000 →
    Ent.find m.index.toNat m.sub.toNat = some (x, i) → x.info.acc ≠ .wo → (x.info.acc = .ro → s.served x i = true) →
    x ∉ [.savedState, .eventPop, .capturePop, .authChallenge, .attestReport] → m.body = [] →
    s.derived x i = some v → m.offset < (x.info.encode v).length → sessionOf e ≠ 255 →
    ∃ t r, exec (.read e m) s = .next t ∧ t.mgmt.rep = some r ∧ r.status = .ok
      ∧ r.body = ((x.info.encode v).drop m.offset).take 4076 ∧ r.total = (x.info.encode v).length ∧ r.type = x.info.ty.code) ∧
  (∀ (e : Env) (m : EntryMsg) (x : Ent) (i : Nat) (s : State), s.runs e false true → m.index.toNat < 0xF000 →
    Ent.find m.index.toNat m.sub.toNat = some (x, i) → x.info.acc = .ro → s.served x i = false → m.body = [] →
    ∃ t, exec (.read e m) s = .next t ∧ t.answered e .state ∧ ∀ y j, y.dropCounter = false → t.rdv y j = s.rdv y j) ∧
  (∀ (e : Env) (m : EntryMsg) (x : Ent) (i : Nat) (b : Bytes) (s : State), s.runs e false true → m.index.toNat < 0xF000 →
    Ent.find m.index.toNat m.sub.toNat = some (x, i) → x = .savedState → m.body = [] → m.stagedView = false →
    s.savedState i = some b → m.offset < b.length → sessionOf e ≠ 255 →
    ∃ t r, exec (.read e m) s = .next t ∧ t.mgmt.rep = some r ∧ r.status = .ok ∧ r.body = (b.drop m.offset).take 4076) ∧
  (∀ (e : Env) (m : EntryMsg) (x : Ent) (i : Nat) (s : State), s.runs e false true → m.index.toNat < 0xF000 →
    Ent.find m.index.toNat m.sub.toNat = some (x, i) → x.info.acc = .wo →
    ∃ t, exec (.read e m) s = .next t ∧ t.answered e .access)

/-- R270, R332: a READ, WRITE or WRITE_STAGED of the restricted range is answered E_AUTH on a session that is not
authorised; on an authorised one the model stops by name, since the manual does not give the range's content. The
model's stop: a burst whose tile does not fit the coefficient store or the previous-output store would read bytes
that no store has; the computation faults by name (log 23). A command ends in a next state, but for two stops: a
request of the restricted range, and a burst outside its stores. -/
def Obligations.OnlyTwoStops : Prop :=
  ((∀ (e : Env) (m : EntryMsg) (s : State), 0xF000 ≤ m.index.toNat → s.runs e false true →
    (s.authorised e = true → exec (.read e m) s = .refused .restrictedDiagnostics) ∧
    (s.authorised e = false → ∃ t, exec (.read e m) s = .next t ∧ t.answered e .auth)) ∧
  (∀ (e : Env) (m : EntryMsg) (s : State), 0xF000 ≤ m.index.toNat → s.runs e false false →
    (s.authorised e = true → exec (.write e m) s = .refused .restrictedDiagnostics
      ∧ exec (.writeStaged e m) s = .refused .restrictedDiagnostics) ∧
    (s.authorised e = false → s.still →
      ∃ t u, exec (.write e m) s = .next t ∧ t.answered e .auth
        ∧ exec (.writeStaged e m) s = .next u ∧ u.answered e .auth))) ∧
  (∀ (l : Fin 512) (s : State), s.running = true → s.recordsInside = false →
    exec (.burstCompute l) s = .fault .quarryOutside) ∧
  ((∀ (c : Instr) (s : State) (f : Fault), exec c s = .fault f → f = .quarryOutside ∧ ∃ l, c = .burstCompute l) ∧
  (∀ (c : Instr) (s : State) (r : Refusal), exec c s = .refused r → r = .restrictedDiagnostics ∧
    ∃ e m, (c = .read e m ∨ c = .write e m ∨ c = .writeStaged e m) ∧ 0xF000 ≤ m.index.toNat))

/-- R279, R280: a WRITE of an IMMEDIATE entry without an effect of its own takes effect at once and changes that
entry alone; a WRITE_STAGED, and a WRITE of a REFRESH or FRAME entry, changes no such entry, stages the value for its
session and makes the session the staging owner; from another session each of these is E_BUSY. A WRITE_STAGED of an
IMMEDIATE entry is staged too, and changes it not yet. -/
def Obligations.WritesApplyOrStage : Prop :=  (∀ (e : Env) (m : EntryMsg) (x : Ent) (i : Nat) (s : State), s.runs e false false →
    m.index.toNat < 0xF000 → s.still →
    Ent.find m.index.toNat m.sub.toNat = some (x, i) → x.guarded = false → x.info.acc = .rw → x.info.cls = .immediate →
    (∀ v s, writeEff e x i v s = plainEff x i v s) → Machine.EntryMsg.isSegment m = false → (s.session (sessionOf e)).seg = none →
    (x.info.ty.scalar = true → m.body.length = x.info.elt) → m.body.length % x.info.elt = 0 →
    s.entryCheck x i (x.info.decode m.body) = none → x.dropCounter = false →
    ∃ t, exec (.write e m) s = .next t ∧ t.rdv x i = writtenForm x (x.info.decode m.body) ∧ t.answered e .ok
      ∧ t.mgmt.staged = s.mgmt.staged
      ∧ ∀ y j, y.dropCounter = false → key y j ≠ key x i → t.rdv y j = s.rdv y j) ∧
  (∀ (e : Env) (m : EntryMsg) (x : Ent) (i : Nat) (s : State), s.runs e false false →
    m.index.toNat < 0xF000 → s.still →
    Ent.find m.index.toNat m.sub.toNat = some (x, i) → x.guarded = false → x.info.acc = .rw →
    x.info.cls = .refresh ∨ x.info.cls = .frame → Machine.EntryMsg.isSegment m = false → (s.session (sessionOf e)).seg = none →
    s.stagingHeld (sessionOf e) = false →
    (x.info.ty.scalar = true → m.body.length = x.info.elt) → m.body.length % x.info.elt = 0 →
    s.entryCheck x i (x.info.decode m.body) = none →
    ({ s with mgmt := { s.mgmt with staged := restage (key x i) (x.info.decode m.body) s.mgmt.staged } } : State).stagedTotal
      ≤ 524288 →
    ∃ t u, exec (.write e m) s = .next t ∧ exec (.writeStaged e m) s = .next u
      ∧ t.mgmt.staged = restage (key x i) (x.info.decode m.body) s.mgmt.staged ∧ u.mgmt.staged = t.mgmt.staged
      ∧ t.rd .stagingOwner 0 = sessionOf e ∧ u.rd .stagingOwner 0 = sessionOf e
      ∧ t.answered e .ok ∧ u.answered e .ok
      ∧ ∀ y j, y.dropCounter = false → y ≠ .stagingOwner → t.rdv y j = s.rdv y j ∧ u.rdv y j = s.rdv y j) ∧
  (∀ (e : Env) (m : EntryMsg) (x : Ent) (i : Nat) (s : State), s.runs e false false →
    m.index.toNat < 0xF000 → s.still →
    Ent.find m.index.toNat m.sub.toNat = some (x, i) → x.guarded = false → x.info.acc = .rw →
    (x.info.ty.scalar = true → m.body.length = x.info.elt) → s.stagingHeld (sessionOf e) = true →
    ∃ t, exec (.writeStaged e m) s = .next t ∧ t.answered e .busy ∧ t.mgmt.staged = s.mgmt.staged) ∧
  (∀ (e : Env) (m : EntryMsg) (x : Ent) (i : Nat) (s : State), s.runs e false false →
    m.index.toNat < 0xF000 → s.still →
    Ent.find m.index.toNat m.sub.toNat = some (x, i) → x.guarded = false → x.info.acc = .rw →
    x.info.cls = .refresh ∨ x.info.cls = .frame →
    (x.info.ty.scalar = true → m.body.length = x.info.elt) → s.stagingHeld (sessionOf e) = true →
    ∃ t, exec (.write e m) s = .next t ∧ t.answered e .busy ∧ t.mgmt.staged = s.mgmt.staged ∧ t.rdv x i = s.rdv x i) ∧
  (∀ (e : Env) (m : EntryMsg) (x : Ent) (i : Nat) (s : State), s.runs e false false →
    m.index.toNat < 0xF000 → s.still →
    Ent.find m.index.toNat m.sub.toNat = some (x, i) → x.guarded = false → x.info.acc = .rw → x.info.cls = .immediate →
    (∀ v s, writeEff e x i v s = plainEff x i v s) → Machine.EntryMsg.isSegment m = false → (s.session (sessionOf e)).seg = none →
    s.stagingHeld (sessionOf e) = false →
    (x.info.ty.scalar = true → m.body.length = x.info.elt) → m.body.length % x.info.elt = 0 →
    s.entryCheck x i (x.info.decode m.body) = none →
    ({ s with mgmt := { s.mgmt with staged := restage (key x i) (x.info.decode m.body) s.mgmt.staged } } : State).stagedTotal
      ≤ 524288 →
    ∃ t, exec (.writeStaged e m) s = .next t
      ∧ t.mgmt.staged = restage (key x i) (x.info.decode m.body) s.mgmt.staged ∧ t.rd .stagingOwner 0 = sessionOf e
      ∧ t.answered e .ok
      ∧ ∀ y j, y.dropCounter = false → y ≠ .stagingOwner → t.rdv y j = s.rdv y j)

/-- R225, R226, R281: a COMMIT of the staging owner that the modulator accepts is answered with its effect time and
generation, releases staging, and on a running modulator joins the commits that wait for their effect time, with
LastCommit; a COMMIT that it refuses (R14, R221) is answered with the refusal and leaves staging with its owner;
DISCARD releases it without an effect; a COMMIT of a session that owns none while none owns it is E_STATE. It rests
on choices of the model: log 11, 122, 123. -/
def Obligations.CommitAndDiscard : Prop :=  (∀ (e : Env) (b : Bytes) (st : Status) (p : Pend) (late : Bool) (s : State), s.runs e false false →
    b.length = 8 → s.rd .stagingOwner 0 = sessionOf e → (s.session (sessionOf e)).seg = none → sessionOf e ≠ 255 →
    s.still → (∀ q ∈ s.mgmt.staged, keyClass q.1 = .refresh ∨ keyClass q.1 = .frame) →
    s.hostCommit (leNat b) = (st, some (p, late)) →
    ∃ t r, exec (.commit e b) s = .next t ∧ t.mgmt.staged = [] ∧ t.rd .stagingOwner 0 = 0xFFFF
      ∧ t.mgmt.rep = some r ∧ r.status = .ok ∧ r.body = leBytes 8 p.e ++ leBytes 4 p.gen
      ∧ (s.running = true → s.now < p.e →
          t.modl.commits = s.modl.commits ++ [p] ∧ t.rdv .lastCommit 0 = commitRecord p late)) ∧
  (∀ (e : Env) (b : Bytes) (s : State), s.runs e false false → b.length = 8 → s.rd .stagingOwner 0 = 0xFFFF →
    (s.session (sessionOf e)).seg = none → s.still →
    ∃ t, exec (.commit e b) s = .next t ∧ t.answered e .state ∧ t.modl = s.modl) ∧
  (∀ (e : Env) (s : State), s.runs e false false → (s.session (sessionOf e)).seg = none →
    ∃ t, exec (.discard e []) s = .next t ∧ t.answered e .ok
      ∧ (s.rd .stagingOwner 0 = sessionOf e → t.mgmt.staged = [] ∧ t.rd .stagingOwner 0 = 0xFFFF)
      ∧ (s.rd .stagingOwner 0 ≠ sessionOf e → t.mgmt.staged = s.mgmt.staged)
      ∧ ∀ y j, y.dropCounter = false → y ≠ .stagingOwner → t.rdv y j = s.rdv y j) ∧
  (∀ (e : Env) (b : Bytes) (st : Status) (s : State), s.runs e false false →
    b.length = 8 → s.rd .stagingOwner 0 = sessionOf e → (s.session (sessionOf e)).seg = none → s.still →
    (∀ q ∈ s.mgmt.staged, keyClass q.1 = .refresh ∨ keyClass q.1 = .frame) → s.hostCommit (leNat b) = (st, none) →
    ∃ t, exec (.commit e b) s = .next t ∧ t.answered e st ∧ t.mgmt.staged = s.mgmt.staged
      ∧ t.rd .stagingOwner 0 = sessionOf e ∧ t.modl = s.modl ∧ ∀ y j, y.dropCounter = false → t.rdv y j = s.rdv y j)

/-- R275, R276, R277: of every request command: one with the session's last Sequence is never executed again but for
a READ: while it executes the duplicate is discarded, and when it is complete the kept reply goes out again, counted
in ResendReplies; the next Sequence runs, or is E_BUSY while a request executes; any other is E_SESSION, counted in
SessionRefusals, as is a request on a closed session or of another partner; a refused request changes nothing else.
R277: an accepted request waits while another holds the core or waits before it. It rests on choices of the model:
log 42, 43, 171. -/
def Obligations.SequencesAreJudged : Prop :=  (∀ (e : Env) (isOpen isRead : Bool) (s : State), s.on 9 = true → (∃ p, e.via = .izsor p) → e.mode = .unicast →
    e.channel.val < 255 → (s.session e.channel).isOpen = true → (s.session e.channel).partner = e.source.toNat →
    (e.seq.toNat = (s.session e.channel).lastSeq →
      s.judge e isOpen isRead = (if (s.session e.channel).busy = true then .dup else if isRead = true then .run else .resend)) ∧
    (e.seq.toNat ≠ (s.session e.channel).lastSeq → (e.seq.toNat + 65535) % 65536 = (s.session e.channel).lastSeq →
      s.judge e isOpen isRead = (if (s.session e.channel).busy = true then .refuse .busy else .run)) ∧
    (e.seq.toNat ≠ (s.session e.channel).lastSeq → (e.seq.toNat + 65535) % 65536 ≠ (s.session e.channel).lastSeq →
      isOpen = false → s.judge e isOpen isRead = .refuse .session)) ∧
  (∀ (e : Env) (isRead : Bool) (s : State), s.on 9 = true → (∃ p, e.via = .izsor p) → e.mode = .unicast →
    e.channel.val < 255 → (s.session e.channel).isOpen = false ∨ (s.session e.channel).partner ≠ e.source.toNat →
    s.judge e false isRead = .refuse .session) ∧
  (∀ (c : Instr) (e : Env) (isOpen isRead : Bool) (s : State), requestOf c = some (e, isOpen, isRead) → s.atRest →
    (s.judge e isOpen isRead = .dup → exec c s = .next s) ∧
    (∀ r, s.judge e isOpen isRead = .resend → (s.session (sessionOf e)).kept = some r →
      ∃ t, exec c s = .next t ∧ t.mgmt.rep = some r ∧ t.mgmt.staged = s.mgmt.staged
        ∧ t.rd .resendReplies 0 = min (s.rd .resendReplies 0 + 1) 0xFFFFFFFF
        ∧ ∀ y j, y.dropCounter = false → y ≠ .resendReplies → t.rdv y j = s.rdv y j) ∧
    (∀ st, s.judge e isOpen isRead = .refuse st →
      ∃ t, exec c s = .next t ∧ t.answered e st ∧ t.mgmt.staged = s.mgmt.staged
        ∧ (st = .session → t.rd .sessionRefusals 0 = min (s.rd .sessionRefusals 0 + 1) 0xFFFFFFFF)
        ∧ ∀ y j, y.dropCounter = false → y ≠ .sessionRefusals → t.rdv y j = s.rdv y j) ∧
    (s.judge e isOpen isRead = .run → s.coreFree = false → ∃ q, q.env = e ∧ exec c s = .next (s.park q)))

/-- R288, R289: a SEND that is whole and good waits for the core while neither BUSY nor READY holds; any other sets
FAULT and has no other effect; a FETCH clocks out the waiting reply with its Length and check and removes it when it
was clocked whole; STATUS clocks out READY, BUSY and FAULT; with D9 not ON the port is not served and its output
floats. It rests on choices of the model: log 40. -/
def Obligations.SpiPort : Prop :=  (∀ (b m : Bytes) (s : State), s.on 9 = true → sendMessage b false = some m → s.mgmt.spiBusy = false →
    s.mgmt.spiReply = none →
    exec (.spiSend b false) s = .next { s with mgmt := { s.mgmt with
      spiFault := false, spiBusy := true, inbox := s.mgmt.inbox ++ [{ env := spiEnv, bytes := (Req.ofBytes spiEnv m).bytes }] } }) ∧
  (∀ (b : Bytes) (early : Bool) (s : State), s.on 9 = true →
    sendMessage b early = none ∨ s.mgmt.spiBusy = true ∨ s.mgmt.spiReply ≠ none →
    exec (.spiSend b early) s = .next { s with mgmt := { s.mgmt with spiFault := true } }) ∧
  (∀ (b : Bytes), sendMessage b true = none) ∧
  (∀ (n : Nat) (r : Option Bytes) (s : State), s.on 9 = true → s.mgmt.spiReply = r → s.mgmt.resetDue = false →
    exec (.spiFetch n) s = .next { s with mgmt := { s.mgmt with
      spiOut := (fetchBytes r).take n, spiReply := if (r.getD []).length + 4 ≤ n then none else r } }) ∧
  (∀ (s : State), s.on 9 = true →
    ∃ t, exec .spiStatus s = .next t ∧ t = { s with mgmt := { s.mgmt with spiOut := t.mgmt.spiOut } }
      ∧ t.mgmt.spiOut = leBytes 1 ((if s.mgmt.spiReply ≠ none then 1 else 0) + (if s.mgmt.spiBusy then 2 else 0)
          + (if s.mgmt.spiFault then 4 else 0))) ∧
  (∀ (b : Bytes) (early : Bool) (n : Nat) (s : State), s.on 9 = false →
    exec (.spiSend b early) s = .next s.spiIdle ∧ exec (.spiFetch n) s = .next s.spiIdle ∧ exec .spiStatus s = .next s.spiIdle)

/-- R292, R293: a read of EventPop returns the 48 bytes of the oldest record and removes it; of an empty queue it is
E_STATE. R293: an event that finds the queue full, or D9 not ON, is coalesced under its class and counted; any other
is queued; each is counted once in EventsRaised. It rests on choices of the model: log 131. -/
def Obligations.EventsAreKept : Prop :=
  ((∀ (e : Env) (x : EventRec) (l : List EventRec) (s : State), s.runs e false true → sessionOf e ≠ 255 →
    s.mgmt.events = x :: l → s.aon.coal = [] →
    ∃ t r, exec (.eventPop e) s = .next t ∧ t.mgmt.events = l ∧ t.mgmt.rep = some r ∧ r.status = .ok
      ∧ r.body = x.bytes ∧ r.total = 48 ∧ ∀ y j, y.dropCounter = false → t.rdv y j = s.rdv y j) ∧
  (∀ (e : Env) (s : State), s.runs e false true → s.mgmt.events = [] →
    ∃ t, exec (.eventPop e) s = .next t ∧ t.answered e .state ∧ t.mgmt.events = [])) ∧
  (∀ (x : Event) (l : List Nat) (s : State), s.rd .eventsRaised 0 < 0xFFFFFFFF → s.rd .eventsCoalesced 0 < 0xFFFFFFFF →
    (s.raise x l).rd .eventsRaised 0 = s.rd .eventsRaised 0 + 1 ∧
    (if s.on 9 && decide (s.mgmt.events.length < 256) then
      (s.raise x l).mgmt.events = s.mgmt.events ++ [s.record x l]
        ∧ (s.raise x l).rd .eventsCoalesced 0 = s.rd .eventsCoalesced 0
    else (s.raise x l).mgmt.events = s.mgmt.events
        ∧ (s.raise x l).rd .eventsCoalesced 0 = s.rd .eventsCoalesced 0 + 1
        ∧ (SMap.get (s.raise x l).aon.coal x.cls {}).last = s.now))

/-- R291, R384, R385: a write of 1 to Reset over the maintenance port is answered first; the FETCH that clocks the
reply out starts the reset: cause 6 alone, every domain OFF, the display path empty, and every entry but the three of
Table 17.2 at its default. A write of 0 does nothing. It rests on choices of the model: log 69, 105, 125. -/
def Obligations.HostResetFollowsItsReply : Prop :=  (∀ (e : Env) (s : State), s.mayWrite e .reset 0 [1] → e.via = .spi →
    s.secure.ops = [] → s.mgmt.unassignDue = false →
    ∃ t, exec (.hostReset e [1]) s = .next t ∧ t.mgmt.resetDue = true ∧ t.answered e .ok ∧ t.boot = s.boot
      ∧ t.regs = s.regs) ∧
  (∀ (e : Env) (s : State), s.mayWrite e .reset 0 [0] → s.still →
    ∃ t, exec (.hostReset e [0]) s = .next t ∧ t.mgmt.resetDue = false ∧ t.answered e .ok ∧ t.boot = s.boot) ∧
  (∀ (n : Nat) (b : Bytes) (s : State), s.on 9 = true → s.mgmt.spiReply = some b → b.length + 4 ≤ n →
    s.mgmt.resetDue = true → (∀ p : Fin 4, (s.port p).queue = []) → s.boot.phase ≠ .held →
    ∃ t, exec (.spiFetch n) s = .next t ∧ t.boot.phase = .held ∧ t.boot.causes = [6] ∧ t.modl = {} ∧ t.quarry = []
      ∧ (∀ d, t.on d = false)
      ∧ ∀ (x : Ent) (i : Nat), x ≠ .shutdownCount → x ≠ .resetCounts → x ≠ .snapshotValid → t.rdv x i = x.dflt)

/-- R307, R308: a TransferOpen that passes every check makes the transfer ACTIVE with its counters at 0 and
FailedSection 0xFF (one that writes the MRAM fails at once where the write window is closed, R315); one that does not
is answered the first check that fails and opens nothing. TransferAbort makes an ACTIVE transfer FAILED with E_STATE,
and is E_STATE where none is ACTIVE; TransferTimeout without an accepted packet makes it FAILED with E_TIMEOUT. It
rests on choices of the model: log 1, 90, 155, 158, 160. -/
def Obligations.TransfersOpenAndEnd : Prop :=  (∀ (e : Env) (v : Bytes) (k : Nat) (x : Xfer) (s : State), s.mayWrite e .transferOpen 0 v → s.secure.ops = [] →
    openFields (Ent.transferOpen.info.decode v) = (k, x, true) → s.openCheck (sessionOf e) k x true = none →
    x.kind ≤ 5 ∨ x.out = true →
    ∃ t, exec (.transferOpen e v) s = .next t ∧ t.rd .transferState k = 1 ∧ t.rd .transferStatus k = 0
      ∧ t.rd .bytesDone k = 0 ∧ t.rd .failedSection k = 0xFF ∧ (t.xfer k).session = sessionOf e
      ∧ (t.xfer k).length = x.length ∧ (t.xfer k).kind = x.kind ∧ (t.xfer k).next = 0 ∧ t.answered e .ok) ∧
  (∀ (e : Env) (v : Bytes) (k : Nat) (x : Xfer) (s : State), s.mayWrite e .transferOpen 0 v → s.secure.ops = [] →
    openFields (Ent.transferOpen.info.decode v) = (k, x, true) → s.openCheck (sessionOf e) k x true = none →
    x.kind = 6 ∨ x.kind = 7 → x.out = false → s.windowOpen = false →
    ∃ t, exec (.transferOpen e v) s = .next t ∧ t.rd .transferState k = 3
      ∧ t.rd .transferStatus k = s.closedCode.value ∧ t.answered e .ok) ∧
  (∀ (e : Env) (v : Bytes) (k : Nat) (x : Xfer) (g : Bool) (st : Status) (s : State),
    s.mayWrite e .transferOpen 0 v → s.secure.ops = [] → openFields (Ent.transferOpen.info.decode v) = (k, x, g) →
    s.openCheck (sessionOf e) k x g = some st →
    ∃ t, exec (.transferOpen e v) s = .next t ∧ t.xfers = s.xfers ∧ t.answered e st
      ∧ ∀ y j, y.dropCounter = false → t.rdv y j = s.rdv y j) ∧
  (∀ (e : Env) (k : Fin 16) (s : State), s.mayWrite e .transferAbort 0 [BitVec.ofNat 8 k] → s.secure.ops = [] →
    ∃ t, exec (.transferAbort e [BitVec.ofNat 8 k]) s = .next t ∧
      (if s.rd .transferState k = 1 then t.rd .transferState k = 3 ∧ t.rd .transferStatus k = Status.state.value
          ∧ t.answered e .ok
        else t.rd .transferState k = s.rd .transferState k ∧ t.answered e .state)) ∧
  (∀ (k : Fin 16) (s : State), s.on 9 = true → s.rd .transferState k = 1 → s.secure.ops = [] →
    (s.xfer k).since + ms (s.rd .transferTimeout 0) ≤ s.aon.mono →
    ∃ t, exec (.transferTimeout k) s = .next t ∧ t.rd .transferState k = 3
      ∧ t.rd .transferStatus k = Status.timeout.value ∧ t.quarry = s.quarry)

/-- R74, R306: a packet in sequence to an uncoded transfer into a range writes its data there, counts it in BytesDone
and moves on to the next Sequence; the one that completes the length makes it DONE; a packet out of sequence changes
nothing but starts the ACK's timer, and the timer's end sends the ACK. R74, R306: within its credit an outgoing
transfer sends the next 4,092 bytes of its range; an ACK of all its packets makes it DONE, and one that shows a gap
sends it back to the packet that the ACK names. It rests on choices of the model: log 91, 92, 172. -/
def Obligations.BulkPacketsPass : Prop :=
  ((∀ (src ch sq : BitVec 16) (p : Bytes) (s : State), s.on 9 = true → ch.toNat ≤ 15 →
    s.rd .transferState ch.toNat = 1 → (s.xfer ch.toNat).out = false → (s.xfer ch.toNat).peer = src.toNat →
    sq.toNat = (s.xfer ch.toNat).next → sq.toNat ≠ 0xFFFF → 4 ≤ p.length →
    field p 0 4 + (p.drop 4).length ≤ (s.xfer ch.toNat).length → (s.xfer ch.toNat).coded = false →
    (s.xfer ch.toNat).kind = 4 → s.targetOn (s.xfer ch.toNat) = true → s.secure.ops = [] →
    ∃ t, exec (.bulkPacketReceived src ch sq p) s = .next t
      ∧ t.quarry = (s.rangeWrite 4 (s.xfer ch.toNat).handle ((s.xfer ch.toNat).offset + field p 0 4) (p.drop 4)).quarry
      ∧ t.rd .bytesDone ch.toNat = s.rd .bytesDone ch.toNat + (p.drop 4).length
      ∧ (t.xfer ch.toNat).next = (sq.toNat + 1) % 65536
      ∧ t.rd .transferState ch.toNat =
          (if (s.xfer ch.toNat).length ≤ s.rd .bytesDone ch.toNat + (p.drop 4).length then 2 else 1)) ∧
  (∀ (src ch sq : BitVec 16) (p : Bytes) (s : State), s.on 9 = true → ch.toNat ≤ 15 →
    s.rd .transferState ch.toNat = 1 → (s.xfer ch.toNat).out = false → (s.xfer ch.toNat).peer = src.toNat →
    sq.toNat ≠ (s.xfer ch.toNat).next → sq.toNat ≠ 0xFFFF → (s.xfer ch.toNat).gap = none →
    ∃ t, exec (.bulkPacketReceived src ch sq p) s = .next t ∧ (t.xfer ch.toNat).gap = some s.aon.mono
      ∧ t.quarry = s.quarry
      ∧ ∀ y j, y ≠ .bankConflictStalls → y ≠ .sameWordConflicts → t.rdv y j = s.rdv y j) ∧
  (∀ (k : Fin 16) (r : Fin 4) (g : Nat) (a : Packet) (s : State), s.on 9 = true → s.rd .transferState k = 1 →
    (s.xfer k).gap = some g → g + us 100 ≤ s.aon.mono → (s.xfer k).peer < 0x1000 →
    s.rdn .routeTable 0 (s.xfer k).peer % 8 = r →
    a = { cls := 3, mode := .unicast, hop := Config.originHop.toNat, dest := (s.xfer k).peer,
          source := s.rd .deviceAddress 0, channel := k, seq := 0xFFFF
          payload := leBytes 2 (s.xfer k).next ++ leBytes 2 32 ++ [0, 0, 0, 0] } →
    queueRoom (s.port r).queue a = true → s.active r = true →
    ∃ t, exec (.bulkAckTimer k) s = .next t ∧ (t.xfer k).gap = none ∧ (t.port r).queue = (s.port r).queue ++ [a])) ∧
  ((∀ (k : Fin 16) (r : Fin 4) (a : Packet) (s : State), s.on 9 = true → s.rd .transferState k = 1 → (s.xfer k).out = true →
    (s.xfer k).kind = 4 → s.targetOn (s.xfer k) = true → (s.xfer k).next < (s.xfer k).acked + (s.xfer k).credit →
    4092 * (s.xfer k).next < (s.xfer k).length → (s.xfer k).peer < 0x1000 →
    s.rdn .routeTable 0 (s.xfer k).peer % 8 = r →
    a = { cls := 3, mode := .unicast, hop := Config.originHop.toNat, dest := (s.xfer k).peer,
          source := s.rd .deviceAddress 0, channel := k, seq := (s.xfer k).next
          payload := leBytes 4 (4092 * (s.xfer k).next) ++ (s.rangeRead 4 (s.xfer k).handle
            ((s.xfer k).offset + 4092 * (s.xfer k).next) (min 4092 ((s.xfer k).length - 4092 * (s.xfer k).next))) } →
    queueRoom (s.port r).queue a = true → s.active r = true →
    ∃ t, exec (.bulkSend k) s = .next t ∧ (t.xfer k).next = (s.xfer k).next + 1
      ∧ (t.port r).queue = (s.port r).queue ++ [a] ∧ t.rd .transferState k = 1) ∧
  (∀ (k : Fin 16) (src : BitVec 16) (p : Bytes) (s : State), s.on 9 = true → s.rd .transferState k = 1 →
    (s.xfer k).out = true → (s.xfer k).peer = src.toNat → p.length = 8 → field p 0 2 ≤ (s.xfer k).next →
    (s.xfer k).acked ≤ field p 0 2 →
    ∃ t, exec (.bulkAckReceived src k p) s = .next t ∧ (t.xfer k).acked = field p 0 2
      ∧ (t.xfer k).credit = field p 2 2 ∧ t.rd .bytesDone k = min (s.xfer k).length (4092 * field p 0 2)
      ∧ t.rd .transferState k = (if ceilDiv (s.xfer k).length 4092 ≤ field p 0 2 then 2 else 1)
      ∧ (field p 0 2 = (s.xfer k).acked → (t.xfer k).next = field p 0 2)))

/-- R299, R301, R302: Start and Resume of a job that passes its checks make it RUNNING, a failed check is the answer;
Abort of a job that is SUSPENDED, DONE or FAILED makes it IDLE; each in another state is E_STATE. R282, R300: a
SavedState of 65,600 bytes is written in segments: each but the last is answered E_OK and changes no job; the last
applies the whole value: a good one to an IDLE job makes it SUSPENDED with that coder's progress; a wrong length or a
reserved byte that is not 0 is E_RANGE, a failing StateCheck or Phase E_CHECK, and a job that is not IDLE E_STATE. It
rests on choices of the model: log 74, 75. -/
def Obligations.ShaleJobs : Prop :=
  ((∀ (e : Env) (j : Fin 4) (s : State), s.mayWrite e .jobCommand j [1] →
    ∃ t, exec (.jobStart e j) s = .next t ∧
      (s.rd .jobState j ≠ 0 → t.rd .jobState j = s.rd .jobState j ∧ t.answered e .state) ∧
      (s.rd .jobState j = 0 → s.jobCheck j = none →
        t.rd .jobState j = 1 ∧ t.rd .inputDone j = 0 ∧ t.rd .outputDone j = 0 ∧ t.answered e .ok) ∧
      (∀ st, s.rd .jobState j = 0 → s.jobCheck j = some st → t.rd .jobState j = 0 ∧ t.answered e st)) ∧
  (∀ (e : Env) (j : Fin 4) (s : State), s.mayWrite e .jobCommand j [2] →
    ∃ t, exec (.jobResume e j) s = .next t ∧
      (s.rd .jobState j ≠ 2 → t.rd .jobState j = s.rd .jobState j ∧ t.answered e .state) ∧
      (s.rd .jobState j = 2 → s.jobCheck j = none →
        t.rd .jobState j = 1 ∧ (t.job j).co = (s.job j).co ∧ t.answered e .ok) ∧
      (∀ st, s.rd .jobState j = 2 → s.jobCheck j = some st → t.rd .jobState j = 2 ∧ t.answered e st)) ∧
  (∀ (e : Env) (j : Fin 4) (s : State), s.mayWrite e .jobCommand j [3] →
    ∃ t, exec (.jobAbort e j) s = .next t ∧
      (if s.rd .jobState j = 0 ∨ s.rd .jobState j = 1 then
        t.rd .jobState j = s.rd .jobState j ∧ t.answered e .state
      else t.rd .jobState j = 0 ∧ t.job j = {} ∧ t.answered e .ok))) ∧
  ((∀ (e : Env) (j : Fin 4) (m : EntryMsg) (g : SegXfer) (b : Bytes) (s : State), s.runs e false false →
    (s.session (sessionOf e)).seg = some g → g.staged = false → g.index = (Ent.savedState.address j).1 →
    g.sub = (Ent.savedState.address j).2 → m.segFirst = false → m.segLast = true → m.total = g.total →
    m.offset = g.data.length → b = g.data ++ m.body → b.length = g.total → 0 < g.total → s.still →
    ∃ t, exec (.savedStateWrite e j m) s = .next t ∧ (t.session (sessionOf e)).seg = none ∧
      (s.rd .jobState j ≠ 0 → t.rd .jobState j = s.rd .jobState j ∧ t.answered e .state) ∧
      (s.rd .jobState j = 0 → slotFieldsOk b = false → t.rd .jobState j = 0 ∧ t.answered e .range) ∧
      (s.rd .jobState j = 0 → slotFieldsOk b = true → slotRecordOk b = false →
        t.rd .jobState j = 0 ∧ t.answered e .check) ∧
      (s.rd .jobState j = 0 → slotFieldsOk b = true → slotRecordOk b = true →
        t.rd .jobState j = 2 ∧ (t.job j).co = coderOf b ∧ t.rd .inputDone j = (coderOf b).inDone
          ∧ t.answered e .ok)) ∧
  (∀ (e : Env) (j : Fin 4) (m : EntryMsg) (g : SegXfer) (s : State), s.runs e false false →
    (s.session (sessionOf e)).seg = some g → g.staged = false → g.index = (Ent.savedState.address j).1 →
    g.sub = (Ent.savedState.address j).2 → m.segFirst = false → m.segLast = false → m.total = g.total →
    m.offset = g.data.length → m.offset + m.body.length < g.total → s.still →
    ∃ t, exec (.savedStateWrite e j m) s = .next t ∧ t.answered e .ok ∧ t.jobs = s.jobs
      ∧ (t.session (sessionOf e)).seg = some { g with data := g.data ++ m.body, since := s.aon.mono }
      ∧ ∀ y k, y.dropCounter = false → t.rdv y k = s.rdv y k) ∧
  (∀ (e : Env) (j : Fin 4) (m : EntryMsg) (s : State), s.runs e false false →
    m.segFirst = false → m.segLast = false → m.total = 0 → m.offset = 0 → m.body.length ≠ 65600 →
    (s.session (sessionOf e)).seg = none → s.still →
    ∃ t, exec (.savedStateWrite e j m) s = .next t ∧ t.rd .jobState j = s.rd .jobState j
      ∧ t.answered e (if s.rd .jobState j = 0 then .range else .state)))

/-- R299, R303, R304: a block of a running compress job that has coded its whole source and its trailer makes it
DONE; one whose output would not be shorter than its source makes it FAILED with E_NO_GAIN. A job that does not run
is left alone. R298: a block of a running decompress job decodes what its source gives; the first error makes it
FAILED and is counted, a full chain suspends it, and the end of the stream makes it DONE when it is the end of the
source, else FAILED with E_LENGTH. A wrong header is E_CODE; a literal stream decodes to its bytes, and a wrong
trailer is E_CHECK; a Distance beyond the bytes decoded is E_DISTANCE, and a match copies from that far back. R321:
with ArchiveAutoLoad set, a coefficient store that lost its content and an archive in force, the archive is loaded
into the store through slot 7. It rests on choices of the model: log 70, 72, 73, 94. -/
def Obligations.ShaleBlocksAndArchive : Prop :=
  ((∀ (j : Fin 4) (s : State), s.rd .jobState j ≠ 1 → exec (.shaleBlock ⟨j, by omega⟩) s =
    .next (if s.alive 8 then s.stalled else s)) ∧
  (∀ (j : Fin 4) (c : Coder) (s : State), s.alive 8 = true → s.rd .jobState j = 1 → (s.job j).co = c →
    s.rangeOn (s.spec j).kind (s.spec j).handle = true → (s.spec j).outs.all s.bufOn = true → c.op = 1 → c.phase = 6 →
    ∃ t, exec (.shaleBlock ⟨j, by omega⟩) s = .next t ∧ t.rd .jobState j = 3 ∧ t.rd .jobStatus j = 0
      ∧ t.rd .outputDone j = c.outDone ∧ t.quarry = s.quarry) ∧
  (∀ (j : Fin 4) (c d : Coder) (w : Bytes) (n : Nat) (u s : State), s.alive 8 = true → s.rd .jobState j = 1 →
    (s.job j).co = c → s.rangeOn (s.spec j).kind (s.spec j).handle = true → (s.spec j).outs.all s.bufOn = true →
    c.op = 1 →
    u = s.scanJob j →
    c.word (Config.shaleChoice u.draws) (u.rangeRead (s.spec j).kind (s.spec j).handle ((s.spec j).off + c.inDone)
      (min 4096 ((s.spec j).len - c.inDone))) = some (w, d, n) →
    (s.spec j).len ≤ c.outDone + w.length →
    ∃ t, exec (.shaleBlock ⟨j, by omega⟩) s = .next t ∧ t.rd .jobState j = 4
      ∧ t.rd .jobStatus j = Status.noGain.value) ∧
  (∀ (j : Fin 4) (c : Coder) (d : Dec) (u s : State), s.alive 8 = true → s.rd .jobState j = 1 → (s.job j).co = c →
    s.rangeOn (s.spec j).kind (s.spec j).handle = true → (s.spec j).outs.all s.bufOn = true → c.op = 2 →
    u = s.scanJob j →
    d = c.decode (u.rangeRead (s.spec j).kind (s.spec j).handle ((s.spec j).off + c.inDone)
      (min 4096 ((s.spec j).len - c.inDone))) (s.chainRoom (s.spec j) 8 c.chain (s.job j).pos) 37748736 →
    ∃ t, exec (.shaleBlock ⟨j, by omega⟩) s = .next t ∧ t.rd .inputDone j = d.co.inDone ∧ t.rd .outputDone j = d.co.outDone
      ∧ t.rd .jobState j = (if d.err.isSome = true then 4 else if d.full = true then 2 else if d.co.phase = 6 then
          (if (s.spec j).len ≤ d.co.inDone then 3 else 4) else if (s.spec j).len ≤ d.co.inDone then 4 else 1)
      ∧ (∀ st, d.err = some st → t.rd .jobStatus j = st.value
          ∧ t.rd .decodeErrors 0 = min (s.rd .decodeErrors 0 + 1) 0xFFFFFFFF)
      ∧ (d.err = none → d.full = true → t.rd .jobStatus j = Status.overflow.value)
      ∧ (d.err = none → d.full = false → (d.co.phase = 6 ↔ ¬ (s.spec j).len ≤ d.co.inDone) → d.co.phase = 6 ∨
          (s.spec j).len ≤ d.co.inDone → t.rd .jobStatus j = Status.length.value
          ∧ t.rd .decodeErrors 0 = min (s.rd .decodeErrors 0 + 1) 0xFFFFFFFF)) ∧
  (∀ (h r : Bytes) (room lim : Nat), h.length = 8 → field h 0 2 ≠ 0x4853 ∨ field h 2 1 ≠ 1 ∨ field h 3 1 ≠ 0 ∨
    field h 4 4 = 0 ∨ 37748736 < field h 4 4 → (({ op := 2 } : Coder).decode (h ++ r) room lim).err = some .code) ∧
  (∀ (b : Bytes) (k room lim : Nat) (d : Dec), 1 ≤ b.length → b.length ≤ 128 → b.length ≤ room → b.length ≤ lim →
    d = ({ op := 2 } : Coder).decode (shaleHeader b.length ++ leBytes 1 (b.length - 1) ++ b ++ leBytes 4 k) room lim →
    d.out.reverse = b ∧ d.co.outDone = b.length ∧
      (if k % 4294967296 = crc32 b then d.co.phase = 6 ∧ d.err = none ∧ d.full = false else d.err = some .check)) ∧
  (∀ (d : Dec) (len dist : Nat), d.err = none → (d.co.outDone < dist → (d.startMatch len dist).err = some .distance) ∧
    (dist ≤ d.co.outDone → d.co.decoded < d.co.outDone + len → (d.startMatch len dist).err = some .length) ∧
    (1 ≤ len → dist ≤ d.co.outDone → d.co.outDone + len ≤ d.co.decoded → 0 < d.room → d.full = false →
      ∃ x y, (d.startMatch len dist).next = some x ∧ x.out = d.co.hist.getD (dist - 1) 0 :: d.out ∧ y = x.co
        ∧ y.hist = d.co.hist.getD (dist - 1) 0 :: d.co.hist ∧ y.remaining = len - 1 ∧ y.outDone = d.co.outDone + 1))) ∧
  (∀ (s : State), s.on 8 = true → s.on 10 = true → s.storeOn 0 = true → s.slotUsed 7 = false →
    s.power.coefGone = true → s.rd .archiveAutoLoad 0 = 1 → (s.inForce 4).isSome = true →
    ∃ t a, exec .archiveAutoload s = .next t ∧ t.secure.archive = some a ∧ a.load = true ∧ a.auto = true
      ∧ t.power.coefGone = false ∧ t.regs = s.regs)

/-- R285, R315, R317, R318: an accepted STORE of the settings area with the write path free lays the committed values
out as lines for the older bank, its header spoiled first, and starts the first line; its answer waits. With the
write window closed it fails at once, counted in StoreFailures. An AreaMask of 0 or with a reserved bit is E_RANGE;
with D10 not ON the STORE is E_STATE. R314, R315: the end of a line puts its 64 bytes into the MRAM and, with the
window open, the next line of the job starts, and no job is held; R325, R327: a slot of the black box is zeroed, and
a frozen head whose Kind 2 record stood in it is a head no more; lines held for StoreHoldLimit fail an owner-bank
job, whose writer is answered why. It rests on choices of the model: log 79, 123, 157, 158. -/
def Obligations.StoreWritesLines : Prop :=
  ((∀ (e : Env) (s : State), s.runs e false false → s.still → s.on 10 = true → s.secure.stores = [] →
    s.windowOpen = true → s.settingsPayload.length + 64 ≤ 262144 →
    ∃ t o, exec (.store e [1]) s = .next t ∧ t.secure.ops = [o] ∧ o.kind = .settings ∧ o.started = true
      ∧ o.payload = s.settingsPayload ∧ o.lines = s.bankLines 1 (s.targetBank 1) s.settingsPayload
      ∧ (t.session (sessionOf e)).busy = decide (sessionOf e ≠ 255) ∧ t.mgmt.core = none
      ∧ t.secure.mram = s.secure.mram ∧ t.mgmt.rep = s.mgmt.rep) ∧
  (∀ (e : Env) (s : State), s.runs e false false → s.still → s.on 10 = true → s.secure.stores = [] →
    s.windowOpen = false → s.settingsPayload.length + 64 ≤ 262144 →
    ∃ t, exec (.store e [1]) s = .next t ∧ t.secure.ops = [] ∧ t.secure.stores = [] ∧ t.secure.mram = s.secure.mram
      ∧ t.answered e s.closedCode ∧ t.rd .storeFailures 0 = min (s.rd .storeFailures 0 + 1) 0xFFFFFFFF) ∧
  (∀ (e : Env) (b : Bytes) (s : State), s.runs e false false → s.still → s.secure.stores = [] →
    b.length = 1 →
    ∃ t, exec (.store e b) s = .next t ∧ (leNat b = 0 ∨ 7 < leNat b → t.answered e .range) ∧
      (1 ≤ leNat b → leNat b ≤ 7 → s.on 10 = false → t.answered e .state))) ∧
  ((∀ (o : NvmOp) (l m : Line) (q : List Line) (s : State), s.on 10 = true → s.windowOpen = true → s.secure.ops = [o] →
    o.started = true → o.fresh = false → o.kind ≠ .clear → o.lines = l :: m :: q →
    ∃ t, exec .nvmLineDone s = .next t ∧ t.secure.mram = SMap.write s.secure.mram l.addr l.data
      ∧ t.secure.ops = [{ o with lines := m :: q, heldAt := none }] ∧ t.regs = s.regs) ∧
  (∀ (o : NvmOp) (k : Nat) (s : State), s.on 10 = true → s.windowOpen = true → s.secure.ops = [o] → o.started = true →
    o.fresh = false → o.kind = .clear → o.names = [k] → k < 65536 →
    ∃ t, exec .nvmLineDone s = .next t
      ∧ t.secure.mram = SMap.write s.secure.mram (boxBase + 64 * k) (List.replicate 64 0)
      ∧ t.secure.ops = [{ o with names := [k + 1], lines := [t.clearLineOf (k + 1)], heldAt := none }] ∧
      (slotGood (s.boxSlot k) = false ∨ field (s.boxSlot k) 4 1 ≠ 2 → t.regs = s.regs) ∧
      (slotGood (s.boxSlot k) = true → field (s.boxSlot k) 4 1 = 2 → (s.rdv .frozenHeads 0).length ≤ 8 →
        t.heads = s.heads.filter (· ≠ field (s.boxSlot k) 0 4))) ∧
  (∀ (o : NvmOp) (w : Waiter) (a : Nat) (s : State), s.on 10 = true → s.windowOpen = false → s.secure.ops = [o] →
    o.heldAt = some a → a + ms (s.rd .storeHoldLimit 0) ≤ s.aon.mono → o.kind = .owner → o.names = [1] →
    o.started = false → o.fresh = false → o.lines ≠ [] → o.who = some w → (s.session (sessionOf w.env)).busy = true →
    (s.session (sessionOf w.env)).lastSeq = w.env.seq.toNat →
    sessionOf w.env = 256 ∨ (s.session (sessionOf w.env)).partner = w.env.source.toNat →
    ∃ t, exec .nvmHoldLimit s = .next t ∧ t.secure.ops = [] ∧ t.secure.mram = s.secure.mram
      ∧ t.answered w.env s.windowCode))

/-- R286: a RESTORE of the settings or the calibration area reads the bank in force and stages the values saved there
for the requesting session, answering how many; where one of them would be refused (DEDUCED, log 71) it answers that
refusal and stages nothing; with no bank in force it is E_CHECK and stages nothing; a RESTORE of the archive begins
its decode into the coefficient store and holds the core (R277). It rests on choices of the model: log 71, 83, 103. -/
def Obligations.RestoreStages : Prop :=  (∀ (e : Env) (a : Fin 2) (u : State) (l : List (Ent × Nat × Val)) (s : State), s.runs e false false → s.still →
    s.on 10 = true → s.stagingHeld (sessionOf e) = false → (s.inForce (a + 1)).isSome = true →
    u = (s.claimSpi e).mramScan (bankBase (a + 1) false) (2 * bankSize (a + 1)) →
    l = (u.areaRecords (a + 1)).filterMap
      (recordTarget (if a.val = 0 then fun x => x.info.stored else fun x => calEnts.contains x)) →
    ∃ t, exec (.restore e [BitVec.ofNat 8 a]) s = .next t ∧
      (∀ st, u.restoreRefusal e l = some st → t.answered e st ∧ t.mgmt.staged = s.mgmt.staged) ∧
      (u.restoreRefusal e l = none → l ≠ [] → sessionOf e ≠ 255 →
        ({ s with mgmt := { s.mgmt with
          staged := l.foldl (fun q x => restage (key x.1 x.2.1) x.2.2 q) s.mgmt.staged } } : State).stagedTotal ≤ 524288 →
        t.mgmt.staged = l.foldl (fun q x => restage (key x.1 x.2.1) x.2.2 q) s.mgmt.staged
          ∧ t.rd .stagingOwner 0 = sessionOf e
          ∧ (∃ r, t.mgmt.rep = some r ∧ r.status = .ok ∧ r.body = leBytes 4 l.length)
          ∧ ∀ y j, y.dropCounter = false → y ≠ .stagingOwner → y ≠ .nvmCorrected → t.rdv y j = s.rdv y j)) ∧
  (∀ (e : Env) (a : Fin 2) (s : State), s.runs e false false → s.still → s.on 10 = true →
    s.stagingHeld (sessionOf e) = false → s.inForce (a + 1) = none →
    ∃ t, exec (.restore e [BitVec.ofNat 8 a]) s = .next t ∧ t.answered e .check ∧ t.mgmt.staged = s.mgmt.staged) ∧
  (∀ (e : Env) (s : State), s.runs e false false → s.still → s.on 10 = true → s.on 8 = true → s.storeOn 0 = true →
    s.slotUsed 7 = false → (s.inForce 4).isSome = true →
    ∃ t a, exec (.restore e [2]) s = .next t ∧ t.secure.archive = some a ∧ a.load = true ∧ a.auto = false
      ∧ (t.session (sessionOf e)).busy = decide (sessionOf e ≠ 255) ∧ t.mgmt.core = some e
      ∧ t.mgmt.staged = s.mgmt.staged)

/-- R323 to R326: a pending black-box record goes, with the next RecordSeq, into the next slot that no frozen head
keeps; the scan reads the slots, finds the last RecordSeq and freezes the last heads that no Kind 4 record names.
R325, R327: HeadRelease of a frozen head takes it from FrozenHeads, which then shows the last heads that no Kind 4
record names, and puts a Kind 4 record in the queue; of another number it is E_RANGE; BlackBoxClear of 1 begins the
clear of the slots, its answer waiting, and of 0 does nothing. It rests on choices of the model: log 69, 80, 84, 85. -/
def Obligations.BlackBoxKeepsRecords : Prop :=
  ((∀ (k : Nat) (r : EventRec) (q : List (Nat × EventRec)) (s : State), s.on 10 = true → s.secure.bbScanned = true →
    s.recordsFlow = true → s.windowOpen = true → s.secure.ops = [] → s.secure.bbQueue = (k, r) :: q → k ≠ 2 →
    s.aon.bbCoal = [] → s.secure.bbAt + us 500 ≤ s.aon.mono →
    ∃ t, exec .blackboxRecordWrite s = .next t ∧ t.secure.bbQueue = q
      ∧ t.rd .blackBoxLast 0 = (s.rd .blackBoxLast 0 + 1) % 4294967296
      ∧ t.secure.mram = SMap.write s.secure.mram (boxBase + 64 * s.freeSlot 65536 s.secure.bbNext)
          (s.recordLine ((s.rd .blackBoxLast 0 + 1) % 4294967296) k r)
      ∧ t.secure.bbNext = s.freeSlot 65536 s.secure.bbNext + 1 ∧ t.secure.bbAt = s.aon.mono) ∧
  (∀ (s : State), s.on 10 = true → s.secure.bbScanned = false →
    ∃ t u, exec .blackboxScanDone s = .next t ∧ u = s.mramScan boxBase 4194304 ∧ t.secure.bbScanned = true
      ∧ t.secure.mram = u.secure.mram
      ∧ (∀ x ∈ u.boxRecords, field x.2 0 4 ≤ t.rd .blackBoxLast 0)
      ∧ (u.boxRecords ≠ [] → ∃ x ∈ u.boxRecords, t.rd .blackBoxLast 0 = field x.2 0 4
          ∧ t.secure.bbNext = x.1 + 1)
      ∧ t.rdv .frozenHeads 0 = (s.setHeads (unnamedHeads (u.boxRecords.map (fun x => x.2)))).rdv .frozenHeads 0)) ∧
  ((∀ (e : Env) (v : Bytes) (n : Nat) (s : State), s.mayWrite e .headRelease 0 v →
    Ent.headRelease.info.decode v = [n] → s.on 10 = true →
    s.secure.bbQueue.length < 256 → s.aon.bbCoal = [] →
    ∃ t, exec (.headRelease e v) s = .next t ∧
      (if n ∈ s.heads then n ∉ t.heads
          ∧ t.rdv .frozenHeads 0 = (s.setHeads ((unnamedHeads (s.boxRecords.map (fun x => x.2))).filter (fun h =>
              h ≠ n ∧ ∀ p ∈ s.secure.bbQueue, p.1 = 4 → p.2.names.headD 0 ≠ h))).rdv .frozenHeads 0
          ∧ t.secure.bbQueue = s.secure.bbQueue ++ [(4, s.record .overflowSummary [n])] ∧ t.answered e .ok
        else t.heads = s.heads ∧ t.secure.bbQueue = s.secure.bbQueue ∧ t.answered e .range)) ∧
  (∀ (e : Env) (s : State), s.mayWrite e .blackBoxClear 0 [1] → s.on 10 = true → s.windowOpen = true →
    s.secure.ops = [] →
    ∃ t o, exec (.blackboxClear e [1]) s = .next t ∧ t.secure.ops = [o] ∧ o.kind = .clear ∧ o.started = true
      ∧ o.names = [0] ∧ (t.session (sessionOf e)).busy = true ∧ t.secure.mram = s.secure.mram
      ∧ t.mgmt.rep = s.mgmt.rep) ∧
  (∀ (e : Env) (s : State), s.mayWrite e .blackBoxClear 0 [0] → s.secure.ops = [] →
    ∃ t, exec (.blackboxClear e [0]) s = .next t ∧ t.secure.ops = [] ∧ t.answered e .ok))

/-- R329, R330: OwnerEnrol on an unclaimed part writes a key that is a point of the curve into the owner bank's next
payload, line by line, its answer waiting; on a claimed part it is E_AUTH, and a key that is no point is E_RANGE.
R331: a READ of AuthChallenge gives the session 32 fresh bytes; a good OwnerToken of Kind 1 authorises its session,
one of Kind 2 or 3 begins the owner-bank write of the new key or of none; each consumes the challenge, and so does a
token that is refused, with EV_AUTH_FAILED. It rests on choices of the model: log 86. -/
def Obligations.OwnerAndTokens : Prop :=
  (∀ (e : Env) (v : Bytes) (s : State), s.mayWrite e .ownerEnrol 0 v → s.secure.ops = [] → s.on 10 = true →
    s.windowOpen = true →
    (s.claimed = true → ∃ t, exec (.ownerEnrol e v) s = .next t ∧ t.answered e .auth ∧ t.secure.ops = []) ∧
    (s.claimed = false → isPoint v = false →
      ∃ t, exec (.ownerEnrol e v) s = .next t ∧ t.answered e .range ∧ t.secure.ops = []) ∧
    (s.claimed = false → isPoint v = true →
      ∃ t o, exec (.ownerEnrol e v) s = .next t ∧ t.secure.ops = [o] ∧ o.kind = .owner ∧ o.started = true
        ∧ o.payload = patched s.ownerBytes (patchAt 0 v)
        ∧ o.lines = s.bankLines 3 (s.targetBank 3) (patched s.ownerBytes (patchAt 0 v))
        ∧ (t.session (sessionOf e)).busy = decide (sessionOf e ≠ 255) ∧ t.mgmt.rep = s.mgmt.rep)) ∧
  ((∀ (e : Env) (s : State), s.runs e false true → s.on 10 = true → sessionOf e ≠ 255 →
    ∃ t r, exec (.authChallenge e) s = .next t ∧ (t.session (sessionOf e)).challenge = some r.body
      ∧ r.body = (List.range 32).map (Config.entropy s.secure.draws) ∧ t.mgmt.rep = some r ∧ r.status = .ok
      ∧ t.secure.draws = s.secure.draws + 1) ∧
  (∀ (e : Env) (v : Bytes) (s : State), s.mayWrite e .ownerToken 0 v → s.secure.ops = [] → field v 2 1 = 1 →
    ∃ t, exec (.authoriseSession e v) s = .next t ∧
      (sessionOf e ≠ 255 → (t.session (sessionOf e)).challenge = none) ∧
      (s.tokenFault v (s.session (sessionOf e)).challenge = none → sessionOf e ≠ 255 →
        (t.session (sessionOf e)).auth = true ∧ t.answered e .ok) ∧
      (∀ st, s.tokenFault v (s.session (sessionOf e)).challenge = some st →
        t.answered e st ∧ (t.session (sessionOf e)).auth = (s.session (sessionOf e)).auth
          ∧ t.rd .eventsRaised 0 = min (s.rd .eventsRaised 0 + 1) 0xFFFFFFFF)) ∧
  (∀ (e : Env) (v : Bytes) (s : State), s.mayWrite e .ownerToken 0 v → s.secure.ops = [] → s.on 10 = true →
    s.windowOpen = true → field v 2 1 = 2 →
    ∃ t, exec (.replaceOwnerKey e v) s = .next t ∧
      (sessionOf e ≠ 255 → (t.session (sessionOf e)).challenge = none) ∧
      (s.tokenFault v (s.session (sessionOf e)).challenge = none →
        ∃ o, t.secure.ops = [o] ∧ o.kind = .owner ∧ o.started = true
          ∧ o.payload = patched s.ownerBytes (patchAt 0 ((v.drop 52).take 64))
          ∧ (t.session (sessionOf e)).busy = decide (sessionOf e ≠ 255)) ∧
      (∀ st, s.tokenFault v (s.session (sessionOf e)).challenge = some st → t.secure.ops = [] ∧ t.answered e st
        ∧ t.rd .eventsRaised 0 = min (s.rd .eventsRaised 0 + 1) 0xFFFFFFFF)) ∧
  (∀ (e : Env) (v : Bytes) (s : State), s.mayWrite e .ownerToken 0 v → s.secure.ops = [] → s.on 10 = true →
    s.windowOpen = true → field v 2 1 = 3 →
    ∃ t, exec (.removeOwnerKey e v) s = .next t ∧
      (sessionOf e ≠ 255 → (t.session (sessionOf e)).challenge = none) ∧
      (s.tokenFault v (s.session (sessionOf e)).challenge = none →
        ∃ o, t.secure.ops = [o] ∧ o.kind = .owner ∧ o.started = true
          ∧ o.payload = patched s.ownerBytes (patchAt 0 (List.replicate 64 0))
          ∧ (t.session (sessionOf e)).busy = decide (sessionOf e ≠ 255)) ∧
      (∀ st, s.tokenFault v (s.session (sessionOf e)).challenge = some st → t.secure.ops = [] ∧ t.answered e st
        ∧ t.rd .eventsRaised 0 = min (s.rd .eventsRaised 0 + 1) 0xFFFFFFFF)))

/-- R337: FirmwareActivate of the slot that does not run, valid and not below the fuses, begins the owner-bank write
that makes it the trial; FirmwareConfirm does the same for the running trial as the preferred slot. A slot that runs
or is not valid, and a confirm without a trial, is E_STATE. R338: AttestNonce of 32 bytes begins a report for its
session, replacing an earlier one; the report, when it is ready, is that of Table 14.8 over that nonce. It rests on
choices of the model: log 89. -/
def Obligations.FirmwareAndAttestation : Prop :=
  ((∀ (e : Env) (k : Fin 2) (s : State), s.mayWrite e .firmwareActivate 0 [BitVec.ofNat 8 k] → s.secure.ops = [] →
    s.on 10 = true → s.windowOpen = true →
    (k.val = s.secure.running ∨ s.secure.slotSt.getD k 0 ≠ 2 →
      ∃ t, exec (.firmwareActivate e [BitVec.ofNat 8 k]) s = .next t ∧ t.answered e .state ∧ t.secure.ops = []) ∧
    (k.val ≠ s.secure.running → s.secure.slotSt.getD k 0 = 2 →
      s.secure.fuses ≤ leNat (s.mramRead (k * 3145728 + 7) 1) →
      ∃ t o, exec (.firmwareActivate e [BitVec.ofNat 8 k]) s = .next t ∧ t.secure.ops = [o] ∧ o.started = true
        ∧ o.payload = patched s.ownerBytes [(66, BitVec.ofNat 8 k), (67, 0)]
        ∧ (t.session (sessionOf e)).busy = true)) ∧
  (∀ (e : Env) (s : State), s.mayWrite e .firmwareConfirm 0 [1] → s.secure.ops = [] → s.on 10 = true →
    s.windowOpen = true →
    (s.secure.trial = false →
      ∃ t, exec (.firmwareConfirm e [1]) s = .next t ∧ t.answered e .state ∧ t.secure.ops = []) ∧
    (s.secure.trial = true →
      ∃ t o, exec (.firmwareConfirm e [1]) s = .next t ∧ t.secure.ops = [o] ∧ o.started = true
        ∧ o.payload = patched s.ownerBytes [(65, BitVec.ofNat 8 s.secure.running), (66, 0xFF)]
        ∧ (t.session (sessionOf e)).busy = true))) ∧
  ((∀ (e : Env) (v : Bytes) (s : State), s.mayWrite e .attestNonce 0 v → v.length = 32 → sessionOf e ≠ 255 →
    ∃ t, exec (.attestNonce e v) s = .next t ∧ t.answered e .ok
      ∧ (t.session (sessionOf e)).attest = some { nonce := v, report := none, since := s.aon.mono }) ∧
  (∀ (n : Fin 257) (a : Attest) (s : State), s.on 10 = true → (s.session n).attest = some a → a.report = none →
    ∃ u, u = s.mramScan 0 16777216 ∧
    exec (.attestReportReady n) s = .next (u.setSession n { s.session n with attest := some { a with
      report := some (u.reportBody a.nonce ++ (List.range 64).map (Config.deviceSignature (u.reportBody a.nonce))) } })))

/-- R287, R344, R346, R347, R358: DOMAIN_UP of a domain whose needs are ON begins its exit and its answer waits;
while a rail of the domain is off or unacknowledged the request is pending; with a need missing it is E_STATE, in a
dip or with a faulty rail E_SUPPLY, already there E_OK. The request releases the core while it waits (R277).
DOMAIN_DOWN to RET or OFF of a domain that no other needs begins its entry; one that another needs is E_STATE, one to
the state it is in E_OK, one to RET of a domain that is OFF E_RANGE, and D9's is refused by block 13 and counted.
During a transition a request becomes the pending one, and a newer one replaces it, counted in Superseded. R350: a
DOMAIN_DOWN that names D9, or the domain of the port on which it arrived, is refused by the management core. It rests
on choices of the model: log 96, 97. -/
def Obligations.DomainRequests : Prop :=
  ((∀ (e : Env) (d : Fin 24) (s : State), s.runs e false false → s.needsOn d = true → s.dip = false →
    s.railFault d = false → (s.domain d).st = .off ∨ (s.domain d).st = .ret → (s.domain d).next = none →
    s.railsWait d = false →
    ∃ t, exec (.domainUp e [BitVec.ofNat 8 d]) s = .next t ∧ (t.domain d).st = .exiting
      ∧ (t.domain d).left = (s.domain d).st ∧ (t.domain d).target = .on ∧ (t.domain d).env = some e ∧ t.mgmt.core = none
      ∧ (t.session (sessionOf e)).busy = decide (sessionOf e ≠ 255) ∧ (∀ y j, y ≠ .domainState → t.rdv y j = s.rdv y j)) ∧
  (∀ (e : Env) (d : Fin 24) (s : State), s.runs e false false → s.needsOn d = true → s.dip = false →
    s.railFault d = false → (s.domain d).st = .off ∨ (s.domain d).st = .ret → (s.domain d).next = none →
    (∃ r ∈ railsOf d, s.asksRail r true = true) →
    ∃ t, exec (.domainUp e [BitVec.ofNat 8 d]) s = .next t ∧ (t.domain d).st = (s.domain d).st
      ∧ (t.domain d).next = some { target := .on, env := some e, plan := false } ∧ t.mgmt.core = none
      ∧ (t.session (sessionOf e)).busy = decide (sessionOf e ≠ 255) ∧ (∀ y j, y ≠ .domainState → t.rdv y j = s.rdv y j)) ∧
  (∀ (e : Env) (d : Fin 24) (s : State), s.runs e false false →
    ∃ t, exec (.domainUp e [BitVec.ofNat 8 d]) s = .next t ∧
      (s.needsOn d = false → t.answered e .state ∧ t.power = s.power) ∧
      (s.needsOn d = true → s.dip = true ∨ s.railFault d = true → t.answered e .supply ∧ t.power = s.power) ∧
      (s.needsOn d = true → s.dip = false → s.railFault d = false → (s.domain d).st = .on →
        t.answered e .ok ∧ t.power = s.power) ∧
      (s.needsOn d = true → s.dip = false → s.railFault d = false → (s.domain d).st = .entering ∨ (s.domain d).st = .exiting →
        (t.domain d).next = some { target := .on, env := some e, plan := false } ∧ (t.domain d).st = (s.domain d).st
          ∧ ((s.domain d).next.isSome = true → s.power.plan = none →
              t.rd .superseded d = min (s.rd .superseded d + 1) 0xFFFFFFFF))) ∧
  (∀ (e : Env) (d : Fin 24) (k : Nat) (x : DomState) (s : State), s.runs e false false → s.neededBy d = false →
    selfCut e d = false → (k = 1 ∧ x = .ret) ∨ (k = 2 ∧ x = .off) →
    (s.domain d).st = .on ∨ ((s.domain d).st = .ret ∧ x = .off) → (s.domain d).next = none →
    ∃ t, exec (.domainDown e [BitVec.ofNat 8 d, BitVec.ofNat 8 k]) s = .next t ∧ (t.domain d).st = .entering
      ∧ (t.domain d).left = (s.domain d).st ∧ (t.domain d).target = x ∧ (t.domain d).env = some e
      ∧ (t.domain d).window = decide ((s.domain d).st ≠ .on)
      ∧ (t.session (sessionOf e)).busy = decide (sessionOf e ≠ 255) ∧ (∀ y j, y ≠ .domainState → t.rdv y j = s.rdv y j)) ∧
  (∀ (e : Env) (d : Fin 24) (s : State), s.runs e false false →
    ∃ t u, exec (.domainDown e [BitVec.ofNat 8 d, 2]) s = .next t ∧ exec (.domainDown e [BitVec.ofNat 8 d, 1]) s = .next u ∧
      (s.neededBy d = true → t.answered e .state ∧ t.power = s.power) ∧
      (s.neededBy d = false → (s.domain d).st = .off → (s.domain d).next = none →
        t.answered e .ok ∧ t.power = s.power ∧ u.answered e .range ∧ u.power = s.power)) ∧
  (∀ (e : Env) (s : State), s.runs e false false → s.neededBy 9 = false → (s.domain 9).st = .on →
    ∃ t, exec (.domainDown e [9, 2]) s = .next t ∧ t.answered e .state ∧ t.power = s.power
      ∧ t.rd .refusals 9 = min (s.rd .refusals 9 + 1) 0xFFFFFFFF ∧ t.rd .lastRefuser 9 = 13)) ∧
  (∀ (e : Env) (d : Fin 24) (k : Fin 2) (s : State), s.runs e false false →
    d.val = 9 ∨ (∃ p, e.via = .izsor p ∧ d.val = p.val) → (s.domain d).st = .on →
    ∃ t, exec (.domainDown e [BitVec.ofNat 8 d, BitVec.ofNat 8 (k + 1)]) s = .next t ∧ t.answered e .state
      ∧ t.power = s.power)

/-- R344 to R346, R349, Table 15.4: a quiesce is refused by the link port after a SLEEP_NAK, by the codec while a job
runs, by the secure store while it stores, and by the lanes while the modulator runs with an enabled lane in the
quadrant, and by no other: the domain stays ON, the refusal is counted, and a request is answered E_STATE with the
block. Without a refuser the entry window begins: D5 leaves its time latched in AON (R95), D8 leaves every job IDLE
(R305), and D9, whose content is lost (R342, Table 15.2), leaves no session and no staged value. The window's end
puts the domain in its target, counted in Transitions; an exit whose rails are good and whose time has passed puts
the domain ON, but not before every domain that it needs is ON (R15); a rail that stays below its warning level
aborts it (R348). It rests on choices of the model: log 95, 97, 102, 113. -/
def Obligations.DomainsChangeState : Prop :=  (∀ (d : Fin 24) (b : Nat) (s : State), (s.domain d).st = .entering → (s.domain d).window = false →
    s.portBusy d = false → s.refuser d = some b → (s.domain d).plan = false → (s.domain d).next = none →
    s.power.plan = none → s.power.wakeLayer = none →
    ∃ t, exec (.domainQuiesceDone d) s = .next t ∧ (t.domain d).st = .on
      ∧ t.rd .refusals d = min (s.rd .refusals d + 1) 0xFFFFFFFF ∧ t.rd .lastRefuser d = b
      ∧ (∀ e, (s.domain d).env = some e → (s.session (sessionOf e)).busy = true → sessionOf e ≠ 255 →
          (s.session (sessionOf e)).lastSeq = e.seq.toNat →
          sessionOf e = 256 ∨ (s.session (sessionOf e)).partner = e.source.toNat →
          ∃ r, t.mgmt.rep = some r ∧ r.status = .state ∧ r.body = leBytes 1 b)) ∧
  (∀ (s : State), (∀ d : Nat, d ≤ 3 → s.refuser d = (if (s.port d).nak = true then some 1 else none)) ∧
    (∀ j, j < 4 → s.rd .jobState j = 1 → s.refuser 8 = some 6) ∧
    (∀ k, k ∈ s.openXfers → (s.xfer k).coded = true → s.refuser 8 = some 6) ∧
    ((∀ j, j < 4 → s.rd .jobState j ≠ 1) → (∀ k ∈ s.openXfers, (s.xfer k).coded = false) → s.refuser 8 = none) ∧
    (s.secure.stores ≠ [] → s.refuser 10 = some 14) ∧
    (∀ o ∈ s.secure.ops, o.kind ≠ .owner → s.refuser 10 = some 14) ∧
    (s.secure.stores = [] → (∀ o ∈ s.secure.ops, o.kind = .owner) → s.refuser 10 = none) ∧
    (∀ q, q < 4 → s.refuser (16 + q) = (if s.running = true ∧ 128 * q < s.geo.n then some 12 else none)) ∧
    (∀ d ∈ [4, 5, 6, 7, 9, 11, 12, 13, 14, 15, 20, 21, 22, 23], s.refuser d = none)) ∧
  (∀ (d : Fin 24) (s : State), (s.domain d).st = .entering → (s.domain d).window = false → s.portBusy d = false →
    s.refuser d = none → s.power.planGap = false →
    ∃ t, exec (.domainQuiesceDone d) s = .next t ∧ (t.domain d).window = true ∧ (t.domain d).st = .entering
      ∧ (t.domain d).target = (s.domain d).target ∧ t.on d = false
      ∧ (d.val = 8 → ∀ j, j < 4 → t.rd .jobState j = 0) ∧ (d.val = 9 → t.mgmt.sessions = [] ∧ t.mgmt.staged = [])
      ∧ (d.val = 5 → t.aon.latch.isSome = true)) ∧
  (∀ (d : Fin 24) (s : State), (s.domain d).st = .entering → (s.domain d).window = true →
    (s.domain d).since + 4 * slowTick ≤ s.aon.mono → (s.domain d).env = none → (s.domain d).plan = false →
    (s.domain d).next = none → s.power.plan = none → s.power.wakeLayer = none → s.rd .railSleepMask 0 = 0 →
    ∃ t, exec (.domainEntryWindowEnd d) s = .next t ∧ (t.domain d).st = (s.domain d).target
      ∧ t.rd .transitions d = min (s.rd .transitions d + 1) 0xFFFFFFFF ∧ t.rd .lastChange d = s.now) ∧
  (∀ (d : Fin 24) (s : State), (s.domain d).st = .exiting → (s.domain d).target = .on → s.railsGood d = true →
    s.needsOn d = true → (s.domain d).since + us (s.exitTime d) ≤ s.aon.mono → (s.domain d).env = none →
    (s.domain d).next = none → s.power.plan = none → s.power.wakeLayer = none →
    ∃ t, exec (.domainExitDone d) s = .next t ∧ (t.domain d).st = .on
      ∧ t.rd .transitions d = min (s.rd .transitions d + 1) 0xFFFFFFFF ∧ t.rd .lastChange d = s.now) ∧
  (∀ (d : Fin 24) (s : State), s.needsOn d = false ∨ s.railsGood d = false → exec (.domainExitDone d) s = .next s) ∧
  (∀ (d : Fin 24) (s : State), (s.domain d).st = .exiting → (∃ r ∈ railsOf d, (s.rail r).warn = true) →
    (s.domain d).since + ms 2 ≤ s.aon.mono → (s.domain d).left = .off ∨ (s.domain d).left = .ret → (s.domain d).env = none →
    (s.domain d).plan = false → (s.domain d).next = none → s.power.plan = none → s.power.wakeLayer = none →
    ∃ t, exec (.powerGoodTimeout d) s = .next t ∧ (t.domain d).st = (s.domain d).left
      ∧ t.rd .aborts d = min (s.rd .aborts d + 1) 0xFFFFFFFF)

/-- R351: PlanEnter of 1 with targets that leave every need ON is accepted; while a plan runs it is E_BUSY, a target
above 2 or a RET of a domain that is OFF is E_RANGE, and targets that R15 forbids are E_STATE. With its reply gone
the plan begins with its first layer that has entries to make: each of its domains begins its entry, and no other
domain moves. When the last of a layer is down, the next layer that has entries starts with its first quiesce (the
gap between them is log 181), or, with none left, the plan is done with Layer 7 and no domain. A refusal stops the
plan with its domain and block. R352 to R354: a rising edge of the WAKE ball is latched in edge mode, the chip
select's while D9 is not ON, the alarm once its slow ticks have passed; a wake takes the enabled source of the lowest
code, writes LastWake and raises EV_WAKE. It rests on choices of the model: log 98, 181. -/
def Obligations.PlansAndWakes : Prop :=
  ((∀ (e : Env) (s : State), s.mayWrite e .planEnter 0 [1] →
    ∃ t, exec (.planEnter e [1]) s = .next t ∧ t.power = s.power ∧
      (s.power.plan ≠ none ∨ s.mgmt.planDue = true → t.answered e .busy ∧ t.mgmt.planDue = s.mgmt.planDue) ∧
      (s.power.plan = none → s.mgmt.planDue = false → (∃ x ∈ s.rdv .planTargets 0, 2 < x) ∨
          (∃ d ∈ allDomains, (s.rdv .planTargets 0).getD d 0 = 1 ∧ (s.domain d).st = .off) →
        t.mgmt.planDue = false ∧ t.answered e .range) ∧
      (s.power.plan = none → s.mgmt.planDue = false → (∀ x ∈ s.rdv .planTargets 0, x ≤ 2) →
        (∀ d ∈ allDomains, (s.rdv .planTargets 0).getD d 0 = 1 → (s.domain d).st ≠ .off) →
        (if ∀ d ∈ allDomains, s.onAfter d = true → ∀ x ∈ s.needs d, s.onAfter x = true then
          t.mgmt.planDue = true ∧ t.answered e .ok else t.mgmt.planDue = false ∧ t.answered e .state))) ∧
  (∀ (l : Nat) (s : State), s.on 9 = true → s.mgmt.planDue = true → s.repliesWait = false → s.power.plan = none →
    s.power.wakeLayer = none → 1 ≤ l → l ≤ 7 → (∀ d ∈ allDomains, layerOf d < l → s.planTarget d = none) →
    (∃ d ∈ layer l, (s.planTarget d).isSome = true) →
    (∀ d ∈ layer l, (s.planTarget d).isSome = true → (s.domain d).next = none ∧ s.neededBy d = false ∧
      ((s.domain d).st = .on ∨ ((s.domain d).st = .ret ∧ s.planTarget d = some .off))) →
    ∃ t, exec .planExecute s = .next t ∧ t.power.plan = some l ∧ t.mgmt.planDue = false ∧ t.power.lastPlan = []
      ∧ ∀ d ∈ allDomains, ∀ x, (if layerOf d = l ∧ s.planTarget d = some x then
          (t.domain d).st = .entering ∧ (t.domain d).target = x ∧ (t.domain d).plan = true
        else layerOf d ≠ l ∨ s.planTarget d = none → t.domain d = s.domain d)) ∧
  (∀ (d : Fin 24) (s : State), s.power.plan = some (layerOf d) → (s.domain d).st = .entering → (s.domain d).window = true →
    (s.domain d).plan = true → (s.domain d).target ≠ .on → (s.domain d).target ≠ .entering →
    (s.domain d).since + 4 * slowTick ≤ s.aon.mono → (s.domain d).env = none → (s.domain d).next = none →
    (∀ k ∈ layer (layerOf d), k ≠ d.val → s.planWaits k = false) → s.power.wakeLayer = none →
    ∃ t, exec (.domainEntryWindowEnd d) s = .next t ∧ (t.domain d).st = (s.domain d).target
      ∧ t.power.lastPlan = s.power.lastPlan ++ [d.val] ∧
      ((∃ k ∈ layer (layerOf d + 1), (s.planTarget k).isSome = true) →
        t.power.plan = some (layerOf d) ∧ t.power.planGap = true) ∧
      ((∀ k ∈ allDomains, layerOf d < layerOf k → s.planTarget k = none) →
        (∀ k ∈ allDomains, layerOf d < layerOf k → s.planWaits k = false) →
        t.power.plan = none ∧ t.rdv .planOutcome 0 = [7, 0xFF, 0, 0, 0, 0, 0, 0])) ∧
  (∀ (d : Fin 24) (l : Nat) (s : State), s.power.plan = some l → s.power.planGap = true → layerOf d = l + 1 → 1 ≤ l →
    s.wakeSource = none → (∀ k ∈ layer (l + 1), (s.planTarget k).isSome = true → (s.domain k).next = none ∧
      s.neededBy k = false ∧ (s.domain k).st = .on) → (s.planTarget d).isSome = true →
    ∃ t, exec (.domainQuiesceDone d) s = .next t ∧ t.power.plan = some (l + 1) ∧ t.power.planGap = false
      ∧ (t.domain d).window = true
      ∧ ∀ k ∈ layer (l + 1), ∀ x, s.planTarget k = some x → (t.domain k).st = .entering ∧ (t.domain k).target = x
        ∧ (t.domain k).plan = true) ∧
  (∀ (d : Fin 24) (b : Nat) (s : State), (s.domain d).st = .entering → (s.domain d).window = false →
    s.portBusy d = false → s.refuser d = some b → (s.domain d).plan = true → (s.domain d).env = none →
    (s.domain d).next = none → s.power.plan = some (layerOf d) → s.power.planGap = false → s.power.wakeLayer = none →
    ∃ t, exec (.domainQuiesceDone d) s = .next t ∧ (t.domain d).st = .on ∧ t.power.plan = none
      ∧ t.rdv .planOutcome 0 = [layerOf d - 1, d.val, Status.state.value % 256, Status.state.value / 256, b, 0, 0, 0])) ∧
  ((∀ (s : State), s.rd .wakeBallMode 0 = 1 → s.inWindow = false →
    exec (.wakeBallEdge true) s = .next { s with aon := { s.aon with ball := true, ballEdge := true } }) ∧
  (∀ (s : State), exec (.wakeBallEdge false) s = .next { s with aon := { s.aon with ball := false } }) ∧
  (∀ (s : State), exec .spiCsWake s = .next
    (if s.on 9 || s.inWindow then s else { s with aon := { s.aon with spiEdge := true } })) ∧
  (∀ (s : State), s.aon.latch ≠ none → s.rd .alarmTicks 0 ≠ 0 → s.aon.alarm = false → s.aon.alarmTaken = false →
    s.alive 5 = false → s.rd .alarmTicks 0 ≤ s.aon.ticks →
    exec .alarmExpiry s = .next { s with aon := { s.aon with alarm := true } }) ∧
  (∀ (c : Nat) (s : State), s.inWindow = false → s.thermal.shut = false → s.boot.phase ≠ .held →
    s.wakeSource = some c → s.power.plan = none → (∀ d ∈ allDomains, (s.domain d).st = .on ∧ (s.domain d).next = none) →
    ∃ t, exec .wake s = .next t ∧ t.rd .lastWake 0 = c ∧ t.aon.beacons = (if c ≤ 3 then s.aon.beacons.filter (· ≠ c)
        else s.aon.beacons)
      ∧ t.rd .eventsRaised 0 = min (s.rd .eventsRaised 0 + 1) 0xFFFFFFFF
      ∧ ∀ d ∈ allDomains, (t.domain d).st = .on) ∧
  (∀ (s : State), s.wakeSource = none → exec .wake s = .next s) ∧
  (∀ (c l : Nat) (ds : List Nat) (s : State), s.inWindow = false → s.thermal.shut = false → s.boot.phase ≠ .held →
    s.wakeSource = some c → s.power.plan = none → s.dip = false → (∀ d ∈ allDomains, (s.domain d).next = none) →
    ds = s.wakeUp c ++ s.power.wakeSet → 1 ≤ l → l ≤ 7 →
    (∀ d ∈ allDomains, d ∈ ds → l < layerOf d → (s.domain d).st = .on) →
    (∃ d ∈ layer l, d ∈ ds ∧ (s.domain d).st ≠ .on) →
    (∀ d ∈ layer l, d ∈ ds → (s.domain d).st = .on ∨ (((s.domain d).st = .off ∨ (s.domain d).st = .ret)
      ∧ s.needsOn d = true ∧ s.railFault d = false ∧ s.railsWait d = false)) →
    ∃ t, exec .wake s = .next t ∧ t.rd .lastWake 0 = c ∧ t.power.wakeLayer = some l
      ∧ (∀ d ∈ layer l, d ∈ ds → (s.domain d).st ≠ .on → (t.domain d).st = .exiting ∧ (t.domain d).target = .on
          ∧ (t.domain d).left = (s.domain d).st)
      ∧ ∀ d ∈ allDomains, layerOf d ≠ l ∨ d ∉ ds ∨ (s.domain d).st = .on → t.domain d = s.domain d) ∧
  (∀ (d : Fin 24) (u : State) (s : State), (s.domain d).st = .exiting → (s.domain d).target = .on → s.railsGood d = true →
    s.needsOn d = true → (s.domain d).since + us (s.exitTime d) ≤ s.aon.mono → (s.domain d).env = none →
    (s.domain d).next = none → s.power.plan = none → s.power.wakeLayer = some (layerOf d) → 2 ≤ layerOf d →
    allDomains.any s.on = true → u = ((s.domainReaches d).enterOn d ((s.domain d).left = .ret)).beginCal → u.power.plan = none →
    u.power.wakeLayer = some (layerOf d) → u.power.wakeSet = s.power.wakeSet →
    (∀ k ∈ layer (layerOf d), k ∈ s.power.wakeSet → u.on k = true) → u.dip = false →
    (∃ k ∈ layer (layerOf d - 1), k ∈ s.power.wakeSet ∧ u.on k = false) →
    (∀ k ∈ layer (layerOf d - 1), k ∈ s.power.wakeSet → u.on k = true ∨ (((u.domain k).st = .off ∨ (u.domain k).st = .ret)
      ∧ u.needsOn k = true ∧ u.railFault k = false ∧ u.railsWait k = false ∧ (u.domain k).next = none)) →
    (u.domain d).next = none →
    ∃ t, exec (.domainExitDone d) s = .next t ∧ t.power.wakeLayer = some (layerOf d - 1)
      ∧ ∀ k ∈ layer (layerOf d - 1), k ∈ s.power.wakeSet → u.on k = false → (t.domain k).st = .exiting) ∧
  (∀ (c l : Nat) (s : State), s.inWindow = false → s.thermal.shut = false → s.boot.phase ≠ .held → s.wakeSource = some c →
    s.power.plan = some l → 1 ≤ l → l < 7 ∨ s.power.planGap = true →
    ∃ t, exec .wake s = .next t ∧ t.power.plan = none ∧ t.rd .lastWake 0 = c
      ∧ t.rdv .planOutcome 0 = [if s.power.planGap = true then l else l - 1, 0xFF, Status.busy.value % 256,
          Status.busy.value / 256, 0, 0, 0, 0]))

/-- R355 to R358: an acknowledged request turns a rail on or off or sets VCORE, and the exit that waited for the rail
begins; an answer after RegulatorTimeout acknowledges nothing; a STATUS_WORD with a fault bit marks the rail faulty
with an event and asks for its faults to be cleared; an unanswered request is sent again twice, and then counted in
RegulatorTimeouts, and the transitions that need it are aborted. R359, R360: a rail below its warning level begins a
dip and lowers SupplyMin; a dip of 10 ms drives the lanes dark and is counted in DarkDips; while another rail is
still below warning, a rail's recovery does not end the dip, and the recovery of the last one does, counted in
SupplyDips. R383 to R385, R392: a rail other than VAON below its reset level resets the device with cause 2, the
record naming the rail and its minimum; SupplyMin, which is not stored, takes its default, and within a reset that is
held it keeps the value; VAON below its own gives a full reset, in which VAON counts as low until it recovers. R386,
R387: RESET_N low for less than 1 µs does nothing, and for longer resets with cause 4; a watchdog that no renewal
reached for 1 s resets with cause 5. It rests on choices of the model: log 99, 100, 101, 105, 107, 113. -/
def Obligations.SuppliesAndResets : Prop :=
  ((∀ (r : Fin 7) (w : BitVec 16) (q : RegReq) (s : State), s.power.reg = some q → q.rail = r.val → q.cmd = 0 ∨ q.cmd = 1 →
    acknowledges q w.toNat = true → s.power.regQ = [] → s.aon.mono ≤ q.since + us (s.rd .regulatorTimeout 0) →
    s.dip = false → (∀ d ∈ allDomains, (s.domain d).next = none) → s.power.plan = none → s.power.wakeLayer = none →
    ∃ t, exec (.regulatorAck r w) s = .next t ∧ t.power.reg = none
      ∧ (t.rail r).off = (if q.cmd = 1 then decide (q.mv = 0) else (s.rail r).off)
      ∧ t.power.vcoreMv = (if q.cmd = 0 then q.mv else s.power.vcoreMv) ∧ (t.rail r).fault = false ∧ t.regs = s.regs) ∧
  (∀ (r : Fin 7) (d : Fin 24) (w : BitVec 16) (q : RegReq) (x : DomReq) (s : State), s.power.reg = some q →
    q.rail = r.val → q.cmd = 1 → q.mv ≠ 0 → acknowledges q w.toNat = true → s.power.regQ = [] →
    s.aon.mono ≤ q.since + us (s.rd .regulatorTimeout 0) → s.dip = false → s.power.plan = none →
    (∀ k ∈ allDomains, k ≠ d.val → (s.domain k).next = none) → (s.domain d).next = some x → x.target = .on →
    (s.domain d).st = .off ∨ (s.domain d).st = .ret → s.needsOn d = true →
    (∀ k ∈ railsOf d, k ≠ r.val → (s.rail k).off = false ∧ (s.rail k).fault = false) → s.power.wakeLayer = none →
    ∃ t, exec (.regulatorAck r w) s = .next t ∧ (t.domain d).st = .exiting ∧ (t.domain d).left = (s.domain d).st
      ∧ (t.domain d).env = x.env ∧ (t.domain d).next = none) ∧
  (∀ (r : Fin 7) (w : BitVec 16) (q : RegReq) (s : State), s.power.reg = some q → q.rail ≠ r.val ∨
    q.since + us (s.rd .regulatorTimeout 0) < s.aon.mono → exec (.regulatorAck r w) s = .next s) ∧
  (∀ (r : Fin 7) (w : BitVec 16) (q : RegReq) (s : State), s.power.reg = some q → q.rail = r.val →
    faultBits w.toNat = true → (s.rail r).fault = false → s.aon.mono ≤ q.since + us (s.rd .regulatorTimeout 0) →
    ∃ t, exec (.regulatorAck r w) s = .next t ∧ (t.rail r).fault = true ∧ t.power.reg = some q
      ∧ t.power.regQ = { rail := r.val, cmd := 3 } :: s.power.regQ
      ∧ t.rd .eventsRaised 0 = min (s.rd .eventsRaised 0 + 1) 0xFFFFFFFF) ∧
  (∀ (r : Fin 7) (q : RegReq) (s : State), s.power.reg = some q → q.rail = r.val →
    q.since + us (s.rd .regulatorTimeout 0) ≤ s.aon.mono → q.tries < 2 →
    exec (.regulatorTimeout r) s = .next { s with power := { s.power with
      reg := some { q with tries := q.tries + 1, since := s.aon.mono } } }) ∧
  (∀ (r : Fin 7) (q : RegReq) (s : State), s.power.reg = some q → q.rail = r.val → s.power.regQ = [] →
    q.since + us (s.rd .regulatorTimeout 0) ≤ s.aon.mono → 2 ≤ q.tries → q.cmd = 1 ∨ (∀ d ∈ allDomains, s.waitsReg q d = false) →
    s.power.plan = none → s.power.wakeLayer = none →
    ∃ t, exec (.regulatorTimeout r) s = .next t ∧ t.power.reg = none
      ∧ t.rd .regulatorTimeouts 0 = min (s.rd .regulatorTimeouts 0 + 1) 0xFFFFFFFF
      ∧ ∀ d ∈ allDomains, s.waitsReg q d = true → (t.domain d).next = none ∧ (t.domain d).st = (s.domain d).st
        ∧ t.rd .aborts d = min (s.rd .aborts d + 1) 0xFFFFFFFF)) ∧
  ((∀ (r : Fin 7) (mv : BitVec 16) (s : State), (s.rail r).off = false → mv.toNat < s.warnLevel r →
    (s.rdv .supplyMin 0).length = 7 →
    ∃ t, exec (.supplyWarning r mv) s = .next t ∧ (t.rail r).warn = true ∧ t.dip = true
      ∧ t.rdn .supplyMin 0 r = (if (s.rail r).min = 0 then mv.toNat else min (s.rail r).min mv.toNat)
      ∧ t.rd .supplyDips 0 = s.rd .supplyDips 0) ∧
  (∀ (a : Nat) (s : State), s.power.dipAt = some a → s.power.dark = false → a + ms 10 ≤ s.aon.mono →
    ∃ t, exec .supplyDark s = .next t ∧ t.power.dark = true
      ∧ t.rd .darkDips 0 = min (s.rd .darkDips 0 + 1) 0xFFFFFFFF
      ∧ ∀ q : Fin 4, (t.quad q).dip = true) ∧
  (∀ (r k : Fin 7) (s : State), (s.rail r).warn = true → k ≠ r → (s.rail k).warn = true →
    ∃ t, exec (.supplyRecover r) s = .next t ∧ (t.rail r).warn = false ∧ t.power.dipAt = s.power.dipAt
      ∧ t.regs = s.regs) ∧
  (∀ (r : Fin 7) (a : Nat) (s : State), (s.rail r).warn = true → (∀ k : Fin 7, k ≠ r → (s.rail k).warn = false) →
    s.power.dipAt = some a → s.power.dark = false → s.thermal.calStep ≠ 1 → s.boot.phase = .complete →
    (∀ d ∈ allDomains, (s.domain d).next = none) → s.power.plan = none → s.power.wakeLayer = none →
    s.secure.ops = [] →
    ∃ t, exec (.supplyRecover r) s = .next t ∧ t.dip = false ∧ (t.rail r).warn = false
      ∧ t.rd .supplyDips 0 = min (s.rd .supplyDips 0 + 1) 0xFFFFFFFF
      ∧ t.rd .eventsRaised 0 = min (s.rd .eventsRaised 0 + 1) 0xFFFFFFFF)) ∧
  ((∀ (r : Fin 7) (mv : BitVec 16) (s : State), r.val ≠ 4 → (s.rail r).off = false → mv.toNat < s.resetLevel r →
    s.boot.phase ≠ .held →
    ∃ t, exec (.supplyReset r mv) s = .next t ∧ t.boot.phase = .held ∧ t.boot.causes = [2] ∧ (t.rail r).low = true
      ∧ t.boot.source = r.val ∧ t.boot.minimum = (if (s.rail r).min = 0 then mv.toNat else min (s.rail r).min mv.toNat)
      ∧ t.rdv .supplyMin 0 = Ent.supplyMin.dflt ∧ t.modl = {} ∧ ∀ d, t.on d = false) ∧
  (∀ (r : Fin 7) (mv : BitVec 16) (s : State), r.val ≠ 4 → (s.rail r).off = false → mv.toNat < s.resetLevel r →
    s.boot.phase = .held → (s.rdv .supplyMin 0).length = 7 →
    ∃ t, exec (.supplyReset r mv) s = .next t ∧ t.boot.phase = .held ∧ t.boot.causes = addCause 2 s.boot.causes
      ∧ t.rdn .supplyMin 0 r = (if (s.rail r).min = 0 then mv.toNat else min (s.rail r).min mv.toNat)) ∧
  (∀ (mv : BitVec 16) (s : State), (s.rail 4).off = false → mv.toNat < s.resetLevel 4 →
    ∃ t, exec (.supplyReset 4 mv) s = .next t ∧ t.regs = [] ∧ t.boot.phase = .held ∧ t.boot.causes = [1]
      ∧ t.aon.latch = none ∧ (t.rail 4).warn = true ∧ (t.rail 4).low = true ∧ t.pending = s.pending)) ∧
  ((∀ (n : Nat) (s : State), n < 1000 → exec (.resetBall n) s = .next s) ∧
  (∀ (n : Nat) (s : State), 1000 ≤ n → s.boot.phase ≠ .held →
    ∃ t, exec (.resetBall n) s = .next t ∧ t.boot.phase = .held ∧ t.boot.causes = [4] ∧ t.modl = {}
      ∧ (∀ d, t.on d = false) ∧ t.pending = s.pending) ∧
  (∀ (s : State), s.boot.wdOn = true → s.on 9 = true → s.boot.wdAt + ms 1000 ≤ s.aon.mono → s.boot.phase ≠ .held →
    ∃ t, exec .watchdogExpiry s = .next t ∧ t.boot.phase = .held ∧ t.boot.causes = [5] ∧ t.modl = {}) ∧
  (∀ (s : State), s.boot.wdOn = false → exec .watchdogExpiry s = .next s))

/-- R364 to R366: with no sensor failed or about to fail and every reading below 125 degrees, JunctionTemp is the
highest of the 32 readings and the device stays up. A sensor whose fused counts give no scale keeps its reading.
R367: a plausible conversion of a good sensor at 125 degrees or above, or three failed sensors, shuts the die down:
every domain is OFF, the display path is empty and ShutdownCount goes up. R369, R370: in a slow round WARNING is set
at WarningLevel and cleared 5 degrees below it; at ThrottleLevel, with no throttle step taken and none pending, a
throttle decision is counted. Step 2 is decided 5 degrees above the level, or at it 2 s after step 1; without a
rate-of-rise hold, 2 s more than 5 degrees below the level release step 2, and step 1 once 2 s have passed since
either step; in between nothing is decided. R371, R372: with D11 ON each enabled input is converted: a voltage is
reported, a thermistor's value is interpolated, and a ratio outside its range sets ChannelFault and keeps the value.
R373: a thermistor's band follows the mean of its last 4 values. It rests on choices of the model: log 110, 111, 112,
114, 115, 177, 182. -/
def Obligations.TemperaturesActAndShutDown : Prop :=
  (∀ (counts : List Nat) (r : Nat → Int) (s : State), s.thermal.shut = false → (∃ d ∈ allDomains, s.on d = true) →
    s.thermal.convAt + ms 1 ≤ s.aon.mono → s.secure.ops = [] →
    (∀ n, r n = (sensorTemp n (counts.getD n 0)).getD (s.sensor n).t) →
    (∀ n < 32, (s.sensor n).failed = false ∧ (s.sensor n).badRun = 0 ∧ r n < 2000) →
    ∃ t, exec (.sensorConversion counts) s = .next t ∧ t.thermal.shut = false ∧ t.thermal.seen = true
      ∧ (∀ n < 32, r n ≤ t.thermal.j) ∧ (∃ n, n < 32 ∧ t.thermal.j = r n)
      ∧ t.rd .junctionTemp 0 = uns 16 (clampInt (-32768) 32767 t.thermal.j) ∧ t.power = s.power) ∧
  (∀ (counts : List Nat) (s : State), s.thermal.shut = false → (∃ d ∈ allDomains, s.on d = true) →
    s.thermal.convAt + ms 1 ≤ s.aon.mono → s.secure.ops = [] →
    3 ≤ (sensors32.filter (fun n => (s.sensor n).failed && decide ((s.sensor n).goodRun < 63))).length ∨
      (∃ n x, n < 32 ∧ (s.sensor n).failed = false ∧ counts.getD n 0 ≠ 0 ∧
        sensorTemp n (counts.getD n 0) = some x ∧ 2000 ≤ x ∧ x ≤ 2400) →
    ∃ t, exec (.sensorConversion counts) s = .next t ∧ t.thermal.shut = true ∧ (∀ d, t.on d = false)
      ∧ t.modl = {} ∧ t.quarry = [] ∧ t.rd .shutdownCount 0 = min (s.rd .shutdownCount 0 + 1) 0xFFFFFFFF) ∧
  ((∀ (ain : List Nat) (s : State), s.thermal.shut = false → (∃ d ∈ allDomains, s.on d = true) →
    s.thermal.roundAt + s.roundTime ≤ s.aon.mono → s.thermal.seen = true → s.rd .thermalStatus 0 < 16 →
    ∃ t, exec (.slowRound ain) s = .next t ∧ t.thermal.roundAt = s.aon.mono ∧
      (s.thermal.j ≥ s.rd .warningLevel 0 * 16 → t.thermalBit 0 = true) ∧
      (s.thermal.j < s.rd .warningLevel 0 * 16 - 80 → t.thermalBit 0 = false) ∧
      (s.throttlePending = true → t.rd .throttleDecisions 0 = s.rd .throttleDecisions 0) ∧
      (s.throttlePending = false → s.rd .throttleStep 0 = 0 → s.thermal.j < s.rd .throttleLevel 0 * 16 →
        t.rd .throttleDecisions 0 = s.rd .throttleDecisions 0) ∧
      (s.throttlePending = false → s.rd .throttleStep 0 = 0 → s.thermal.j ≥ s.rd .throttleLevel 0 * 16 →
        t.rd .throttleDecisions 0 = min (s.rd .throttleDecisions 0 + 1) 0xFFFFFFFF)) ∧
  (∀ (ain : List Nat) (l : Int) (x : Nat) (s : State), s.thermal.shut = false → (∃ d ∈ allDomains, s.on d = true) →
    s.thermal.roundAt + s.roundTime ≤ s.aon.mono → s.thermal.seen = true → s.throttlePending = false →
    l = s.rd .throttleLevel 0 * 16 → x = s.rd .throttleStep 0 → 1 ≤ x →
    ∃ t, exec (.slowRound ain) s = .next t ∧
      (x = 1 → s.modl.noStep2 = false → step2Ok (s.rd .viewCount 0) (s.rd .refreshesPerView 0) (s.rd .framePeriod 0) = true →
        l + 80 ≤ s.thermal.j ∨ (l ≤ s.thermal.j ∧ s.modl.t1 + 2000000000 ≤ s.now) →
        t.rd .throttleDecisions 0 = min (s.rd .throttleDecisions 0 + 1) 0xFFFFFFFF
          ∧ (s.running = false → t.rd .throttleStep 0 = 2)) ∧
      (∀ c, s.modl.coolSince = some c → c + 2000000000 ≤ s.now → s.thermal.j < l - 80 → t.thermalBit 1 = false →
        (x = 1 → s.modl.t1 + 2000000000 ≤ s.now ∧ s.modl.t2 + 2000000000 ≤ s.now) →
        t.rd .throttleDecisions 0 = min (s.rd .throttleDecisions 0 + 1) 0xFFFFFFFF
          ∧ (s.running = false → t.rd .throttleStep 0 = if x = 1 then 0 else 1)) ∧
      (s.thermal.j < l → l - 80 ≤ s.thermal.j ∨ t.thermalBit 1 = true ∨ s.modl.coolSince = none →
        t.rd .throttleDecisions 0 = s.rd .throttleDecisions 0 ∧ t.rd .throttleStep 0 = x)) ∧
  (∀ (ain : List Nat) (c : Nat) (m : Int) (s : State), s.thermal.shut = false → s.on 11 = true →
    s.thermal.roundAt + s.roundTime ≤ s.aon.mono → s.thermal.seen = true → c < 16 → m = s.adcCode (samplesOf ain c) →
    ∃ t, exec (.slowRound ain) s = .next t ∧
      (s.rd .channelKind c = 0 → t.rd .value c = s.rd .value c ∧ t.rd .channelFault c = s.rd .channelFault c
        ∧ t.rd .band c = s.rd .band c) ∧
      (s.rd .channelKind c = 2 → t.rd .channelFault c = s.rd .channelFault c ∧ t.rd .band c = s.rd .band c ∧
        t.rd .value c =
          uns 32 (clampInt (-2147483648) 2147483647 (roundAway (m * 1250 * s.rd .voltageGain c) 4294967296))) ∧
      (s.rd .channelKind c = 1 → m < 1024 ∨ 64512 < m →
        t.rd .channelFault c = 1 ∧ t.rd .value c = s.rd .value c ∧ t.rd .band c = s.rd .band c) ∧
      (s.rd .channelKind c = 1 → 1024 ≤ m → m ≤ 64512 →
        t.rd .channelFault c = 0 ∧ t.rd .value c = uns 32 (thermistorValue (s.rdv .thermistorTable c) m.toNat)
          ∧ (t.ain c).last = (thermistorValue (s.rdv .thermistorTable c) m.toNat :: (s.ain c).last).take 4
          ∧ (∀ n, n = nextBand (s.rdv .bandEdges 0) (s.bandOf c) (t.ain c).last.sum (t.ain c).last.length →
              (n = s.bandOf c → t.rd .band c = s.rd .band c) ∧
              (n ≠ s.bandOf c → s.running = false → t.rd .band c = n) ∧
              (n ≠ s.bandOf c → (∀ k < 16, k ≠ c → s.rd .channelKind k ≠ 1) →
                t.rd .bandChanges 0 = min (s.rd .bandChanges 0 + 1) 0xFFFFFFFF)))))

/-- R374, R375: step 1 of phase 1 takes the measured gain and offset where VREFCAL reads within 1 % of its fused
code, and otherwise reports it; step 3 ends phase 1 with CalPhase 3. R376: a measured lane's trims wait; in a gap
(the row dead time, or in grey mode that of its TE domain) one idle lane of a group takes them, counted in
Phase2Lanes; every CalRepeat seconds a later pass opens with no lane trimmed. It rests on choices of the model: log
116, 117, 178. -/
def Obligations.CalibrationRuns : Prop :=
  ((∀ (v g o : Nat) (s : State), s.on 11 = true → s.thermal.calStep = 1 → s.dip = false →
    s.thermal.calAt + ms 2 ≤ s.aon.mono → g < 4294967296 → o < 65536 →
    ∃ t, exec (.calPhase1Step [v, g, o]) s = .next t ∧ t.thermal.calStep = 2 ∧
      (if 100 * ((v : Int) - Config.fusedVrefCode.toNat).natAbs ≤ Config.fusedVrefCode.toNat then
        t.rd .adcGain 0 = g ∧ t.rd .adcOffset 0 = o ∧ t.thermal.vrefBad = false
          ∧ t.rd .eventsRaised 0 = s.rd .eventsRaised 0
      else t.rd .adcGain 0 = s.rd .adcGain 0 ∧ t.rd .adcOffset 0 = s.rd .adcOffset 0 ∧ t.thermal.vrefBad = true
          ∧ t.rd .eventsRaised 0 = min (s.rd .eventsRaised 0 + 1) 0xFFFFFFFF)) ∧
  (∀ (l : List Nat) (s : State), s.on 11 = true → s.thermal.calStep = 3 → s.thermal.calAt + ms 2 ≤ s.aon.mono →
    ∃ t, exec (.calPhase1Step l) s = .next t ∧ t.thermal.calStep = 4 ∧ t.rd .calPhase 0 = 3) ∧
  (∀ (l : List Nat) (s : State), s.on 11 = false → exec (.calPhase1Step l) s = .next s)) ∧
  ((∀ (l : Fin 512) (x : TrimSet) (s : State), s.phase2Runs = true → s.measurable l = true → s.rd .calPhase 0 = 2 →
    (s.lout l).trimmed = false → -40 ≤ x.deskew → x.deskew ≤ 40 → x.swing ≤ 63 → x.impedance ≤ 31 →
    ∃ t, exec (.calPhase2Measured l x) s = .next t ∧ (t.lout l).newTrim = some (x.deskew, x.swing, x.impedance)
      ∧ t.regs = s.regs) ∧
  (∀ (l : Fin 512) (d : Int) (w z : Nat) (u s : State), s.phase2Runs = true → s.rd .calPhase 0 = 2 →
    s.measurable l = true → (s.lout l).newTrim = some (d, w, z) → (∀ k, k ≠ l.val → (s.lout k).newTrim = none) →
    u = (if s.geo.grey || !s.timeRuns then s else s.toGap) → u.trimmable l = true →
    ∃ t, exec .calPhase2Apply s = .next t ∧ t.rd .deskewTrim l = uns 16 (5 * d) ∧ t.rd .swingTrim l = w
      ∧ t.rd .impedanceTrim l = z ∧ (t.lout l).newTrim = none ∧ (t.lout l).trimmed = true
      ∧ t.rd .phase2Lanes 0 = min (s.rd .phase2Lanes 0 + 1) 0xFFFFFFFF) ∧
  (∀ (s : State), s.phase2Runs = true → s.thermal.firstPass = true → s.rd .calRepeat 0 ≠ 0 → s.rd .calPhase 0 = 3 →
    s.thermal.passAt + ms (1000 * s.rd .calRepeat 0) ≤ s.aon.mono →
    ∃ t, exec .calRepeat s = .next t ∧ t.rd .calPhase 0 = 4 ∧ t.rd .phase2Lanes 0 = 0
      ∧ t.thermal.passAt = s.aon.mono ∧ ∀ l, (t.lout l).newTrim = none))

/-- R383 to R385: power-on leaves every entry at its default, the Quarry empty, every domain OFF and the reset held
for cause 1; the MRAM and the fuses stay. R16, R17, R382: the slow clock's source follows the crystal; REFCLK is
taken while it is detected and no upstream port has been active. R382, R383, R388: with its hold over and the
supplies good the reset is released: its cause is recorded and counted, and the exits of D9, D10 and D11 begin. It
rests on choices of the model: log 5, 105, 107, 128. -/
def Obligations.PowerOnToRelease : Prop :=
  (∀ (s : State), ∃ t, exec .powerOnReset s = .next t ∧ (∀ x i, t.rdv x i = x.dflt) ∧ t.quarry = []
    ∧ (∀ d, t.on d = false) ∧ t.boot.phase = .held ∧ t.boot.causes = [1] ∧ t.secure.fuses = s.secure.fuses
    ∧ ((∀ o ∈ s.secure.ops, o.started = false) → t.secure.mram = s.secure.mram)) ∧
  ((∀ (s : State), ∃ t, exec .crystalDetected s = .next t ∧ t.aon.slow = .crystal
    ∧ (s.aon.slow ≠ .crystal → t.aon.switched = true ∧ t.aon.winSwitch = true) ∧ t.regs = s.regs) ∧
  (∀ (s : State), ∃ t, exec .crystalOscillationLost s = .next t ∧ t.aon.slow = .rc
    ∧ (s.aon.slow ≠ .rc → t.aon.switched = true ∧ t.aon.winSwitch = true) ∧ t.regs = s.regs) ∧
  (∀ (b : Bool) (s : State), ∃ t, exec (.refclkClockChange b) s = .next t ∧ t.aon.refclk = b ∧ t.regs = s.regs
    ∧ (s.aon.refSel = .startup ∨ s.aon.refSel = .refclk → t.aon.refSel = if b then .refclk else .startup)
    ∧ (s.aon.refSel = .recovered ∨ s.aon.refSel = .held → t.aon.refSel = s.aon.refSel))) ∧
  (∀ (c : Nat) (s : State), s.boot.phase = .held → s.boot.causes = [c] → 1 ≤ c → c ≤ 7 → s.anyWarn = false →
    s.thermal.shut = false → s.boot.holdFrom + ms 1 ≤ s.aon.mono → s.boot.goodFrom + ms 1 ≤ s.aon.mono → s.dip = false →
    (∀ d, (s.domain d).st = .off ∧ (s.domain d).next = none) → (∀ r < 7, (s.rail r).off = false) →
    s.power.reg = none → s.power.regQ = [] → (s.rdv .resetCounts 0).length = 7 →
    ∃ t, exec .resetRelease s = .next t ∧ t.boot.phase = .rom ∧ t.boot.release = s.aon.mono ∧ t.secure.fallback = false
      ∧ t.rd .lastResetCause 0 = c ∧ t.rd .resetCauseSet 0 = 2 ^ (c - 1)
      ∧ t.rdn .resetCounts 0 (c - 1) = min (s.rdn .resetCounts 0 (c - 1) + 1) 0xFFFFFFFF
      ∧ (t.domain 9).st = .exiting ∧ (t.domain 10).st = .exiting ∧ (t.domain 11).st = .exiting)

/-- R336, R388: the boot ROM first counts the boot in the owner bank; then it starts the preferred slot if that
verifies; if only the other does, it begins the owner-bank write that prefers the other, and starts nothing yet; with
neither it starts none. The images are judged as the MRAM reads then (R314). R388, R390, R392: the firmware's boot
puts the reset-cause record first for the black box and begins the bring-up; when that ends the boot is complete,
with its event; AutoStart acts once, and not before. It rests on choices of the model: log 81, 108, 109, 127. -/
def Obligations.BootToComplete : Prop :=
  ((∀ (s : State), s.boot.phase = .rom → s.on 9 = true → s.on 10 = true → s.on 11 = true → s.boot.counted = false → s.secure.ops = [] →
    s.windowOpen = true → 2 ≤ s.ownerField 66 1 →
    ∃ t o, exec .bootRom s = .next t ∧ t.boot.counted = true ∧ t.boot.phase = .rom ∧ t.secure.ops = [o]
      ∧ o.kind = .owner ∧ o.started = true
      ∧ o.payload = patched s.ownerBytes (patchAt 68 (leBytes 4 (s.ownerField 68 4 + 1)))) ∧
  (∀ (s : State), s.boot.phase = .rom → s.on 9 = true → s.on 10 = true → s.on 11 = true → s.boot.counted = true → s.secure.ops = [] →
    ∀ u, u = s.mramScan 0 6291456 → 2 ≤ u.ownerField 66 1 →
    (u.verifySlot (u.ownerField 65 1 % 2) = none →
      ∃ t, exec .bootRom s = .next t ∧ t.boot.phase = .firmware ∧ t.secure.running = u.ownerField 65 1 % 2
        ∧ t.secure.trial = false ∧ t.boot.wdOn = true) ∧
    (u.verifySlot (u.ownerField 65 1 % 2) ≠ none → u.verifySlot (1 - u.ownerField 65 1 % 2) = none →
      s.windowOpen = true →
      ∃ t o, exec .bootRom s = .next t ∧ t.secure.ops = [o] ∧ t.boot.phase = .rom
        ∧ o.payload = patched u.ownerBytes [(65, BitVec.ofNat 8 (1 - u.ownerField 65 1 % 2))]) ∧
    (u.verifySlot (u.ownerField 65 1 % 2) ≠ none → u.verifySlot (1 - u.ownerField 65 1 % 2) ≠ none →
      ∃ t, exec .bootRom s = .next t ∧ t.boot.phase = .dead ∧ t.regs = u.regs))) ∧
  ((∀ (s : State), s.boot.phase = .firmware → s.on 9 = true → s.on 10 = true → s.on 11 = true → s.power.plan = none →
    ∃ t r q, exec .firmwareBoot s = .next t ∧ t.boot.phase = .bringUp ∧ t.secure.bbQueue = (2, r) :: q
      ∧ r.ev = .resetCause ∧ t.boot.wdOn = true) ∧
  (∀ (s : State), s.boot.phase = .bringUp → s.power.wakeLayer = none → s.on 9 = true →
    ∃ t, exec .bootComplete s = .next t ∧ t.boot.phase = .complete
      ∧ t.rd .bootTime 0 = min ((s.aon.mono - s.boot.release) / us 1) 0xFFFFFFFF
      ∧ t.rd .eventsRaised 0 = min (s.rd .eventsRaised 0 + 1) 0xFFFFFFFF) ∧
  (∀ (s : State), s.autoReady = true → s.modl.startE = none → s.modl.stopE = none → s.running = false →
    s.lanesOn (s.committed.n .laneCount 0) = true → s.configCheck s.committed [] true = none →
    ∃ t e, exec .autostart s = .next t ∧ t.boot.autoTried = true ∧ t.modl.startE = some e) ∧
  (∀ (s : State), s.autoReady = false → exec .autostart s = .next s))

/-- R383, R408: BYPASS passes one bit, behind the 0 that it holds when it is first selected; IDCODE shifts out
0x195126B5; SAMPLE/PRELOAD shifts out what the balls carry as the values preloaded shift in, without driving a ball;
EXTEST and CLAMP put the boundary register on the balls, and EXTEST captures them; HIGHZ floats them. R383, R408:
exit from EXTEST, CLAMP or HIGHZ, by TEST_RESET or by another instruction, gives the balls back and resets the device
with cause 7; the test-logic reset leaves IDCODE selected and a bypass register of 0 (log 118); without such an
instruction selected TEST_RESET does nothing. It rests on choices of the model: log 118, 179, 180. -/
def Obligations.JtagAndTest : Prop :=
  ((∀ (b : Bool) (s : State), s.jtag.ir.drives = false →
    exec (.jtagBypass b) s = .next { s with
      jtag := { s.jtag with ir := .bypass, bypass := b, shift := [if s.jtag.ir = .bypass then s.jtag.bypass else false] } }) ∧
  (∀ (b : Bool) (s : State), s.jtag.ir.drives = false →
    ∃ t, exec (.jtagIdcode b) s = .next t ∧ t.jtag.ir = .idcode ∧ t.jtag.shift.length = 32
      ∧ (∀ i < 32, t.jtag.shift[i]? = some ((0x195126B5 : Nat).testBit i)) ∧ t.jtag.pins = s.jtag.pins
      ∧ t.regs = s.regs ∧ t.boot = s.boot) ∧
  (∀ (a b : List Bool) (s : State), s.jtag.ir.drives = false →
    ∃ t, exec (.jtagSamplePreload a b) s = .next t ∧ t.jtag.ir = .sample ∧ t.jtag.cells.length = boundaryCells
      ∧ t.jtag.shift.length = b.length ∧ t.jtag.shift ++ t.jtag.cells = s.captured a ++ b
      ∧ (s.jtag.pins = none → ∀ c < boundaryCells, (s.captured a)[c]? = some ((s.ballLevel c).getD (a.getD c false)))
      ∧ (b.length = boundaryCells → t.jtag.cells = b) ∧ t.jtag.pins = s.jtag.pins ∧ t.regs = s.regs ∧ t.boot = s.boot) ∧
  (∀ (s : State), ∃ t, exec .jtagExtest s = .next t ∧ t.jtag.ir = .extest ∧ t.jtag.pins = some s.jtag.boundary
    ∧ t.jtag.floats = false ∧ t.jtag.cells.length = boundaryCells
    ∧ (∀ c < boundaryCells, t.jtag.cells[c]? =
        some (if cellDrives c = true then s.jtag.boundary.getD c false else Config.ballLevel s.draws c))
    ∧ t.draws = s.draws + 1 ∧ t.regs = s.regs ∧ t.boot = s.boot) ∧
  (∀ (s : State), ∃ t, exec .jtagClamp s = .next t ∧ t.jtag.ir = .clamp ∧ t.jtag.pins = some s.jtag.boundary
    ∧ t.jtag.floats = false ∧ t.jtag.bypass = false ∧ t.regs = s.regs ∧ t.boot = s.boot) ∧
  (∀ (s : State), ∃ t, exec .jtagHighz s = .next t ∧ t.jtag.ir = .highz ∧ t.jtag.pins = none
    ∧ t.jtag.floats = true ∧ t.jtag.bypass = false ∧ t.regs = s.regs ∧ t.boot = s.boot)) ∧
  ((∀ (s : State), s.jtag.ir.drives = true → s.boot.phase ≠ .held →
    ∃ t, exec .testReset s = .next t ∧ t.jtag.ir = .idcode ∧ t.jtag.bypass = false ∧ t.jtag.pins = none ∧ t.jtag.floats = false
      ∧ t.boot.phase = .held ∧ t.boot.causes = [7] ∧ t.modl = {} ∧ ∀ d, t.on d = false) ∧
  (∀ (b : Bool) (s : State), s.jtag.ir.drives = true → s.boot.phase ≠ .held →
    ∃ t, exec (.jtagBypass b) s = .next t ∧ t.jtag.ir = .bypass ∧ t.jtag.bypass = b ∧ t.jtag.shift = [false] ∧ t.jtag.pins = none
      ∧ t.boot.causes = [7]) ∧
  (∀ (s : State), s.jtag.ir.drives = false → exec .testReset s = .next s))

/-- A step on a queue that is not empty runs its front command on the state with the queue's rest, whatever the
command. -/
def Obligations.StepRunsTheFront : Prop :=  ∀ (c : Instr) (q : List Instr) (s : State), s.pending = c :: q → step s = exec c { s with pending := q }

/-- The model's idle step (DESIGN CHOICE, log 3): on an empty queue one tick of the clock that counts passes: display
time goes up by Increment while the TIME clock counts, the slow ticks by one while it does not, and no entry changes;
then the management core, if it is ON and no request holds it, acts on a SWEEP held until its requests were complete
(R77), or executes the oldest item that waits for it (R277). It rests on choices of the model: log 3, 48. -/
def Obligations.AnEmptyQueueTicks : Prop :=  (∀ (s : State), s.pending = [] →
    s.on 9 = false ∨ s.mgmt.core.isSome = true ∨ (s.mgmt.inbox = [] ∧ s.idleTick.freeSweep = none) →
    ∃ t, step s = .next t ∧ t.regs = s.regs ∧ t.quarry = s.quarry ∧ t.pending = [] ∧
      (s.timeRuns = true → t.dispFine = (s.dispFine + s.rd .increment 0) % 2 ^ 96 ∧ t.aon.ticks = s.aon.ticks) ∧
      (s.timeRuns = false → t.aon.ticks = s.aon.ticks + 1 ∧ t.time = s.time)) ∧
  (∀ (s t : State), s.pending = [] → s.on 9 = true → s.mgmt.core = none → s.idleTick.freeSweep = some t →
    step s = .next t) ∧
  (∀ (m : Msg) (q : List Msg) (s : State), s.pending = [] → s.on 9 = true → s.mgmt.core = none → s.mgmt.inbox = m :: q →
    s.idleTick.freeSweep = none → step s = coreItem m q s.idleTick)

/-- R268, R383, R385: right after power-on the reset is held for cause 1, every domain is OFF, every entry reads as
its default and the queue is empty. The canonical form of entries and memories, which every step keeps, holds at
reset. It rests on choices of the model: log 5, 6. -/
def Obligations.ResetLeavesDefaults : Prop :=
  ((∀ x i, State.reset.rdv x i = x.dflt) ∧ (∀ d, State.reset.on d = false) ∧ State.reset.boot.phase = .held
    ∧ State.reset.boot.causes = [1] ∧ State.reset.pending = [] ∧ State.reset.modl = {} ∧ State.reset.mgmt = {}) ∧
  (State.reset.canonical)

/-- Every step keeps the entries and the two memories in their canonical form, whatever the command and the state. No
command touches the queue of commands that wait: an effect is never the loss or the making of a command. It rests on
choices of the model: log 6, 7. -/
def Obligations.StepsKeepFormAndQueue : Prop :=
  (∀ (s t : State), s.canonical → step s = .next t → t.canonical) ∧
  (∀ (c : Instr) (s t : State), exec c s = .next t → t.pending = s.pending)

/-- R54: the counters of the port and lane entries are U32 that saturate; a write of 0 clears one, and a write of any
other value is refused with E_RANGE. -/
def Obligations.CountersSaturateAndClear : Prop :=  ∀ x ∈ [Ent.trainFailures, .rateFallbacks, .linkDowns, .badPackets, .sleepNaks, .invalidHeaders, .blockLockLosses,
      .bipErrors, .adaptReverts],
    x.info.ty = .u32 ∧
    (∀ (i n : Nat) (s : State), s.rd x i ≤ 0xFFFFFFFF →
      (s.countBy x i n).rd x i = (if s.rd x i + n ≤ 0xFFFFFFFF then s.rd x i + n else 0xFFFFFFFF)) ∧
    (∀ (e : Env) (m : EntryMsg) (i : Nat) (s : State), s.runs e false false →
      Ent.find m.index.toNat m.sub.toNat = some (x, i) → Machine.EntryMsg.isSegment m = false →
      (s.session (sessionOf e)).seg = none → s.still →
      (m.body = [0, 0, 0, 0] → ∃ t, exec (.write e m) s = .next t ∧ t.rd x i = 0 ∧ t.answered e .ok) ∧
      (m.body.length = 4 → m.body ≠ [0, 0, 0, 0] →
        ∃ t, exec (.write e m) s = .next t ∧ t.rd x i = s.rd x i ∧ t.answered e .range))

/-- R65: a port without a valid HELLO for 3 ms offers no path; the event is raised once for the loss, and the port
stays ACTIVE. It rests on choices of the model: log 1, 36, 160. -/
def Obligations.HelloLossIsToldOnce : Prop :=  (∀ (n : Fin 4) (s : State), s.alive 4 = true → s.active n = true → (s.port n).heard = true →
    ((s.port n).hello.map Hello.since).getD 0 + ms 3 ≤ s.aon.mono → s.on 9 = true → s.mgmt.events.length < 256 →
    ∃ t, exec (.helloTimeout n) s = .next t ∧ t.offers n = false ∧ t.rd .portState n = 5
      ∧ s.record .netHelloTimeout [n] ∈ t.mgmt.events ∧ exec (.helloTimeout n) t = .next t) ∧
  (∀ (n : Nat) (s : State), (s.port n).hello = none ∨ (s.port n).heard = false → s.offers n = false)

/-- R265: every instance of every entry is found at its 16-bit index and 8-bit subindex, and nothing else is found
there. Subindex 0 of every index that holds entries reads as a U8 that gives the highest subindex in use there, and
is not written. A request for an index that holds no entry is answered E_NO_OBJECT, one for an unused subindex of an
existing index E_NO_SUB. (The indices from 0xF000 on are the restricted range of R270.) -/
def Obligations.EveryEntryHasItsAddress : Prop :=  (∀ (x : Ent) (i : Nat), i < x.info.count → Ent.find (x.address i).1 (x.address i).2 = some (x, i)
    ∧ (x.address i).1 < 65536 ∧ (x.address i).2 < 256 ∧ 1 ≤ (x.address i).2
    ∧ (x.address i).2 ≤ Ent.highestSub (x.address i).1) ∧
  (∀ (n k : Nat) (x : Ent) (i : Nat), Ent.find n k = some (x, i) → i < x.info.count ∧ x.address i = (n, k)) ∧
  (∀ n, Ent.indexUsed n = true ↔ ∃ (x : Ent) (i : Nat), i < x.info.count ∧ x.address i = (n, Ent.highestSub n)) ∧
  (∀ (e : Env) (m : EntryMsg) (s : State), s.runs e false true → m.index.toNat < 0xF000 → sessionOf e ≠ 255 →
    ∃ t r, exec (.read e m) s = .next t ∧ t.mgmt.rep = some r ∧
      (Ent.indexUsed m.index.toNat = false → r.status = .noObject) ∧
      (Ent.indexUsed m.index.toNat = true → Ent.find m.index.toNat m.sub.toNat = none → m.sub.toNat ≠ 0 →
        r.status = .noSub) ∧
      (Ent.indexUsed m.index.toNat = true → m.sub.toNat = 0 → m.body = [] → m.offset = 0 →
        r.status = .ok ∧ r.body = leBytes 1 (Ent.highestSub m.index.toNat) ∧ r.type = Ty.u8.code ∧ r.total = 1)) ∧
  (∀ (e : Env) (m : EntryMsg) (c : Instr) (s : State), s.runs e false false → s.still → m.index.toNat < 0xF000 →
    c = .write e m ∨ c = .writeStaged e m →
    ∃ t, exec c s = .next t ∧
      (Ent.indexUsed m.index.toNat = false → t.answered e .noObject) ∧
      (Ent.indexUsed m.index.toNat = true → Ent.find m.index.toNat m.sub.toNat = none → m.sub.toNat ≠ 0 →
        t.answered e .noSub) ∧
      (Ent.indexUsed m.index.toNat = true → m.sub.toNat = 0 → t.answered e .access))

/-- R7, R266: a value of an entry comes back from its bytes, which are as many as its elements take. R58, R59: a
packet that the device sends passes the checks of a receiver, which reads from its bytes what was sent. R149, R160:
bytes written to the Quarry read back, and every other byte reads as before; the memory stays in its canonical form.
Of two accesses to a word in one cycle a read returns the word as it was before; after two writes the word holds port
B's bytes in every lane that port B enables and port A's in the lanes that only port A enables, and a read of port A
in the cycle of port B's write returns the word after port A's write. It rests on choices of the model: log 6, 137. -/
def Obligations.BytesComeBack : Prop :=
  (∀ (x : Ent) (v : Val), (∀ n ∈ v, n < 256 ^ x.info.elt) →
    (x.info.encode v).length = v.length * x.info.elt ∧ x.info.decode (x.info.encode v) = v) ∧
  (∀ (p : Packet), p.hop < 256 → p.dest < 65536 → p.source < 65536 → p.channel < 65536 → p.seq < 65536 →
    p.payload.length ≤ 4096 → p.cls = 2 ∨ p.cls = 3 ∨ (p.cls = 1 ∧ p.channel < 256) ∨
      (p.cls = 0 ∧ p.mode = .linkLocal ∧ p.payload.length ≤ 64) →
    packetFault p.bytes = none ∧ (Packet.ofBytes p.bytes).cls = p.cls ∧ (Packet.ofBytes p.bytes).mode = p.mode
      ∧ (Packet.ofBytes p.bytes).hop = p.hop ∧ (Packet.ofBytes p.bytes).dest = p.dest
      ∧ (Packet.ofBytes p.bytes).source = p.source ∧ (Packet.ofBytes p.bytes).channel = p.channel
      ∧ (Packet.ofBytes p.bytes).seq = p.seq ∧ (Packet.ofBytes p.bytes).payload = p.payload) ∧
  (∀ (a : Nat) (b : Bytes) (s : State),
    (s.quarryWrite a b).quarryBytes a b.length = b ∧
    (∀ x, x < a ∨ a + b.length ≤ x → SMap.get (s.quarryWrite a b).quarry x 0 = SMap.get s.quarry x 0) ∧
    (Memory.wf s.quarry = true → Memory.wf (s.quarryWrite a b).quarry = true) ∧
    (∀ (w : Bytes) (x y : PortAccess) (k : Nat), k < w.length → x.lanes.length = w.length → y.lanes.length = w.length →
      (sameWordCycle w x y).1 = w ∧
      (sameWordCycle w x y).2.2[k]? = some (
        if y.writes = true ∧ (y.lanes.getD k none).isSome = true then ((y.lanes.getD k none).getD 0)
        else if x.writes = true ∧ (x.lanes.getD k none).isSome = true then ((x.lanes.getD k none).getD 0)
        else w.getD k 0) ∧
      (x.writes = true → y.writes = true → (sameWordCycle w x y).2.1 = x.after w)))

/-- The frame of the commands of ports, lanes and the network: each changes only entries of its own, of a port that
it names only that port's; it leaves the Quarry, the MRAM and the modulator alone where it does not act on them. (An
egress that clocks out the reply of a host reset starts that reset.) -/
def Obligations.LinkAndNetworkFrame : Prop :=  ∀ (c : Instr) (s t : State), familyOf c = .links ∨ familyOf c = .network →
    (∀ n, c = .egressTransmit n → s.mgmt.resetDue = false) → exec c s = .next t → Framed c s t

/-- The frame of the commands of time, launches, contexts, buffers and captures; the image of a capture, where it
fits, goes into the pages of its handle, a video unit's data goes into its place in its frame's buffer, and a
placement write clears the store where it then stands; every other byte of the Quarry stays. -/
def Obligations.TimeAndVideoFrame : Prop :=  (∀ (c : Instr) (s t : State), familyOf c = .time ∨ familyOf c = .video → exec c s = .next t → Framed c s t) ∧
  (∀ (f : Look) (g n : Nat) (s t : State), g = s.boundaryFrom s.cap.since → exec .captureBoundary s = .next t →
    f = t.tablesAt (if s.running = true then ((s.untilDisp g).captureSlot g).getD 0 / 4294967296 else g) →
    s.cap.target < 256 → n = 65536 * (t.buf s.cap.handle).pages.length →
    planeBase (captureFormat s.cap.target) (f.n .tileWidth 0) (f.n .tileHeight 0) 3 ≤ n →
    ∀ a, (∀ o < n, a ≠ t.bufAddr s.cap.handle o) → SMap.get t.quarry a 0 = SMap.get s.quarry a 0) ∧
  (∀ (src ch q : BitVec 16) (b : Bytes) (c : Nat) (u : UnitHdr) (s t : State), c = ch.toNat % 16384 → u = unitOf b →
    exec (.videoUnit src ch q b) s = .next t →
    ∀ a, (∀ k < u.data.length, a ≠ s.bufAddr (s.unitBuffer c u) (u.unit * s.rd .unitBytes c + k)) →
      SMap.get t.quarry a 0 = SMap.get s.quarry a 0) ∧
  (∀ (e : Env) (k : Fin 6) (v : Bytes) (s t : State), exec (.storePlacementWrite e k v) s = .next t →
    ∀ a, a < t.storeAddr k ∨ t.storeAddr k + t.storeSize k ≤ a → SMap.get t.quarry a 0 = SMap.get s.quarry a 0)

/-- The frame of the commands of the modulator and its lanes; a computed burst stores the previous-output codes of
its own lamps, a commit's effect, a start and what else may begin a Slate frame change the previous-output store
alone, a stop nothing of the Quarry; every other byte stays. A commit that takes effect changes the entries that it
sets, and a lane's held trims the trims. -/
def Obligations.ModulatorFrame : Prop :=  (∀ (c : Instr) (s t : State), familyOf c = .modulator → exec c s = .next t → Framed c s t) ∧
  (∀ (l : Fin 512) (s t : State), exec (.burstCompute l) s = .next t →
    ∀ a, s.burstStores l a = false → SMap.get t.quarry a 0 = SMap.get s.quarry a 0) ∧
  (∀ (c : Instr) (s t : State), mayBeginSlate c = true → exec c s = .next t →
    ∀ a, a < t.storeAddr 1 ∨ t.storeAddr 1 + t.storeSize 1 ≤ a → SMap.get t.quarry a 0 = SMap.get s.quarry a 0) ∧
  (∀ (s t : State), exec .modulatorStopEffect s = .next t → t.quarry = s.quarry)

/-- The frame of the commands of sessions, transfers, jobs and the secure store; a received packet of bulk data goes
into its transfer's range, and of a file into the ranges of its store sections, a block of a slot of Shale into its
job's output handles, its transfer's target or the archive's store, and every other byte of the Quarry stays; a
line's completion and a record of the black box change the MRAM in their own places alone. The entry that a general
WRITE names, and what a COMMIT or a reset changes, have statements of their own. It rests on choices of the model:
log 157. -/
def Obligations.ManagementAndStoreFrame : Prop :=  (∀ (c : Instr) (s t : State), familyOf c = .management ∨ familyOf c = .transfers ∨ familyOf c = .store →
    (∀ n, c = .spiFetch n → s.mgmt.resetDue = false) → exec c s = .next t → Framed c s t) ∧
  (∀ (src ch q : BitVec 16) (p : Bytes) (x : Xfer) (s t : State), x = s.xfer ch.toNat → x.kind ≠ 5 →
    exec (.bulkPacketReceived src ch q p) s = .next t →
    ∀ a, (∀ k < (p.drop 4).length, s.rangeAddr x.kind x.handle (x.offset + (field p 0 4 + k)) ≠ some a) →
      SMap.get t.quarry a 0 = SMap.get s.quarry a 0) ∧
  (∀ (src ch q : BitVec 16) (p f : Bytes) (s t : State), (s.xfer ch.toNat).kind = 5 →
    f = (s.xfer ch.toNat).file ++ p.drop 4 → exec (.bulkPacketReceived src ch q p) s = .next t →
    ∀ a, (∀ i < sectCount f, ∀ o < max (sectOf f i).len (s.rangeSize (sectOf f i).store 0 - (sectOf f i).off),
        s.rangeAddr (sectOf f i).store 0 ((sectOf f i).off + o) ≠ some a) →
      SMap.get t.quarry a 0 = SMap.get s.quarry a 0) ∧
  (∀ (k : Fin 8) (s t : State), exec (.shaleBlock k) s = .next t →
    ∀ a, ¬ s.blockTouches k a → SMap.get t.quarry a 0 = SMap.get s.quarry a 0) ∧
  (∀ (s t : State), exec .nvmLineDone s = .next t →
    ∀ a, s.lineTouches a = false → SMap.get t.secure.mram a 0 = SMap.get s.secure.mram a 0) ∧
  (∀ (k : Nat) (s t : State), k = s.freeSlot 65536 s.secure.bbNext → exec .blackboxRecordWrite s = .next t →
    ∀ a, a < boxBase + 64 * k ∨ boxBase + 64 * k + 64 ≤ a → SMap.get t.secure.mram a 0 = SMap.get s.secure.mram a 0)

/-- The frame of the commands of domains, rails, housekeeping, start-up and the test port; what a reset changes, that
of a conversion that ends a thermal shutdown too, has statements of its own. -/
def Obligations.PowerAndStartupFrame : Prop :=  ∀ (c : Instr) (s t : State), familyOf c = .power ∨ familyOf c = .housekeeping ∨ familyOf c = .startup →
    exec c s = .next t → Framed c s t
end

