-- ==== Sys2Proof/Laws/SMap.lean ====
section
/-! SUPPORT. The laws of the sparse maps: what is read after a write, and that the canonical form is kept. -/

namespace Sys2Proof.Machine

variable {α : Type}

@[simp] theorem SMap.get_nil (k : Nat) (d : α) : SMap.get ([] : SMap α) k d = d := rfl

@[simp] theorem SMap.get_put_same (m : SMap α) (k : Nat) (a d : α) : SMap.get (SMap.put m k a) k d = a := by
  induction m with
  | nil => simp [SMap.put, SMap.get]
  | cons p t ih =>
    obtain ⟨j, b⟩ := p
    unfold SMap.put
    split
    · simp [SMap.get]
    · split
      · simp [SMap.get]
      · simp [SMap.get, *]

theorem SMap.get_put_ne (m : SMap α) {j k : Nat} (h : j ≠ k) (a d : α) :
    SMap.get (SMap.put m j a) k d = SMap.get m k d := by
  induction m with
  | nil => simp [SMap.put, SMap.get, h]
  | cons p t ih =>
    obtain ⟨i, b⟩ := p
    unfold SMap.put
    split
    · simp [SMap.get, h]
    · split
      · rename_i _ e; subst e; simp [SMap.get, h]
      · simp only [SMap.get, ih]

/-- What a key holds after a write of a key. -/
@[simp] theorem SMap.get_put (m : SMap α) (j k : Nat) (a d : α) :
    SMap.get (SMap.put m j a) k d = if j = k then a else SMap.get m k d := by
  split
  · rename_i h; subst h; exact SMap.get_put_same m _ a d
  · rename_i h; exact SMap.get_put_ne m h a d

/-- What is listed at a key after a write of a key. -/
@[simp] theorem SMap.find_put (m : SMap α) (j k : Nat) (a : α) :
    SMap.find (SMap.put m j a) k = if j = k then some a else SMap.find m k := by
  induction m with
  | nil => simp [SMap.put, SMap.find]
  | cons p t ih =>
    obtain ⟨i, b⟩ := p
    unfold SMap.put
    split
    · simp [SMap.find]
    · split
      · rename_i _ e; subst e; simp only [SMap.find]; split <;> simp_all
      · simp only [SMap.find, ih]
        split
        · rename_i h1 h2 h3; subst h3; rw [if_neg (fun h => h2 h.symm)]
        · rfl

theorem SMap.get_filter_of_pos (m : SMap α) (f : Nat → Bool) (k : Nat) (d : α) (h : f k = true) :
    SMap.get (m.filter (fun p => f p.1)) k d = SMap.get m k d := by
  induction m with
  | nil => rfl
  | cons p t ih =>
    obtain ⟨j, b⟩ := p
    by_cases hj : f j = true
    · simp only [List.filter_cons, hj, if_true, SMap.get, ih]
    · have : j ≠ k := fun e => hj (e ▸ h)
      simp only [List.filter_cons, hj, SMap.get, this, if_false, ih]
      simp [ih]

theorem SMap.get_filter_of_neg (m : SMap α) (f : Nat → Bool) (k : Nat) (d : α) (h : f k = false) :
    SMap.get (m.filter (fun p => f p.1)) k d = d := by
  induction m with
  | nil => rfl
  | cons p t ih =>
    obtain ⟨j, b⟩ := p
    by_cases hj : f j = true
    · have : j ≠ k := fun e => by subst e; simp [h] at hj
      simp [hj, SMap.get, this, ih]
    · simp [hj, ih]

@[simp] theorem SMap.get_drop (m : SMap α) (j k : Nat) (d : α) :
    SMap.get (SMap.drop m j) k d = if j = k then d else SMap.get m k d := by
  unfold SMap.drop
  split
  · rename_i h; subst h; exact SMap.get_filter_of_neg m (fun i => i != j) j d (by simp)
  · rename_i h; exact SMap.get_filter_of_pos m (fun i => i != j) k d (by simpa [bne_iff_ne] using fun e => h e.symm)

theorem SMap.get_set_same [DecidableEq α] (m : SMap α) (d : α) (k : Nat) (a : α) :
    SMap.get (SMap.set m d k a) k d = a := by
  unfold SMap.set
  split <;> simp_all

theorem SMap.get_set_ne [DecidableEq α] (m : SMap α) (d d' : α) {j k : Nat} (h : j ≠ k) (a : α) :
    SMap.get (SMap.set m d j a) k d' = SMap.get m k d' := by
  unfold SMap.set
  split <;> simp [h]

theorem SMap.mem_put {m : SMap α} {k : Nat} {a : α} {p : Nat × α} (h : p ∈ SMap.put m k a) : p = (k, a) ∨ p ∈ m := by
  induction m with
  | nil => simpa [SMap.put] using h
  | cons q t ih =>
    obtain ⟨j, b⟩ := q
    unfold SMap.put at h
    split at h
    · simpa using h
    · split at h
      · rcases List.mem_cons.1 h with h | h
        · exact .inl h
        · exact .inr (List.mem_cons_of_mem _ h)
      · rcases List.mem_cons.1 h with h | h
        · exact .inr (h ▸ List.mem_cons_self)
        · rcases ih h with h | h
          · exact .inl h
          · exact .inr (List.mem_cons_of_mem _ h)

/-- The keys of a sorted map, as a list that strictly rises. -/
theorem SMap.sorted_iff (m : SMap α) : SMap.sorted m = true ↔ m.Pairwise (fun p q => p.1 < q.1) := by
  induction m with
  | nil => simp [SMap.sorted]
  | cons p t ih =>
    obtain ⟨j, a⟩ := p
    cases t with
    | nil => simp [SMap.sorted]
    | cons q t =>
      obtain ⟨k, b⟩ := q
      simp only [SMap.sorted, Bool.and_eq_true, decide_eq_true_eq, ih, List.pairwise_cons]
      constructor
      · rintro ⟨h, h1, h2⟩
        refine ⟨fun r hr => ?_, h1, h2⟩
        rcases List.mem_cons.1 hr with rfl | hr
        · exact h
        · exact lt_trans h (h1 r hr)
      · rintro ⟨h, h1, h2⟩
        exact ⟨h _ List.mem_cons_self, h1, h2⟩

theorem SMap.sorted_put {m : SMap α} (h : SMap.sorted m = true) (k : Nat) (a : α) :
    SMap.sorted (SMap.put m k a) = true := by
  rw [SMap.sorted_iff] at h ⊢
  induction m with
  | nil => simp [SMap.put]
  | cons q t ih =>
    obtain ⟨j, b⟩ := q
    obtain ⟨h1, h2⟩ := List.pairwise_cons.1 h
    unfold SMap.put
    split
    · rename_i hk
      refine List.pairwise_cons.2 ⟨fun r hr => ?_, h⟩
      rcases List.mem_cons.1 hr with rfl | hr
      · exact hk
      · exact lt_trans hk (h1 r hr)
    · split
      · rename_i hk; subst hk; exact List.pairwise_cons.2 ⟨h1, h2⟩
      · rename_i hk hj
        refine List.pairwise_cons.2 ⟨fun r hr => ?_, ih h2⟩
        rcases SMap.mem_put hr with rfl | hr
        · exact lt_of_le_of_ne (Nat.le_of_not_lt hk) hj
        · exact h1 r hr

theorem SMap.sorted_filter {m : SMap α} (h : SMap.sorted m = true) (f : Nat × α → Bool) :
    SMap.sorted (m.filter f) = true := by
  rw [SMap.sorted_iff] at h ⊢
  exact h.filter f

/-- Dropping what fails a test keeps the canonical form. -/
theorem SMap.wf_filter [DecidableEq α] {d : Nat → α} {m : SMap α} (h : SMap.wf d m = true) (f : Nat × α → Bool) :
    SMap.wf d (m.filter f) = true := by
  simp only [SMap.wf, Bool.and_eq_true, List.all_eq_true] at h ⊢
  exact ⟨SMap.sorted_filter h.1 f, fun p hp => h.2 p (List.mem_filter.1 hp).1⟩

/-- A write keeps the canonical form. -/
theorem SMap.wf_set [DecidableEq α] {d : Nat → α} {m : SMap α} (h : SMap.wf d m = true) (k : Nat) (a : α) :
    SMap.wf d (SMap.set m (d k) k a) = true := by
  unfold SMap.set
  split
  · exact SMap.wf_filter h _
  · rename_i hd
    simp only [SMap.wf, Bool.and_eq_true, List.all_eq_true, decide_eq_true_eq] at h ⊢
    refine ⟨SMap.sorted_put h.1 k a, fun p hp => ?_⟩
    rcases SMap.mem_put hp with rfl | hp
    · exact hd
    · exact h.2 p hp

/-- A byte string written keeps the canonical form of a memory. -/
theorem Memory.wf_write {m : SMap Byte} (h : Memory.wf m = true) (a : Nat) (b : Bytes) :
    Memory.wf (SMap.write m a b) = true := by
  induction b generalizing m a with
  | nil => exact h
  | cons x t ih => exact ih (SMap.wf_set (d := fun _ => 0) h a x) (a + 1)

/-- A range cleared keeps the canonical form of a memory. -/
theorem Memory.wf_clear {m : SMap Byte} (h : Memory.wf m = true) (a n : Nat) :
    Memory.wf (SMap.clear m a n) = true := SMap.wf_filter h _

/-- What a byte of memory holds after a byte string was written. -/
theorem Memory.get_write (m : SMap Byte) (a : Nat) (b : Bytes) (k : Nat) :
    SMap.get (SMap.write m a b) k 0 = if a ≤ k ∧ k < a + b.length then b.getD (k - a) 0 else SMap.get m k 0 := by
  induction b generalizing m a with
  | nil => simp [SMap.write]
  | cons x t ih =>
    simp only [SMap.write, ih, List.length_cons]
    by_cases h : a = k
    · subst h; simp [SMap.get_set_same]
    · rw [SMap.get_set_ne m 0 0 h]
      by_cases h1 : a + 1 ≤ k ∧ k < a + 1 + t.length
      · obtain ⟨c, rfl⟩ : ∃ c, k = a + 1 + c := ⟨k - (a + 1), by omega⟩
        have h2 : a ≤ a + 1 + c ∧ a + 1 + c < a + (t.length + 1) := ⟨by omega, by omega⟩
        rw [if_pos h1, if_pos h2]
        have e1 : a + 1 + c - (a + 1) = c := by omega
        have e2 : a + 1 + c - a = c + 1 := by omega
        rw [e1, e2]; rfl
      · have h2 : ¬ (a ≤ k ∧ k < a + (t.length + 1)) := by omega
        rw [if_neg h1, if_neg h2]

/-- What a byte of memory holds after a range was cleared. -/
theorem Memory.get_clear (m : SMap Byte) (a n k : Nat) :
    SMap.get (SMap.clear m a n) k 0 = if a ≤ k ∧ k < a + n then 0 else SMap.get m k 0 := by
  unfold SMap.clear
  split
  · rename_i h
    exact SMap.get_filter_of_neg m (fun i => decide (i < a) || decide (a + n ≤ i)) k 0 (by simp; omega)
  · rename_i h
    exact SMap.get_filter_of_pos m (fun i => decide (i < a) || decide (a + n ≤ i)) k 0 (by simp; omega)

end Sys2Proof.Machine
end

