-- ==== Sys2Proof/Laws/State.lean ====
section
/-! SUPPORT. What each named operation leaves in each field of the state, one lemma a field, and what the readers of the
state answer after it. -/

namespace Sys2Proof.Machine

/-- Entries are told apart by their place. -/
theorem Ent.ctorIdx_inj {a b : Ent} (h : a.ctorIdx = b.ctorIdx) : a = b := by
  have := congrArg Ent.ofNat h
  simpa only [Ent.ofNat_ctorIdx] using this

/-- Two places of the register file are one exactly when entry and instance are. -/
theorem key_inj (e f : Ent) (i j : Nat) : key e i = key f j ↔ e = f ∧ i % 65536 = j % 65536 := by
  unfold key
  constructor
  · intro h
    have h1 : e.ctorIdx = f.ctorIdx := by omega
    exact ⟨Ent.ctorIdx_inj h1, by omega⟩
  · rintro ⟨rfl, h⟩; rw [h]


section
variable (x_regs : SMap Val) (x_revs : SMap Nat) (x_ports : SMap Port) (x_lanes : SMap Lane) (x_outcomes : List Outcome75) (x_sweeps : List Sweep) (x_sweepPkts : List Packet) (x_time : TimeUnit) (x_aon : Aon) (x_views : SMap ViewSt) (x_syncIn : SMap SyncIn) (x_syncOut : SMap SyncOut) (x_ctxs : SMap Ctx) (x_bufs : SMap BufX) (x_shown : SMap Shown) (x_quarry : SMap Byte) (x_fills : SMap Fill) (x_cap : CapArm) (x_defects : Defects) (x_modl : Modulator) (x_quads : SMap Quad) (x_groups : SMap GroupRb) (x_tes : SMap TeDom) (x_louts : SMap LaneOut) (x_rows : SMap RowPort) (x_mgmt : Mgmt) (x_xfers : SMap Xfer) (x_jobs : SMap Job) (x_secure : Secure) (x_power : Power) (x_thermal : Thermal) (x_boot : Startup) (x_jtag : Jtag) (x_tables : SMap Val) (x_tablePad : SMap Byte) (x_draws : Nat) (x_pending : List Instr)

@[simp] theorem State.rdv_mk (e : Ent) (i : Nat) :
    (State.mk x_regs x_revs x_ports x_lanes x_outcomes x_sweeps x_sweepPkts x_time x_aon x_views x_syncIn x_syncOut x_ctxs x_bufs x_shown x_quarry x_fills x_cap x_defects x_modl x_quads x_groups x_tes x_louts x_rows x_mgmt x_xfers x_jobs x_secure x_power x_thermal x_boot x_jtag x_tables x_tablePad x_draws x_pending).rdv e i = SMap.get x_regs (key e i) e.dflt := rfl

@[simp] theorem State.rd_mk (e : Ent) (i : Nat) :
    (State.mk x_regs x_revs x_ports x_lanes x_outcomes x_sweeps x_sweepPkts x_time x_aon x_views x_syncIn x_syncOut x_ctxs x_bufs x_shown x_quarry x_fills x_cap x_defects x_modl x_quads x_groups x_tes x_louts x_rows x_mgmt x_xfers x_jobs x_secure x_power x_thermal x_boot x_jtag x_tables x_tablePad x_draws x_pending).rd e i = (SMap.get x_regs (key e i) e.dflt).headD 0 := rfl

@[simp] theorem State.rdn_mk (e : Ent) (i k : Nat) :
    (State.mk x_regs x_revs x_ports x_lanes x_outcomes x_sweeps x_sweepPkts x_time x_aon x_views x_syncIn x_syncOut x_ctxs x_bufs x_shown x_quarry x_fills x_cap x_defects x_modl x_quads x_groups x_tes x_louts x_rows x_mgmt x_xfers x_jobs x_secure x_power x_thermal x_boot x_jtag x_tables x_tablePad x_draws x_pending).rdn e i k = (SMap.get x_regs (key e i) e.dflt).getD k 0 := rfl

@[simp] theorem State.port_mk (n : Nat) :
    (State.mk x_regs x_revs x_ports x_lanes x_outcomes x_sweeps x_sweepPkts x_time x_aon x_views x_syncIn x_syncOut x_ctxs x_bufs x_shown x_quarry x_fills x_cap x_defects x_modl x_quads x_groups x_tes x_louts x_rows x_mgmt x_xfers x_jobs x_secure x_power x_thermal x_boot x_jtag x_tables x_tablePad x_draws x_pending).port n = SMap.get x_ports n {} := rfl

@[simp] theorem State.view_mk (n : Nat) :
    (State.mk x_regs x_revs x_ports x_lanes x_outcomes x_sweeps x_sweepPkts x_time x_aon x_views x_syncIn x_syncOut x_ctxs x_bufs x_shown x_quarry x_fills x_cap x_defects x_modl x_quads x_groups x_tes x_louts x_rows x_mgmt x_xfers x_jobs x_secure x_power x_thermal x_boot x_jtag x_tables x_tablePad x_draws x_pending).view n = SMap.get x_views n {} := rfl

@[simp] theorem State.ctx_mk (n : Nat) :
    (State.mk x_regs x_revs x_ports x_lanes x_outcomes x_sweeps x_sweepPkts x_time x_aon x_views x_syncIn x_syncOut x_ctxs x_bufs x_shown x_quarry x_fills x_cap x_defects x_modl x_quads x_groups x_tes x_louts x_rows x_mgmt x_xfers x_jobs x_secure x_power x_thermal x_boot x_jtag x_tables x_tablePad x_draws x_pending).ctx n = SMap.get x_ctxs n {} := rfl

@[simp] theorem State.buf_mk (n : Nat) :
    (State.mk x_regs x_revs x_ports x_lanes x_outcomes x_sweeps x_sweepPkts x_time x_aon x_views x_syncIn x_syncOut x_ctxs x_bufs x_shown x_quarry x_fills x_cap x_defects x_modl x_quads x_groups x_tes x_louts x_rows x_mgmt x_xfers x_jobs x_secure x_power x_thermal x_boot x_jtag x_tables x_tablePad x_draws x_pending).buf n = SMap.get x_bufs n {} := rfl

@[simp] theorem State.quad_mk (n : Nat) :
    (State.mk x_regs x_revs x_ports x_lanes x_outcomes x_sweeps x_sweepPkts x_time x_aon x_views x_syncIn x_syncOut x_ctxs x_bufs x_shown x_quarry x_fills x_cap x_defects x_modl x_quads x_groups x_tes x_louts x_rows x_mgmt x_xfers x_jobs x_secure x_power x_thermal x_boot x_jtag x_tables x_tablePad x_draws x_pending).quad n = SMap.get x_quads n {} := rfl

@[simp] theorem State.lout_mk (n : Nat) :
    (State.mk x_regs x_revs x_ports x_lanes x_outcomes x_sweeps x_sweepPkts x_time x_aon x_views x_syncIn x_syncOut x_ctxs x_bufs x_shown x_quarry x_fills x_cap x_defects x_modl x_quads x_groups x_tes x_louts x_rows x_mgmt x_xfers x_jobs x_secure x_power x_thermal x_boot x_jtag x_tables x_tablePad x_draws x_pending).lout n = SMap.get x_louts n {} := rfl

@[simp] theorem State.xfer_mk (n : Nat) :
    (State.mk x_regs x_revs x_ports x_lanes x_outcomes x_sweeps x_sweepPkts x_time x_aon x_views x_syncIn x_syncOut x_ctxs x_bufs x_shown x_quarry x_fills x_cap x_defects x_modl x_quads x_groups x_tes x_louts x_rows x_mgmt x_xfers x_jobs x_secure x_power x_thermal x_boot x_jtag x_tables x_tablePad x_draws x_pending).xfer n = SMap.get x_xfers n {} := rfl

@[simp] theorem State.job_mk (n : Nat) :
    (State.mk x_regs x_revs x_ports x_lanes x_outcomes x_sweeps x_sweepPkts x_time x_aon x_views x_syncIn x_syncOut x_ctxs x_bufs x_shown x_quarry x_fills x_cap x_defects x_modl x_quads x_groups x_tes x_louts x_rows x_mgmt x_xfers x_jobs x_secure x_power x_thermal x_boot x_jtag x_tables x_tablePad x_draws x_pending).job n = SMap.get x_jobs n {} := rfl

@[simp] theorem State.lane_mk (n l : Nat) :
    (State.mk x_regs x_revs x_ports x_lanes x_outcomes x_sweeps x_sweepPkts x_time x_aon x_views x_syncIn x_syncOut x_ctxs x_bufs x_shown x_quarry x_fills x_cap x_defects x_modl x_quads x_groups x_tes x_louts x_rows x_mgmt x_xfers x_jobs x_secure x_power x_thermal x_boot x_jtag x_tables x_tablePad x_draws x_pending).lane n l = SMap.get x_lanes (4 * n + l) {} := rfl

@[simp] theorem State.session_mk (n : Nat) :
    (State.mk x_regs x_revs x_ports x_lanes x_outcomes x_sweeps x_sweepPkts x_time x_aon x_views x_syncIn x_syncOut x_ctxs x_bufs x_shown x_quarry x_fills x_cap x_defects x_modl x_quads x_groups x_tes x_louts x_rows x_mgmt x_xfers x_jobs x_secure x_power x_thermal x_boot x_jtag x_tables x_tablePad x_draws x_pending).session n = SMap.get x_mgmt.sessions n (if n = 255 ∨ n = 256 then { isOpen := true } else {}) := rfl

@[simp] theorem State.domain_mk (n : Nat) :
    (State.mk x_regs x_revs x_ports x_lanes x_outcomes x_sweeps x_sweepPkts x_time x_aon x_views x_syncIn x_syncOut x_ctxs x_bufs x_shown x_quarry x_fills x_cap x_defects x_modl x_quads x_groups x_tes x_louts x_rows x_mgmt x_xfers x_jobs x_secure x_power x_thermal x_boot x_jtag x_tables x_tablePad x_draws x_pending).domain n = SMap.get x_power.doms n {} := rfl

@[simp] theorem State.rail_mk (n : Nat) :
    (State.mk x_regs x_revs x_ports x_lanes x_outcomes x_sweeps x_sweepPkts x_time x_aon x_views x_syncIn x_syncOut x_ctxs x_bufs x_shown x_quarry x_fills x_cap x_defects x_modl x_quads x_groups x_tes x_louts x_rows x_mgmt x_xfers x_jobs x_secure x_power x_thermal x_boot x_jtag x_tables x_tablePad x_draws x_pending).rail n = SMap.get x_power.rails n {} := rfl

end

@[simp] theorem State.rdv_fold (s : State) (e : Ent) (i : Nat) : SMap.get s.regs (key e i) e.dflt = s.rdv e i := rfl

@[simp] theorem State.rd_fold (s : State) (e : Ent) (i : Nat) : (s.rdv e i).headD 0 = s.rd e i := rfl

@[simp] theorem State.rd_head (s : State) (e : Ent) (i : Nat) : (s.rdv e i).head?.getD 0 = s.rd e i := by
  simp only [State.rd]; cases s.rdv e i <;> rfl

@[simp] theorem State.rdn_fold (s : State) (e : Ent) (i k : Nat) : (s.rdv e i).getD k 0 = s.rdn e i k := rfl

@[simp] theorem State.port_fold (s : State) (n : Nat) : SMap.get s.ports n {} = s.port n := rfl

@[simp] theorem State.view_fold (s : State) (n : Nat) : SMap.get s.views n {} = s.view n := rfl

@[simp] theorem State.ctx_fold (s : State) (n : Nat) : SMap.get s.ctxs n {} = s.ctx n := rfl

@[simp] theorem State.buf_fold (s : State) (n : Nat) : SMap.get s.bufs n {} = s.buf n := rfl

@[simp] theorem State.quad_fold (s : State) (n : Nat) : SMap.get s.quads n {} = s.quad n := rfl

@[simp] theorem State.lout_fold (s : State) (n : Nat) : SMap.get s.louts n {} = s.lout n := rfl

@[simp] theorem State.xfer_fold (s : State) (n : Nat) : SMap.get s.xfers n {} = s.xfer n := rfl

@[simp] theorem State.job_fold (s : State) (n : Nat) : SMap.get s.jobs n {} = s.job n := rfl

@[simp] theorem State.lane_fold (s : State) (n l : Nat) : SMap.get s.lanes (4 * n + l) {} = s.lane n l := rfl

@[simp] theorem State.session_fold (s : State) (n : Nat) : SMap.get s.mgmt.sessions n (if n = 255 ∨ n = 256 then { isOpen := true } else {}) = s.session n := rfl

@[simp] theorem State.domain_fold (s : State) (n : Nat) : SMap.get s.power.doms n {} = s.domain n := rfl

@[simp] theorem State.rail_fold (s : State) (n : Nat) : SMap.get s.power.rails n {} = s.rail n := rfl

/-! ### setPort -/

@[simp] theorem State.setPort_regs (s : State) (m : Nat) (a : Port) : (s.setPort m a).regs = s.regs := rfl
@[simp] theorem State.setPort_revs (s : State) (m : Nat) (a : Port) : (s.setPort m a).revs = s.revs := rfl
@[simp] theorem State.setPort_lanes (s : State) (m : Nat) (a : Port) : (s.setPort m a).lanes = s.lanes := rfl
@[simp] theorem State.setPort_outcomes (s : State) (m : Nat) (a : Port) : (s.setPort m a).outcomes = s.outcomes := rfl
@[simp] theorem State.setPort_sweeps (s : State) (m : Nat) (a : Port) : (s.setPort m a).sweeps = s.sweeps := rfl
@[simp] theorem State.setPort_sweepPkts (s : State) (m : Nat) (a : Port) : (s.setPort m a).sweepPkts = s.sweepPkts := rfl
@[simp] theorem State.setPort_time (s : State) (m : Nat) (a : Port) : (s.setPort m a).time = s.time := rfl
@[simp] theorem State.setPort_aon (s : State) (m : Nat) (a : Port) : (s.setPort m a).aon = s.aon := rfl
@[simp] theorem State.setPort_views (s : State) (m : Nat) (a : Port) : (s.setPort m a).views = s.views := rfl
@[simp] theorem State.setPort_syncIn (s : State) (m : Nat) (a : Port) : (s.setPort m a).syncIn = s.syncIn := rfl
@[simp] theorem State.setPort_syncOut (s : State) (m : Nat) (a : Port) : (s.setPort m a).syncOut = s.syncOut := rfl
@[simp] theorem State.setPort_ctxs (s : State) (m : Nat) (a : Port) : (s.setPort m a).ctxs = s.ctxs := rfl
@[simp] theorem State.setPort_bufs (s : State) (m : Nat) (a : Port) : (s.setPort m a).bufs = s.bufs := rfl
@[simp] theorem State.setPort_shown (s : State) (m : Nat) (a : Port) : (s.setPort m a).shown = s.shown := rfl
@[simp] theorem State.setPort_quarry (s : State) (m : Nat) (a : Port) : (s.setPort m a).quarry = s.quarry := rfl
@[simp] theorem State.setPort_fills (s : State) (m : Nat) (a : Port) : (s.setPort m a).fills = s.fills := rfl
@[simp] theorem State.setPort_cap (s : State) (m : Nat) (a : Port) : (s.setPort m a).cap = s.cap := rfl
@[simp] theorem State.setPort_defects (s : State) (m : Nat) (a : Port) : (s.setPort m a).defects = s.defects := rfl
@[simp] theorem State.setPort_modl (s : State) (m : Nat) (a : Port) : (s.setPort m a).modl = s.modl := rfl
@[simp] theorem State.setPort_quads (s : State) (m : Nat) (a : Port) : (s.setPort m a).quads = s.quads := rfl
@[simp] theorem State.setPort_groups (s : State) (m : Nat) (a : Port) : (s.setPort m a).groups = s.groups := rfl
@[simp] theorem State.setPort_tes (s : State) (m : Nat) (a : Port) : (s.setPort m a).tes = s.tes := rfl
@[simp] theorem State.setPort_louts (s : State) (m : Nat) (a : Port) : (s.setPort m a).louts = s.louts := rfl
@[simp] theorem State.setPort_rows (s : State) (m : Nat) (a : Port) : (s.setPort m a).rows = s.rows := rfl
@[simp] theorem State.setPort_mgmt (s : State) (m : Nat) (a : Port) : (s.setPort m a).mgmt = s.mgmt := rfl
@[simp] theorem State.setPort_xfers (s : State) (m : Nat) (a : Port) : (s.setPort m a).xfers = s.xfers := rfl
@[simp] theorem State.setPort_jobs (s : State) (m : Nat) (a : Port) : (s.setPort m a).jobs = s.jobs := rfl
@[simp] theorem State.setPort_secure (s : State) (m : Nat) (a : Port) : (s.setPort m a).secure = s.secure := rfl
@[simp] theorem State.setPort_power (s : State) (m : Nat) (a : Port) : (s.setPort m a).power = s.power := rfl
@[simp] theorem State.setPort_thermal (s : State) (m : Nat) (a : Port) : (s.setPort m a).thermal = s.thermal := rfl
@[simp] theorem State.setPort_boot (s : State) (m : Nat) (a : Port) : (s.setPort m a).boot = s.boot := rfl
@[simp] theorem State.setPort_jtag (s : State) (m : Nat) (a : Port) : (s.setPort m a).jtag = s.jtag := rfl
@[simp] theorem State.setPort_tables (s : State) (m : Nat) (a : Port) : (s.setPort m a).tables = s.tables := rfl
@[simp] theorem State.setPort_tablePad (s : State) (m : Nat) (a : Port) : (s.setPort m a).tablePad = s.tablePad := rfl
@[simp] theorem State.setPort_draws (s : State) (m : Nat) (a : Port) : (s.setPort m a).draws = s.draws := rfl
@[simp] theorem State.setPort_pending (s : State) (m : Nat) (a : Port) : (s.setPort m a).pending = s.pending := rfl
@[simp] theorem State.setPort_rdv (s : State) (m : Nat) (a : Port) (e : Ent) (i : Nat) : (s.setPort m a).rdv e i = s.rdv e i := rfl
@[simp] theorem State.setPort_rd (s : State) (m : Nat) (a : Port) (e : Ent) (i : Nat) : (s.setPort m a).rd e i = s.rd e i := rfl
@[simp] theorem State.setPort_rdn (s : State) (m : Nat) (a : Port) (e : Ent) (i q : Nat) : (s.setPort m a).rdn e i q = s.rdn e i q := rfl
@[simp] theorem State.setPort_lane (s : State) (m : Nat) (a : Port) (n l : Nat) : (s.setPort m a).lane n l = s.lane n l := rfl
@[simp] theorem State.setPort_session (s : State) (m : Nat) (a : Port) (n : Nat) : (s.setPort m a).session n = s.session n := rfl
@[simp] theorem State.setPort_domain (s : State) (m : Nat) (a : Port) (n : Nat) : (s.setPort m a).domain n = s.domain n := rfl
@[simp] theorem State.setPort_rail (s : State) (m : Nat) (a : Port) (n : Nat) : (s.setPort m a).rail n = s.rail n := rfl
@[simp] theorem State.setPort_on (s : State) (m : Nat) (a : Port) (n : Nat) : (s.setPort m a).on n = s.on n := rfl
@[simp] theorem State.setPort_alive (s : State) (m : Nat) (a : Port) (n : Nat) : (s.setPort m a).alive n = s.alive n := rfl
@[simp] theorem State.setPort_timeRuns (s : State) (m : Nat) (a : Port)  : (s.setPort m a).timeRuns  = s.timeRuns  := rfl
@[simp] theorem State.setPort_dispFine (s : State) (m : Nat) (a : Port)  : (s.setPort m a).dispFine  = s.dispFine  := rfl
@[simp] theorem State.setPort_now (s : State) (m : Nat) (a : Port)  : (s.setPort m a).now  = s.now  := rfl
@[simp] theorem State.setPort_cal (s : State) (m : Nat) (a : Port)  : (s.setPort m a).cal  = s.cal  := rfl
@[simp] theorem State.setPort_running (s : State) (m : Nat) (a : Port)  : (s.setPort m a).running  = s.running  := rfl
@[simp] theorem State.setPort_active (s : State) (m : Nat) (a : Port) (n : Nat) : (s.setPort m a).active n = s.active n := rfl
@[simp] theorem State.setPort_isChild (s : State) (m : Nat) (a : Port) (n : Nat) : (s.setPort m a).isChild n = s.isChild n := rfl
@[simp] theorem State.setPort_view (s : State) (m : Nat) (a : Port) (n : Nat) : (s.setPort m a).view n = s.view n := rfl
@[simp] theorem State.setPort_ctx (s : State) (m : Nat) (a : Port) (n : Nat) : (s.setPort m a).ctx n = s.ctx n := rfl
@[simp] theorem State.setPort_buf (s : State) (m : Nat) (a : Port) (n : Nat) : (s.setPort m a).buf n = s.buf n := rfl
@[simp] theorem State.setPort_quad (s : State) (m : Nat) (a : Port) (n : Nat) : (s.setPort m a).quad n = s.quad n := rfl
@[simp] theorem State.setPort_lout (s : State) (m : Nat) (a : Port) (n : Nat) : (s.setPort m a).lout n = s.lout n := rfl
@[simp] theorem State.setPort_xfer (s : State) (m : Nat) (a : Port) (n : Nat) : (s.setPort m a).xfer n = s.xfer n := rfl
@[simp] theorem State.setPort_job (s : State) (m : Nat) (a : Port) (n : Nat) : (s.setPort m a).job n = s.job n := rfl

/-! ### setLane -/

@[simp] theorem State.setLane_regs (s : State) (m k : Nat) (a : Lane) : (s.setLane m k a).regs = s.regs := rfl
@[simp] theorem State.setLane_revs (s : State) (m k : Nat) (a : Lane) : (s.setLane m k a).revs = s.revs := rfl
@[simp] theorem State.setLane_ports (s : State) (m k : Nat) (a : Lane) : (s.setLane m k a).ports = s.ports := rfl
@[simp] theorem State.setLane_outcomes (s : State) (m k : Nat) (a : Lane) : (s.setLane m k a).outcomes = s.outcomes := rfl
@[simp] theorem State.setLane_sweeps (s : State) (m k : Nat) (a : Lane) : (s.setLane m k a).sweeps = s.sweeps := rfl
@[simp] theorem State.setLane_sweepPkts (s : State) (m k : Nat) (a : Lane) : (s.setLane m k a).sweepPkts = s.sweepPkts := rfl
@[simp] theorem State.setLane_time (s : State) (m k : Nat) (a : Lane) : (s.setLane m k a).time = s.time := rfl
@[simp] theorem State.setLane_aon (s : State) (m k : Nat) (a : Lane) : (s.setLane m k a).aon = s.aon := rfl
@[simp] theorem State.setLane_views (s : State) (m k : Nat) (a : Lane) : (s.setLane m k a).views = s.views := rfl
@[simp] theorem State.setLane_syncIn (s : State) (m k : Nat) (a : Lane) : (s.setLane m k a).syncIn = s.syncIn := rfl
@[simp] theorem State.setLane_syncOut (s : State) (m k : Nat) (a : Lane) : (s.setLane m k a).syncOut = s.syncOut := rfl
@[simp] theorem State.setLane_ctxs (s : State) (m k : Nat) (a : Lane) : (s.setLane m k a).ctxs = s.ctxs := rfl
@[simp] theorem State.setLane_bufs (s : State) (m k : Nat) (a : Lane) : (s.setLane m k a).bufs = s.bufs := rfl
@[simp] theorem State.setLane_shown (s : State) (m k : Nat) (a : Lane) : (s.setLane m k a).shown = s.shown := rfl
@[simp] theorem State.setLane_quarry (s : State) (m k : Nat) (a : Lane) : (s.setLane m k a).quarry = s.quarry := rfl
@[simp] theorem State.setLane_fills (s : State) (m k : Nat) (a : Lane) : (s.setLane m k a).fills = s.fills := rfl
@[simp] theorem State.setLane_cap (s : State) (m k : Nat) (a : Lane) : (s.setLane m k a).cap = s.cap := rfl
@[simp] theorem State.setLane_defects (s : State) (m k : Nat) (a : Lane) : (s.setLane m k a).defects = s.defects := rfl
@[simp] theorem State.setLane_modl (s : State) (m k : Nat) (a : Lane) : (s.setLane m k a).modl = s.modl := rfl
@[simp] theorem State.setLane_quads (s : State) (m k : Nat) (a : Lane) : (s.setLane m k a).quads = s.quads := rfl
@[simp] theorem State.setLane_groups (s : State) (m k : Nat) (a : Lane) : (s.setLane m k a).groups = s.groups := rfl
@[simp] theorem State.setLane_tes (s : State) (m k : Nat) (a : Lane) : (s.setLane m k a).tes = s.tes := rfl
@[simp] theorem State.setLane_louts (s : State) (m k : Nat) (a : Lane) : (s.setLane m k a).louts = s.louts := rfl
@[simp] theorem State.setLane_rows (s : State) (m k : Nat) (a : Lane) : (s.setLane m k a).rows = s.rows := rfl
@[simp] theorem State.setLane_mgmt (s : State) (m k : Nat) (a : Lane) : (s.setLane m k a).mgmt = s.mgmt := rfl
@[simp] theorem State.setLane_xfers (s : State) (m k : Nat) (a : Lane) : (s.setLane m k a).xfers = s.xfers := rfl
@[simp] theorem State.setLane_jobs (s : State) (m k : Nat) (a : Lane) : (s.setLane m k a).jobs = s.jobs := rfl
@[simp] theorem State.setLane_secure (s : State) (m k : Nat) (a : Lane) : (s.setLane m k a).secure = s.secure := rfl
@[simp] theorem State.setLane_power (s : State) (m k : Nat) (a : Lane) : (s.setLane m k a).power = s.power := rfl
@[simp] theorem State.setLane_thermal (s : State) (m k : Nat) (a : Lane) : (s.setLane m k a).thermal = s.thermal := rfl
@[simp] theorem State.setLane_boot (s : State) (m k : Nat) (a : Lane) : (s.setLane m k a).boot = s.boot := rfl
@[simp] theorem State.setLane_jtag (s : State) (m k : Nat) (a : Lane) : (s.setLane m k a).jtag = s.jtag := rfl
@[simp] theorem State.setLane_tables (s : State) (m k : Nat) (a : Lane) : (s.setLane m k a).tables = s.tables := rfl
@[simp] theorem State.setLane_tablePad (s : State) (m k : Nat) (a : Lane) : (s.setLane m k a).tablePad = s.tablePad := rfl
@[simp] theorem State.setLane_draws (s : State) (m k : Nat) (a : Lane) : (s.setLane m k a).draws = s.draws := rfl
@[simp] theorem State.setLane_pending (s : State) (m k : Nat) (a : Lane) : (s.setLane m k a).pending = s.pending := rfl
@[simp] theorem State.setLane_rdv (s : State) (m k : Nat) (a : Lane) (e : Ent) (i : Nat) : (s.setLane m k a).rdv e i = s.rdv e i := rfl
@[simp] theorem State.setLane_rd (s : State) (m k : Nat) (a : Lane) (e : Ent) (i : Nat) : (s.setLane m k a).rd e i = s.rd e i := rfl
@[simp] theorem State.setLane_rdn (s : State) (m k : Nat) (a : Lane) (e : Ent) (i q : Nat) : (s.setLane m k a).rdn e i q = s.rdn e i q := rfl
@[simp] theorem State.setLane_session (s : State) (m k : Nat) (a : Lane) (n : Nat) : (s.setLane m k a).session n = s.session n := rfl
@[simp] theorem State.setLane_domain (s : State) (m k : Nat) (a : Lane) (n : Nat) : (s.setLane m k a).domain n = s.domain n := rfl
@[simp] theorem State.setLane_rail (s : State) (m k : Nat) (a : Lane) (n : Nat) : (s.setLane m k a).rail n = s.rail n := rfl
@[simp] theorem State.setLane_on (s : State) (m k : Nat) (a : Lane) (n : Nat) : (s.setLane m k a).on n = s.on n := rfl
@[simp] theorem State.setLane_alive (s : State) (m k : Nat) (a : Lane) (n : Nat) : (s.setLane m k a).alive n = s.alive n := rfl
@[simp] theorem State.setLane_timeRuns (s : State) (m k : Nat) (a : Lane)  : (s.setLane m k a).timeRuns  = s.timeRuns  := rfl
@[simp] theorem State.setLane_dispFine (s : State) (m k : Nat) (a : Lane)  : (s.setLane m k a).dispFine  = s.dispFine  := rfl
@[simp] theorem State.setLane_now (s : State) (m k : Nat) (a : Lane)  : (s.setLane m k a).now  = s.now  := rfl
@[simp] theorem State.setLane_cal (s : State) (m k : Nat) (a : Lane)  : (s.setLane m k a).cal  = s.cal  := rfl
@[simp] theorem State.setLane_running (s : State) (m k : Nat) (a : Lane)  : (s.setLane m k a).running  = s.running  := rfl
@[simp] theorem State.setLane_active (s : State) (m k : Nat) (a : Lane) (n : Nat) : (s.setLane m k a).active n = s.active n := rfl
@[simp] theorem State.setLane_isChild (s : State) (m k : Nat) (a : Lane) (n : Nat) : (s.setLane m k a).isChild n = s.isChild n := rfl
@[simp] theorem State.setLane_port (s : State) (m k : Nat) (a : Lane) (n : Nat) : (s.setLane m k a).port n = s.port n := rfl
@[simp] theorem State.setLane_view (s : State) (m k : Nat) (a : Lane) (n : Nat) : (s.setLane m k a).view n = s.view n := rfl
@[simp] theorem State.setLane_ctx (s : State) (m k : Nat) (a : Lane) (n : Nat) : (s.setLane m k a).ctx n = s.ctx n := rfl
@[simp] theorem State.setLane_buf (s : State) (m k : Nat) (a : Lane) (n : Nat) : (s.setLane m k a).buf n = s.buf n := rfl
@[simp] theorem State.setLane_quad (s : State) (m k : Nat) (a : Lane) (n : Nat) : (s.setLane m k a).quad n = s.quad n := rfl
@[simp] theorem State.setLane_lout (s : State) (m k : Nat) (a : Lane) (n : Nat) : (s.setLane m k a).lout n = s.lout n := rfl
@[simp] theorem State.setLane_xfer (s : State) (m k : Nat) (a : Lane) (n : Nat) : (s.setLane m k a).xfer n = s.xfer n := rfl
@[simp] theorem State.setLane_job (s : State) (m k : Nat) (a : Lane) (n : Nat) : (s.setLane m k a).job n = s.job n := rfl

/-! ### setView -/

@[simp] theorem State.setView_regs (s : State) (m : Nat) (a : ViewSt) : (s.setView m a).regs = s.regs := rfl
@[simp] theorem State.setView_revs (s : State) (m : Nat) (a : ViewSt) : (s.setView m a).revs = s.revs := rfl
@[simp] theorem State.setView_ports (s : State) (m : Nat) (a : ViewSt) : (s.setView m a).ports = s.ports := rfl
@[simp] theorem State.setView_lanes (s : State) (m : Nat) (a : ViewSt) : (s.setView m a).lanes = s.lanes := rfl
@[simp] theorem State.setView_outcomes (s : State) (m : Nat) (a : ViewSt) : (s.setView m a).outcomes = s.outcomes := rfl
@[simp] theorem State.setView_sweeps (s : State) (m : Nat) (a : ViewSt) : (s.setView m a).sweeps = s.sweeps := rfl
@[simp] theorem State.setView_sweepPkts (s : State) (m : Nat) (a : ViewSt) : (s.setView m a).sweepPkts = s.sweepPkts := rfl
@[simp] theorem State.setView_time (s : State) (m : Nat) (a : ViewSt) : (s.setView m a).time = s.time := rfl
@[simp] theorem State.setView_aon (s : State) (m : Nat) (a : ViewSt) : (s.setView m a).aon = s.aon := rfl
@[simp] theorem State.setView_syncIn (s : State) (m : Nat) (a : ViewSt) : (s.setView m a).syncIn = s.syncIn := rfl
@[simp] theorem State.setView_syncOut (s : State) (m : Nat) (a : ViewSt) : (s.setView m a).syncOut = s.syncOut := rfl
@[simp] theorem State.setView_ctxs (s : State) (m : Nat) (a : ViewSt) : (s.setView m a).ctxs = s.ctxs := rfl
@[simp] theorem State.setView_bufs (s : State) (m : Nat) (a : ViewSt) : (s.setView m a).bufs = s.bufs := rfl
@[simp] theorem State.setView_shown (s : State) (m : Nat) (a : ViewSt) : (s.setView m a).shown = s.shown := rfl
@[simp] theorem State.setView_quarry (s : State) (m : Nat) (a : ViewSt) : (s.setView m a).quarry = s.quarry := rfl
@[simp] theorem State.setView_fills (s : State) (m : Nat) (a : ViewSt) : (s.setView m a).fills = s.fills := rfl
@[simp] theorem State.setView_cap (s : State) (m : Nat) (a : ViewSt) : (s.setView m a).cap = s.cap := rfl
@[simp] theorem State.setView_defects (s : State) (m : Nat) (a : ViewSt) : (s.setView m a).defects = s.defects := rfl
@[simp] theorem State.setView_modl (s : State) (m : Nat) (a : ViewSt) : (s.setView m a).modl = s.modl := rfl
@[simp] theorem State.setView_quads (s : State) (m : Nat) (a : ViewSt) : (s.setView m a).quads = s.quads := rfl
@[simp] theorem State.setView_groups (s : State) (m : Nat) (a : ViewSt) : (s.setView m a).groups = s.groups := rfl
@[simp] theorem State.setView_tes (s : State) (m : Nat) (a : ViewSt) : (s.setView m a).tes = s.tes := rfl
@[simp] theorem State.setView_louts (s : State) (m : Nat) (a : ViewSt) : (s.setView m a).louts = s.louts := rfl
@[simp] theorem State.setView_rows (s : State) (m : Nat) (a : ViewSt) : (s.setView m a).rows = s.rows := rfl
@[simp] theorem State.setView_mgmt (s : State) (m : Nat) (a : ViewSt) : (s.setView m a).mgmt = s.mgmt := rfl
@[simp] theorem State.setView_xfers (s : State) (m : Nat) (a : ViewSt) : (s.setView m a).xfers = s.xfers := rfl
@[simp] theorem State.setView_jobs (s : State) (m : Nat) (a : ViewSt) : (s.setView m a).jobs = s.jobs := rfl
@[simp] theorem State.setView_secure (s : State) (m : Nat) (a : ViewSt) : (s.setView m a).secure = s.secure := rfl
@[simp] theorem State.setView_power (s : State) (m : Nat) (a : ViewSt) : (s.setView m a).power = s.power := rfl
@[simp] theorem State.setView_thermal (s : State) (m : Nat) (a : ViewSt) : (s.setView m a).thermal = s.thermal := rfl
@[simp] theorem State.setView_boot (s : State) (m : Nat) (a : ViewSt) : (s.setView m a).boot = s.boot := rfl
@[simp] theorem State.setView_jtag (s : State) (m : Nat) (a : ViewSt) : (s.setView m a).jtag = s.jtag := rfl
@[simp] theorem State.setView_tables (s : State) (m : Nat) (a : ViewSt) : (s.setView m a).tables = s.tables := rfl
@[simp] theorem State.setView_tablePad (s : State) (m : Nat) (a : ViewSt) : (s.setView m a).tablePad = s.tablePad := rfl
@[simp] theorem State.setView_draws (s : State) (m : Nat) (a : ViewSt) : (s.setView m a).draws = s.draws := rfl
@[simp] theorem State.setView_pending (s : State) (m : Nat) (a : ViewSt) : (s.setView m a).pending = s.pending := rfl
@[simp] theorem State.setView_rdv (s : State) (m : Nat) (a : ViewSt) (e : Ent) (i : Nat) : (s.setView m a).rdv e i = s.rdv e i := rfl
@[simp] theorem State.setView_rd (s : State) (m : Nat) (a : ViewSt) (e : Ent) (i : Nat) : (s.setView m a).rd e i = s.rd e i := rfl
@[simp] theorem State.setView_rdn (s : State) (m : Nat) (a : ViewSt) (e : Ent) (i q : Nat) : (s.setView m a).rdn e i q = s.rdn e i q := rfl
@[simp] theorem State.setView_lane (s : State) (m : Nat) (a : ViewSt) (n l : Nat) : (s.setView m a).lane n l = s.lane n l := rfl
@[simp] theorem State.setView_session (s : State) (m : Nat) (a : ViewSt) (n : Nat) : (s.setView m a).session n = s.session n := rfl
@[simp] theorem State.setView_domain (s : State) (m : Nat) (a : ViewSt) (n : Nat) : (s.setView m a).domain n = s.domain n := rfl
@[simp] theorem State.setView_rail (s : State) (m : Nat) (a : ViewSt) (n : Nat) : (s.setView m a).rail n = s.rail n := rfl
@[simp] theorem State.setView_on (s : State) (m : Nat) (a : ViewSt) (n : Nat) : (s.setView m a).on n = s.on n := rfl
@[simp] theorem State.setView_alive (s : State) (m : Nat) (a : ViewSt) (n : Nat) : (s.setView m a).alive n = s.alive n := rfl
@[simp] theorem State.setView_timeRuns (s : State) (m : Nat) (a : ViewSt)  : (s.setView m a).timeRuns  = s.timeRuns  := rfl
@[simp] theorem State.setView_dispFine (s : State) (m : Nat) (a : ViewSt)  : (s.setView m a).dispFine  = s.dispFine  := rfl
@[simp] theorem State.setView_now (s : State) (m : Nat) (a : ViewSt)  : (s.setView m a).now  = s.now  := rfl
@[simp] theorem State.setView_cal (s : State) (m : Nat) (a : ViewSt)  : (s.setView m a).cal  = s.cal  := rfl
@[simp] theorem State.setView_running (s : State) (m : Nat) (a : ViewSt)  : (s.setView m a).running  = s.running  := rfl
@[simp] theorem State.setView_active (s : State) (m : Nat) (a : ViewSt) (n : Nat) : (s.setView m a).active n = s.active n := rfl
@[simp] theorem State.setView_isChild (s : State) (m : Nat) (a : ViewSt) (n : Nat) : (s.setView m a).isChild n = s.isChild n := rfl
@[simp] theorem State.setView_port (s : State) (m : Nat) (a : ViewSt) (n : Nat) : (s.setView m a).port n = s.port n := rfl
@[simp] theorem State.setView_ctx (s : State) (m : Nat) (a : ViewSt) (n : Nat) : (s.setView m a).ctx n = s.ctx n := rfl
@[simp] theorem State.setView_buf (s : State) (m : Nat) (a : ViewSt) (n : Nat) : (s.setView m a).buf n = s.buf n := rfl
@[simp] theorem State.setView_quad (s : State) (m : Nat) (a : ViewSt) (n : Nat) : (s.setView m a).quad n = s.quad n := rfl
@[simp] theorem State.setView_lout (s : State) (m : Nat) (a : ViewSt) (n : Nat) : (s.setView m a).lout n = s.lout n := rfl
@[simp] theorem State.setView_xfer (s : State) (m : Nat) (a : ViewSt) (n : Nat) : (s.setView m a).xfer n = s.xfer n := rfl
@[simp] theorem State.setView_job (s : State) (m : Nat) (a : ViewSt) (n : Nat) : (s.setView m a).job n = s.job n := rfl

/-! ### setCtx -/

@[simp] theorem State.setCtx_regs (s : State) (m : Nat) (a : Ctx) : (s.setCtx m a).regs = s.regs := rfl
@[simp] theorem State.setCtx_revs (s : State) (m : Nat) (a : Ctx) : (s.setCtx m a).revs = s.revs := rfl
@[simp] theorem State.setCtx_ports (s : State) (m : Nat) (a : Ctx) : (s.setCtx m a).ports = s.ports := rfl
@[simp] theorem State.setCtx_lanes (s : State) (m : Nat) (a : Ctx) : (s.setCtx m a).lanes = s.lanes := rfl
@[simp] theorem State.setCtx_outcomes (s : State) (m : Nat) (a : Ctx) : (s.setCtx m a).outcomes = s.outcomes := rfl
@[simp] theorem State.setCtx_sweeps (s : State) (m : Nat) (a : Ctx) : (s.setCtx m a).sweeps = s.sweeps := rfl
@[simp] theorem State.setCtx_sweepPkts (s : State) (m : Nat) (a : Ctx) : (s.setCtx m a).sweepPkts = s.sweepPkts := rfl
@[simp] theorem State.setCtx_time (s : State) (m : Nat) (a : Ctx) : (s.setCtx m a).time = s.time := rfl
@[simp] theorem State.setCtx_aon (s : State) (m : Nat) (a : Ctx) : (s.setCtx m a).aon = s.aon := rfl
@[simp] theorem State.setCtx_views (s : State) (m : Nat) (a : Ctx) : (s.setCtx m a).views = s.views := rfl
@[simp] theorem State.setCtx_syncIn (s : State) (m : Nat) (a : Ctx) : (s.setCtx m a).syncIn = s.syncIn := rfl
@[simp] theorem State.setCtx_syncOut (s : State) (m : Nat) (a : Ctx) : (s.setCtx m a).syncOut = s.syncOut := rfl
@[simp] theorem State.setCtx_bufs (s : State) (m : Nat) (a : Ctx) : (s.setCtx m a).bufs = s.bufs := rfl
@[simp] theorem State.setCtx_shown (s : State) (m : Nat) (a : Ctx) : (s.setCtx m a).shown = s.shown := rfl
@[simp] theorem State.setCtx_quarry (s : State) (m : Nat) (a : Ctx) : (s.setCtx m a).quarry = s.quarry := rfl
@[simp] theorem State.setCtx_fills (s : State) (m : Nat) (a : Ctx) : (s.setCtx m a).fills = s.fills := rfl
@[simp] theorem State.setCtx_cap (s : State) (m : Nat) (a : Ctx) : (s.setCtx m a).cap = s.cap := rfl
@[simp] theorem State.setCtx_defects (s : State) (m : Nat) (a : Ctx) : (s.setCtx m a).defects = s.defects := rfl
@[simp] theorem State.setCtx_modl (s : State) (m : Nat) (a : Ctx) : (s.setCtx m a).modl = s.modl := rfl
@[simp] theorem State.setCtx_quads (s : State) (m : Nat) (a : Ctx) : (s.setCtx m a).quads = s.quads := rfl
@[simp] theorem State.setCtx_groups (s : State) (m : Nat) (a : Ctx) : (s.setCtx m a).groups = s.groups := rfl
@[simp] theorem State.setCtx_tes (s : State) (m : Nat) (a : Ctx) : (s.setCtx m a).tes = s.tes := rfl
@[simp] theorem State.setCtx_louts (s : State) (m : Nat) (a : Ctx) : (s.setCtx m a).louts = s.louts := rfl
@[simp] theorem State.setCtx_rows (s : State) (m : Nat) (a : Ctx) : (s.setCtx m a).rows = s.rows := rfl
@[simp] theorem State.setCtx_mgmt (s : State) (m : Nat) (a : Ctx) : (s.setCtx m a).mgmt = s.mgmt := rfl
@[simp] theorem State.setCtx_xfers (s : State) (m : Nat) (a : Ctx) : (s.setCtx m a).xfers = s.xfers := rfl
@[simp] theorem State.setCtx_jobs (s : State) (m : Nat) (a : Ctx) : (s.setCtx m a).jobs = s.jobs := rfl
@[simp] theorem State.setCtx_secure (s : State) (m : Nat) (a : Ctx) : (s.setCtx m a).secure = s.secure := rfl
@[simp] theorem State.setCtx_power (s : State) (m : Nat) (a : Ctx) : (s.setCtx m a).power = s.power := rfl
@[simp] theorem State.setCtx_thermal (s : State) (m : Nat) (a : Ctx) : (s.setCtx m a).thermal = s.thermal := rfl
@[simp] theorem State.setCtx_boot (s : State) (m : Nat) (a : Ctx) : (s.setCtx m a).boot = s.boot := rfl
@[simp] theorem State.setCtx_jtag (s : State) (m : Nat) (a : Ctx) : (s.setCtx m a).jtag = s.jtag := rfl
@[simp] theorem State.setCtx_tables (s : State) (m : Nat) (a : Ctx) : (s.setCtx m a).tables = s.tables := rfl
@[simp] theorem State.setCtx_tablePad (s : State) (m : Nat) (a : Ctx) : (s.setCtx m a).tablePad = s.tablePad := rfl
@[simp] theorem State.setCtx_draws (s : State) (m : Nat) (a : Ctx) : (s.setCtx m a).draws = s.draws := rfl
@[simp] theorem State.setCtx_pending (s : State) (m : Nat) (a : Ctx) : (s.setCtx m a).pending = s.pending := rfl
@[simp] theorem State.setCtx_rdv (s : State) (m : Nat) (a : Ctx) (e : Ent) (i : Nat) : (s.setCtx m a).rdv e i = s.rdv e i := rfl
@[simp] theorem State.setCtx_rd (s : State) (m : Nat) (a : Ctx) (e : Ent) (i : Nat) : (s.setCtx m a).rd e i = s.rd e i := rfl
@[simp] theorem State.setCtx_rdn (s : State) (m : Nat) (a : Ctx) (e : Ent) (i q : Nat) : (s.setCtx m a).rdn e i q = s.rdn e i q := rfl
@[simp] theorem State.setCtx_lane (s : State) (m : Nat) (a : Ctx) (n l : Nat) : (s.setCtx m a).lane n l = s.lane n l := rfl
@[simp] theorem State.setCtx_session (s : State) (m : Nat) (a : Ctx) (n : Nat) : (s.setCtx m a).session n = s.session n := rfl
@[simp] theorem State.setCtx_domain (s : State) (m : Nat) (a : Ctx) (n : Nat) : (s.setCtx m a).domain n = s.domain n := rfl
@[simp] theorem State.setCtx_rail (s : State) (m : Nat) (a : Ctx) (n : Nat) : (s.setCtx m a).rail n = s.rail n := rfl
@[simp] theorem State.setCtx_on (s : State) (m : Nat) (a : Ctx) (n : Nat) : (s.setCtx m a).on n = s.on n := rfl
@[simp] theorem State.setCtx_alive (s : State) (m : Nat) (a : Ctx) (n : Nat) : (s.setCtx m a).alive n = s.alive n := rfl
@[simp] theorem State.setCtx_timeRuns (s : State) (m : Nat) (a : Ctx)  : (s.setCtx m a).timeRuns  = s.timeRuns  := rfl
@[simp] theorem State.setCtx_dispFine (s : State) (m : Nat) (a : Ctx)  : (s.setCtx m a).dispFine  = s.dispFine  := rfl
@[simp] theorem State.setCtx_now (s : State) (m : Nat) (a : Ctx)  : (s.setCtx m a).now  = s.now  := rfl
@[simp] theorem State.setCtx_cal (s : State) (m : Nat) (a : Ctx)  : (s.setCtx m a).cal  = s.cal  := rfl
@[simp] theorem State.setCtx_running (s : State) (m : Nat) (a : Ctx)  : (s.setCtx m a).running  = s.running  := rfl
@[simp] theorem State.setCtx_active (s : State) (m : Nat) (a : Ctx) (n : Nat) : (s.setCtx m a).active n = s.active n := rfl
@[simp] theorem State.setCtx_isChild (s : State) (m : Nat) (a : Ctx) (n : Nat) : (s.setCtx m a).isChild n = s.isChild n := rfl
@[simp] theorem State.setCtx_port (s : State) (m : Nat) (a : Ctx) (n : Nat) : (s.setCtx m a).port n = s.port n := rfl
@[simp] theorem State.setCtx_view (s : State) (m : Nat) (a : Ctx) (n : Nat) : (s.setCtx m a).view n = s.view n := rfl
@[simp] theorem State.setCtx_buf (s : State) (m : Nat) (a : Ctx) (n : Nat) : (s.setCtx m a).buf n = s.buf n := rfl
@[simp] theorem State.setCtx_quad (s : State) (m : Nat) (a : Ctx) (n : Nat) : (s.setCtx m a).quad n = s.quad n := rfl
@[simp] theorem State.setCtx_lout (s : State) (m : Nat) (a : Ctx) (n : Nat) : (s.setCtx m a).lout n = s.lout n := rfl
@[simp] theorem State.setCtx_xfer (s : State) (m : Nat) (a : Ctx) (n : Nat) : (s.setCtx m a).xfer n = s.xfer n := rfl
@[simp] theorem State.setCtx_job (s : State) (m : Nat) (a : Ctx) (n : Nat) : (s.setCtx m a).job n = s.job n := rfl

/-! ### setBuf -/

@[simp] theorem State.setBuf_regs (s : State) (m : Nat) (a : BufX) : (s.setBuf m a).regs = s.regs := rfl
@[simp] theorem State.setBuf_revs (s : State) (m : Nat) (a : BufX) : (s.setBuf m a).revs = s.revs := rfl
@[simp] theorem State.setBuf_ports (s : State) (m : Nat) (a : BufX) : (s.setBuf m a).ports = s.ports := rfl
@[simp] theorem State.setBuf_lanes (s : State) (m : Nat) (a : BufX) : (s.setBuf m a).lanes = s.lanes := rfl
@[simp] theorem State.setBuf_outcomes (s : State) (m : Nat) (a : BufX) : (s.setBuf m a).outcomes = s.outcomes := rfl
@[simp] theorem State.setBuf_sweeps (s : State) (m : Nat) (a : BufX) : (s.setBuf m a).sweeps = s.sweeps := rfl
@[simp] theorem State.setBuf_sweepPkts (s : State) (m : Nat) (a : BufX) : (s.setBuf m a).sweepPkts = s.sweepPkts := rfl
@[simp] theorem State.setBuf_time (s : State) (m : Nat) (a : BufX) : (s.setBuf m a).time = s.time := rfl
@[simp] theorem State.setBuf_aon (s : State) (m : Nat) (a : BufX) : (s.setBuf m a).aon = s.aon := rfl
@[simp] theorem State.setBuf_views (s : State) (m : Nat) (a : BufX) : (s.setBuf m a).views = s.views := rfl
@[simp] theorem State.setBuf_syncIn (s : State) (m : Nat) (a : BufX) : (s.setBuf m a).syncIn = s.syncIn := rfl
@[simp] theorem State.setBuf_syncOut (s : State) (m : Nat) (a : BufX) : (s.setBuf m a).syncOut = s.syncOut := rfl
@[simp] theorem State.setBuf_ctxs (s : State) (m : Nat) (a : BufX) : (s.setBuf m a).ctxs = s.ctxs := rfl
@[simp] theorem State.setBuf_shown (s : State) (m : Nat) (a : BufX) : (s.setBuf m a).shown = s.shown := rfl
@[simp] theorem State.setBuf_quarry (s : State) (m : Nat) (a : BufX) : (s.setBuf m a).quarry = s.quarry := rfl
@[simp] theorem State.setBuf_fills (s : State) (m : Nat) (a : BufX) : (s.setBuf m a).fills = s.fills := rfl
@[simp] theorem State.setBuf_cap (s : State) (m : Nat) (a : BufX) : (s.setBuf m a).cap = s.cap := rfl
@[simp] theorem State.setBuf_defects (s : State) (m : Nat) (a : BufX) : (s.setBuf m a).defects = s.defects := rfl
@[simp] theorem State.setBuf_modl (s : State) (m : Nat) (a : BufX) : (s.setBuf m a).modl = s.modl := rfl
@[simp] theorem State.setBuf_quads (s : State) (m : Nat) (a : BufX) : (s.setBuf m a).quads = s.quads := rfl
@[simp] theorem State.setBuf_groups (s : State) (m : Nat) (a : BufX) : (s.setBuf m a).groups = s.groups := rfl
@[simp] theorem State.setBuf_tes (s : State) (m : Nat) (a : BufX) : (s.setBuf m a).tes = s.tes := rfl
@[simp] theorem State.setBuf_louts (s : State) (m : Nat) (a : BufX) : (s.setBuf m a).louts = s.louts := rfl
@[simp] theorem State.setBuf_rows (s : State) (m : Nat) (a : BufX) : (s.setBuf m a).rows = s.rows := rfl
@[simp] theorem State.setBuf_mgmt (s : State) (m : Nat) (a : BufX) : (s.setBuf m a).mgmt = s.mgmt := rfl
@[simp] theorem State.setBuf_xfers (s : State) (m : Nat) (a : BufX) : (s.setBuf m a).xfers = s.xfers := rfl
@[simp] theorem State.setBuf_jobs (s : State) (m : Nat) (a : BufX) : (s.setBuf m a).jobs = s.jobs := rfl
@[simp] theorem State.setBuf_secure (s : State) (m : Nat) (a : BufX) : (s.setBuf m a).secure = s.secure := rfl
@[simp] theorem State.setBuf_power (s : State) (m : Nat) (a : BufX) : (s.setBuf m a).power = s.power := rfl
@[simp] theorem State.setBuf_thermal (s : State) (m : Nat) (a : BufX) : (s.setBuf m a).thermal = s.thermal := rfl
@[simp] theorem State.setBuf_boot (s : State) (m : Nat) (a : BufX) : (s.setBuf m a).boot = s.boot := rfl
@[simp] theorem State.setBuf_jtag (s : State) (m : Nat) (a : BufX) : (s.setBuf m a).jtag = s.jtag := rfl
@[simp] theorem State.setBuf_tables (s : State) (m : Nat) (a : BufX) : (s.setBuf m a).tables = s.tables := rfl
@[simp] theorem State.setBuf_tablePad (s : State) (m : Nat) (a : BufX) : (s.setBuf m a).tablePad = s.tablePad := rfl
@[simp] theorem State.setBuf_draws (s : State) (m : Nat) (a : BufX) : (s.setBuf m a).draws = s.draws := rfl
@[simp] theorem State.setBuf_pending (s : State) (m : Nat) (a : BufX) : (s.setBuf m a).pending = s.pending := rfl
@[simp] theorem State.setBuf_rdv (s : State) (m : Nat) (a : BufX) (e : Ent) (i : Nat) : (s.setBuf m a).rdv e i = s.rdv e i := rfl
@[simp] theorem State.setBuf_rd (s : State) (m : Nat) (a : BufX) (e : Ent) (i : Nat) : (s.setBuf m a).rd e i = s.rd e i := rfl
@[simp] theorem State.setBuf_rdn (s : State) (m : Nat) (a : BufX) (e : Ent) (i q : Nat) : (s.setBuf m a).rdn e i q = s.rdn e i q := rfl
@[simp] theorem State.setBuf_lane (s : State) (m : Nat) (a : BufX) (n l : Nat) : (s.setBuf m a).lane n l = s.lane n l := rfl
@[simp] theorem State.setBuf_session (s : State) (m : Nat) (a : BufX) (n : Nat) : (s.setBuf m a).session n = s.session n := rfl
@[simp] theorem State.setBuf_domain (s : State) (m : Nat) (a : BufX) (n : Nat) : (s.setBuf m a).domain n = s.domain n := rfl
@[simp] theorem State.setBuf_rail (s : State) (m : Nat) (a : BufX) (n : Nat) : (s.setBuf m a).rail n = s.rail n := rfl
@[simp] theorem State.setBuf_on (s : State) (m : Nat) (a : BufX) (n : Nat) : (s.setBuf m a).on n = s.on n := rfl
@[simp] theorem State.setBuf_alive (s : State) (m : Nat) (a : BufX) (n : Nat) : (s.setBuf m a).alive n = s.alive n := rfl
@[simp] theorem State.setBuf_timeRuns (s : State) (m : Nat) (a : BufX)  : (s.setBuf m a).timeRuns  = s.timeRuns  := rfl
@[simp] theorem State.setBuf_dispFine (s : State) (m : Nat) (a : BufX)  : (s.setBuf m a).dispFine  = s.dispFine  := rfl
@[simp] theorem State.setBuf_now (s : State) (m : Nat) (a : BufX)  : (s.setBuf m a).now  = s.now  := rfl
@[simp] theorem State.setBuf_cal (s : State) (m : Nat) (a : BufX)  : (s.setBuf m a).cal  = s.cal  := rfl
@[simp] theorem State.setBuf_running (s : State) (m : Nat) (a : BufX)  : (s.setBuf m a).running  = s.running  := rfl
@[simp] theorem State.setBuf_active (s : State) (m : Nat) (a : BufX) (n : Nat) : (s.setBuf m a).active n = s.active n := rfl
@[simp] theorem State.setBuf_isChild (s : State) (m : Nat) (a : BufX) (n : Nat) : (s.setBuf m a).isChild n = s.isChild n := rfl
@[simp] theorem State.setBuf_port (s : State) (m : Nat) (a : BufX) (n : Nat) : (s.setBuf m a).port n = s.port n := rfl
@[simp] theorem State.setBuf_view (s : State) (m : Nat) (a : BufX) (n : Nat) : (s.setBuf m a).view n = s.view n := rfl
@[simp] theorem State.setBuf_ctx (s : State) (m : Nat) (a : BufX) (n : Nat) : (s.setBuf m a).ctx n = s.ctx n := rfl
@[simp] theorem State.setBuf_quad (s : State) (m : Nat) (a : BufX) (n : Nat) : (s.setBuf m a).quad n = s.quad n := rfl
@[simp] theorem State.setBuf_lout (s : State) (m : Nat) (a : BufX) (n : Nat) : (s.setBuf m a).lout n = s.lout n := rfl
@[simp] theorem State.setBuf_xfer (s : State) (m : Nat) (a : BufX) (n : Nat) : (s.setBuf m a).xfer n = s.xfer n := rfl
@[simp] theorem State.setBuf_job (s : State) (m : Nat) (a : BufX) (n : Nat) : (s.setBuf m a).job n = s.job n := rfl

/-! ### setQuad -/

@[simp] theorem State.setQuad_regs (s : State) (m : Nat) (a : Quad) : (s.setQuad m a).regs = s.regs := rfl
@[simp] theorem State.setQuad_revs (s : State) (m : Nat) (a : Quad) : (s.setQuad m a).revs = s.revs := rfl
@[simp] theorem State.setQuad_ports (s : State) (m : Nat) (a : Quad) : (s.setQuad m a).ports = s.ports := rfl
@[simp] theorem State.setQuad_lanes (s : State) (m : Nat) (a : Quad) : (s.setQuad m a).lanes = s.lanes := rfl
@[simp] theorem State.setQuad_outcomes (s : State) (m : Nat) (a : Quad) : (s.setQuad m a).outcomes = s.outcomes := rfl
@[simp] theorem State.setQuad_sweeps (s : State) (m : Nat) (a : Quad) : (s.setQuad m a).sweeps = s.sweeps := rfl
@[simp] theorem State.setQuad_sweepPkts (s : State) (m : Nat) (a : Quad) : (s.setQuad m a).sweepPkts = s.sweepPkts := rfl
@[simp] theorem State.setQuad_time (s : State) (m : Nat) (a : Quad) : (s.setQuad m a).time = s.time := rfl
@[simp] theorem State.setQuad_aon (s : State) (m : Nat) (a : Quad) : (s.setQuad m a).aon = s.aon := rfl
@[simp] theorem State.setQuad_views (s : State) (m : Nat) (a : Quad) : (s.setQuad m a).views = s.views := rfl
@[simp] theorem State.setQuad_syncIn (s : State) (m : Nat) (a : Quad) : (s.setQuad m a).syncIn = s.syncIn := rfl
@[simp] theorem State.setQuad_syncOut (s : State) (m : Nat) (a : Quad) : (s.setQuad m a).syncOut = s.syncOut := rfl
@[simp] theorem State.setQuad_ctxs (s : State) (m : Nat) (a : Quad) : (s.setQuad m a).ctxs = s.ctxs := rfl
@[simp] theorem State.setQuad_bufs (s : State) (m : Nat) (a : Quad) : (s.setQuad m a).bufs = s.bufs := rfl
@[simp] theorem State.setQuad_shown (s : State) (m : Nat) (a : Quad) : (s.setQuad m a).shown = s.shown := rfl
@[simp] theorem State.setQuad_quarry (s : State) (m : Nat) (a : Quad) : (s.setQuad m a).quarry = s.quarry := rfl
@[simp] theorem State.setQuad_fills (s : State) (m : Nat) (a : Quad) : (s.setQuad m a).fills = s.fills := rfl
@[simp] theorem State.setQuad_cap (s : State) (m : Nat) (a : Quad) : (s.setQuad m a).cap = s.cap := rfl
@[simp] theorem State.setQuad_defects (s : State) (m : Nat) (a : Quad) : (s.setQuad m a).defects = s.defects := rfl
@[simp] theorem State.setQuad_modl (s : State) (m : Nat) (a : Quad) : (s.setQuad m a).modl = s.modl := rfl
@[simp] theorem State.setQuad_groups (s : State) (m : Nat) (a : Quad) : (s.setQuad m a).groups = s.groups := rfl
@[simp] theorem State.setQuad_tes (s : State) (m : Nat) (a : Quad) : (s.setQuad m a).tes = s.tes := rfl
@[simp] theorem State.setQuad_louts (s : State) (m : Nat) (a : Quad) : (s.setQuad m a).louts = s.louts := rfl
@[simp] theorem State.setQuad_rows (s : State) (m : Nat) (a : Quad) : (s.setQuad m a).rows = s.rows := rfl
@[simp] theorem State.setQuad_mgmt (s : State) (m : Nat) (a : Quad) : (s.setQuad m a).mgmt = s.mgmt := rfl
@[simp] theorem State.setQuad_xfers (s : State) (m : Nat) (a : Quad) : (s.setQuad m a).xfers = s.xfers := rfl
@[simp] theorem State.setQuad_jobs (s : State) (m : Nat) (a : Quad) : (s.setQuad m a).jobs = s.jobs := rfl
@[simp] theorem State.setQuad_secure (s : State) (m : Nat) (a : Quad) : (s.setQuad m a).secure = s.secure := rfl
@[simp] theorem State.setQuad_power (s : State) (m : Nat) (a : Quad) : (s.setQuad m a).power = s.power := rfl
@[simp] theorem State.setQuad_thermal (s : State) (m : Nat) (a : Quad) : (s.setQuad m a).thermal = s.thermal := rfl
@[simp] theorem State.setQuad_boot (s : State) (m : Nat) (a : Quad) : (s.setQuad m a).boot = s.boot := rfl
@[simp] theorem State.setQuad_jtag (s : State) (m : Nat) (a : Quad) : (s.setQuad m a).jtag = s.jtag := rfl
@[simp] theorem State.setQuad_tables (s : State) (m : Nat) (a : Quad) : (s.setQuad m a).tables = s.tables := rfl
@[simp] theorem State.setQuad_tablePad (s : State) (m : Nat) (a : Quad) : (s.setQuad m a).tablePad = s.tablePad := rfl
@[simp] theorem State.setQuad_draws (s : State) (m : Nat) (a : Quad) : (s.setQuad m a).draws = s.draws := rfl
@[simp] theorem State.setQuad_pending (s : State) (m : Nat) (a : Quad) : (s.setQuad m a).pending = s.pending := rfl
@[simp] theorem State.setQuad_rdv (s : State) (m : Nat) (a : Quad) (e : Ent) (i : Nat) : (s.setQuad m a).rdv e i = s.rdv e i := rfl
@[simp] theorem State.setQuad_rd (s : State) (m : Nat) (a : Quad) (e : Ent) (i : Nat) : (s.setQuad m a).rd e i = s.rd e i := rfl
@[simp] theorem State.setQuad_rdn (s : State) (m : Nat) (a : Quad) (e : Ent) (i q : Nat) : (s.setQuad m a).rdn e i q = s.rdn e i q := rfl
@[simp] theorem State.setQuad_lane (s : State) (m : Nat) (a : Quad) (n l : Nat) : (s.setQuad m a).lane n l = s.lane n l := rfl
@[simp] theorem State.setQuad_session (s : State) (m : Nat) (a : Quad) (n : Nat) : (s.setQuad m a).session n = s.session n := rfl
@[simp] theorem State.setQuad_domain (s : State) (m : Nat) (a : Quad) (n : Nat) : (s.setQuad m a).domain n = s.domain n := rfl
@[simp] theorem State.setQuad_rail (s : State) (m : Nat) (a : Quad) (n : Nat) : (s.setQuad m a).rail n = s.rail n := rfl
@[simp] theorem State.setQuad_on (s : State) (m : Nat) (a : Quad) (n : Nat) : (s.setQuad m a).on n = s.on n := rfl
@[simp] theorem State.setQuad_alive (s : State) (m : Nat) (a : Quad) (n : Nat) : (s.setQuad m a).alive n = s.alive n := rfl
@[simp] theorem State.setQuad_timeRuns (s : State) (m : Nat) (a : Quad)  : (s.setQuad m a).timeRuns  = s.timeRuns  := rfl
@[simp] theorem State.setQuad_dispFine (s : State) (m : Nat) (a : Quad)  : (s.setQuad m a).dispFine  = s.dispFine  := rfl
@[simp] theorem State.setQuad_now (s : State) (m : Nat) (a : Quad)  : (s.setQuad m a).now  = s.now  := rfl
@[simp] theorem State.setQuad_cal (s : State) (m : Nat) (a : Quad)  : (s.setQuad m a).cal  = s.cal  := rfl
@[simp] theorem State.setQuad_running (s : State) (m : Nat) (a : Quad)  : (s.setQuad m a).running  = s.running  := rfl
@[simp] theorem State.setQuad_active (s : State) (m : Nat) (a : Quad) (n : Nat) : (s.setQuad m a).active n = s.active n := rfl
@[simp] theorem State.setQuad_isChild (s : State) (m : Nat) (a : Quad) (n : Nat) : (s.setQuad m a).isChild n = s.isChild n := rfl
@[simp] theorem State.setQuad_port (s : State) (m : Nat) (a : Quad) (n : Nat) : (s.setQuad m a).port n = s.port n := rfl
@[simp] theorem State.setQuad_view (s : State) (m : Nat) (a : Quad) (n : Nat) : (s.setQuad m a).view n = s.view n := rfl
@[simp] theorem State.setQuad_ctx (s : State) (m : Nat) (a : Quad) (n : Nat) : (s.setQuad m a).ctx n = s.ctx n := rfl
@[simp] theorem State.setQuad_buf (s : State) (m : Nat) (a : Quad) (n : Nat) : (s.setQuad m a).buf n = s.buf n := rfl
@[simp] theorem State.setQuad_lout (s : State) (m : Nat) (a : Quad) (n : Nat) : (s.setQuad m a).lout n = s.lout n := rfl
@[simp] theorem State.setQuad_xfer (s : State) (m : Nat) (a : Quad) (n : Nat) : (s.setQuad m a).xfer n = s.xfer n := rfl
@[simp] theorem State.setQuad_job (s : State) (m : Nat) (a : Quad) (n : Nat) : (s.setQuad m a).job n = s.job n := rfl

/-! ### setLout -/

@[simp] theorem State.setLout_regs (s : State) (m : Nat) (a : LaneOut) : (s.setLout m a).regs = s.regs := rfl
@[simp] theorem State.setLout_revs (s : State) (m : Nat) (a : LaneOut) : (s.setLout m a).revs = s.revs := rfl
@[simp] theorem State.setLout_ports (s : State) (m : Nat) (a : LaneOut) : (s.setLout m a).ports = s.ports := rfl
@[simp] theorem State.setLout_lanes (s : State) (m : Nat) (a : LaneOut) : (s.setLout m a).lanes = s.lanes := rfl
@[simp] theorem State.setLout_outcomes (s : State) (m : Nat) (a : LaneOut) : (s.setLout m a).outcomes = s.outcomes := rfl
@[simp] theorem State.setLout_sweeps (s : State) (m : Nat) (a : LaneOut) : (s.setLout m a).sweeps = s.sweeps := rfl
@[simp] theorem State.setLout_sweepPkts (s : State) (m : Nat) (a : LaneOut) : (s.setLout m a).sweepPkts = s.sweepPkts := rfl
@[simp] theorem State.setLout_time (s : State) (m : Nat) (a : LaneOut) : (s.setLout m a).time = s.time := rfl
@[simp] theorem State.setLout_aon (s : State) (m : Nat) (a : LaneOut) : (s.setLout m a).aon = s.aon := rfl
@[simp] theorem State.setLout_views (s : State) (m : Nat) (a : LaneOut) : (s.setLout m a).views = s.views := rfl
@[simp] theorem State.setLout_syncIn (s : State) (m : Nat) (a : LaneOut) : (s.setLout m a).syncIn = s.syncIn := rfl
@[simp] theorem State.setLout_syncOut (s : State) (m : Nat) (a : LaneOut) : (s.setLout m a).syncOut = s.syncOut := rfl
@[simp] theorem State.setLout_ctxs (s : State) (m : Nat) (a : LaneOut) : (s.setLout m a).ctxs = s.ctxs := rfl
@[simp] theorem State.setLout_bufs (s : State) (m : Nat) (a : LaneOut) : (s.setLout m a).bufs = s.bufs := rfl
@[simp] theorem State.setLout_shown (s : State) (m : Nat) (a : LaneOut) : (s.setLout m a).shown = s.shown := rfl
@[simp] theorem State.setLout_quarry (s : State) (m : Nat) (a : LaneOut) : (s.setLout m a).quarry = s.quarry := rfl
@[simp] theorem State.setLout_fills (s : State) (m : Nat) (a : LaneOut) : (s.setLout m a).fills = s.fills := rfl
@[simp] theorem State.setLout_cap (s : State) (m : Nat) (a : LaneOut) : (s.setLout m a).cap = s.cap := rfl
@[simp] theorem State.setLout_defects (s : State) (m : Nat) (a : LaneOut) : (s.setLout m a).defects = s.defects := rfl
@[simp] theorem State.setLout_modl (s : State) (m : Nat) (a : LaneOut) : (s.setLout m a).modl = s.modl := rfl
@[simp] theorem State.setLout_quads (s : State) (m : Nat) (a : LaneOut) : (s.setLout m a).quads = s.quads := rfl
@[simp] theorem State.setLout_groups (s : State) (m : Nat) (a : LaneOut) : (s.setLout m a).groups = s.groups := rfl
@[simp] theorem State.setLout_tes (s : State) (m : Nat) (a : LaneOut) : (s.setLout m a).tes = s.tes := rfl
@[simp] theorem State.setLout_rows (s : State) (m : Nat) (a : LaneOut) : (s.setLout m a).rows = s.rows := rfl
@[simp] theorem State.setLout_mgmt (s : State) (m : Nat) (a : LaneOut) : (s.setLout m a).mgmt = s.mgmt := rfl
@[simp] theorem State.setLout_xfers (s : State) (m : Nat) (a : LaneOut) : (s.setLout m a).xfers = s.xfers := rfl
@[simp] theorem State.setLout_jobs (s : State) (m : Nat) (a : LaneOut) : (s.setLout m a).jobs = s.jobs := rfl
@[simp] theorem State.setLout_secure (s : State) (m : Nat) (a : LaneOut) : (s.setLout m a).secure = s.secure := rfl
@[simp] theorem State.setLout_power (s : State) (m : Nat) (a : LaneOut) : (s.setLout m a).power = s.power := rfl
@[simp] theorem State.setLout_thermal (s : State) (m : Nat) (a : LaneOut) : (s.setLout m a).thermal = s.thermal := rfl
@[simp] theorem State.setLout_boot (s : State) (m : Nat) (a : LaneOut) : (s.setLout m a).boot = s.boot := rfl
@[simp] theorem State.setLout_jtag (s : State) (m : Nat) (a : LaneOut) : (s.setLout m a).jtag = s.jtag := rfl
@[simp] theorem State.setLout_tables (s : State) (m : Nat) (a : LaneOut) : (s.setLout m a).tables = s.tables := rfl
@[simp] theorem State.setLout_tablePad (s : State) (m : Nat) (a : LaneOut) : (s.setLout m a).tablePad = s.tablePad := rfl
@[simp] theorem State.setLout_draws (s : State) (m : Nat) (a : LaneOut) : (s.setLout m a).draws = s.draws := rfl
@[simp] theorem State.setLout_pending (s : State) (m : Nat) (a : LaneOut) : (s.setLout m a).pending = s.pending := rfl
@[simp] theorem State.setLout_rdv (s : State) (m : Nat) (a : LaneOut) (e : Ent) (i : Nat) : (s.setLout m a).rdv e i = s.rdv e i := rfl
@[simp] theorem State.setLout_rd (s : State) (m : Nat) (a : LaneOut) (e : Ent) (i : Nat) : (s.setLout m a).rd e i = s.rd e i := rfl
@[simp] theorem State.setLout_rdn (s : State) (m : Nat) (a : LaneOut) (e : Ent) (i q : Nat) : (s.setLout m a).rdn e i q = s.rdn e i q := rfl
@[simp] theorem State.setLout_lane (s : State) (m : Nat) (a : LaneOut) (n l : Nat) : (s.setLout m a).lane n l = s.lane n l := rfl
@[simp] theorem State.setLout_session (s : State) (m : Nat) (a : LaneOut) (n : Nat) : (s.setLout m a).session n = s.session n := rfl
@[simp] theorem State.setLout_domain (s : State) (m : Nat) (a : LaneOut) (n : Nat) : (s.setLout m a).domain n = s.domain n := rfl
@[simp] theorem State.setLout_rail (s : State) (m : Nat) (a : LaneOut) (n : Nat) : (s.setLout m a).rail n = s.rail n := rfl
@[simp] theorem State.setLout_on (s : State) (m : Nat) (a : LaneOut) (n : Nat) : (s.setLout m a).on n = s.on n := rfl
@[simp] theorem State.setLout_alive (s : State) (m : Nat) (a : LaneOut) (n : Nat) : (s.setLout m a).alive n = s.alive n := rfl
@[simp] theorem State.setLout_timeRuns (s : State) (m : Nat) (a : LaneOut)  : (s.setLout m a).timeRuns  = s.timeRuns  := rfl
@[simp] theorem State.setLout_dispFine (s : State) (m : Nat) (a : LaneOut)  : (s.setLout m a).dispFine  = s.dispFine  := rfl
@[simp] theorem State.setLout_now (s : State) (m : Nat) (a : LaneOut)  : (s.setLout m a).now  = s.now  := rfl
@[simp] theorem State.setLout_cal (s : State) (m : Nat) (a : LaneOut)  : (s.setLout m a).cal  = s.cal  := rfl
@[simp] theorem State.setLout_running (s : State) (m : Nat) (a : LaneOut)  : (s.setLout m a).running  = s.running  := rfl
@[simp] theorem State.setLout_active (s : State) (m : Nat) (a : LaneOut) (n : Nat) : (s.setLout m a).active n = s.active n := rfl
@[simp] theorem State.setLout_isChild (s : State) (m : Nat) (a : LaneOut) (n : Nat) : (s.setLout m a).isChild n = s.isChild n := rfl
@[simp] theorem State.setLout_port (s : State) (m : Nat) (a : LaneOut) (n : Nat) : (s.setLout m a).port n = s.port n := rfl
@[simp] theorem State.setLout_view (s : State) (m : Nat) (a : LaneOut) (n : Nat) : (s.setLout m a).view n = s.view n := rfl
@[simp] theorem State.setLout_ctx (s : State) (m : Nat) (a : LaneOut) (n : Nat) : (s.setLout m a).ctx n = s.ctx n := rfl
@[simp] theorem State.setLout_buf (s : State) (m : Nat) (a : LaneOut) (n : Nat) : (s.setLout m a).buf n = s.buf n := rfl
@[simp] theorem State.setLout_quad (s : State) (m : Nat) (a : LaneOut) (n : Nat) : (s.setLout m a).quad n = s.quad n := rfl
@[simp] theorem State.setLout_xfer (s : State) (m : Nat) (a : LaneOut) (n : Nat) : (s.setLout m a).xfer n = s.xfer n := rfl
@[simp] theorem State.setLout_job (s : State) (m : Nat) (a : LaneOut) (n : Nat) : (s.setLout m a).job n = s.job n := rfl

/-! ### setXfer -/

@[simp] theorem State.setXfer_regs (s : State) (m : Nat) (a : Xfer) : (s.setXfer m a).regs = s.regs := rfl
@[simp] theorem State.setXfer_revs (s : State) (m : Nat) (a : Xfer) : (s.setXfer m a).revs = s.revs := rfl
@[simp] theorem State.setXfer_ports (s : State) (m : Nat) (a : Xfer) : (s.setXfer m a).ports = s.ports := rfl
@[simp] theorem State.setXfer_lanes (s : State) (m : Nat) (a : Xfer) : (s.setXfer m a).lanes = s.lanes := rfl
@[simp] theorem State.setXfer_outcomes (s : State) (m : Nat) (a : Xfer) : (s.setXfer m a).outcomes = s.outcomes := rfl
@[simp] theorem State.setXfer_sweeps (s : State) (m : Nat) (a : Xfer) : (s.setXfer m a).sweeps = s.sweeps := rfl
@[simp] theorem State.setXfer_sweepPkts (s : State) (m : Nat) (a : Xfer) : (s.setXfer m a).sweepPkts = s.sweepPkts := rfl
@[simp] theorem State.setXfer_time (s : State) (m : Nat) (a : Xfer) : (s.setXfer m a).time = s.time := rfl
@[simp] theorem State.setXfer_aon (s : State) (m : Nat) (a : Xfer) : (s.setXfer m a).aon = s.aon := rfl
@[simp] theorem State.setXfer_views (s : State) (m : Nat) (a : Xfer) : (s.setXfer m a).views = s.views := rfl
@[simp] theorem State.setXfer_syncIn (s : State) (m : Nat) (a : Xfer) : (s.setXfer m a).syncIn = s.syncIn := rfl
@[simp] theorem State.setXfer_syncOut (s : State) (m : Nat) (a : Xfer) : (s.setXfer m a).syncOut = s.syncOut := rfl
@[simp] theorem State.setXfer_ctxs (s : State) (m : Nat) (a : Xfer) : (s.setXfer m a).ctxs = s.ctxs := rfl
@[simp] theorem State.setXfer_bufs (s : State) (m : Nat) (a : Xfer) : (s.setXfer m a).bufs = s.bufs := rfl
@[simp] theorem State.setXfer_shown (s : State) (m : Nat) (a : Xfer) : (s.setXfer m a).shown = s.shown := rfl
@[simp] theorem State.setXfer_quarry (s : State) (m : Nat) (a : Xfer) : (s.setXfer m a).quarry = s.quarry := rfl
@[simp] theorem State.setXfer_fills (s : State) (m : Nat) (a : Xfer) : (s.setXfer m a).fills = s.fills := rfl
@[simp] theorem State.setXfer_cap (s : State) (m : Nat) (a : Xfer) : (s.setXfer m a).cap = s.cap := rfl
@[simp] theorem State.setXfer_defects (s : State) (m : Nat) (a : Xfer) : (s.setXfer m a).defects = s.defects := rfl
@[simp] theorem State.setXfer_modl (s : State) (m : Nat) (a : Xfer) : (s.setXfer m a).modl = s.modl := rfl
@[simp] theorem State.setXfer_quads (s : State) (m : Nat) (a : Xfer) : (s.setXfer m a).quads = s.quads := rfl
@[simp] theorem State.setXfer_groups (s : State) (m : Nat) (a : Xfer) : (s.setXfer m a).groups = s.groups := rfl
@[simp] theorem State.setXfer_tes (s : State) (m : Nat) (a : Xfer) : (s.setXfer m a).tes = s.tes := rfl
@[simp] theorem State.setXfer_louts (s : State) (m : Nat) (a : Xfer) : (s.setXfer m a).louts = s.louts := rfl
@[simp] theorem State.setXfer_rows (s : State) (m : Nat) (a : Xfer) : (s.setXfer m a).rows = s.rows := rfl
@[simp] theorem State.setXfer_mgmt (s : State) (m : Nat) (a : Xfer) : (s.setXfer m a).mgmt = s.mgmt := rfl
@[simp] theorem State.setXfer_jobs (s : State) (m : Nat) (a : Xfer) : (s.setXfer m a).jobs = s.jobs := rfl
@[simp] theorem State.setXfer_secure (s : State) (m : Nat) (a : Xfer) : (s.setXfer m a).secure = s.secure := rfl
@[simp] theorem State.setXfer_power (s : State) (m : Nat) (a : Xfer) : (s.setXfer m a).power = s.power := rfl
@[simp] theorem State.setXfer_thermal (s : State) (m : Nat) (a : Xfer) : (s.setXfer m a).thermal = s.thermal := rfl
@[simp] theorem State.setXfer_boot (s : State) (m : Nat) (a : Xfer) : (s.setXfer m a).boot = s.boot := rfl
@[simp] theorem State.setXfer_jtag (s : State) (m : Nat) (a : Xfer) : (s.setXfer m a).jtag = s.jtag := rfl
@[simp] theorem State.setXfer_tables (s : State) (m : Nat) (a : Xfer) : (s.setXfer m a).tables = s.tables := rfl
@[simp] theorem State.setXfer_tablePad (s : State) (m : Nat) (a : Xfer) : (s.setXfer m a).tablePad = s.tablePad := rfl
@[simp] theorem State.setXfer_draws (s : State) (m : Nat) (a : Xfer) : (s.setXfer m a).draws = s.draws := rfl
@[simp] theorem State.setXfer_pending (s : State) (m : Nat) (a : Xfer) : (s.setXfer m a).pending = s.pending := rfl
@[simp] theorem State.setXfer_rdv (s : State) (m : Nat) (a : Xfer) (e : Ent) (i : Nat) : (s.setXfer m a).rdv e i = s.rdv e i := rfl
@[simp] theorem State.setXfer_rd (s : State) (m : Nat) (a : Xfer) (e : Ent) (i : Nat) : (s.setXfer m a).rd e i = s.rd e i := rfl
@[simp] theorem State.setXfer_rdn (s : State) (m : Nat) (a : Xfer) (e : Ent) (i q : Nat) : (s.setXfer m a).rdn e i q = s.rdn e i q := rfl
@[simp] theorem State.setXfer_lane (s : State) (m : Nat) (a : Xfer) (n l : Nat) : (s.setXfer m a).lane n l = s.lane n l := rfl
@[simp] theorem State.setXfer_session (s : State) (m : Nat) (a : Xfer) (n : Nat) : (s.setXfer m a).session n = s.session n := rfl
@[simp] theorem State.setXfer_domain (s : State) (m : Nat) (a : Xfer) (n : Nat) : (s.setXfer m a).domain n = s.domain n := rfl
@[simp] theorem State.setXfer_rail (s : State) (m : Nat) (a : Xfer) (n : Nat) : (s.setXfer m a).rail n = s.rail n := rfl
@[simp] theorem State.setXfer_on (s : State) (m : Nat) (a : Xfer) (n : Nat) : (s.setXfer m a).on n = s.on n := rfl
@[simp] theorem State.setXfer_alive (s : State) (m : Nat) (a : Xfer) (n : Nat) : (s.setXfer m a).alive n = s.alive n := rfl
@[simp] theorem State.setXfer_timeRuns (s : State) (m : Nat) (a : Xfer)  : (s.setXfer m a).timeRuns  = s.timeRuns  := rfl
@[simp] theorem State.setXfer_dispFine (s : State) (m : Nat) (a : Xfer)  : (s.setXfer m a).dispFine  = s.dispFine  := rfl
@[simp] theorem State.setXfer_now (s : State) (m : Nat) (a : Xfer)  : (s.setXfer m a).now  = s.now  := rfl
@[simp] theorem State.setXfer_cal (s : State) (m : Nat) (a : Xfer)  : (s.setXfer m a).cal  = s.cal  := rfl
@[simp] theorem State.setXfer_running (s : State) (m : Nat) (a : Xfer)  : (s.setXfer m a).running  = s.running  := rfl
@[simp] theorem State.setXfer_active (s : State) (m : Nat) (a : Xfer) (n : Nat) : (s.setXfer m a).active n = s.active n := rfl
@[simp] theorem State.setXfer_isChild (s : State) (m : Nat) (a : Xfer) (n : Nat) : (s.setXfer m a).isChild n = s.isChild n := rfl
@[simp] theorem State.setXfer_port (s : State) (m : Nat) (a : Xfer) (n : Nat) : (s.setXfer m a).port n = s.port n := rfl
@[simp] theorem State.setXfer_view (s : State) (m : Nat) (a : Xfer) (n : Nat) : (s.setXfer m a).view n = s.view n := rfl
@[simp] theorem State.setXfer_ctx (s : State) (m : Nat) (a : Xfer) (n : Nat) : (s.setXfer m a).ctx n = s.ctx n := rfl
@[simp] theorem State.setXfer_buf (s : State) (m : Nat) (a : Xfer) (n : Nat) : (s.setXfer m a).buf n = s.buf n := rfl
@[simp] theorem State.setXfer_quad (s : State) (m : Nat) (a : Xfer) (n : Nat) : (s.setXfer m a).quad n = s.quad n := rfl
@[simp] theorem State.setXfer_lout (s : State) (m : Nat) (a : Xfer) (n : Nat) : (s.setXfer m a).lout n = s.lout n := rfl
@[simp] theorem State.setXfer_job (s : State) (m : Nat) (a : Xfer) (n : Nat) : (s.setXfer m a).job n = s.job n := rfl

/-! ### setJob -/

@[simp] theorem State.setJob_regs (s : State) (m : Nat) (a : Job) : (s.setJob m a).regs = s.regs := rfl
@[simp] theorem State.setJob_revs (s : State) (m : Nat) (a : Job) : (s.setJob m a).revs = s.revs := rfl
@[simp] theorem State.setJob_ports (s : State) (m : Nat) (a : Job) : (s.setJob m a).ports = s.ports := rfl
@[simp] theorem State.setJob_lanes (s : State) (m : Nat) (a : Job) : (s.setJob m a).lanes = s.lanes := rfl
@[simp] theorem State.setJob_outcomes (s : State) (m : Nat) (a : Job) : (s.setJob m a).outcomes = s.outcomes := rfl
@[simp] theorem State.setJob_sweeps (s : State) (m : Nat) (a : Job) : (s.setJob m a).sweeps = s.sweeps := rfl
@[simp] theorem State.setJob_sweepPkts (s : State) (m : Nat) (a : Job) : (s.setJob m a).sweepPkts = s.sweepPkts := rfl
@[simp] theorem State.setJob_time (s : State) (m : Nat) (a : Job) : (s.setJob m a).time = s.time := rfl
@[simp] theorem State.setJob_aon (s : State) (m : Nat) (a : Job) : (s.setJob m a).aon = s.aon := rfl
@[simp] theorem State.setJob_views (s : State) (m : Nat) (a : Job) : (s.setJob m a).views = s.views := rfl
@[simp] theorem State.setJob_syncIn (s : State) (m : Nat) (a : Job) : (s.setJob m a).syncIn = s.syncIn := rfl
@[simp] theorem State.setJob_syncOut (s : State) (m : Nat) (a : Job) : (s.setJob m a).syncOut = s.syncOut := rfl
@[simp] theorem State.setJob_ctxs (s : State) (m : Nat) (a : Job) : (s.setJob m a).ctxs = s.ctxs := rfl
@[simp] theorem State.setJob_bufs (s : State) (m : Nat) (a : Job) : (s.setJob m a).bufs = s.bufs := rfl
@[simp] theorem State.setJob_shown (s : State) (m : Nat) (a : Job) : (s.setJob m a).shown = s.shown := rfl
@[simp] theorem State.setJob_quarry (s : State) (m : Nat) (a : Job) : (s.setJob m a).quarry = s.quarry := rfl
@[simp] theorem State.setJob_fills (s : State) (m : Nat) (a : Job) : (s.setJob m a).fills = s.fills := rfl
@[simp] theorem State.setJob_cap (s : State) (m : Nat) (a : Job) : (s.setJob m a).cap = s.cap := rfl
@[simp] theorem State.setJob_defects (s : State) (m : Nat) (a : Job) : (s.setJob m a).defects = s.defects := rfl
@[simp] theorem State.setJob_modl (s : State) (m : Nat) (a : Job) : (s.setJob m a).modl = s.modl := rfl
@[simp] theorem State.setJob_quads (s : State) (m : Nat) (a : Job) : (s.setJob m a).quads = s.quads := rfl
@[simp] theorem State.setJob_groups (s : State) (m : Nat) (a : Job) : (s.setJob m a).groups = s.groups := rfl
@[simp] theorem State.setJob_tes (s : State) (m : Nat) (a : Job) : (s.setJob m a).tes = s.tes := rfl
@[simp] theorem State.setJob_louts (s : State) (m : Nat) (a : Job) : (s.setJob m a).louts = s.louts := rfl
@[simp] theorem State.setJob_rows (s : State) (m : Nat) (a : Job) : (s.setJob m a).rows = s.rows := rfl
@[simp] theorem State.setJob_mgmt (s : State) (m : Nat) (a : Job) : (s.setJob m a).mgmt = s.mgmt := rfl
@[simp] theorem State.setJob_xfers (s : State) (m : Nat) (a : Job) : (s.setJob m a).xfers = s.xfers := rfl
@[simp] theorem State.setJob_secure (s : State) (m : Nat) (a : Job) : (s.setJob m a).secure = s.secure := rfl
@[simp] theorem State.setJob_power (s : State) (m : Nat) (a : Job) : (s.setJob m a).power = s.power := rfl
@[simp] theorem State.setJob_thermal (s : State) (m : Nat) (a : Job) : (s.setJob m a).thermal = s.thermal := rfl
@[simp] theorem State.setJob_boot (s : State) (m : Nat) (a : Job) : (s.setJob m a).boot = s.boot := rfl
@[simp] theorem State.setJob_jtag (s : State) (m : Nat) (a : Job) : (s.setJob m a).jtag = s.jtag := rfl
@[simp] theorem State.setJob_tables (s : State) (m : Nat) (a : Job) : (s.setJob m a).tables = s.tables := rfl
@[simp] theorem State.setJob_tablePad (s : State) (m : Nat) (a : Job) : (s.setJob m a).tablePad = s.tablePad := rfl
@[simp] theorem State.setJob_draws (s : State) (m : Nat) (a : Job) : (s.setJob m a).draws = s.draws := rfl
@[simp] theorem State.setJob_pending (s : State) (m : Nat) (a : Job) : (s.setJob m a).pending = s.pending := rfl
@[simp] theorem State.setJob_rdv (s : State) (m : Nat) (a : Job) (e : Ent) (i : Nat) : (s.setJob m a).rdv e i = s.rdv e i := rfl
@[simp] theorem State.setJob_rd (s : State) (m : Nat) (a : Job) (e : Ent) (i : Nat) : (s.setJob m a).rd e i = s.rd e i := rfl
@[simp] theorem State.setJob_rdn (s : State) (m : Nat) (a : Job) (e : Ent) (i q : Nat) : (s.setJob m a).rdn e i q = s.rdn e i q := rfl
@[simp] theorem State.setJob_lane (s : State) (m : Nat) (a : Job) (n l : Nat) : (s.setJob m a).lane n l = s.lane n l := rfl
@[simp] theorem State.setJob_session (s : State) (m : Nat) (a : Job) (n : Nat) : (s.setJob m a).session n = s.session n := rfl
@[simp] theorem State.setJob_domain (s : State) (m : Nat) (a : Job) (n : Nat) : (s.setJob m a).domain n = s.domain n := rfl
@[simp] theorem State.setJob_rail (s : State) (m : Nat) (a : Job) (n : Nat) : (s.setJob m a).rail n = s.rail n := rfl
@[simp] theorem State.setJob_on (s : State) (m : Nat) (a : Job) (n : Nat) : (s.setJob m a).on n = s.on n := rfl
@[simp] theorem State.setJob_alive (s : State) (m : Nat) (a : Job) (n : Nat) : (s.setJob m a).alive n = s.alive n := rfl
@[simp] theorem State.setJob_timeRuns (s : State) (m : Nat) (a : Job)  : (s.setJob m a).timeRuns  = s.timeRuns  := rfl
@[simp] theorem State.setJob_dispFine (s : State) (m : Nat) (a : Job)  : (s.setJob m a).dispFine  = s.dispFine  := rfl
@[simp] theorem State.setJob_now (s : State) (m : Nat) (a : Job)  : (s.setJob m a).now  = s.now  := rfl
@[simp] theorem State.setJob_cal (s : State) (m : Nat) (a : Job)  : (s.setJob m a).cal  = s.cal  := rfl
@[simp] theorem State.setJob_running (s : State) (m : Nat) (a : Job)  : (s.setJob m a).running  = s.running  := rfl
@[simp] theorem State.setJob_active (s : State) (m : Nat) (a : Job) (n : Nat) : (s.setJob m a).active n = s.active n := rfl
@[simp] theorem State.setJob_isChild (s : State) (m : Nat) (a : Job) (n : Nat) : (s.setJob m a).isChild n = s.isChild n := rfl
@[simp] theorem State.setJob_port (s : State) (m : Nat) (a : Job) (n : Nat) : (s.setJob m a).port n = s.port n := rfl
@[simp] theorem State.setJob_view (s : State) (m : Nat) (a : Job) (n : Nat) : (s.setJob m a).view n = s.view n := rfl
@[simp] theorem State.setJob_ctx (s : State) (m : Nat) (a : Job) (n : Nat) : (s.setJob m a).ctx n = s.ctx n := rfl
@[simp] theorem State.setJob_buf (s : State) (m : Nat) (a : Job) (n : Nat) : (s.setJob m a).buf n = s.buf n := rfl
@[simp] theorem State.setJob_quad (s : State) (m : Nat) (a : Job) (n : Nat) : (s.setJob m a).quad n = s.quad n := rfl
@[simp] theorem State.setJob_lout (s : State) (m : Nat) (a : Job) (n : Nat) : (s.setJob m a).lout n = s.lout n := rfl
@[simp] theorem State.setJob_xfer (s : State) (m : Nat) (a : Job) (n : Nat) : (s.setJob m a).xfer n = s.xfer n := rfl

/-! ### setSession -/

@[simp] theorem State.setSession_regs (s : State) (m : Nat) (a : Session) : (s.setSession m a).regs = s.regs := rfl
@[simp] theorem State.setSession_revs (s : State) (m : Nat) (a : Session) : (s.setSession m a).revs = s.revs := rfl
@[simp] theorem State.setSession_ports (s : State) (m : Nat) (a : Session) : (s.setSession m a).ports = s.ports := rfl
@[simp] theorem State.setSession_lanes (s : State) (m : Nat) (a : Session) : (s.setSession m a).lanes = s.lanes := rfl
@[simp] theorem State.setSession_outcomes (s : State) (m : Nat) (a : Session) : (s.setSession m a).outcomes = s.outcomes := rfl
@[simp] theorem State.setSession_sweeps (s : State) (m : Nat) (a : Session) : (s.setSession m a).sweeps = s.sweeps := rfl
@[simp] theorem State.setSession_sweepPkts (s : State) (m : Nat) (a : Session) : (s.setSession m a).sweepPkts = s.sweepPkts := rfl
@[simp] theorem State.setSession_time (s : State) (m : Nat) (a : Session) : (s.setSession m a).time = s.time := rfl
@[simp] theorem State.setSession_aon (s : State) (m : Nat) (a : Session) : (s.setSession m a).aon = s.aon := rfl
@[simp] theorem State.setSession_views (s : State) (m : Nat) (a : Session) : (s.setSession m a).views = s.views := rfl
@[simp] theorem State.setSession_syncIn (s : State) (m : Nat) (a : Session) : (s.setSession m a).syncIn = s.syncIn := rfl
@[simp] theorem State.setSession_syncOut (s : State) (m : Nat) (a : Session) : (s.setSession m a).syncOut = s.syncOut := rfl
@[simp] theorem State.setSession_ctxs (s : State) (m : Nat) (a : Session) : (s.setSession m a).ctxs = s.ctxs := rfl
@[simp] theorem State.setSession_bufs (s : State) (m : Nat) (a : Session) : (s.setSession m a).bufs = s.bufs := rfl
@[simp] theorem State.setSession_shown (s : State) (m : Nat) (a : Session) : (s.setSession m a).shown = s.shown := rfl
@[simp] theorem State.setSession_quarry (s : State) (m : Nat) (a : Session) : (s.setSession m a).quarry = s.quarry := rfl
@[simp] theorem State.setSession_fills (s : State) (m : Nat) (a : Session) : (s.setSession m a).fills = s.fills := rfl
@[simp] theorem State.setSession_cap (s : State) (m : Nat) (a : Session) : (s.setSession m a).cap = s.cap := rfl
@[simp] theorem State.setSession_defects (s : State) (m : Nat) (a : Session) : (s.setSession m a).defects = s.defects := rfl
@[simp] theorem State.setSession_modl (s : State) (m : Nat) (a : Session) : (s.setSession m a).modl = s.modl := rfl
@[simp] theorem State.setSession_quads (s : State) (m : Nat) (a : Session) : (s.setSession m a).quads = s.quads := rfl
@[simp] theorem State.setSession_groups (s : State) (m : Nat) (a : Session) : (s.setSession m a).groups = s.groups := rfl
@[simp] theorem State.setSession_tes (s : State) (m : Nat) (a : Session) : (s.setSession m a).tes = s.tes := rfl
@[simp] theorem State.setSession_louts (s : State) (m : Nat) (a : Session) : (s.setSession m a).louts = s.louts := rfl
@[simp] theorem State.setSession_rows (s : State) (m : Nat) (a : Session) : (s.setSession m a).rows = s.rows := rfl
@[simp] theorem State.setSession_xfers (s : State) (m : Nat) (a : Session) : (s.setSession m a).xfers = s.xfers := rfl
@[simp] theorem State.setSession_jobs (s : State) (m : Nat) (a : Session) : (s.setSession m a).jobs = s.jobs := rfl
@[simp] theorem State.setSession_secure (s : State) (m : Nat) (a : Session) : (s.setSession m a).secure = s.secure := rfl
@[simp] theorem State.setSession_power (s : State) (m : Nat) (a : Session) : (s.setSession m a).power = s.power := rfl
@[simp] theorem State.setSession_thermal (s : State) (m : Nat) (a : Session) : (s.setSession m a).thermal = s.thermal := rfl
@[simp] theorem State.setSession_boot (s : State) (m : Nat) (a : Session) : (s.setSession m a).boot = s.boot := rfl
@[simp] theorem State.setSession_jtag (s : State) (m : Nat) (a : Session) : (s.setSession m a).jtag = s.jtag := rfl
@[simp] theorem State.setSession_tables (s : State) (m : Nat) (a : Session) : (s.setSession m a).tables = s.tables := rfl
@[simp] theorem State.setSession_tablePad (s : State) (m : Nat) (a : Session) : (s.setSession m a).tablePad = s.tablePad := rfl
@[simp] theorem State.setSession_draws (s : State) (m : Nat) (a : Session) : (s.setSession m a).draws = s.draws := rfl
@[simp] theorem State.setSession_pending (s : State) (m : Nat) (a : Session) : (s.setSession m a).pending = s.pending := rfl
@[simp] theorem State.setSession_rdv (s : State) (m : Nat) (a : Session) (e : Ent) (i : Nat) : (s.setSession m a).rdv e i = s.rdv e i := rfl
@[simp] theorem State.setSession_rd (s : State) (m : Nat) (a : Session) (e : Ent) (i : Nat) : (s.setSession m a).rd e i = s.rd e i := rfl
@[simp] theorem State.setSession_rdn (s : State) (m : Nat) (a : Session) (e : Ent) (i q : Nat) : (s.setSession m a).rdn e i q = s.rdn e i q := rfl
@[simp] theorem State.setSession_lane (s : State) (m : Nat) (a : Session) (n l : Nat) : (s.setSession m a).lane n l = s.lane n l := rfl
@[simp] theorem State.setSession_domain (s : State) (m : Nat) (a : Session) (n : Nat) : (s.setSession m a).domain n = s.domain n := rfl
@[simp] theorem State.setSession_rail (s : State) (m : Nat) (a : Session) (n : Nat) : (s.setSession m a).rail n = s.rail n := rfl
@[simp] theorem State.setSession_on (s : State) (m : Nat) (a : Session) (n : Nat) : (s.setSession m a).on n = s.on n := rfl
@[simp] theorem State.setSession_alive (s : State) (m : Nat) (a : Session) (n : Nat) : (s.setSession m a).alive n = s.alive n := rfl
@[simp] theorem State.setSession_timeRuns (s : State) (m : Nat) (a : Session)  : (s.setSession m a).timeRuns  = s.timeRuns  := rfl
@[simp] theorem State.setSession_dispFine (s : State) (m : Nat) (a : Session)  : (s.setSession m a).dispFine  = s.dispFine  := rfl
@[simp] theorem State.setSession_now (s : State) (m : Nat) (a : Session)  : (s.setSession m a).now  = s.now  := rfl
@[simp] theorem State.setSession_cal (s : State) (m : Nat) (a : Session)  : (s.setSession m a).cal  = s.cal  := rfl
@[simp] theorem State.setSession_running (s : State) (m : Nat) (a : Session)  : (s.setSession m a).running  = s.running  := rfl
@[simp] theorem State.setSession_active (s : State) (m : Nat) (a : Session) (n : Nat) : (s.setSession m a).active n = s.active n := rfl
@[simp] theorem State.setSession_isChild (s : State) (m : Nat) (a : Session) (n : Nat) : (s.setSession m a).isChild n = s.isChild n := rfl
@[simp] theorem State.setSession_port (s : State) (m : Nat) (a : Session) (n : Nat) : (s.setSession m a).port n = s.port n := rfl
@[simp] theorem State.setSession_view (s : State) (m : Nat) (a : Session) (n : Nat) : (s.setSession m a).view n = s.view n := rfl
@[simp] theorem State.setSession_ctx (s : State) (m : Nat) (a : Session) (n : Nat) : (s.setSession m a).ctx n = s.ctx n := rfl
@[simp] theorem State.setSession_buf (s : State) (m : Nat) (a : Session) (n : Nat) : (s.setSession m a).buf n = s.buf n := rfl
@[simp] theorem State.setSession_quad (s : State) (m : Nat) (a : Session) (n : Nat) : (s.setSession m a).quad n = s.quad n := rfl
@[simp] theorem State.setSession_lout (s : State) (m : Nat) (a : Session) (n : Nat) : (s.setSession m a).lout n = s.lout n := rfl
@[simp] theorem State.setSession_xfer (s : State) (m : Nat) (a : Session) (n : Nat) : (s.setSession m a).xfer n = s.xfer n := rfl
@[simp] theorem State.setSession_job (s : State) (m : Nat) (a : Session) (n : Nat) : (s.setSession m a).job n = s.job n := rfl

/-! ### setDomain -/

@[simp] theorem State.setDomain_regs (s : State) (m : Nat) (a : Domain) : (s.setDomain m a).regs = s.regs := rfl
@[simp] theorem State.setDomain_revs (s : State) (m : Nat) (a : Domain) : (s.setDomain m a).revs = s.revs := rfl
@[simp] theorem State.setDomain_ports (s : State) (m : Nat) (a : Domain) : (s.setDomain m a).ports = s.ports := rfl
@[simp] theorem State.setDomain_lanes (s : State) (m : Nat) (a : Domain) : (s.setDomain m a).lanes = s.lanes := rfl
@[simp] theorem State.setDomain_outcomes (s : State) (m : Nat) (a : Domain) : (s.setDomain m a).outcomes = s.outcomes := rfl
@[simp] theorem State.setDomain_sweeps (s : State) (m : Nat) (a : Domain) : (s.setDomain m a).sweeps = s.sweeps := rfl
@[simp] theorem State.setDomain_sweepPkts (s : State) (m : Nat) (a : Domain) : (s.setDomain m a).sweepPkts = s.sweepPkts := rfl
@[simp] theorem State.setDomain_time (s : State) (m : Nat) (a : Domain) : (s.setDomain m a).time = s.time := rfl
@[simp] theorem State.setDomain_aon (s : State) (m : Nat) (a : Domain) : (s.setDomain m a).aon = s.aon := rfl
@[simp] theorem State.setDomain_views (s : State) (m : Nat) (a : Domain) : (s.setDomain m a).views = s.views := rfl
@[simp] theorem State.setDomain_syncIn (s : State) (m : Nat) (a : Domain) : (s.setDomain m a).syncIn = s.syncIn := rfl
@[simp] theorem State.setDomain_syncOut (s : State) (m : Nat) (a : Domain) : (s.setDomain m a).syncOut = s.syncOut := rfl
@[simp] theorem State.setDomain_ctxs (s : State) (m : Nat) (a : Domain) : (s.setDomain m a).ctxs = s.ctxs := rfl
@[simp] theorem State.setDomain_bufs (s : State) (m : Nat) (a : Domain) : (s.setDomain m a).bufs = s.bufs := rfl
@[simp] theorem State.setDomain_shown (s : State) (m : Nat) (a : Domain) : (s.setDomain m a).shown = s.shown := rfl
@[simp] theorem State.setDomain_quarry (s : State) (m : Nat) (a : Domain) : (s.setDomain m a).quarry = s.quarry := rfl
@[simp] theorem State.setDomain_fills (s : State) (m : Nat) (a : Domain) : (s.setDomain m a).fills = s.fills := rfl
@[simp] theorem State.setDomain_cap (s : State) (m : Nat) (a : Domain) : (s.setDomain m a).cap = s.cap := rfl
@[simp] theorem State.setDomain_defects (s : State) (m : Nat) (a : Domain) : (s.setDomain m a).defects = s.defects := rfl
@[simp] theorem State.setDomain_modl (s : State) (m : Nat) (a : Domain) : (s.setDomain m a).modl = s.modl := rfl
@[simp] theorem State.setDomain_quads (s : State) (m : Nat) (a : Domain) : (s.setDomain m a).quads = s.quads := rfl
@[simp] theorem State.setDomain_groups (s : State) (m : Nat) (a : Domain) : (s.setDomain m a).groups = s.groups := rfl
@[simp] theorem State.setDomain_tes (s : State) (m : Nat) (a : Domain) : (s.setDomain m a).tes = s.tes := rfl
@[simp] theorem State.setDomain_louts (s : State) (m : Nat) (a : Domain) : (s.setDomain m a).louts = s.louts := rfl
@[simp] theorem State.setDomain_rows (s : State) (m : Nat) (a : Domain) : (s.setDomain m a).rows = s.rows := rfl
@[simp] theorem State.setDomain_mgmt (s : State) (m : Nat) (a : Domain) : (s.setDomain m a).mgmt = s.mgmt := rfl
@[simp] theorem State.setDomain_xfers (s : State) (m : Nat) (a : Domain) : (s.setDomain m a).xfers = s.xfers := rfl
@[simp] theorem State.setDomain_jobs (s : State) (m : Nat) (a : Domain) : (s.setDomain m a).jobs = s.jobs := rfl
@[simp] theorem State.setDomain_secure (s : State) (m : Nat) (a : Domain) : (s.setDomain m a).secure = s.secure := rfl
@[simp] theorem State.setDomain_thermal (s : State) (m : Nat) (a : Domain) : (s.setDomain m a).thermal = s.thermal := rfl
@[simp] theorem State.setDomain_boot (s : State) (m : Nat) (a : Domain) : (s.setDomain m a).boot = s.boot := rfl
@[simp] theorem State.setDomain_jtag (s : State) (m : Nat) (a : Domain) : (s.setDomain m a).jtag = s.jtag := rfl
@[simp] theorem State.setDomain_tables (s : State) (m : Nat) (a : Domain) : (s.setDomain m a).tables = s.tables := rfl
@[simp] theorem State.setDomain_tablePad (s : State) (m : Nat) (a : Domain) : (s.setDomain m a).tablePad = s.tablePad := rfl
@[simp] theorem State.setDomain_draws (s : State) (m : Nat) (a : Domain) : (s.setDomain m a).draws = s.draws := rfl
@[simp] theorem State.setDomain_pending (s : State) (m : Nat) (a : Domain) : (s.setDomain m a).pending = s.pending := rfl
@[simp] theorem State.setDomain_rdv (s : State) (m : Nat) (a : Domain) (e : Ent) (i : Nat) : (s.setDomain m a).rdv e i = s.rdv e i := rfl
@[simp] theorem State.setDomain_rd (s : State) (m : Nat) (a : Domain) (e : Ent) (i : Nat) : (s.setDomain m a).rd e i = s.rd e i := rfl
@[simp] theorem State.setDomain_rdn (s : State) (m : Nat) (a : Domain) (e : Ent) (i q : Nat) : (s.setDomain m a).rdn e i q = s.rdn e i q := rfl
@[simp] theorem State.setDomain_lane (s : State) (m : Nat) (a : Domain) (n l : Nat) : (s.setDomain m a).lane n l = s.lane n l := rfl
@[simp] theorem State.setDomain_session (s : State) (m : Nat) (a : Domain) (n : Nat) : (s.setDomain m a).session n = s.session n := rfl
@[simp] theorem State.setDomain_dispFine (s : State) (m : Nat) (a : Domain)  : (s.setDomain m a).dispFine  = s.dispFine  := rfl
@[simp] theorem State.setDomain_now (s : State) (m : Nat) (a : Domain)  : (s.setDomain m a).now  = s.now  := rfl
@[simp] theorem State.setDomain_cal (s : State) (m : Nat) (a : Domain)  : (s.setDomain m a).cal  = s.cal  := rfl
@[simp] theorem State.setDomain_running (s : State) (m : Nat) (a : Domain)  : (s.setDomain m a).running  = s.running  := rfl
@[simp] theorem State.setDomain_active (s : State) (m : Nat) (a : Domain) (n : Nat) : (s.setDomain m a).active n = s.active n := rfl
@[simp] theorem State.setDomain_isChild (s : State) (m : Nat) (a : Domain) (n : Nat) : (s.setDomain m a).isChild n = s.isChild n := rfl
@[simp] theorem State.setDomain_port (s : State) (m : Nat) (a : Domain) (n : Nat) : (s.setDomain m a).port n = s.port n := rfl
@[simp] theorem State.setDomain_view (s : State) (m : Nat) (a : Domain) (n : Nat) : (s.setDomain m a).view n = s.view n := rfl
@[simp] theorem State.setDomain_ctx (s : State) (m : Nat) (a : Domain) (n : Nat) : (s.setDomain m a).ctx n = s.ctx n := rfl
@[simp] theorem State.setDomain_buf (s : State) (m : Nat) (a : Domain) (n : Nat) : (s.setDomain m a).buf n = s.buf n := rfl
@[simp] theorem State.setDomain_quad (s : State) (m : Nat) (a : Domain) (n : Nat) : (s.setDomain m a).quad n = s.quad n := rfl
@[simp] theorem State.setDomain_lout (s : State) (m : Nat) (a : Domain) (n : Nat) : (s.setDomain m a).lout n = s.lout n := rfl
@[simp] theorem State.setDomain_xfer (s : State) (m : Nat) (a : Domain) (n : Nat) : (s.setDomain m a).xfer n = s.xfer n := rfl
@[simp] theorem State.setDomain_job (s : State) (m : Nat) (a : Domain) (n : Nat) : (s.setDomain m a).job n = s.job n := rfl

/-! ### setRail -/

@[simp] theorem State.setRail_regs (s : State) (m : Nat) (a : Rail) : (s.setRail m a).regs = s.regs := rfl
@[simp] theorem State.setRail_revs (s : State) (m : Nat) (a : Rail) : (s.setRail m a).revs = s.revs := rfl
@[simp] theorem State.setRail_ports (s : State) (m : Nat) (a : Rail) : (s.setRail m a).ports = s.ports := rfl
@[simp] theorem State.setRail_lanes (s : State) (m : Nat) (a : Rail) : (s.setRail m a).lanes = s.lanes := rfl
@[simp] theorem State.setRail_outcomes (s : State) (m : Nat) (a : Rail) : (s.setRail m a).outcomes = s.outcomes := rfl
@[simp] theorem State.setRail_sweeps (s : State) (m : Nat) (a : Rail) : (s.setRail m a).sweeps = s.sweeps := rfl
@[simp] theorem State.setRail_sweepPkts (s : State) (m : Nat) (a : Rail) : (s.setRail m a).sweepPkts = s.sweepPkts := rfl
@[simp] theorem State.setRail_time (s : State) (m : Nat) (a : Rail) : (s.setRail m a).time = s.time := rfl
@[simp] theorem State.setRail_aon (s : State) (m : Nat) (a : Rail) : (s.setRail m a).aon = s.aon := rfl
@[simp] theorem State.setRail_views (s : State) (m : Nat) (a : Rail) : (s.setRail m a).views = s.views := rfl
@[simp] theorem State.setRail_syncIn (s : State) (m : Nat) (a : Rail) : (s.setRail m a).syncIn = s.syncIn := rfl
@[simp] theorem State.setRail_syncOut (s : State) (m : Nat) (a : Rail) : (s.setRail m a).syncOut = s.syncOut := rfl
@[simp] theorem State.setRail_ctxs (s : State) (m : Nat) (a : Rail) : (s.setRail m a).ctxs = s.ctxs := rfl
@[simp] theorem State.setRail_bufs (s : State) (m : Nat) (a : Rail) : (s.setRail m a).bufs = s.bufs := rfl
@[simp] theorem State.setRail_shown (s : State) (m : Nat) (a : Rail) : (s.setRail m a).shown = s.shown := rfl
@[simp] theorem State.setRail_quarry (s : State) (m : Nat) (a : Rail) : (s.setRail m a).quarry = s.quarry := rfl
@[simp] theorem State.setRail_fills (s : State) (m : Nat) (a : Rail) : (s.setRail m a).fills = s.fills := rfl
@[simp] theorem State.setRail_cap (s : State) (m : Nat) (a : Rail) : (s.setRail m a).cap = s.cap := rfl
@[simp] theorem State.setRail_defects (s : State) (m : Nat) (a : Rail) : (s.setRail m a).defects = s.defects := rfl
@[simp] theorem State.setRail_modl (s : State) (m : Nat) (a : Rail) : (s.setRail m a).modl = s.modl := rfl
@[simp] theorem State.setRail_quads (s : State) (m : Nat) (a : Rail) : (s.setRail m a).quads = s.quads := rfl
@[simp] theorem State.setRail_groups (s : State) (m : Nat) (a : Rail) : (s.setRail m a).groups = s.groups := rfl
@[simp] theorem State.setRail_tes (s : State) (m : Nat) (a : Rail) : (s.setRail m a).tes = s.tes := rfl
@[simp] theorem State.setRail_louts (s : State) (m : Nat) (a : Rail) : (s.setRail m a).louts = s.louts := rfl
@[simp] theorem State.setRail_rows (s : State) (m : Nat) (a : Rail) : (s.setRail m a).rows = s.rows := rfl
@[simp] theorem State.setRail_mgmt (s : State) (m : Nat) (a : Rail) : (s.setRail m a).mgmt = s.mgmt := rfl
@[simp] theorem State.setRail_xfers (s : State) (m : Nat) (a : Rail) : (s.setRail m a).xfers = s.xfers := rfl
@[simp] theorem State.setRail_jobs (s : State) (m : Nat) (a : Rail) : (s.setRail m a).jobs = s.jobs := rfl
@[simp] theorem State.setRail_secure (s : State) (m : Nat) (a : Rail) : (s.setRail m a).secure = s.secure := rfl
@[simp] theorem State.setRail_thermal (s : State) (m : Nat) (a : Rail) : (s.setRail m a).thermal = s.thermal := rfl
@[simp] theorem State.setRail_boot (s : State) (m : Nat) (a : Rail) : (s.setRail m a).boot = s.boot := rfl
@[simp] theorem State.setRail_jtag (s : State) (m : Nat) (a : Rail) : (s.setRail m a).jtag = s.jtag := rfl
@[simp] theorem State.setRail_tables (s : State) (m : Nat) (a : Rail) : (s.setRail m a).tables = s.tables := rfl
@[simp] theorem State.setRail_tablePad (s : State) (m : Nat) (a : Rail) : (s.setRail m a).tablePad = s.tablePad := rfl
@[simp] theorem State.setRail_draws (s : State) (m : Nat) (a : Rail) : (s.setRail m a).draws = s.draws := rfl
@[simp] theorem State.setRail_pending (s : State) (m : Nat) (a : Rail) : (s.setRail m a).pending = s.pending := rfl
@[simp] theorem State.setRail_rdv (s : State) (m : Nat) (a : Rail) (e : Ent) (i : Nat) : (s.setRail m a).rdv e i = s.rdv e i := rfl
@[simp] theorem State.setRail_rd (s : State) (m : Nat) (a : Rail) (e : Ent) (i : Nat) : (s.setRail m a).rd e i = s.rd e i := rfl
@[simp] theorem State.setRail_rdn (s : State) (m : Nat) (a : Rail) (e : Ent) (i q : Nat) : (s.setRail m a).rdn e i q = s.rdn e i q := rfl
@[simp] theorem State.setRail_lane (s : State) (m : Nat) (a : Rail) (n l : Nat) : (s.setRail m a).lane n l = s.lane n l := rfl
@[simp] theorem State.setRail_session (s : State) (m : Nat) (a : Rail) (n : Nat) : (s.setRail m a).session n = s.session n := rfl
@[simp] theorem State.setRail_dispFine (s : State) (m : Nat) (a : Rail)  : (s.setRail m a).dispFine  = s.dispFine  := rfl
@[simp] theorem State.setRail_now (s : State) (m : Nat) (a : Rail)  : (s.setRail m a).now  = s.now  := rfl
@[simp] theorem State.setRail_cal (s : State) (m : Nat) (a : Rail)  : (s.setRail m a).cal  = s.cal  := rfl
@[simp] theorem State.setRail_running (s : State) (m : Nat) (a : Rail)  : (s.setRail m a).running  = s.running  := rfl
@[simp] theorem State.setRail_active (s : State) (m : Nat) (a : Rail) (n : Nat) : (s.setRail m a).active n = s.active n := rfl
@[simp] theorem State.setRail_isChild (s : State) (m : Nat) (a : Rail) (n : Nat) : (s.setRail m a).isChild n = s.isChild n := rfl
@[simp] theorem State.setRail_port (s : State) (m : Nat) (a : Rail) (n : Nat) : (s.setRail m a).port n = s.port n := rfl
@[simp] theorem State.setRail_view (s : State) (m : Nat) (a : Rail) (n : Nat) : (s.setRail m a).view n = s.view n := rfl
@[simp] theorem State.setRail_ctx (s : State) (m : Nat) (a : Rail) (n : Nat) : (s.setRail m a).ctx n = s.ctx n := rfl
@[simp] theorem State.setRail_buf (s : State) (m : Nat) (a : Rail) (n : Nat) : (s.setRail m a).buf n = s.buf n := rfl
@[simp] theorem State.setRail_quad (s : State) (m : Nat) (a : Rail) (n : Nat) : (s.setRail m a).quad n = s.quad n := rfl
@[simp] theorem State.setRail_lout (s : State) (m : Nat) (a : Rail) (n : Nat) : (s.setRail m a).lout n = s.lout n := rfl
@[simp] theorem State.setRail_xfer (s : State) (m : Nat) (a : Rail) (n : Nat) : (s.setRail m a).xfer n = s.xfer n := rfl
@[simp] theorem State.setRail_job (s : State) (m : Nat) (a : Rail) (n : Nat) : (s.setRail m a).job n = s.job n := rfl

/-! ### timeTicks -/

@[simp] theorem State.timeTicks_regs (s : State) (m : Nat) : (s.timeTicks m).regs = s.regs := rfl
@[simp] theorem State.timeTicks_revs (s : State) (m : Nat) : (s.timeTicks m).revs = s.revs := rfl
@[simp] theorem State.timeTicks_ports (s : State) (m : Nat) : (s.timeTicks m).ports = s.ports := rfl
@[simp] theorem State.timeTicks_lanes (s : State) (m : Nat) : (s.timeTicks m).lanes = s.lanes := rfl
@[simp] theorem State.timeTicks_outcomes (s : State) (m : Nat) : (s.timeTicks m).outcomes = s.outcomes := rfl
@[simp] theorem State.timeTicks_sweeps (s : State) (m : Nat) : (s.timeTicks m).sweeps = s.sweeps := rfl
@[simp] theorem State.timeTicks_sweepPkts (s : State) (m : Nat) : (s.timeTicks m).sweepPkts = s.sweepPkts := rfl
@[simp] theorem State.timeTicks_views (s : State) (m : Nat) : (s.timeTicks m).views = s.views := rfl
@[simp] theorem State.timeTicks_syncIn (s : State) (m : Nat) : (s.timeTicks m).syncIn = s.syncIn := rfl
@[simp] theorem State.timeTicks_syncOut (s : State) (m : Nat) : (s.timeTicks m).syncOut = s.syncOut := rfl
@[simp] theorem State.timeTicks_ctxs (s : State) (m : Nat) : (s.timeTicks m).ctxs = s.ctxs := rfl
@[simp] theorem State.timeTicks_bufs (s : State) (m : Nat) : (s.timeTicks m).bufs = s.bufs := rfl
@[simp] theorem State.timeTicks_shown (s : State) (m : Nat) : (s.timeTicks m).shown = s.shown := rfl
@[simp] theorem State.timeTicks_quarry (s : State) (m : Nat) : (s.timeTicks m).quarry = s.quarry := rfl
@[simp] theorem State.timeTicks_fills (s : State) (m : Nat) : (s.timeTicks m).fills = s.fills := rfl
@[simp] theorem State.timeTicks_cap (s : State) (m : Nat) : (s.timeTicks m).cap = s.cap := rfl
@[simp] theorem State.timeTicks_defects (s : State) (m : Nat) : (s.timeTicks m).defects = s.defects := rfl
@[simp] theorem State.timeTicks_modl (s : State) (m : Nat) : (s.timeTicks m).modl = s.modl := rfl
@[simp] theorem State.timeTicks_quads (s : State) (m : Nat) : (s.timeTicks m).quads = s.quads := rfl
@[simp] theorem State.timeTicks_groups (s : State) (m : Nat) : (s.timeTicks m).groups = s.groups := rfl
@[simp] theorem State.timeTicks_tes (s : State) (m : Nat) : (s.timeTicks m).tes = s.tes := rfl
@[simp] theorem State.timeTicks_louts (s : State) (m : Nat) : (s.timeTicks m).louts = s.louts := rfl
@[simp] theorem State.timeTicks_rows (s : State) (m : Nat) : (s.timeTicks m).rows = s.rows := rfl
@[simp] theorem State.timeTicks_mgmt (s : State) (m : Nat) : (s.timeTicks m).mgmt = s.mgmt := rfl
@[simp] theorem State.timeTicks_xfers (s : State) (m : Nat) : (s.timeTicks m).xfers = s.xfers := rfl
@[simp] theorem State.timeTicks_jobs (s : State) (m : Nat) : (s.timeTicks m).jobs = s.jobs := rfl
@[simp] theorem State.timeTicks_secure (s : State) (m : Nat) : (s.timeTicks m).secure = s.secure := rfl
@[simp] theorem State.timeTicks_power (s : State) (m : Nat) : (s.timeTicks m).power = s.power := rfl
@[simp] theorem State.timeTicks_thermal (s : State) (m : Nat) : (s.timeTicks m).thermal = s.thermal := rfl
@[simp] theorem State.timeTicks_boot (s : State) (m : Nat) : (s.timeTicks m).boot = s.boot := rfl
@[simp] theorem State.timeTicks_jtag (s : State) (m : Nat) : (s.timeTicks m).jtag = s.jtag := rfl
@[simp] theorem State.timeTicks_tables (s : State) (m : Nat) : (s.timeTicks m).tables = s.tables := rfl
@[simp] theorem State.timeTicks_tablePad (s : State) (m : Nat) : (s.timeTicks m).tablePad = s.tablePad := rfl
@[simp] theorem State.timeTicks_draws (s : State) (m : Nat) : (s.timeTicks m).draws = s.draws := rfl
@[simp] theorem State.timeTicks_pending (s : State) (m : Nat) : (s.timeTicks m).pending = s.pending := rfl
@[simp] theorem State.timeTicks_rdv (s : State) (m : Nat) (e : Ent) (i : Nat) : (s.timeTicks m).rdv e i = s.rdv e i := rfl
@[simp] theorem State.timeTicks_rd (s : State) (m : Nat) (e : Ent) (i : Nat) : (s.timeTicks m).rd e i = s.rd e i := rfl
@[simp] theorem State.timeTicks_rdn (s : State) (m : Nat) (e : Ent) (i q : Nat) : (s.timeTicks m).rdn e i q = s.rdn e i q := rfl
@[simp] theorem State.timeTicks_lane (s : State) (m : Nat) (n l : Nat) : (s.timeTicks m).lane n l = s.lane n l := rfl
@[simp] theorem State.timeTicks_session (s : State) (m : Nat) (n : Nat) : (s.timeTicks m).session n = s.session n := rfl
@[simp] theorem State.timeTicks_domain (s : State) (m : Nat) (n : Nat) : (s.timeTicks m).domain n = s.domain n := rfl
@[simp] theorem State.timeTicks_rail (s : State) (m : Nat) (n : Nat) : (s.timeTicks m).rail n = s.rail n := rfl
@[simp] theorem State.timeTicks_on (s : State) (m : Nat) (n : Nat) : (s.timeTicks m).on n = s.on n := rfl
@[simp] theorem State.timeTicks_alive (s : State) (m : Nat) (n : Nat) : (s.timeTicks m).alive n = s.alive n := rfl
@[simp] theorem State.timeTicks_running (s : State) (m : Nat)  : (s.timeTicks m).running  = s.running  := rfl
@[simp] theorem State.timeTicks_active (s : State) (m : Nat) (n : Nat) : (s.timeTicks m).active n = s.active n := rfl
@[simp] theorem State.timeTicks_isChild (s : State) (m : Nat) (n : Nat) : (s.timeTicks m).isChild n = s.isChild n := rfl
@[simp] theorem State.timeTicks_port (s : State) (m : Nat) (n : Nat) : (s.timeTicks m).port n = s.port n := rfl
@[simp] theorem State.timeTicks_view (s : State) (m : Nat) (n : Nat) : (s.timeTicks m).view n = s.view n := rfl
@[simp] theorem State.timeTicks_ctx (s : State) (m : Nat) (n : Nat) : (s.timeTicks m).ctx n = s.ctx n := rfl
@[simp] theorem State.timeTicks_buf (s : State) (m : Nat) (n : Nat) : (s.timeTicks m).buf n = s.buf n := rfl
@[simp] theorem State.timeTicks_quad (s : State) (m : Nat) (n : Nat) : (s.timeTicks m).quad n = s.quad n := rfl
@[simp] theorem State.timeTicks_lout (s : State) (m : Nat) (n : Nat) : (s.timeTicks m).lout n = s.lout n := rfl
@[simp] theorem State.timeTicks_xfer (s : State) (m : Nat) (n : Nat) : (s.timeTicks m).xfer n = s.xfer n := rfl
@[simp] theorem State.timeTicks_job (s : State) (m : Nat) (n : Nat) : (s.timeTicks m).job n = s.job n := rfl

/-! ### slowTicks -/

@[simp] theorem State.slowTicks_regs (s : State) (m : Nat) : (s.slowTicks m).regs = s.regs := rfl
@[simp] theorem State.slowTicks_revs (s : State) (m : Nat) : (s.slowTicks m).revs = s.revs := rfl
@[simp] theorem State.slowTicks_ports (s : State) (m : Nat) : (s.slowTicks m).ports = s.ports := rfl
@[simp] theorem State.slowTicks_lanes (s : State) (m : Nat) : (s.slowTicks m).lanes = s.lanes := rfl
@[simp] theorem State.slowTicks_outcomes (s : State) (m : Nat) : (s.slowTicks m).outcomes = s.outcomes := rfl
@[simp] theorem State.slowTicks_sweeps (s : State) (m : Nat) : (s.slowTicks m).sweeps = s.sweeps := rfl
@[simp] theorem State.slowTicks_sweepPkts (s : State) (m : Nat) : (s.slowTicks m).sweepPkts = s.sweepPkts := rfl
@[simp] theorem State.slowTicks_time (s : State) (m : Nat) : (s.slowTicks m).time = s.time := rfl
@[simp] theorem State.slowTicks_views (s : State) (m : Nat) : (s.slowTicks m).views = s.views := rfl
@[simp] theorem State.slowTicks_syncIn (s : State) (m : Nat) : (s.slowTicks m).syncIn = s.syncIn := rfl
@[simp] theorem State.slowTicks_syncOut (s : State) (m : Nat) : (s.slowTicks m).syncOut = s.syncOut := rfl
@[simp] theorem State.slowTicks_ctxs (s : State) (m : Nat) : (s.slowTicks m).ctxs = s.ctxs := rfl
@[simp] theorem State.slowTicks_bufs (s : State) (m : Nat) : (s.slowTicks m).bufs = s.bufs := rfl
@[simp] theorem State.slowTicks_shown (s : State) (m : Nat) : (s.slowTicks m).shown = s.shown := rfl
@[simp] theorem State.slowTicks_quarry (s : State) (m : Nat) : (s.slowTicks m).quarry = s.quarry := rfl
@[simp] theorem State.slowTicks_fills (s : State) (m : Nat) : (s.slowTicks m).fills = s.fills := rfl
@[simp] theorem State.slowTicks_cap (s : State) (m : Nat) : (s.slowTicks m).cap = s.cap := rfl
@[simp] theorem State.slowTicks_defects (s : State) (m : Nat) : (s.slowTicks m).defects = s.defects := rfl
@[simp] theorem State.slowTicks_modl (s : State) (m : Nat) : (s.slowTicks m).modl = s.modl := rfl
@[simp] theorem State.slowTicks_quads (s : State) (m : Nat) : (s.slowTicks m).quads = s.quads := rfl
@[simp] theorem State.slowTicks_groups (s : State) (m : Nat) : (s.slowTicks m).groups = s.groups := rfl
@[simp] theorem State.slowTicks_tes (s : State) (m : Nat) : (s.slowTicks m).tes = s.tes := rfl
@[simp] theorem State.slowTicks_louts (s : State) (m : Nat) : (s.slowTicks m).louts = s.louts := rfl
@[simp] theorem State.slowTicks_rows (s : State) (m : Nat) : (s.slowTicks m).rows = s.rows := rfl
@[simp] theorem State.slowTicks_mgmt (s : State) (m : Nat) : (s.slowTicks m).mgmt = s.mgmt := rfl
@[simp] theorem State.slowTicks_xfers (s : State) (m : Nat) : (s.slowTicks m).xfers = s.xfers := rfl
@[simp] theorem State.slowTicks_jobs (s : State) (m : Nat) : (s.slowTicks m).jobs = s.jobs := rfl
@[simp] theorem State.slowTicks_secure (s : State) (m : Nat) : (s.slowTicks m).secure = s.secure := rfl
@[simp] theorem State.slowTicks_power (s : State) (m : Nat) : (s.slowTicks m).power = s.power := rfl
@[simp] theorem State.slowTicks_thermal (s : State) (m : Nat) : (s.slowTicks m).thermal = s.thermal := rfl
@[simp] theorem State.slowTicks_boot (s : State) (m : Nat) : (s.slowTicks m).boot = s.boot := rfl
@[simp] theorem State.slowTicks_jtag (s : State) (m : Nat) : (s.slowTicks m).jtag = s.jtag := rfl
@[simp] theorem State.slowTicks_tables (s : State) (m : Nat) : (s.slowTicks m).tables = s.tables := rfl
@[simp] theorem State.slowTicks_tablePad (s : State) (m : Nat) : (s.slowTicks m).tablePad = s.tablePad := rfl
@[simp] theorem State.slowTicks_draws (s : State) (m : Nat) : (s.slowTicks m).draws = s.draws := rfl
@[simp] theorem State.slowTicks_pending (s : State) (m : Nat) : (s.slowTicks m).pending = s.pending := rfl
@[simp] theorem State.slowTicks_rdv (s : State) (m : Nat) (e : Ent) (i : Nat) : (s.slowTicks m).rdv e i = s.rdv e i := rfl
@[simp] theorem State.slowTicks_rd (s : State) (m : Nat) (e : Ent) (i : Nat) : (s.slowTicks m).rd e i = s.rd e i := rfl
@[simp] theorem State.slowTicks_rdn (s : State) (m : Nat) (e : Ent) (i q : Nat) : (s.slowTicks m).rdn e i q = s.rdn e i q := rfl
@[simp] theorem State.slowTicks_lane (s : State) (m : Nat) (n l : Nat) : (s.slowTicks m).lane n l = s.lane n l := rfl
@[simp] theorem State.slowTicks_session (s : State) (m : Nat) (n : Nat) : (s.slowTicks m).session n = s.session n := rfl
@[simp] theorem State.slowTicks_domain (s : State) (m : Nat) (n : Nat) : (s.slowTicks m).domain n = s.domain n := rfl
@[simp] theorem State.slowTicks_rail (s : State) (m : Nat) (n : Nat) : (s.slowTicks m).rail n = s.rail n := rfl
@[simp] theorem State.slowTicks_on (s : State) (m : Nat) (n : Nat) : (s.slowTicks m).on n = s.on n := rfl
@[simp] theorem State.slowTicks_alive (s : State) (m : Nat) (n : Nat) : (s.slowTicks m).alive n = s.alive n := rfl
@[simp] theorem State.slowTicks_running (s : State) (m : Nat)  : (s.slowTicks m).running  = s.running  := rfl
@[simp] theorem State.slowTicks_active (s : State) (m : Nat) (n : Nat) : (s.slowTicks m).active n = s.active n := rfl
@[simp] theorem State.slowTicks_isChild (s : State) (m : Nat) (n : Nat) : (s.slowTicks m).isChild n = s.isChild n := rfl
@[simp] theorem State.slowTicks_port (s : State) (m : Nat) (n : Nat) : (s.slowTicks m).port n = s.port n := rfl
@[simp] theorem State.slowTicks_view (s : State) (m : Nat) (n : Nat) : (s.slowTicks m).view n = s.view n := rfl
@[simp] theorem State.slowTicks_ctx (s : State) (m : Nat) (n : Nat) : (s.slowTicks m).ctx n = s.ctx n := rfl
@[simp] theorem State.slowTicks_buf (s : State) (m : Nat) (n : Nat) : (s.slowTicks m).buf n = s.buf n := rfl
@[simp] theorem State.slowTicks_quad (s : State) (m : Nat) (n : Nat) : (s.slowTicks m).quad n = s.quad n := rfl
@[simp] theorem State.slowTicks_lout (s : State) (m : Nat) (n : Nat) : (s.slowTicks m).lout n = s.lout n := rfl
@[simp] theorem State.slowTicks_xfer (s : State) (m : Nat) (n : Nat) : (s.slowTicks m).xfer n = s.xfer n := rfl
@[simp] theorem State.slowTicks_job (s : State) (m : Nat) (n : Nat) : (s.slowTicks m).job n = s.job n := rfl

/-! ### quarryWrite -/

@[simp] theorem State.quarryWrite_regs (s : State) (m : Nat) (a : Bytes) : (s.quarryWrite m a).regs = s.regs := rfl
@[simp] theorem State.quarryWrite_revs (s : State) (m : Nat) (a : Bytes) : (s.quarryWrite m a).revs = s.revs := rfl
@[simp] theorem State.quarryWrite_ports (s : State) (m : Nat) (a : Bytes) : (s.quarryWrite m a).ports = s.ports := rfl
@[simp] theorem State.quarryWrite_lanes (s : State) (m : Nat) (a : Bytes) : (s.quarryWrite m a).lanes = s.lanes := rfl
@[simp] theorem State.quarryWrite_outcomes (s : State) (m : Nat) (a : Bytes) : (s.quarryWrite m a).outcomes = s.outcomes := rfl
@[simp] theorem State.quarryWrite_sweeps (s : State) (m : Nat) (a : Bytes) : (s.quarryWrite m a).sweeps = s.sweeps := rfl
@[simp] theorem State.quarryWrite_sweepPkts (s : State) (m : Nat) (a : Bytes) : (s.quarryWrite m a).sweepPkts = s.sweepPkts := rfl
@[simp] theorem State.quarryWrite_time (s : State) (m : Nat) (a : Bytes) : (s.quarryWrite m a).time = s.time := rfl
@[simp] theorem State.quarryWrite_aon (s : State) (m : Nat) (a : Bytes) : (s.quarryWrite m a).aon = s.aon := rfl
@[simp] theorem State.quarryWrite_views (s : State) (m : Nat) (a : Bytes) : (s.quarryWrite m a).views = s.views := rfl
@[simp] theorem State.quarryWrite_syncIn (s : State) (m : Nat) (a : Bytes) : (s.quarryWrite m a).syncIn = s.syncIn := rfl
@[simp] theorem State.quarryWrite_syncOut (s : State) (m : Nat) (a : Bytes) : (s.quarryWrite m a).syncOut = s.syncOut := rfl
@[simp] theorem State.quarryWrite_ctxs (s : State) (m : Nat) (a : Bytes) : (s.quarryWrite m a).ctxs = s.ctxs := rfl
@[simp] theorem State.quarryWrite_bufs (s : State) (m : Nat) (a : Bytes) : (s.quarryWrite m a).bufs = s.bufs := rfl
@[simp] theorem State.quarryWrite_shown (s : State) (m : Nat) (a : Bytes) : (s.quarryWrite m a).shown = s.shown := rfl
@[simp] theorem State.quarryWrite_fills (s : State) (m : Nat) (a : Bytes) : (s.quarryWrite m a).fills = s.fills := rfl
@[simp] theorem State.quarryWrite_cap (s : State) (m : Nat) (a : Bytes) : (s.quarryWrite m a).cap = s.cap := rfl
@[simp] theorem State.quarryWrite_defects (s : State) (m : Nat) (a : Bytes) : (s.quarryWrite m a).defects = s.defects := rfl
@[simp] theorem State.quarryWrite_modl (s : State) (m : Nat) (a : Bytes) : (s.quarryWrite m a).modl = s.modl := rfl
@[simp] theorem State.quarryWrite_quads (s : State) (m : Nat) (a : Bytes) : (s.quarryWrite m a).quads = s.quads := rfl
@[simp] theorem State.quarryWrite_groups (s : State) (m : Nat) (a : Bytes) : (s.quarryWrite m a).groups = s.groups := rfl
@[simp] theorem State.quarryWrite_tes (s : State) (m : Nat) (a : Bytes) : (s.quarryWrite m a).tes = s.tes := rfl
@[simp] theorem State.quarryWrite_louts (s : State) (m : Nat) (a : Bytes) : (s.quarryWrite m a).louts = s.louts := rfl
@[simp] theorem State.quarryWrite_rows (s : State) (m : Nat) (a : Bytes) : (s.quarryWrite m a).rows = s.rows := rfl
@[simp] theorem State.quarryWrite_mgmt (s : State) (m : Nat) (a : Bytes) : (s.quarryWrite m a).mgmt = s.mgmt := rfl
@[simp] theorem State.quarryWrite_xfers (s : State) (m : Nat) (a : Bytes) : (s.quarryWrite m a).xfers = s.xfers := rfl
@[simp] theorem State.quarryWrite_jobs (s : State) (m : Nat) (a : Bytes) : (s.quarryWrite m a).jobs = s.jobs := rfl
@[simp] theorem State.quarryWrite_secure (s : State) (m : Nat) (a : Bytes) : (s.quarryWrite m a).secure = s.secure := rfl
@[simp] theorem State.quarryWrite_power (s : State) (m : Nat) (a : Bytes) : (s.quarryWrite m a).power = s.power := rfl
@[simp] theorem State.quarryWrite_thermal (s : State) (m : Nat) (a : Bytes) : (s.quarryWrite m a).thermal = s.thermal := rfl
@[simp] theorem State.quarryWrite_boot (s : State) (m : Nat) (a : Bytes) : (s.quarryWrite m a).boot = s.boot := rfl
@[simp] theorem State.quarryWrite_jtag (s : State) (m : Nat) (a : Bytes) : (s.quarryWrite m a).jtag = s.jtag := rfl
@[simp] theorem State.quarryWrite_tables (s : State) (m : Nat) (a : Bytes) : (s.quarryWrite m a).tables = s.tables := rfl
@[simp] theorem State.quarryWrite_tablePad (s : State) (m : Nat) (a : Bytes) : (s.quarryWrite m a).tablePad = s.tablePad := rfl
@[simp] theorem State.quarryWrite_draws (s : State) (m : Nat) (a : Bytes) : (s.quarryWrite m a).draws = s.draws := rfl
@[simp] theorem State.quarryWrite_pending (s : State) (m : Nat) (a : Bytes) : (s.quarryWrite m a).pending = s.pending := rfl
@[simp] theorem State.quarryWrite_rdv (s : State) (m : Nat) (a : Bytes) (e : Ent) (i : Nat) : (s.quarryWrite m a).rdv e i = s.rdv e i := rfl
@[simp] theorem State.quarryWrite_rd (s : State) (m : Nat) (a : Bytes) (e : Ent) (i : Nat) : (s.quarryWrite m a).rd e i = s.rd e i := rfl
@[simp] theorem State.quarryWrite_rdn (s : State) (m : Nat) (a : Bytes) (e : Ent) (i q : Nat) : (s.quarryWrite m a).rdn e i q = s.rdn e i q := rfl
@[simp] theorem State.quarryWrite_lane (s : State) (m : Nat) (a : Bytes) (n l : Nat) : (s.quarryWrite m a).lane n l = s.lane n l := rfl
@[simp] theorem State.quarryWrite_session (s : State) (m : Nat) (a : Bytes) (n : Nat) : (s.quarryWrite m a).session n = s.session n := rfl
@[simp] theorem State.quarryWrite_domain (s : State) (m : Nat) (a : Bytes) (n : Nat) : (s.quarryWrite m a).domain n = s.domain n := rfl
@[simp] theorem State.quarryWrite_rail (s : State) (m : Nat) (a : Bytes) (n : Nat) : (s.quarryWrite m a).rail n = s.rail n := rfl
@[simp] theorem State.quarryWrite_on (s : State) (m : Nat) (a : Bytes) (n : Nat) : (s.quarryWrite m a).on n = s.on n := rfl
@[simp] theorem State.quarryWrite_alive (s : State) (m : Nat) (a : Bytes) (n : Nat) : (s.quarryWrite m a).alive n = s.alive n := rfl
@[simp] theorem State.quarryWrite_timeRuns (s : State) (m : Nat) (a : Bytes)  : (s.quarryWrite m a).timeRuns  = s.timeRuns  := rfl
@[simp] theorem State.quarryWrite_dispFine (s : State) (m : Nat) (a : Bytes)  : (s.quarryWrite m a).dispFine  = s.dispFine  := rfl
@[simp] theorem State.quarryWrite_now (s : State) (m : Nat) (a : Bytes)  : (s.quarryWrite m a).now  = s.now  := rfl
@[simp] theorem State.quarryWrite_cal (s : State) (m : Nat) (a : Bytes)  : (s.quarryWrite m a).cal  = s.cal  := rfl
@[simp] theorem State.quarryWrite_running (s : State) (m : Nat) (a : Bytes)  : (s.quarryWrite m a).running  = s.running  := rfl
@[simp] theorem State.quarryWrite_active (s : State) (m : Nat) (a : Bytes) (n : Nat) : (s.quarryWrite m a).active n = s.active n := rfl
@[simp] theorem State.quarryWrite_isChild (s : State) (m : Nat) (a : Bytes) (n : Nat) : (s.quarryWrite m a).isChild n = s.isChild n := rfl
@[simp] theorem State.quarryWrite_port (s : State) (m : Nat) (a : Bytes) (n : Nat) : (s.quarryWrite m a).port n = s.port n := rfl
@[simp] theorem State.quarryWrite_view (s : State) (m : Nat) (a : Bytes) (n : Nat) : (s.quarryWrite m a).view n = s.view n := rfl
@[simp] theorem State.quarryWrite_ctx (s : State) (m : Nat) (a : Bytes) (n : Nat) : (s.quarryWrite m a).ctx n = s.ctx n := rfl
@[simp] theorem State.quarryWrite_buf (s : State) (m : Nat) (a : Bytes) (n : Nat) : (s.quarryWrite m a).buf n = s.buf n := rfl
@[simp] theorem State.quarryWrite_quad (s : State) (m : Nat) (a : Bytes) (n : Nat) : (s.quarryWrite m a).quad n = s.quad n := rfl
@[simp] theorem State.quarryWrite_lout (s : State) (m : Nat) (a : Bytes) (n : Nat) : (s.quarryWrite m a).lout n = s.lout n := rfl
@[simp] theorem State.quarryWrite_xfer (s : State) (m : Nat) (a : Bytes) (n : Nat) : (s.quarryWrite m a).xfer n = s.xfer n := rfl
@[simp] theorem State.quarryWrite_job (s : State) (m : Nat) (a : Bytes) (n : Nat) : (s.quarryWrite m a).job n = s.job n := rfl

/-! ### wrv -/

@[simp] theorem State.wrv_ports (s : State) (f : Ent) (j : Nat) (v : Val) : (s.wrv f j v).ports = s.ports := by
  unfold State.wrv; split <;> rfl
@[simp] theorem State.wrv_lanes (s : State) (f : Ent) (j : Nat) (v : Val) : (s.wrv f j v).lanes = s.lanes := by
  unfold State.wrv; split <;> rfl
@[simp] theorem State.wrv_outcomes (s : State) (f : Ent) (j : Nat) (v : Val) : (s.wrv f j v).outcomes = s.outcomes := by
  unfold State.wrv; split <;> rfl
@[simp] theorem State.wrv_sweeps (s : State) (f : Ent) (j : Nat) (v : Val) : (s.wrv f j v).sweeps = s.sweeps := by
  unfold State.wrv; split <;> rfl
@[simp] theorem State.wrv_sweepPkts (s : State) (f : Ent) (j : Nat) (v : Val) : (s.wrv f j v).sweepPkts = s.sweepPkts := by
  unfold State.wrv; split <;> rfl
@[simp] theorem State.wrv_time (s : State) (f : Ent) (j : Nat) (v : Val) : (s.wrv f j v).time = s.time := by
  unfold State.wrv; split <;> rfl
@[simp] theorem State.wrv_aon (s : State) (f : Ent) (j : Nat) (v : Val) : (s.wrv f j v).aon = s.aon := by
  unfold State.wrv; split <;> rfl
@[simp] theorem State.wrv_views (s : State) (f : Ent) (j : Nat) (v : Val) : (s.wrv f j v).views = s.views := by
  unfold State.wrv; split <;> rfl
@[simp] theorem State.wrv_syncIn (s : State) (f : Ent) (j : Nat) (v : Val) : (s.wrv f j v).syncIn = s.syncIn := by
  unfold State.wrv; split <;> rfl
@[simp] theorem State.wrv_syncOut (s : State) (f : Ent) (j : Nat) (v : Val) : (s.wrv f j v).syncOut = s.syncOut := by
  unfold State.wrv; split <;> rfl
@[simp] theorem State.wrv_ctxs (s : State) (f : Ent) (j : Nat) (v : Val) : (s.wrv f j v).ctxs = s.ctxs := by
  unfold State.wrv; split <;> rfl
@[simp] theorem State.wrv_bufs (s : State) (f : Ent) (j : Nat) (v : Val) : (s.wrv f j v).bufs = s.bufs := by
  unfold State.wrv; split <;> rfl
@[simp] theorem State.wrv_shown (s : State) (f : Ent) (j : Nat) (v : Val) : (s.wrv f j v).shown = s.shown := by
  unfold State.wrv; split <;> rfl
@[simp] theorem State.wrv_quarry (s : State) (f : Ent) (j : Nat) (v : Val) : (s.wrv f j v).quarry = s.quarry := by
  unfold State.wrv; split <;> rfl
@[simp] theorem State.wrv_fills (s : State) (f : Ent) (j : Nat) (v : Val) : (s.wrv f j v).fills = s.fills := by
  unfold State.wrv; split <;> rfl
@[simp] theorem State.wrv_cap (s : State) (f : Ent) (j : Nat) (v : Val) : (s.wrv f j v).cap = s.cap := by
  unfold State.wrv; split <;> rfl
@[simp] theorem State.wrv_defects (s : State) (f : Ent) (j : Nat) (v : Val) : (s.wrv f j v).defects = s.defects := by
  unfold State.wrv; split <;> rfl
@[simp] theorem State.wrv_modl (s : State) (f : Ent) (j : Nat) (v : Val) : (s.wrv f j v).modl = s.modl := by
  unfold State.wrv; split <;> rfl
@[simp] theorem State.wrv_quads (s : State) (f : Ent) (j : Nat) (v : Val) : (s.wrv f j v).quads = s.quads := by
  unfold State.wrv; split <;> rfl
@[simp] theorem State.wrv_groups (s : State) (f : Ent) (j : Nat) (v : Val) : (s.wrv f j v).groups = s.groups := by
  unfold State.wrv; split <;> rfl
@[simp] theorem State.wrv_tes (s : State) (f : Ent) (j : Nat) (v : Val) : (s.wrv f j v).tes = s.tes := by
  unfold State.wrv; split <;> rfl
@[simp] theorem State.wrv_louts (s : State) (f : Ent) (j : Nat) (v : Val) : (s.wrv f j v).louts = s.louts := by
  unfold State.wrv; split <;> rfl
@[simp] theorem State.wrv_rows (s : State) (f : Ent) (j : Nat) (v : Val) : (s.wrv f j v).rows = s.rows := by
  unfold State.wrv; split <;> rfl
@[simp] theorem State.wrv_mgmt (s : State) (f : Ent) (j : Nat) (v : Val) : (s.wrv f j v).mgmt = s.mgmt := by
  unfold State.wrv; split <;> rfl
@[simp] theorem State.wrv_xfers (s : State) (f : Ent) (j : Nat) (v : Val) : (s.wrv f j v).xfers = s.xfers := by
  unfold State.wrv; split <;> rfl
@[simp] theorem State.wrv_jobs (s : State) (f : Ent) (j : Nat) (v : Val) : (s.wrv f j v).jobs = s.jobs := by
  unfold State.wrv; split <;> rfl
@[simp] theorem State.wrv_secure (s : State) (f : Ent) (j : Nat) (v : Val) : (s.wrv f j v).secure = s.secure := by
  unfold State.wrv; split <;> rfl
@[simp] theorem State.wrv_power (s : State) (f : Ent) (j : Nat) (v : Val) : (s.wrv f j v).power = s.power := by
  unfold State.wrv; split <;> rfl
@[simp] theorem State.wrv_thermal (s : State) (f : Ent) (j : Nat) (v : Val) : (s.wrv f j v).thermal = s.thermal := by
  unfold State.wrv; split <;> rfl
@[simp] theorem State.wrv_boot (s : State) (f : Ent) (j : Nat) (v : Val) : (s.wrv f j v).boot = s.boot := by
  unfold State.wrv; split <;> rfl
@[simp] theorem State.wrv_jtag (s : State) (f : Ent) (j : Nat) (v : Val) : (s.wrv f j v).jtag = s.jtag := by
  unfold State.wrv; split <;> rfl
@[simp] theorem State.wrv_tables (s : State) (f : Ent) (j : Nat) (v : Val) : (s.wrv f j v).tables = s.tables := by
  unfold State.wrv; split <;> rfl
@[simp] theorem State.wrv_tablePad (s : State) (f : Ent) (j : Nat) (v : Val) : (s.wrv f j v).tablePad = s.tablePad := by
  unfold State.wrv; split <;> rfl
@[simp] theorem State.wrv_draws (s : State) (f : Ent) (j : Nat) (v : Val) : (s.wrv f j v).draws = s.draws := by
  unfold State.wrv; split <;> rfl
@[simp] theorem State.wrv_pending (s : State) (f : Ent) (j : Nat) (v : Val) : (s.wrv f j v).pending = s.pending := by
  unfold State.wrv; split <;> rfl
@[simp] theorem State.wrv_lane (s : State) (f : Ent) (j : Nat) (v : Val) (n l : Nat) : (s.wrv f j v).lane n l = s.lane n l := by simp only [State.lane, State.wrv_lanes]
@[simp] theorem State.wrv_session (s : State) (f : Ent) (j : Nat) (v : Val) (n : Nat) : (s.wrv f j v).session n = s.session n := by simp only [State.session, State.wrv_mgmt]
@[simp] theorem State.wrv_domain (s : State) (f : Ent) (j : Nat) (v : Val) (n : Nat) : (s.wrv f j v).domain n = s.domain n := by simp only [State.domain, State.wrv_power]
@[simp] theorem State.wrv_rail (s : State) (f : Ent) (j : Nat) (v : Val) (n : Nat) : (s.wrv f j v).rail n = s.rail n := by simp only [State.rail, State.wrv_power]
@[simp] theorem State.wrv_on (s : State) (f : Ent) (j : Nat) (v : Val) (n : Nat) : (s.wrv f j v).on n = s.on n := by simp only [State.on, State.wrv_domain]
@[simp] theorem State.wrv_alive (s : State) (f : Ent) (j : Nat) (v : Val) (n : Nat) : (s.wrv f j v).alive n = s.alive n := by simp only [State.alive, State.wrv_domain]
@[simp] theorem State.wrv_timeRuns (s : State) (f : Ent) (j : Nat) (v : Val)  : (s.wrv f j v).timeRuns  = s.timeRuns  := by simp only [State.timeRuns, State.wrv_alive, State.wrv_aon]
@[simp] theorem State.wrv_dispFine (s : State) (f : Ent) (j : Nat) (v : Val)  : (s.wrv f j v).dispFine  = s.dispFine  := by simp only [State.dispFine, State.wrv_aon, State.wrv_time]
@[simp] theorem State.wrv_now (s : State) (f : Ent) (j : Nat) (v : Val)  : (s.wrv f j v).now  = s.now  := by simp only [State.now, State.wrv_dispFine]
@[simp] theorem State.wrv_cal (s : State) (f : Ent) (j : Nat) (v : Val)  : (s.wrv f j v).cal  = s.cal  := by simp only [State.cal, State.wrv_aon, State.wrv_time, State.wrv_dispFine]
@[simp] theorem State.wrv_port (s : State) (f : Ent) (j : Nat) (v : Val) (n : Nat) : (s.wrv f j v).port n = s.port n := by simp only [State.port, State.wrv_ports]
@[simp] theorem State.wrv_view (s : State) (f : Ent) (j : Nat) (v : Val) (n : Nat) : (s.wrv f j v).view n = s.view n := by simp only [State.view, State.wrv_views]
@[simp] theorem State.wrv_ctx (s : State) (f : Ent) (j : Nat) (v : Val) (n : Nat) : (s.wrv f j v).ctx n = s.ctx n := by simp only [State.ctx, State.wrv_ctxs]
@[simp] theorem State.wrv_buf (s : State) (f : Ent) (j : Nat) (v : Val) (n : Nat) : (s.wrv f j v).buf n = s.buf n := by simp only [State.buf, State.wrv_bufs]
@[simp] theorem State.wrv_quad (s : State) (f : Ent) (j : Nat) (v : Val) (n : Nat) : (s.wrv f j v).quad n = s.quad n := by simp only [State.quad, State.wrv_quads]
@[simp] theorem State.wrv_lout (s : State) (f : Ent) (j : Nat) (v : Val) (n : Nat) : (s.wrv f j v).lout n = s.lout n := by simp only [State.lout, State.wrv_louts]
@[simp] theorem State.wrv_xfer (s : State) (f : Ent) (j : Nat) (v : Val) (n : Nat) : (s.wrv f j v).xfer n = s.xfer n := by simp only [State.xfer, State.wrv_xfers]
@[simp] theorem State.wrv_job (s : State) (f : Ent) (j : Nat) (v : Val) (n : Nat) : (s.wrv f j v).job n = s.job n := by simp only [State.job, State.wrv_jobs]

/-! ### wr -/

@[simp] theorem State.wr_ports (s : State) (f : Ent) (j m : Nat) : (s.wr f j m).ports = s.ports := State.wrv_ports _ _ _ _
@[simp] theorem State.wr_lanes (s : State) (f : Ent) (j m : Nat) : (s.wr f j m).lanes = s.lanes := State.wrv_lanes _ _ _ _
@[simp] theorem State.wr_outcomes (s : State) (f : Ent) (j m : Nat) : (s.wr f j m).outcomes = s.outcomes := State.wrv_outcomes _ _ _ _
@[simp] theorem State.wr_sweeps (s : State) (f : Ent) (j m : Nat) : (s.wr f j m).sweeps = s.sweeps := State.wrv_sweeps _ _ _ _
@[simp] theorem State.wr_sweepPkts (s : State) (f : Ent) (j m : Nat) : (s.wr f j m).sweepPkts = s.sweepPkts := State.wrv_sweepPkts _ _ _ _
@[simp] theorem State.wr_time (s : State) (f : Ent) (j m : Nat) : (s.wr f j m).time = s.time := State.wrv_time _ _ _ _
@[simp] theorem State.wr_aon (s : State) (f : Ent) (j m : Nat) : (s.wr f j m).aon = s.aon := State.wrv_aon _ _ _ _
@[simp] theorem State.wr_views (s : State) (f : Ent) (j m : Nat) : (s.wr f j m).views = s.views := State.wrv_views _ _ _ _
@[simp] theorem State.wr_syncIn (s : State) (f : Ent) (j m : Nat) : (s.wr f j m).syncIn = s.syncIn := State.wrv_syncIn _ _ _ _
@[simp] theorem State.wr_syncOut (s : State) (f : Ent) (j m : Nat) : (s.wr f j m).syncOut = s.syncOut := State.wrv_syncOut _ _ _ _
@[simp] theorem State.wr_ctxs (s : State) (f : Ent) (j m : Nat) : (s.wr f j m).ctxs = s.ctxs := State.wrv_ctxs _ _ _ _
@[simp] theorem State.wr_bufs (s : State) (f : Ent) (j m : Nat) : (s.wr f j m).bufs = s.bufs := State.wrv_bufs _ _ _ _
@[simp] theorem State.wr_shown (s : State) (f : Ent) (j m : Nat) : (s.wr f j m).shown = s.shown := State.wrv_shown _ _ _ _
@[simp] theorem State.wr_quarry (s : State) (f : Ent) (j m : Nat) : (s.wr f j m).quarry = s.quarry := State.wrv_quarry _ _ _ _
@[simp] theorem State.wr_fills (s : State) (f : Ent) (j m : Nat) : (s.wr f j m).fills = s.fills := State.wrv_fills _ _ _ _
@[simp] theorem State.wr_cap (s : State) (f : Ent) (j m : Nat) : (s.wr f j m).cap = s.cap := State.wrv_cap _ _ _ _
@[simp] theorem State.wr_defects (s : State) (f : Ent) (j m : Nat) : (s.wr f j m).defects = s.defects := State.wrv_defects _ _ _ _
@[simp] theorem State.wr_modl (s : State) (f : Ent) (j m : Nat) : (s.wr f j m).modl = s.modl := State.wrv_modl _ _ _ _
@[simp] theorem State.wr_quads (s : State) (f : Ent) (j m : Nat) : (s.wr f j m).quads = s.quads := State.wrv_quads _ _ _ _
@[simp] theorem State.wr_groups (s : State) (f : Ent) (j m : Nat) : (s.wr f j m).groups = s.groups := State.wrv_groups _ _ _ _
@[simp] theorem State.wr_tes (s : State) (f : Ent) (j m : Nat) : (s.wr f j m).tes = s.tes := State.wrv_tes _ _ _ _
@[simp] theorem State.wr_louts (s : State) (f : Ent) (j m : Nat) : (s.wr f j m).louts = s.louts := State.wrv_louts _ _ _ _
@[simp] theorem State.wr_rows (s : State) (f : Ent) (j m : Nat) : (s.wr f j m).rows = s.rows := State.wrv_rows _ _ _ _
@[simp] theorem State.wr_mgmt (s : State) (f : Ent) (j m : Nat) : (s.wr f j m).mgmt = s.mgmt := State.wrv_mgmt _ _ _ _
@[simp] theorem State.wr_xfers (s : State) (f : Ent) (j m : Nat) : (s.wr f j m).xfers = s.xfers := State.wrv_xfers _ _ _ _
@[simp] theorem State.wr_jobs (s : State) (f : Ent) (j m : Nat) : (s.wr f j m).jobs = s.jobs := State.wrv_jobs _ _ _ _
@[simp] theorem State.wr_secure (s : State) (f : Ent) (j m : Nat) : (s.wr f j m).secure = s.secure := State.wrv_secure _ _ _ _
@[simp] theorem State.wr_power (s : State) (f : Ent) (j m : Nat) : (s.wr f j m).power = s.power := State.wrv_power _ _ _ _
@[simp] theorem State.wr_thermal (s : State) (f : Ent) (j m : Nat) : (s.wr f j m).thermal = s.thermal := State.wrv_thermal _ _ _ _
@[simp] theorem State.wr_boot (s : State) (f : Ent) (j m : Nat) : (s.wr f j m).boot = s.boot := State.wrv_boot _ _ _ _
@[simp] theorem State.wr_jtag (s : State) (f : Ent) (j m : Nat) : (s.wr f j m).jtag = s.jtag := State.wrv_jtag _ _ _ _
@[simp] theorem State.wr_tables (s : State) (f : Ent) (j m : Nat) : (s.wr f j m).tables = s.tables := State.wrv_tables _ _ _ _
@[simp] theorem State.wr_tablePad (s : State) (f : Ent) (j m : Nat) : (s.wr f j m).tablePad = s.tablePad := State.wrv_tablePad _ _ _ _
@[simp] theorem State.wr_draws (s : State) (f : Ent) (j m : Nat) : (s.wr f j m).draws = s.draws := State.wrv_draws _ _ _ _
@[simp] theorem State.wr_pending (s : State) (f : Ent) (j m : Nat) : (s.wr f j m).pending = s.pending := State.wrv_pending _ _ _ _
@[simp] theorem State.wr_lane (s : State) (f : Ent) (j m : Nat) (n l : Nat) : (s.wr f j m).lane n l = s.lane n l := State.wrv_lane _ _ _ _ _ _
@[simp] theorem State.wr_session (s : State) (f : Ent) (j m : Nat) (n : Nat) : (s.wr f j m).session n = s.session n := State.wrv_session _ _ _ _ _
@[simp] theorem State.wr_domain (s : State) (f : Ent) (j m : Nat) (n : Nat) : (s.wr f j m).domain n = s.domain n := State.wrv_domain _ _ _ _ _
@[simp] theorem State.wr_rail (s : State) (f : Ent) (j m : Nat) (n : Nat) : (s.wr f j m).rail n = s.rail n := State.wrv_rail _ _ _ _ _
@[simp] theorem State.wr_on (s : State) (f : Ent) (j m : Nat) (n : Nat) : (s.wr f j m).on n = s.on n := State.wrv_on _ _ _ _ _
@[simp] theorem State.wr_alive (s : State) (f : Ent) (j m : Nat) (n : Nat) : (s.wr f j m).alive n = s.alive n := State.wrv_alive _ _ _ _ _
@[simp] theorem State.wr_timeRuns (s : State) (f : Ent) (j m : Nat)  : (s.wr f j m).timeRuns  = s.timeRuns  := State.wrv_timeRuns _ _ _ _
@[simp] theorem State.wr_dispFine (s : State) (f : Ent) (j m : Nat)  : (s.wr f j m).dispFine  = s.dispFine  := State.wrv_dispFine _ _ _ _
@[simp] theorem State.wr_now (s : State) (f : Ent) (j m : Nat)  : (s.wr f j m).now  = s.now  := State.wrv_now _ _ _ _
@[simp] theorem State.wr_cal (s : State) (f : Ent) (j m : Nat)  : (s.wr f j m).cal  = s.cal  := State.wrv_cal _ _ _ _
@[simp] theorem State.wr_port (s : State) (f : Ent) (j m : Nat) (n : Nat) : (s.wr f j m).port n = s.port n := State.wrv_port _ _ _ _ _
@[simp] theorem State.wr_view (s : State) (f : Ent) (j m : Nat) (n : Nat) : (s.wr f j m).view n = s.view n := State.wrv_view _ _ _ _ _
@[simp] theorem State.wr_ctx (s : State) (f : Ent) (j m : Nat) (n : Nat) : (s.wr f j m).ctx n = s.ctx n := State.wrv_ctx _ _ _ _ _
@[simp] theorem State.wr_buf (s : State) (f : Ent) (j m : Nat) (n : Nat) : (s.wr f j m).buf n = s.buf n := State.wrv_buf _ _ _ _ _
@[simp] theorem State.wr_quad (s : State) (f : Ent) (j m : Nat) (n : Nat) : (s.wr f j m).quad n = s.quad n := State.wrv_quad _ _ _ _ _
@[simp] theorem State.wr_lout (s : State) (f : Ent) (j m : Nat) (n : Nat) : (s.wr f j m).lout n = s.lout n := State.wrv_lout _ _ _ _ _
@[simp] theorem State.wr_xfer (s : State) (f : Ent) (j m : Nat) (n : Nat) : (s.wr f j m).xfer n = s.xfer n := State.wrv_xfer _ _ _ _ _
@[simp] theorem State.wr_job (s : State) (f : Ent) (j m : Nat) (n : Nat) : (s.wr f j m).job n = s.job n := State.wrv_job _ _ _ _ _

/-! ### wrn -/

@[simp] theorem State.wrn_ports (s : State) (f : Ent) (j k m : Nat) : (s.wrn f j k m).ports = s.ports := State.wrv_ports _ _ _ _
@[simp] theorem State.wrn_lanes (s : State) (f : Ent) (j k m : Nat) : (s.wrn f j k m).lanes = s.lanes := State.wrv_lanes _ _ _ _
@[simp] theorem State.wrn_outcomes (s : State) (f : Ent) (j k m : Nat) : (s.wrn f j k m).outcomes = s.outcomes := State.wrv_outcomes _ _ _ _
@[simp] theorem State.wrn_sweeps (s : State) (f : Ent) (j k m : Nat) : (s.wrn f j k m).sweeps = s.sweeps := State.wrv_sweeps _ _ _ _
@[simp] theorem State.wrn_sweepPkts (s : State) (f : Ent) (j k m : Nat) : (s.wrn f j k m).sweepPkts = s.sweepPkts := State.wrv_sweepPkts _ _ _ _
@[simp] theorem State.wrn_time (s : State) (f : Ent) (j k m : Nat) : (s.wrn f j k m).time = s.time := State.wrv_time _ _ _ _
@[simp] theorem State.wrn_aon (s : State) (f : Ent) (j k m : Nat) : (s.wrn f j k m).aon = s.aon := State.wrv_aon _ _ _ _
@[simp] theorem State.wrn_views (s : State) (f : Ent) (j k m : Nat) : (s.wrn f j k m).views = s.views := State.wrv_views _ _ _ _
@[simp] theorem State.wrn_syncIn (s : State) (f : Ent) (j k m : Nat) : (s.wrn f j k m).syncIn = s.syncIn := State.wrv_syncIn _ _ _ _
@[simp] theorem State.wrn_syncOut (s : State) (f : Ent) (j k m : Nat) : (s.wrn f j k m).syncOut = s.syncOut := State.wrv_syncOut _ _ _ _
@[simp] theorem State.wrn_ctxs (s : State) (f : Ent) (j k m : Nat) : (s.wrn f j k m).ctxs = s.ctxs := State.wrv_ctxs _ _ _ _
@[simp] theorem State.wrn_bufs (s : State) (f : Ent) (j k m : Nat) : (s.wrn f j k m).bufs = s.bufs := State.wrv_bufs _ _ _ _
@[simp] theorem State.wrn_shown (s : State) (f : Ent) (j k m : Nat) : (s.wrn f j k m).shown = s.shown := State.wrv_shown _ _ _ _
@[simp] theorem State.wrn_quarry (s : State) (f : Ent) (j k m : Nat) : (s.wrn f j k m).quarry = s.quarry := State.wrv_quarry _ _ _ _
@[simp] theorem State.wrn_fills (s : State) (f : Ent) (j k m : Nat) : (s.wrn f j k m).fills = s.fills := State.wrv_fills _ _ _ _
@[simp] theorem State.wrn_cap (s : State) (f : Ent) (j k m : Nat) : (s.wrn f j k m).cap = s.cap := State.wrv_cap _ _ _ _
@[simp] theorem State.wrn_defects (s : State) (f : Ent) (j k m : Nat) : (s.wrn f j k m).defects = s.defects := State.wrv_defects _ _ _ _
@[simp] theorem State.wrn_modl (s : State) (f : Ent) (j k m : Nat) : (s.wrn f j k m).modl = s.modl := State.wrv_modl _ _ _ _
@[simp] theorem State.wrn_quads (s : State) (f : Ent) (j k m : Nat) : (s.wrn f j k m).quads = s.quads := State.wrv_quads _ _ _ _
@[simp] theorem State.wrn_groups (s : State) (f : Ent) (j k m : Nat) : (s.wrn f j k m).groups = s.groups := State.wrv_groups _ _ _ _
@[simp] theorem State.wrn_tes (s : State) (f : Ent) (j k m : Nat) : (s.wrn f j k m).tes = s.tes := State.wrv_tes _ _ _ _
@[simp] theorem State.wrn_louts (s : State) (f : Ent) (j k m : Nat) : (s.wrn f j k m).louts = s.louts := State.wrv_louts _ _ _ _
@[simp] theorem State.wrn_rows (s : State) (f : Ent) (j k m : Nat) : (s.wrn f j k m).rows = s.rows := State.wrv_rows _ _ _ _
@[simp] theorem State.wrn_mgmt (s : State) (f : Ent) (j k m : Nat) : (s.wrn f j k m).mgmt = s.mgmt := State.wrv_mgmt _ _ _ _
@[simp] theorem State.wrn_xfers (s : State) (f : Ent) (j k m : Nat) : (s.wrn f j k m).xfers = s.xfers := State.wrv_xfers _ _ _ _
@[simp] theorem State.wrn_jobs (s : State) (f : Ent) (j k m : Nat) : (s.wrn f j k m).jobs = s.jobs := State.wrv_jobs _ _ _ _
@[simp] theorem State.wrn_secure (s : State) (f : Ent) (j k m : Nat) : (s.wrn f j k m).secure = s.secure := State.wrv_secure _ _ _ _
@[simp] theorem State.wrn_power (s : State) (f : Ent) (j k m : Nat) : (s.wrn f j k m).power = s.power := State.wrv_power _ _ _ _
@[simp] theorem State.wrn_thermal (s : State) (f : Ent) (j k m : Nat) : (s.wrn f j k m).thermal = s.thermal := State.wrv_thermal _ _ _ _
@[simp] theorem State.wrn_boot (s : State) (f : Ent) (j k m : Nat) : (s.wrn f j k m).boot = s.boot := State.wrv_boot _ _ _ _
@[simp] theorem State.wrn_jtag (s : State) (f : Ent) (j k m : Nat) : (s.wrn f j k m).jtag = s.jtag := State.wrv_jtag _ _ _ _
@[simp] theorem State.wrn_tables (s : State) (f : Ent) (j k m : Nat) : (s.wrn f j k m).tables = s.tables := State.wrv_tables _ _ _ _
@[simp] theorem State.wrn_tablePad (s : State) (f : Ent) (j k m : Nat) : (s.wrn f j k m).tablePad = s.tablePad := State.wrv_tablePad _ _ _ _
@[simp] theorem State.wrn_draws (s : State) (f : Ent) (j k m : Nat) : (s.wrn f j k m).draws = s.draws := State.wrv_draws _ _ _ _
@[simp] theorem State.wrn_pending (s : State) (f : Ent) (j k m : Nat) : (s.wrn f j k m).pending = s.pending := State.wrv_pending _ _ _ _
@[simp] theorem State.wrn_lane (s : State) (f : Ent) (j k m : Nat) (n l : Nat) : (s.wrn f j k m).lane n l = s.lane n l := State.wrv_lane _ _ _ _ _ _
@[simp] theorem State.wrn_session (s : State) (f : Ent) (j k m : Nat) (n : Nat) : (s.wrn f j k m).session n = s.session n := State.wrv_session _ _ _ _ _
@[simp] theorem State.wrn_domain (s : State) (f : Ent) (j k m : Nat) (n : Nat) : (s.wrn f j k m).domain n = s.domain n := State.wrv_domain _ _ _ _ _
@[simp] theorem State.wrn_rail (s : State) (f : Ent) (j k m : Nat) (n : Nat) : (s.wrn f j k m).rail n = s.rail n := State.wrv_rail _ _ _ _ _
@[simp] theorem State.wrn_on (s : State) (f : Ent) (j k m : Nat) (n : Nat) : (s.wrn f j k m).on n = s.on n := State.wrv_on _ _ _ _ _
@[simp] theorem State.wrn_alive (s : State) (f : Ent) (j k m : Nat) (n : Nat) : (s.wrn f j k m).alive n = s.alive n := State.wrv_alive _ _ _ _ _
@[simp] theorem State.wrn_timeRuns (s : State) (f : Ent) (j k m : Nat)  : (s.wrn f j k m).timeRuns  = s.timeRuns  := State.wrv_timeRuns _ _ _ _
@[simp] theorem State.wrn_dispFine (s : State) (f : Ent) (j k m : Nat)  : (s.wrn f j k m).dispFine  = s.dispFine  := State.wrv_dispFine _ _ _ _
@[simp] theorem State.wrn_now (s : State) (f : Ent) (j k m : Nat)  : (s.wrn f j k m).now  = s.now  := State.wrv_now _ _ _ _
@[simp] theorem State.wrn_cal (s : State) (f : Ent) (j k m : Nat)  : (s.wrn f j k m).cal  = s.cal  := State.wrv_cal _ _ _ _
@[simp] theorem State.wrn_port (s : State) (f : Ent) (j k m : Nat) (n : Nat) : (s.wrn f j k m).port n = s.port n := State.wrv_port _ _ _ _ _
@[simp] theorem State.wrn_view (s : State) (f : Ent) (j k m : Nat) (n : Nat) : (s.wrn f j k m).view n = s.view n := State.wrv_view _ _ _ _ _
@[simp] theorem State.wrn_ctx (s : State) (f : Ent) (j k m : Nat) (n : Nat) : (s.wrn f j k m).ctx n = s.ctx n := State.wrv_ctx _ _ _ _ _
@[simp] theorem State.wrn_buf (s : State) (f : Ent) (j k m : Nat) (n : Nat) : (s.wrn f j k m).buf n = s.buf n := State.wrv_buf _ _ _ _ _
@[simp] theorem State.wrn_quad (s : State) (f : Ent) (j k m : Nat) (n : Nat) : (s.wrn f j k m).quad n = s.quad n := State.wrv_quad _ _ _ _ _
@[simp] theorem State.wrn_lout (s : State) (f : Ent) (j k m : Nat) (n : Nat) : (s.wrn f j k m).lout n = s.lout n := State.wrv_lout _ _ _ _ _
@[simp] theorem State.wrn_xfer (s : State) (f : Ent) (j k m : Nat) (n : Nat) : (s.wrn f j k m).xfer n = s.xfer n := State.wrv_xfer _ _ _ _ _
@[simp] theorem State.wrn_job (s : State) (f : Ent) (j k m : Nat) (n : Nat) : (s.wrn f j k m).job n = s.job n := State.wrv_job _ _ _ _ _

/-! ### countBy -/

@[simp] theorem State.countBy_ports (s : State) (f : Ent) (j m : Nat) : (s.countBy f j m).ports = s.ports := State.wr_ports _ _ _ _
@[simp] theorem State.countBy_lanes (s : State) (f : Ent) (j m : Nat) : (s.countBy f j m).lanes = s.lanes := State.wr_lanes _ _ _ _
@[simp] theorem State.countBy_outcomes (s : State) (f : Ent) (j m : Nat) : (s.countBy f j m).outcomes = s.outcomes := State.wr_outcomes _ _ _ _
@[simp] theorem State.countBy_sweeps (s : State) (f : Ent) (j m : Nat) : (s.countBy f j m).sweeps = s.sweeps := State.wr_sweeps _ _ _ _
@[simp] theorem State.countBy_sweepPkts (s : State) (f : Ent) (j m : Nat) : (s.countBy f j m).sweepPkts = s.sweepPkts := State.wr_sweepPkts _ _ _ _
@[simp] theorem State.countBy_time (s : State) (f : Ent) (j m : Nat) : (s.countBy f j m).time = s.time := State.wr_time _ _ _ _
@[simp] theorem State.countBy_aon (s : State) (f : Ent) (j m : Nat) : (s.countBy f j m).aon = s.aon := State.wr_aon _ _ _ _
@[simp] theorem State.countBy_views (s : State) (f : Ent) (j m : Nat) : (s.countBy f j m).views = s.views := State.wr_views _ _ _ _
@[simp] theorem State.countBy_syncIn (s : State) (f : Ent) (j m : Nat) : (s.countBy f j m).syncIn = s.syncIn := State.wr_syncIn _ _ _ _
@[simp] theorem State.countBy_syncOut (s : State) (f : Ent) (j m : Nat) : (s.countBy f j m).syncOut = s.syncOut := State.wr_syncOut _ _ _ _
@[simp] theorem State.countBy_ctxs (s : State) (f : Ent) (j m : Nat) : (s.countBy f j m).ctxs = s.ctxs := State.wr_ctxs _ _ _ _
@[simp] theorem State.countBy_bufs (s : State) (f : Ent) (j m : Nat) : (s.countBy f j m).bufs = s.bufs := State.wr_bufs _ _ _ _
@[simp] theorem State.countBy_shown (s : State) (f : Ent) (j m : Nat) : (s.countBy f j m).shown = s.shown := State.wr_shown _ _ _ _
@[simp] theorem State.countBy_quarry (s : State) (f : Ent) (j m : Nat) : (s.countBy f j m).quarry = s.quarry := State.wr_quarry _ _ _ _
@[simp] theorem State.countBy_fills (s : State) (f : Ent) (j m : Nat) : (s.countBy f j m).fills = s.fills := State.wr_fills _ _ _ _
@[simp] theorem State.countBy_cap (s : State) (f : Ent) (j m : Nat) : (s.countBy f j m).cap = s.cap := State.wr_cap _ _ _ _
@[simp] theorem State.countBy_defects (s : State) (f : Ent) (j m : Nat) : (s.countBy f j m).defects = s.defects := State.wr_defects _ _ _ _
@[simp] theorem State.countBy_modl (s : State) (f : Ent) (j m : Nat) : (s.countBy f j m).modl = s.modl := State.wr_modl _ _ _ _
@[simp] theorem State.countBy_quads (s : State) (f : Ent) (j m : Nat) : (s.countBy f j m).quads = s.quads := State.wr_quads _ _ _ _
@[simp] theorem State.countBy_groups (s : State) (f : Ent) (j m : Nat) : (s.countBy f j m).groups = s.groups := State.wr_groups _ _ _ _
@[simp] theorem State.countBy_tes (s : State) (f : Ent) (j m : Nat) : (s.countBy f j m).tes = s.tes := State.wr_tes _ _ _ _
@[simp] theorem State.countBy_louts (s : State) (f : Ent) (j m : Nat) : (s.countBy f j m).louts = s.louts := State.wr_louts _ _ _ _
@[simp] theorem State.countBy_rows (s : State) (f : Ent) (j m : Nat) : (s.countBy f j m).rows = s.rows := State.wr_rows _ _ _ _
@[simp] theorem State.countBy_mgmt (s : State) (f : Ent) (j m : Nat) : (s.countBy f j m).mgmt = s.mgmt := State.wr_mgmt _ _ _ _
@[simp] theorem State.countBy_xfers (s : State) (f : Ent) (j m : Nat) : (s.countBy f j m).xfers = s.xfers := State.wr_xfers _ _ _ _
@[simp] theorem State.countBy_jobs (s : State) (f : Ent) (j m : Nat) : (s.countBy f j m).jobs = s.jobs := State.wr_jobs _ _ _ _
@[simp] theorem State.countBy_secure (s : State) (f : Ent) (j m : Nat) : (s.countBy f j m).secure = s.secure := State.wr_secure _ _ _ _
@[simp] theorem State.countBy_power (s : State) (f : Ent) (j m : Nat) : (s.countBy f j m).power = s.power := State.wr_power _ _ _ _
@[simp] theorem State.countBy_thermal (s : State) (f : Ent) (j m : Nat) : (s.countBy f j m).thermal = s.thermal := State.wr_thermal _ _ _ _
@[simp] theorem State.countBy_boot (s : State) (f : Ent) (j m : Nat) : (s.countBy f j m).boot = s.boot := State.wr_boot _ _ _ _
@[simp] theorem State.countBy_jtag (s : State) (f : Ent) (j m : Nat) : (s.countBy f j m).jtag = s.jtag := State.wr_jtag _ _ _ _
@[simp] theorem State.countBy_tables (s : State) (f : Ent) (j m : Nat) : (s.countBy f j m).tables = s.tables := State.wr_tables _ _ _ _
@[simp] theorem State.countBy_tablePad (s : State) (f : Ent) (j m : Nat) : (s.countBy f j m).tablePad = s.tablePad := State.wr_tablePad _ _ _ _
@[simp] theorem State.countBy_draws (s : State) (f : Ent) (j m : Nat) : (s.countBy f j m).draws = s.draws := State.wr_draws _ _ _ _
@[simp] theorem State.countBy_pending (s : State) (f : Ent) (j m : Nat) : (s.countBy f j m).pending = s.pending := State.wr_pending _ _ _ _
@[simp] theorem State.countBy_lane (s : State) (f : Ent) (j m : Nat) (n l : Nat) : (s.countBy f j m).lane n l = s.lane n l := State.wr_lane _ _ _ _ _ _
@[simp] theorem State.countBy_session (s : State) (f : Ent) (j m : Nat) (n : Nat) : (s.countBy f j m).session n = s.session n := State.wr_session _ _ _ _ _
@[simp] theorem State.countBy_domain (s : State) (f : Ent) (j m : Nat) (n : Nat) : (s.countBy f j m).domain n = s.domain n := State.wr_domain _ _ _ _ _
@[simp] theorem State.countBy_rail (s : State) (f : Ent) (j m : Nat) (n : Nat) : (s.countBy f j m).rail n = s.rail n := State.wr_rail _ _ _ _ _
@[simp] theorem State.countBy_on (s : State) (f : Ent) (j m : Nat) (n : Nat) : (s.countBy f j m).on n = s.on n := State.wr_on _ _ _ _ _
@[simp] theorem State.countBy_alive (s : State) (f : Ent) (j m : Nat) (n : Nat) : (s.countBy f j m).alive n = s.alive n := State.wr_alive _ _ _ _ _
@[simp] theorem State.countBy_timeRuns (s : State) (f : Ent) (j m : Nat)  : (s.countBy f j m).timeRuns  = s.timeRuns  := State.wr_timeRuns _ _ _ _
@[simp] theorem State.countBy_dispFine (s : State) (f : Ent) (j m : Nat)  : (s.countBy f j m).dispFine  = s.dispFine  := State.wr_dispFine _ _ _ _
@[simp] theorem State.countBy_now (s : State) (f : Ent) (j m : Nat)  : (s.countBy f j m).now  = s.now  := State.wr_now _ _ _ _
@[simp] theorem State.countBy_cal (s : State) (f : Ent) (j m : Nat)  : (s.countBy f j m).cal  = s.cal  := State.wr_cal _ _ _ _
@[simp] theorem State.countBy_port (s : State) (f : Ent) (j m : Nat) (n : Nat) : (s.countBy f j m).port n = s.port n := State.wr_port _ _ _ _ _
@[simp] theorem State.countBy_view (s : State) (f : Ent) (j m : Nat) (n : Nat) : (s.countBy f j m).view n = s.view n := State.wr_view _ _ _ _ _
@[simp] theorem State.countBy_ctx (s : State) (f : Ent) (j m : Nat) (n : Nat) : (s.countBy f j m).ctx n = s.ctx n := State.wr_ctx _ _ _ _ _
@[simp] theorem State.countBy_buf (s : State) (f : Ent) (j m : Nat) (n : Nat) : (s.countBy f j m).buf n = s.buf n := State.wr_buf _ _ _ _ _
@[simp] theorem State.countBy_quad (s : State) (f : Ent) (j m : Nat) (n : Nat) : (s.countBy f j m).quad n = s.quad n := State.wr_quad _ _ _ _ _
@[simp] theorem State.countBy_lout (s : State) (f : Ent) (j m : Nat) (n : Nat) : (s.countBy f j m).lout n = s.lout n := State.wr_lout _ _ _ _ _
@[simp] theorem State.countBy_xfer (s : State) (f : Ent) (j m : Nat) (n : Nat) : (s.countBy f j m).xfer n = s.xfer n := State.wr_xfer _ _ _ _ _
@[simp] theorem State.countBy_job (s : State) (f : Ent) (j m : Nat) (n : Nat) : (s.countBy f j m).job n = s.job n := State.wr_job _ _ _ _ _

/-! ### count -/

@[simp] theorem State.count_ports (s : State) (f : Ent) (j : Nat) : (s.count f j).ports = s.ports := State.countBy_ports _ _ _ _
@[simp] theorem State.count_lanes (s : State) (f : Ent) (j : Nat) : (s.count f j).lanes = s.lanes := State.countBy_lanes _ _ _ _
@[simp] theorem State.count_outcomes (s : State) (f : Ent) (j : Nat) : (s.count f j).outcomes = s.outcomes := State.countBy_outcomes _ _ _ _
@[simp] theorem State.count_sweeps (s : State) (f : Ent) (j : Nat) : (s.count f j).sweeps = s.sweeps := State.countBy_sweeps _ _ _ _
@[simp] theorem State.count_sweepPkts (s : State) (f : Ent) (j : Nat) : (s.count f j).sweepPkts = s.sweepPkts := State.countBy_sweepPkts _ _ _ _
@[simp] theorem State.count_time (s : State) (f : Ent) (j : Nat) : (s.count f j).time = s.time := State.countBy_time _ _ _ _
@[simp] theorem State.count_aon (s : State) (f : Ent) (j : Nat) : (s.count f j).aon = s.aon := State.countBy_aon _ _ _ _
@[simp] theorem State.count_views (s : State) (f : Ent) (j : Nat) : (s.count f j).views = s.views := State.countBy_views _ _ _ _
@[simp] theorem State.count_syncIn (s : State) (f : Ent) (j : Nat) : (s.count f j).syncIn = s.syncIn := State.countBy_syncIn _ _ _ _
@[simp] theorem State.count_syncOut (s : State) (f : Ent) (j : Nat) : (s.count f j).syncOut = s.syncOut := State.countBy_syncOut _ _ _ _
@[simp] theorem State.count_ctxs (s : State) (f : Ent) (j : Nat) : (s.count f j).ctxs = s.ctxs := State.countBy_ctxs _ _ _ _
@[simp] theorem State.count_bufs (s : State) (f : Ent) (j : Nat) : (s.count f j).bufs = s.bufs := State.countBy_bufs _ _ _ _
@[simp] theorem State.count_shown (s : State) (f : Ent) (j : Nat) : (s.count f j).shown = s.shown := State.countBy_shown _ _ _ _
@[simp] theorem State.count_quarry (s : State) (f : Ent) (j : Nat) : (s.count f j).quarry = s.quarry := State.countBy_quarry _ _ _ _
@[simp] theorem State.count_fills (s : State) (f : Ent) (j : Nat) : (s.count f j).fills = s.fills := State.countBy_fills _ _ _ _
@[simp] theorem State.count_cap (s : State) (f : Ent) (j : Nat) : (s.count f j).cap = s.cap := State.countBy_cap _ _ _ _
@[simp] theorem State.count_defects (s : State) (f : Ent) (j : Nat) : (s.count f j).defects = s.defects := State.countBy_defects _ _ _ _
@[simp] theorem State.count_modl (s : State) (f : Ent) (j : Nat) : (s.count f j).modl = s.modl := State.countBy_modl _ _ _ _
@[simp] theorem State.count_quads (s : State) (f : Ent) (j : Nat) : (s.count f j).quads = s.quads := State.countBy_quads _ _ _ _
@[simp] theorem State.count_groups (s : State) (f : Ent) (j : Nat) : (s.count f j).groups = s.groups := State.countBy_groups _ _ _ _
@[simp] theorem State.count_tes (s : State) (f : Ent) (j : Nat) : (s.count f j).tes = s.tes := State.countBy_tes _ _ _ _
@[simp] theorem State.count_louts (s : State) (f : Ent) (j : Nat) : (s.count f j).louts = s.louts := State.countBy_louts _ _ _ _
@[simp] theorem State.count_rows (s : State) (f : Ent) (j : Nat) : (s.count f j).rows = s.rows := State.countBy_rows _ _ _ _
@[simp] theorem State.count_mgmt (s : State) (f : Ent) (j : Nat) : (s.count f j).mgmt = s.mgmt := State.countBy_mgmt _ _ _ _
@[simp] theorem State.count_xfers (s : State) (f : Ent) (j : Nat) : (s.count f j).xfers = s.xfers := State.countBy_xfers _ _ _ _
@[simp] theorem State.count_jobs (s : State) (f : Ent) (j : Nat) : (s.count f j).jobs = s.jobs := State.countBy_jobs _ _ _ _
@[simp] theorem State.count_secure (s : State) (f : Ent) (j : Nat) : (s.count f j).secure = s.secure := State.countBy_secure _ _ _ _
@[simp] theorem State.count_power (s : State) (f : Ent) (j : Nat) : (s.count f j).power = s.power := State.countBy_power _ _ _ _
@[simp] theorem State.count_thermal (s : State) (f : Ent) (j : Nat) : (s.count f j).thermal = s.thermal := State.countBy_thermal _ _ _ _
@[simp] theorem State.count_boot (s : State) (f : Ent) (j : Nat) : (s.count f j).boot = s.boot := State.countBy_boot _ _ _ _
@[simp] theorem State.count_jtag (s : State) (f : Ent) (j : Nat) : (s.count f j).jtag = s.jtag := State.countBy_jtag _ _ _ _
@[simp] theorem State.count_tables (s : State) (f : Ent) (j : Nat) : (s.count f j).tables = s.tables := State.countBy_tables _ _ _ _
@[simp] theorem State.count_tablePad (s : State) (f : Ent) (j : Nat) : (s.count f j).tablePad = s.tablePad := State.countBy_tablePad _ _ _ _
@[simp] theorem State.count_draws (s : State) (f : Ent) (j : Nat) : (s.count f j).draws = s.draws := State.countBy_draws _ _ _ _
@[simp] theorem State.count_pending (s : State) (f : Ent) (j : Nat) : (s.count f j).pending = s.pending := State.countBy_pending _ _ _ _
@[simp] theorem State.count_lane (s : State) (f : Ent) (j : Nat) (n l : Nat) : (s.count f j).lane n l = s.lane n l := State.countBy_lane _ _ _ _ _ _
@[simp] theorem State.count_session (s : State) (f : Ent) (j : Nat) (n : Nat) : (s.count f j).session n = s.session n := State.countBy_session _ _ _ _ _
@[simp] theorem State.count_domain (s : State) (f : Ent) (j : Nat) (n : Nat) : (s.count f j).domain n = s.domain n := State.countBy_domain _ _ _ _ _
@[simp] theorem State.count_rail (s : State) (f : Ent) (j : Nat) (n : Nat) : (s.count f j).rail n = s.rail n := State.countBy_rail _ _ _ _ _
@[simp] theorem State.count_on (s : State) (f : Ent) (j : Nat) (n : Nat) : (s.count f j).on n = s.on n := State.countBy_on _ _ _ _ _
@[simp] theorem State.count_alive (s : State) (f : Ent) (j : Nat) (n : Nat) : (s.count f j).alive n = s.alive n := State.countBy_alive _ _ _ _ _
@[simp] theorem State.count_timeRuns (s : State) (f : Ent) (j : Nat)  : (s.count f j).timeRuns  = s.timeRuns  := State.countBy_timeRuns _ _ _ _
@[simp] theorem State.count_dispFine (s : State) (f : Ent) (j : Nat)  : (s.count f j).dispFine  = s.dispFine  := State.countBy_dispFine _ _ _ _
@[simp] theorem State.count_now (s : State) (f : Ent) (j : Nat)  : (s.count f j).now  = s.now  := State.countBy_now _ _ _ _
@[simp] theorem State.count_cal (s : State) (f : Ent) (j : Nat)  : (s.count f j).cal  = s.cal  := State.countBy_cal _ _ _ _
@[simp] theorem State.count_port (s : State) (f : Ent) (j : Nat) (n : Nat) : (s.count f j).port n = s.port n := State.countBy_port _ _ _ _ _
@[simp] theorem State.count_view (s : State) (f : Ent) (j : Nat) (n : Nat) : (s.count f j).view n = s.view n := State.countBy_view _ _ _ _ _
@[simp] theorem State.count_ctx (s : State) (f : Ent) (j : Nat) (n : Nat) : (s.count f j).ctx n = s.ctx n := State.countBy_ctx _ _ _ _ _
@[simp] theorem State.count_buf (s : State) (f : Ent) (j : Nat) (n : Nat) : (s.count f j).buf n = s.buf n := State.countBy_buf _ _ _ _ _
@[simp] theorem State.count_quad (s : State) (f : Ent) (j : Nat) (n : Nat) : (s.count f j).quad n = s.quad n := State.countBy_quad _ _ _ _ _
@[simp] theorem State.count_lout (s : State) (f : Ent) (j : Nat) (n : Nat) : (s.count f j).lout n = s.lout n := State.countBy_lout _ _ _ _ _
@[simp] theorem State.count_xfer (s : State) (f : Ent) (j : Nat) (n : Nat) : (s.count f j).xfer n = s.xfer n := State.countBy_xfer _ _ _ _ _
@[simp] theorem State.count_job (s : State) (f : Ent) (j : Nat) (n : Nat) : (s.count f j).job n = s.job n := State.countBy_job _ _ _ _ _

/-! ### toDefault -/

@[simp] theorem State.toDefault_ports (s : State) (f : Ent) (j : Nat) : (s.toDefault f j).ports = s.ports := State.wrv_ports _ _ _ _
@[simp] theorem State.toDefault_lanes (s : State) (f : Ent) (j : Nat) : (s.toDefault f j).lanes = s.lanes := State.wrv_lanes _ _ _ _
@[simp] theorem State.toDefault_outcomes (s : State) (f : Ent) (j : Nat) : (s.toDefault f j).outcomes = s.outcomes := State.wrv_outcomes _ _ _ _
@[simp] theorem State.toDefault_sweeps (s : State) (f : Ent) (j : Nat) : (s.toDefault f j).sweeps = s.sweeps := State.wrv_sweeps _ _ _ _
@[simp] theorem State.toDefault_sweepPkts (s : State) (f : Ent) (j : Nat) : (s.toDefault f j).sweepPkts = s.sweepPkts := State.wrv_sweepPkts _ _ _ _
@[simp] theorem State.toDefault_time (s : State) (f : Ent) (j : Nat) : (s.toDefault f j).time = s.time := State.wrv_time _ _ _ _
@[simp] theorem State.toDefault_aon (s : State) (f : Ent) (j : Nat) : (s.toDefault f j).aon = s.aon := State.wrv_aon _ _ _ _
@[simp] theorem State.toDefault_views (s : State) (f : Ent) (j : Nat) : (s.toDefault f j).views = s.views := State.wrv_views _ _ _ _
@[simp] theorem State.toDefault_syncIn (s : State) (f : Ent) (j : Nat) : (s.toDefault f j).syncIn = s.syncIn := State.wrv_syncIn _ _ _ _
@[simp] theorem State.toDefault_syncOut (s : State) (f : Ent) (j : Nat) : (s.toDefault f j).syncOut = s.syncOut := State.wrv_syncOut _ _ _ _
@[simp] theorem State.toDefault_ctxs (s : State) (f : Ent) (j : Nat) : (s.toDefault f j).ctxs = s.ctxs := State.wrv_ctxs _ _ _ _
@[simp] theorem State.toDefault_bufs (s : State) (f : Ent) (j : Nat) : (s.toDefault f j).bufs = s.bufs := State.wrv_bufs _ _ _ _
@[simp] theorem State.toDefault_shown (s : State) (f : Ent) (j : Nat) : (s.toDefault f j).shown = s.shown := State.wrv_shown _ _ _ _
@[simp] theorem State.toDefault_quarry (s : State) (f : Ent) (j : Nat) : (s.toDefault f j).quarry = s.quarry := State.wrv_quarry _ _ _ _
@[simp] theorem State.toDefault_fills (s : State) (f : Ent) (j : Nat) : (s.toDefault f j).fills = s.fills := State.wrv_fills _ _ _ _
@[simp] theorem State.toDefault_cap (s : State) (f : Ent) (j : Nat) : (s.toDefault f j).cap = s.cap := State.wrv_cap _ _ _ _
@[simp] theorem State.toDefault_defects (s : State) (f : Ent) (j : Nat) : (s.toDefault f j).defects = s.defects := State.wrv_defects _ _ _ _
@[simp] theorem State.toDefault_modl (s : State) (f : Ent) (j : Nat) : (s.toDefault f j).modl = s.modl := State.wrv_modl _ _ _ _
@[simp] theorem State.toDefault_quads (s : State) (f : Ent) (j : Nat) : (s.toDefault f j).quads = s.quads := State.wrv_quads _ _ _ _
@[simp] theorem State.toDefault_groups (s : State) (f : Ent) (j : Nat) : (s.toDefault f j).groups = s.groups := State.wrv_groups _ _ _ _
@[simp] theorem State.toDefault_tes (s : State) (f : Ent) (j : Nat) : (s.toDefault f j).tes = s.tes := State.wrv_tes _ _ _ _
@[simp] theorem State.toDefault_louts (s : State) (f : Ent) (j : Nat) : (s.toDefault f j).louts = s.louts := State.wrv_louts _ _ _ _
@[simp] theorem State.toDefault_rows (s : State) (f : Ent) (j : Nat) : (s.toDefault f j).rows = s.rows := State.wrv_rows _ _ _ _
@[simp] theorem State.toDefault_mgmt (s : State) (f : Ent) (j : Nat) : (s.toDefault f j).mgmt = s.mgmt := State.wrv_mgmt _ _ _ _
@[simp] theorem State.toDefault_xfers (s : State) (f : Ent) (j : Nat) : (s.toDefault f j).xfers = s.xfers := State.wrv_xfers _ _ _ _
@[simp] theorem State.toDefault_jobs (s : State) (f : Ent) (j : Nat) : (s.toDefault f j).jobs = s.jobs := State.wrv_jobs _ _ _ _
@[simp] theorem State.toDefault_secure (s : State) (f : Ent) (j : Nat) : (s.toDefault f j).secure = s.secure := State.wrv_secure _ _ _ _
@[simp] theorem State.toDefault_power (s : State) (f : Ent) (j : Nat) : (s.toDefault f j).power = s.power := State.wrv_power _ _ _ _
@[simp] theorem State.toDefault_thermal (s : State) (f : Ent) (j : Nat) : (s.toDefault f j).thermal = s.thermal := State.wrv_thermal _ _ _ _
@[simp] theorem State.toDefault_boot (s : State) (f : Ent) (j : Nat) : (s.toDefault f j).boot = s.boot := State.wrv_boot _ _ _ _
@[simp] theorem State.toDefault_jtag (s : State) (f : Ent) (j : Nat) : (s.toDefault f j).jtag = s.jtag := State.wrv_jtag _ _ _ _
@[simp] theorem State.toDefault_tables (s : State) (f : Ent) (j : Nat) : (s.toDefault f j).tables = s.tables := State.wrv_tables _ _ _ _
@[simp] theorem State.toDefault_tablePad (s : State) (f : Ent) (j : Nat) : (s.toDefault f j).tablePad = s.tablePad := State.wrv_tablePad _ _ _ _
@[simp] theorem State.toDefault_draws (s : State) (f : Ent) (j : Nat) : (s.toDefault f j).draws = s.draws := State.wrv_draws _ _ _ _
@[simp] theorem State.toDefault_pending (s : State) (f : Ent) (j : Nat) : (s.toDefault f j).pending = s.pending := State.wrv_pending _ _ _ _
@[simp] theorem State.toDefault_lane (s : State) (f : Ent) (j : Nat) (n l : Nat) : (s.toDefault f j).lane n l = s.lane n l := State.wrv_lane _ _ _ _ _ _
@[simp] theorem State.toDefault_session (s : State) (f : Ent) (j : Nat) (n : Nat) : (s.toDefault f j).session n = s.session n := State.wrv_session _ _ _ _ _
@[simp] theorem State.toDefault_domain (s : State) (f : Ent) (j : Nat) (n : Nat) : (s.toDefault f j).domain n = s.domain n := State.wrv_domain _ _ _ _ _
@[simp] theorem State.toDefault_rail (s : State) (f : Ent) (j : Nat) (n : Nat) : (s.toDefault f j).rail n = s.rail n := State.wrv_rail _ _ _ _ _
@[simp] theorem State.toDefault_on (s : State) (f : Ent) (j : Nat) (n : Nat) : (s.toDefault f j).on n = s.on n := State.wrv_on _ _ _ _ _
@[simp] theorem State.toDefault_alive (s : State) (f : Ent) (j : Nat) (n : Nat) : (s.toDefault f j).alive n = s.alive n := State.wrv_alive _ _ _ _ _
@[simp] theorem State.toDefault_timeRuns (s : State) (f : Ent) (j : Nat)  : (s.toDefault f j).timeRuns  = s.timeRuns  := State.wrv_timeRuns _ _ _ _
@[simp] theorem State.toDefault_dispFine (s : State) (f : Ent) (j : Nat)  : (s.toDefault f j).dispFine  = s.dispFine  := State.wrv_dispFine _ _ _ _
@[simp] theorem State.toDefault_now (s : State) (f : Ent) (j : Nat)  : (s.toDefault f j).now  = s.now  := State.wrv_now _ _ _ _
@[simp] theorem State.toDefault_cal (s : State) (f : Ent) (j : Nat)  : (s.toDefault f j).cal  = s.cal  := State.wrv_cal _ _ _ _
@[simp] theorem State.toDefault_port (s : State) (f : Ent) (j : Nat) (n : Nat) : (s.toDefault f j).port n = s.port n := State.wrv_port _ _ _ _ _
@[simp] theorem State.toDefault_view (s : State) (f : Ent) (j : Nat) (n : Nat) : (s.toDefault f j).view n = s.view n := State.wrv_view _ _ _ _ _
@[simp] theorem State.toDefault_ctx (s : State) (f : Ent) (j : Nat) (n : Nat) : (s.toDefault f j).ctx n = s.ctx n := State.wrv_ctx _ _ _ _ _
@[simp] theorem State.toDefault_buf (s : State) (f : Ent) (j : Nat) (n : Nat) : (s.toDefault f j).buf n = s.buf n := State.wrv_buf _ _ _ _ _
@[simp] theorem State.toDefault_quad (s : State) (f : Ent) (j : Nat) (n : Nat) : (s.toDefault f j).quad n = s.quad n := State.wrv_quad _ _ _ _ _
@[simp] theorem State.toDefault_lout (s : State) (f : Ent) (j : Nat) (n : Nat) : (s.toDefault f j).lout n = s.lout n := State.wrv_lout _ _ _ _ _
@[simp] theorem State.toDefault_xfer (s : State) (f : Ent) (j : Nat) (n : Nat) : (s.toDefault f j).xfer n = s.xfer n := State.wrv_xfer _ _ _ _ _
@[simp] theorem State.toDefault_job (s : State) (f : Ent) (j : Nat) (n : Nat) : (s.toDefault f j).job n = s.job n := State.wrv_job _ _ _ _ _

/-! ### Reading back -/

@[simp] theorem State.setPort_ports (s : State) (m : Nat) (a : Port) : (s.setPort m a).ports = SMap.put s.ports m a := rfl

@[simp] theorem State.setView_views (s : State) (m : Nat) (a : ViewSt) : (s.setView m a).views = SMap.put s.views m a := rfl

@[simp] theorem State.setCtx_ctxs (s : State) (m : Nat) (a : Ctx) : (s.setCtx m a).ctxs = SMap.put s.ctxs m a := rfl

@[simp] theorem State.setBuf_bufs (s : State) (m : Nat) (a : BufX) : (s.setBuf m a).bufs = SMap.put s.bufs m a := rfl

@[simp] theorem State.setQuad_quads (s : State) (m : Nat) (a : Quad) : (s.setQuad m a).quads = SMap.put s.quads m a := rfl

@[simp] theorem State.setLout_louts (s : State) (m : Nat) (a : LaneOut) : (s.setLout m a).louts = SMap.put s.louts m a := rfl

@[simp] theorem State.setXfer_xfers (s : State) (m : Nat) (a : Xfer) : (s.setXfer m a).xfers = SMap.put s.xfers m a := rfl

@[simp] theorem State.setJob_jobs (s : State) (m : Nat) (a : Job) : (s.setJob m a).jobs = SMap.put s.jobs m a := rfl

@[simp] theorem State.setSession_mgmt (s : State) (m : Nat) (a : Session) : (s.setSession m a).mgmt = { s.mgmt with sessions := SMap.put s.mgmt.sessions m a } := rfl

@[simp] theorem State.setDomain_power (s : State) (m : Nat) (a : Domain) : (s.setDomain m a).power = { s.power with doms := SMap.put s.power.doms m a } := rfl

@[simp] theorem State.setRail_power (s : State) (m : Nat) (a : Rail) : (s.setRail m a).power = { s.power with rails := SMap.put s.power.rails m a } := rfl

@[simp] theorem State.setPort_port (s : State) (m : Nat) (a : Port) (n : Nat) :
    (s.setPort m a).port n = if m = n then a else s.port n := SMap.get_put _ _ _ _ _

@[simp] theorem State.setView_view (s : State) (m : Nat) (a : ViewSt) (n : Nat) :
    (s.setView m a).view n = if m = n then a else s.view n := SMap.get_put _ _ _ _ _

@[simp] theorem State.setCtx_ctx (s : State) (m : Nat) (a : Ctx) (n : Nat) :
    (s.setCtx m a).ctx n = if m = n then a else s.ctx n := SMap.get_put _ _ _ _ _

@[simp] theorem State.setBuf_buf (s : State) (m : Nat) (a : BufX) (n : Nat) :
    (s.setBuf m a).buf n = if m = n then a else s.buf n := SMap.get_put _ _ _ _ _

@[simp] theorem State.setQuad_quad (s : State) (m : Nat) (a : Quad) (n : Nat) :
    (s.setQuad m a).quad n = if m = n then a else s.quad n := SMap.get_put _ _ _ _ _

@[simp] theorem State.setLout_lout (s : State) (m : Nat) (a : LaneOut) (n : Nat) :
    (s.setLout m a).lout n = if m = n then a else s.lout n := SMap.get_put _ _ _ _ _

@[simp] theorem State.setXfer_xfer (s : State) (m : Nat) (a : Xfer) (n : Nat) :
    (s.setXfer m a).xfer n = if m = n then a else s.xfer n := SMap.get_put _ _ _ _ _

@[simp] theorem State.setJob_job (s : State) (m : Nat) (a : Job) (n : Nat) :
    (s.setJob m a).job n = if m = n then a else s.job n := SMap.get_put _ _ _ _ _

@[simp] theorem State.setSession_session (s : State) (m : Nat) (a : Session) (n : Nat) :
    (s.setSession m a).session n = if m = n then a else s.session n := SMap.get_put _ _ _ _ _

@[simp] theorem State.setDomain_domain (s : State) (m : Nat) (a : Domain) (n : Nat) :
    (s.setDomain m a).domain n = if m = n then a else s.domain n := SMap.get_put _ _ _ _ _

@[simp] theorem State.setRail_rail (s : State) (m : Nat) (a : Rail) (n : Nat) :
    (s.setRail m a).rail n = if m = n then a else s.rail n := SMap.get_put _ _ _ _ _

@[simp] theorem State.setLane_lane (s : State) (m k : Nat) (a : Lane) (n l : Nat) :
    (s.setLane m k a).lane n l = if 4 * m + k = 4 * n + l then a else s.lane n l := SMap.get_put _ _ _ _ _

@[simp] theorem State.setDomain_rail (s : State) (m : Nat) (a : Domain) (n : Nat) :
    (s.setDomain m a).rail n = s.rail n := rfl

@[simp] theorem State.setRail_domain (s : State) (m : Nat) (a : Rail) (n : Nat) :
    (s.setRail m a).domain n = s.domain n := rfl

@[simp] theorem State.setRail_on (s : State) (m : Nat) (a : Rail) (n : Nat) : (s.setRail m a).on n = s.on n := rfl

@[simp] theorem State.setRail_alive (s : State) (m : Nat) (a : Rail) (n : Nat) : (s.setRail m a).alive n = s.alive n := rfl

/-- What an entry holds after a write (R265). -/
@[simp] theorem State.wrv_rdv (s : State) (f : Ent) (j : Nat) (v : Val) (e : Ent) (i : Nat) :
    (s.wrv f j v).rdv e i = if f = e ∧ j % 65536 = i % 65536 then v else s.rdv e i := by
  unfold State.wrv
  split
  · rename_i h
    split
    · rename_i hk
      obtain ⟨rfl, hk⟩ := hk
      have : key f j = key f i := (key_inj _ _ _ _).2 ⟨rfl, hk⟩
      rw [← h]; unfold State.rdv; rw [this]
    · rfl
  · rw [State.rdv_mk]
    split
    · rename_i hk
      obtain ⟨rfl, hk⟩ := hk
      have : key f j = key f i := (key_inj _ _ _ _).2 ⟨rfl, hk⟩
      rw [← this]; exact SMap.get_set_same _ _ _ _
    · rename_i hk
      exact SMap.get_set_ne _ _ _ (fun h => hk ((key_inj _ _ _ _).1 h)) _

@[simp] theorem State.wrv_rd (s : State) (f : Ent) (j : Nat) (v : Val) (e : Ent) (i : Nat) :
    (s.wrv f j v).rd e i = if f = e ∧ j % 65536 = i % 65536 then v.headD 0 else s.rd e i := by
  unfold State.rd; rw [State.wrv_rdv]; split <;> rfl

@[simp] theorem State.wrv_rdn (s : State) (f : Ent) (j : Nat) (v : Val) (e : Ent) (i k : Nat) :
    (s.wrv f j v).rdn e i k = if f = e ∧ j % 65536 = i % 65536 then v.getD k 0 else s.rdn e i k := by
  unfold State.rdn; rw [State.wrv_rdv]; split <;> rfl

@[simp] theorem State.wr_rdv (s : State) (f : Ent) (j m : Nat) (e : Ent) (i : Nat) :
    (s.wr f j m).rdv e i = if f = e ∧ j % 65536 = i % 65536 then [m] else s.rdv e i := State.wrv_rdv _ _ _ _ _ _

@[simp] theorem State.wr_rd (s : State) (f : Ent) (j m : Nat) (e : Ent) (i : Nat) :
    (s.wr f j m).rd e i = if f = e ∧ j % 65536 = i % 65536 then m else s.rd e i := State.wrv_rd _ _ _ _ _ _

@[simp] theorem State.wr_rdn (s : State) (f : Ent) (j m : Nat) (e : Ent) (i k : Nat) :
    (s.wr f j m).rdn e i k = if f = e ∧ j % 65536 = i % 65536 then [m].getD k 0 else s.rdn e i k := State.wrv_rdn _ _ _ _ _ _ _

@[simp] theorem State.wrn_rd (s : State) (f : Ent) (j k m : Nat) (e : Ent) (i : Nat) :
    (s.wrn f j k m).rd e i = if f = e ∧ j % 65536 = i % 65536 then ((s.rdv f j).set k m).headD 0 else s.rd e i :=
  State.wrv_rd _ _ _ _ _ _

@[simp] theorem State.wrn_rdv (s : State) (f : Ent) (j k m : Nat) (e : Ent) (i : Nat) :
    (s.wrn f j k m).rdv e i = if f = e ∧ j % 65536 = i % 65536 then (s.rdv f j).set k m else s.rdv e i :=
  State.wrv_rdv _ _ _ _ _ _

/-- R54: what a counter holds after it goes up. -/
@[simp] theorem State.countBy_rd (s : State) (f : Ent) (j m : Nat) (e : Ent) (i : Nat) :
    (s.countBy f j m).rd e i = if f = e ∧ j % 65536 = i % 65536 then min (s.rd f j + m) 0xFFFFFFFF else s.rd e i :=
  State.wrv_rd _ _ _ _ _ _

@[simp] theorem State.count_rd (s : State) (f : Ent) (j : Nat) (e : Ent) (i : Nat) :
    (s.count f j).rd e i = if f = e ∧ j % 65536 = i % 65536 then min (s.rd f j + 1) 0xFFFFFFFF else s.rd e i :=
  State.wrv_rd _ _ _ _ _ _

@[simp] theorem State.countBy_rdv (s : State) (f : Ent) (j m : Nat) (e : Ent) (i : Nat) :
    (s.countBy f j m).rdv e i = if f = e ∧ j % 65536 = i % 65536 then [min (s.rd f j + m) 0xFFFFFFFF] else s.rdv e i :=
  State.wrv_rdv _ _ _ _ _ _

@[simp] theorem State.count_rdv (s : State) (f : Ent) (j : Nat) (e : Ent) (i : Nat) :
    (s.count f j).rdv e i = if f = e ∧ j % 65536 = i % 65536 then [min (s.rd f j + 1) 0xFFFFFFFF] else s.rdv e i :=
  State.wrv_rdv _ _ _ _ _ _

@[simp] theorem State.countBy_rdn (s : State) (f : Ent) (j m : Nat) (e : Ent) (i k : Nat) :
    (s.countBy f j m).rdn e i k
      = if f = e ∧ j % 65536 = i % 65536 then [min (s.rd f j + m) 0xFFFFFFFF].getD k 0 else s.rdn e i k :=
  State.wrv_rdn _ _ _ _ _ _ _

@[simp] theorem State.count_rdn (s : State) (f : Ent) (j : Nat) (e : Ent) (i k : Nat) :
    (s.count f j).rdn e i k
      = if f = e ∧ j % 65536 = i % 65536 then [min (s.rd f j + 1) 0xFFFFFFFF].getD k 0 else s.rdn e i k :=
  State.wrv_rdn _ _ _ _ _ _ _

@[simp] theorem State.toDefault_rdv (s : State) (f : Ent) (j : Nat) (e : Ent) (i : Nat) :
    (s.toDefault f j).rdv e i = if f = e ∧ j % 65536 = i % 65536 then f.dflt else s.rdv e i := State.wrv_rdv _ _ _ _ _ _

@[simp] theorem State.toDefault_rd (s : State) (f : Ent) (j : Nat) (e : Ent) (i : Nat) :
    (s.toDefault f j).rd e i = if f = e ∧ j % 65536 = i % 65536 then f.dflt.headD 0 else s.rd e i :=
  State.wrv_rd _ _ _ _ _ _

/-- The entries whose writes change whether the modulator runs. -/
@[simp] theorem State.wr_running (s : State) (f : Ent) (j m : Nat) (h : f ≠ .modulatorRun) :
    (s.wr f j m).running = s.running := by
  simp [State.running, h]

@[simp] theorem State.count_running (s : State) (f : Ent) (j : Nat) (h : f ≠ .modulatorRun) :
    (s.count f j).running = s.running := by
  simp [State.running, h]

@[simp] theorem State.wrv_running (s : State) (f : Ent) (j : Nat) (v : Val) (h : f ≠ .modulatorRun) :
    (s.wrv f j v).running = s.running := by
  simp [State.running, h]

@[simp] theorem State.wrv_active (s : State) (f : Ent) (j : Nat) (v : Val) (n : Nat) (h : f ≠ .portState) :
    (s.wrv f j v).active n = s.active n := by
  simp [State.active, h]

@[simp] theorem State.wr_active (s : State) (f : Ent) (j m : Nat) (n : Nat) (h : f ≠ .portState) :
    (s.wr f j m).active n = s.active n := by
  simp [State.active, h]

@[simp] theorem State.wrn_active (s : State) (f : Ent) (j k m : Nat) (n : Nat) (h : f ≠ .portState) :
    (s.wrn f j k m).active n = s.active n := by
  simp [State.active, h]

@[simp] theorem State.count_active (s : State) (f : Ent) (j : Nat) (n : Nat) (h : f ≠ .portState) :
    (s.count f j).active n = s.active n := by
  simp [State.active, h]

@[simp] theorem State.countBy_active (s : State) (f : Ent) (j m : Nat) (n : Nat) (h : f ≠ .portState) :
    (s.countBy f j m).active n = s.active n := by
  simp [State.active, h]

@[simp] theorem State.wrv_isChild (s : State) (f : Ent) (j : Nat) (v : Val) (n : Nat) (h : f ≠ .childPorts) :
    (s.wrv f j v).isChild n = s.isChild n := by
  simp [State.isChild, h]

@[simp] theorem State.wr_isChild (s : State) (f : Ent) (j m : Nat) (n : Nat) (h : f ≠ .childPorts) :
    (s.wr f j m).isChild n = s.isChild n := by
  simp [State.isChild, h]

@[simp] theorem State.wrn_isChild (s : State) (f : Ent) (j k m : Nat) (n : Nat) (h : f ≠ .childPorts) :
    (s.wrn f j k m).isChild n = s.isChild n := by
  simp [State.isChild, h]

@[simp] theorem State.count_isChild (s : State) (f : Ent) (j : Nat) (n : Nat) (h : f ≠ .childPorts) :
    (s.count f j).isChild n = s.isChild n := by
  simp [State.isChild, h]

@[simp] theorem State.countBy_isChild (s : State) (f : Ent) (j m : Nat) (n : Nat) (h : f ≠ .childPorts) :
    (s.countBy f j m).isChild n = s.isChild n := by
  simp [State.isChild, h]

@[simp] theorem State.wrn_running (s : State) (f : Ent) (j k m : Nat) (h : f ≠ .modulatorRun) :
    (s.wrn f j k m).running = s.running := by
  simp [State.running, h]

@[simp] theorem State.countBy_running (s : State) (f : Ent) (j m : Nat) (h : f ≠ .modulatorRun) :
    (s.countBy f j m).running = s.running := by
  simp [State.running, h]

/-- The register file keeps its canonical form under a write. -/
theorem State.wrv_wf {d : Nat → Val} {s : State} (h : SMap.wf d s.regs = true) (e : Ent) (i : Nat) (v : Val)
    (hd : d (key e i) = e.dflt) : SMap.wf d (s.wrv e i v).regs = true := by
  unfold State.wrv
  split
  · exact h
  · show SMap.wf d (SMap.set s.regs e.dflt (key e i) v) = true
    rw [← hd]; exact SMap.wf_set h _ _

end Sys2Proof.Machine
end

