-- ==== Sys2Proof/Laws/Clock.lean ====
section
/-! SUPPORT. What the passing of time changes: display time and the counts of the always-on domain, and nothing else
(R82, R95). -/

namespace Sys2Proof.Machine

theorem State.elapse_form (s : State) (d : Nat) :
    ∃ t m k, s.elapse d = { s with time := { s.time with disp := t }, aon := { s.aon with mono := m, ticks := k } } := by
  unfold State.elapse
  split
  · exact ⟨s.time.disp, s.aon.mono, s.aon.ticks, rfl⟩
  · split
    · split
      · exact ⟨s.time.disp, s.aon.mono, s.aon.ticks, rfl⟩
      · exact ⟨_, _, s.aon.ticks, rfl⟩
    · exact ⟨s.time.disp, _, _, rfl⟩

theorem State.untilMono_form (s : State) (d : Nat) :
    ∃ t m k, s.untilMono d = { s with time := { s.time with disp := t }, aon := { s.aon with mono := m, ticks := k } } :=
  State.elapse_form _ _

theorem State.untilDisp_form (s : State) (d : Nat) :
    ∃ t m k, s.untilDisp d = { s with time := { s.time with disp := t }, aon := { s.aon with mono := m, ticks := k } } := by
  unfold State.untilDisp
  split
  · exact State.elapse_form _ _
  · exact ⟨s.time.disp, s.aon.mono, s.aon.ticks, rfl⟩

/-- A due time that has come lets no time pass. -/
@[simp] theorem State.untilMono_due (s : State) (d : Nat) (h : d ≤ s.aon.mono) : s.untilMono d = s := by
  simp [State.untilMono, State.elapse, Nat.sub_eq_zero_of_le h]

/-- A due display time that has come lets no time pass. -/
@[simp] theorem State.untilDisp_due (s : State) (d : Nat) (h : d ≤ s.now) : s.untilDisp d = s := by
  unfold State.untilDisp State.elapse
  split
  · rename_i hr
    have hl : s.aon.latch = none := by
      simp only [State.timeRuns, Bool.and_eq_true, Option.isNone_iff_eq_none] at hr; exact hr.2
    have : d * 4294967296 - s.time.disp.toNat = 0 := by
      have h2 : s.now = s.time.disp.toNat / 4294967296 := by simp [State.now, State.dispFine, hl]
      omega
    simp [this]
  · rfl

/-! ### elapse: the fields it leaves as they are -/

@[simp] theorem State.elapse_regs (s : State) (d : Nat) : (s.elapse d).regs = s.regs := by
  obtain ⟨t, m, k, h⟩ := State.elapse_form s d; rw [h]
@[simp] theorem State.elapse_revs (s : State) (d : Nat) : (s.elapse d).revs = s.revs := by
  obtain ⟨t, m, k, h⟩ := State.elapse_form s d; rw [h]
@[simp] theorem State.elapse_ports (s : State) (d : Nat) : (s.elapse d).ports = s.ports := by
  obtain ⟨t, m, k, h⟩ := State.elapse_form s d; rw [h]
@[simp] theorem State.elapse_lanes (s : State) (d : Nat) : (s.elapse d).lanes = s.lanes := by
  obtain ⟨t, m, k, h⟩ := State.elapse_form s d; rw [h]
@[simp] theorem State.elapse_outcomes (s : State) (d : Nat) : (s.elapse d).outcomes = s.outcomes := by
  obtain ⟨t, m, k, h⟩ := State.elapse_form s d; rw [h]
@[simp] theorem State.elapse_sweeps (s : State) (d : Nat) : (s.elapse d).sweeps = s.sweeps := by
  obtain ⟨t, m, k, h⟩ := State.elapse_form s d; rw [h]
@[simp] theorem State.elapse_sweepPkts (s : State) (d : Nat) : (s.elapse d).sweepPkts = s.sweepPkts := by
  obtain ⟨t, m, k, h⟩ := State.elapse_form s d; rw [h]
@[simp] theorem State.elapse_views (s : State) (d : Nat) : (s.elapse d).views = s.views := by
  obtain ⟨t, m, k, h⟩ := State.elapse_form s d; rw [h]
@[simp] theorem State.elapse_syncIn (s : State) (d : Nat) : (s.elapse d).syncIn = s.syncIn := by
  obtain ⟨t, m, k, h⟩ := State.elapse_form s d; rw [h]
@[simp] theorem State.elapse_syncOut (s : State) (d : Nat) : (s.elapse d).syncOut = s.syncOut := by
  obtain ⟨t, m, k, h⟩ := State.elapse_form s d; rw [h]
@[simp] theorem State.elapse_ctxs (s : State) (d : Nat) : (s.elapse d).ctxs = s.ctxs := by
  obtain ⟨t, m, k, h⟩ := State.elapse_form s d; rw [h]
@[simp] theorem State.elapse_bufs (s : State) (d : Nat) : (s.elapse d).bufs = s.bufs := by
  obtain ⟨t, m, k, h⟩ := State.elapse_form s d; rw [h]
@[simp] theorem State.elapse_shown (s : State) (d : Nat) : (s.elapse d).shown = s.shown := by
  obtain ⟨t, m, k, h⟩ := State.elapse_form s d; rw [h]
@[simp] theorem State.elapse_quarry (s : State) (d : Nat) : (s.elapse d).quarry = s.quarry := by
  obtain ⟨t, m, k, h⟩ := State.elapse_form s d; rw [h]
@[simp] theorem State.elapse_fills (s : State) (d : Nat) : (s.elapse d).fills = s.fills := by
  obtain ⟨t, m, k, h⟩ := State.elapse_form s d; rw [h]
@[simp] theorem State.elapse_cap (s : State) (d : Nat) : (s.elapse d).cap = s.cap := by
  obtain ⟨t, m, k, h⟩ := State.elapse_form s d; rw [h]
@[simp] theorem State.elapse_defects (s : State) (d : Nat) : (s.elapse d).defects = s.defects := by
  obtain ⟨t, m, k, h⟩ := State.elapse_form s d; rw [h]
@[simp] theorem State.elapse_modl (s : State) (d : Nat) : (s.elapse d).modl = s.modl := by
  obtain ⟨t, m, k, h⟩ := State.elapse_form s d; rw [h]
@[simp] theorem State.elapse_quads (s : State) (d : Nat) : (s.elapse d).quads = s.quads := by
  obtain ⟨t, m, k, h⟩ := State.elapse_form s d; rw [h]
@[simp] theorem State.elapse_groups (s : State) (d : Nat) : (s.elapse d).groups = s.groups := by
  obtain ⟨t, m, k, h⟩ := State.elapse_form s d; rw [h]
@[simp] theorem State.elapse_tes (s : State) (d : Nat) : (s.elapse d).tes = s.tes := by
  obtain ⟨t, m, k, h⟩ := State.elapse_form s d; rw [h]
@[simp] theorem State.elapse_louts (s : State) (d : Nat) : (s.elapse d).louts = s.louts := by
  obtain ⟨t, m, k, h⟩ := State.elapse_form s d; rw [h]
@[simp] theorem State.elapse_rows (s : State) (d : Nat) : (s.elapse d).rows = s.rows := by
  obtain ⟨t, m, k, h⟩ := State.elapse_form s d; rw [h]
@[simp] theorem State.elapse_mgmt (s : State) (d : Nat) : (s.elapse d).mgmt = s.mgmt := by
  obtain ⟨t, m, k, h⟩ := State.elapse_form s d; rw [h]
@[simp] theorem State.elapse_xfers (s : State) (d : Nat) : (s.elapse d).xfers = s.xfers := by
  obtain ⟨t, m, k, h⟩ := State.elapse_form s d; rw [h]
@[simp] theorem State.elapse_jobs (s : State) (d : Nat) : (s.elapse d).jobs = s.jobs := by
  obtain ⟨t, m, k, h⟩ := State.elapse_form s d; rw [h]
@[simp] theorem State.elapse_secure (s : State) (d : Nat) : (s.elapse d).secure = s.secure := by
  obtain ⟨t, m, k, h⟩ := State.elapse_form s d; rw [h]
@[simp] theorem State.elapse_power (s : State) (d : Nat) : (s.elapse d).power = s.power := by
  obtain ⟨t, m, k, h⟩ := State.elapse_form s d; rw [h]
@[simp] theorem State.elapse_thermal (s : State) (d : Nat) : (s.elapse d).thermal = s.thermal := by
  obtain ⟨t, m, k, h⟩ := State.elapse_form s d; rw [h]
@[simp] theorem State.elapse_boot (s : State) (d : Nat) : (s.elapse d).boot = s.boot := by
  obtain ⟨t, m, k, h⟩ := State.elapse_form s d; rw [h]
@[simp] theorem State.elapse_jtag (s : State) (d : Nat) : (s.elapse d).jtag = s.jtag := by
  obtain ⟨t, m, k, h⟩ := State.elapse_form s d; rw [h]
@[simp] theorem State.elapse_tables (s : State) (d : Nat) : (s.elapse d).tables = s.tables := by
  obtain ⟨t, m, k, h⟩ := State.elapse_form s d; rw [h]
@[simp] theorem State.elapse_tablePad (s : State) (d : Nat) : (s.elapse d).tablePad = s.tablePad := by
  obtain ⟨t, m, k, h⟩ := State.elapse_form s d; rw [h]
@[simp] theorem State.elapse_draws (s : State) (d : Nat) : (s.elapse d).draws = s.draws := by
  obtain ⟨t, m, k, h⟩ := State.elapse_form s d; rw [h]
@[simp] theorem State.elapse_pending (s : State) (d : Nat) : (s.elapse d).pending = s.pending := by
  obtain ⟨t, m, k, h⟩ := State.elapse_form s d; rw [h]
@[simp] theorem State.elapse_lane (s : State) (d : Nat) (n l : Nat) : (s.elapse d).lane n l = s.lane n l := by simp only [State.lane, State.elapse_lanes]
@[simp] theorem State.elapse_session (s : State) (d : Nat) (n : Nat) : (s.elapse d).session n = s.session n := by simp only [State.session, State.elapse_mgmt]
@[simp] theorem State.elapse_domain (s : State) (d : Nat) (n : Nat) : (s.elapse d).domain n = s.domain n := by simp only [State.domain, State.elapse_power]
@[simp] theorem State.elapse_rail (s : State) (d : Nat) (n : Nat) : (s.elapse d).rail n = s.rail n := by simp only [State.rail, State.elapse_power]
@[simp] theorem State.elapse_on (s : State) (d : Nat) (n : Nat) : (s.elapse d).on n = s.on n := by simp only [State.on, State.elapse_domain]
@[simp] theorem State.elapse_alive (s : State) (d : Nat) (n : Nat) : (s.elapse d).alive n = s.alive n := by simp only [State.alive, State.elapse_domain]
@[simp] theorem State.elapse_port (s : State) (d : Nat) (n : Nat) : (s.elapse d).port n = s.port n := by simp only [State.port, State.elapse_ports]
@[simp] theorem State.elapse_view (s : State) (d : Nat) (n : Nat) : (s.elapse d).view n = s.view n := by simp only [State.view, State.elapse_views]
@[simp] theorem State.elapse_ctx (s : State) (d : Nat) (n : Nat) : (s.elapse d).ctx n = s.ctx n := by simp only [State.ctx, State.elapse_ctxs]
@[simp] theorem State.elapse_buf (s : State) (d : Nat) (n : Nat) : (s.elapse d).buf n = s.buf n := by simp only [State.buf, State.elapse_bufs]
@[simp] theorem State.elapse_quad (s : State) (d : Nat) (n : Nat) : (s.elapse d).quad n = s.quad n := by simp only [State.quad, State.elapse_quads]
@[simp] theorem State.elapse_lout (s : State) (d : Nat) (n : Nat) : (s.elapse d).lout n = s.lout n := by simp only [State.lout, State.elapse_louts]
@[simp] theorem State.elapse_xfer (s : State) (d : Nat) (n : Nat) : (s.elapse d).xfer n = s.xfer n := by simp only [State.xfer, State.elapse_xfers]
@[simp] theorem State.elapse_job (s : State) (d : Nat) (n : Nat) : (s.elapse d).job n = s.job n := by simp only [State.job, State.elapse_jobs]

@[simp] theorem State.elapse_time_calOfs (s : State) (d : Nat) : (s.elapse d).time.calOfs = s.time.calOfs := by
  obtain ⟨t, m, k, h⟩ := State.elapse_form s d; rw [h]
@[simp] theorem State.elapse_time_bound (s : State) (d : Nat) : (s.elapse d).time.bound = s.time.bound := by
  obtain ⟨t, m, k, h⟩ := State.elapse_form s d; rw [h]
@[simp] theorem State.elapse_time_boundAt (s : State) (d : Nat) : (s.elapse d).time.boundAt = s.time.boundAt := by
  obtain ⟨t, m, k, h⟩ := State.elapse_form s d; rw [h]
@[simp] theorem State.elapse_time_integ (s : State) (d : Nat) : (s.elapse d).time.integ = s.time.integ := by
  obtain ⟨t, m, k, h⟩ := State.elapse_form s d; rw [h]
@[simp] theorem State.elapse_time_lockCount (s : State) (d : Nat) : (s.elapse d).time.lockCount = s.time.lockCount := by
  obtain ⟨t, m, k, h⟩ := State.elapse_form s d; rw [h]
@[simp] theorem State.elapse_time_overCount (s : State) (d : Nat) : (s.elapse d).time.overCount = s.time.overCount := by
  obtain ⟨t, m, k, h⟩ := State.elapse_form s d; rw [h]
@[simp] theorem State.elapse_time_blocked (s : State) (d : Nat) : (s.elapse d).time.blocked = s.time.blocked := by
  obtain ⟨t, m, k, h⟩ := State.elapse_form s d; rw [h]
@[simp] theorem State.elapse_time_reqs (s : State) (d : Nat) : (s.elapse d).time.reqs = s.time.reqs := by
  obtain ⟨t, m, k, h⟩ := State.elapse_form s d; rw [h]
@[simp] theorem State.elapse_time_syncSent (s : State) (d : Nat) : (s.elapse d).time.syncSent = s.time.syncSent := by
  obtain ⟨t, m, k, h⟩ := State.elapse_form s d; rw [h]
@[simp] theorem State.elapse_time_exchAt (s : State) (d : Nat) : (s.elapse d).time.exchAt = s.time.exchAt := by
  obtain ⟨t, m, k, h⟩ := State.elapse_form s d; rw [h]
@[simp] theorem State.elapse_time_exchLeft (s : State) (d : Nat) : (s.elapse d).time.exchLeft = s.time.exchLeft := by
  obtain ⟨t, m, k, h⟩ := State.elapse_form s d; rw [h]
@[simp] theorem State.elapse_time_exch (s : State) (d : Nat) : (s.elapse d).time.exch = s.time.exch := by
  obtain ⟨t, m, k, h⟩ := State.elapse_form s d; rw [h]
@[simp] theorem State.elapse_time_exchPort (s : State) (d : Nat) : (s.elapse d).time.exchPort = s.time.exchPort := by
  obtain ⟨t, m, k, h⟩ := State.elapse_form s d; rw [h]
@[simp] theorem State.elapse_time_upState (s : State) (d : Nat) : (s.elapse d).time.upState = s.time.upState := by
  obtain ⟨t, m, k, h⟩ := State.elapse_form s d; rw [h]
@[simp] theorem State.elapse_time_upBound (s : State) (d : Nat) : (s.elapse d).time.upBound = s.time.upBound := by
  obtain ⟨t, m, k, h⟩ := State.elapse_form s d; rw [h]
@[simp] theorem State.elapse_time_syncAt (s : State) (d : Nat) : (s.elapse d).time.syncAt = s.time.syncAt := by
  obtain ⟨t, m, k, h⟩ := State.elapse_form s d; rw [h]
@[simp] theorem State.elapse_time_oscWin (s : State) (d : Nat) : (s.elapse d).time.oscWin = s.time.oscWin := by
  obtain ⟨t, m, k, h⟩ := State.elapse_form s d; rw [h]
@[simp] theorem State.elapse_aon_slow (s : State) (d : Nat) : (s.elapse d).aon.slow = s.aon.slow := by
  obtain ⟨t, m, k, h⟩ := State.elapse_form s d; rw [h]
@[simp] theorem State.elapse_aon_crystal (s : State) (d : Nat) : (s.elapse d).aon.crystal = s.aon.crystal := by
  obtain ⟨t, m, k, h⟩ := State.elapse_form s d; rw [h]
@[simp] theorem State.elapse_aon_refclk (s : State) (d : Nat) : (s.elapse d).aon.refclk = s.aon.refclk := by
  obtain ⟨t, m, k, h⟩ := State.elapse_form s d; rw [h]
@[simp] theorem State.elapse_aon_refSel (s : State) (d : Nat) : (s.elapse d).aon.refSel = s.aon.refSel := by
  obtain ⟨t, m, k, h⟩ := State.elapse_form s d; rw [h]
@[simp] theorem State.elapse_aon_switched (s : State) (d : Nat) : (s.elapse d).aon.switched = s.aon.switched := by
  obtain ⟨t, m, k, h⟩ := State.elapse_form s d; rw [h]
@[simp] theorem State.elapse_aon_winSwitch (s : State) (d : Nat) : (s.elapse d).aon.winSwitch = s.aon.winSwitch := by
  obtain ⟨t, m, k, h⟩ := State.elapse_form s d; rw [h]
@[simp] theorem State.elapse_aon_latch (s : State) (d : Nat) : (s.elapse d).aon.latch = s.aon.latch := by
  obtain ⟨t, m, k, h⟩ := State.elapse_form s d; rw [h]
@[simp] theorem State.elapse_aon_beacons (s : State) (d : Nat) : (s.elapse d).aon.beacons = s.aon.beacons := by
  obtain ⟨t, m, k, h⟩ := State.elapse_form s d; rw [h]
@[simp] theorem State.elapse_aon_ball (s : State) (d : Nat) : (s.elapse d).aon.ball = s.aon.ball := by
  obtain ⟨t, m, k, h⟩ := State.elapse_form s d; rw [h]
@[simp] theorem State.elapse_aon_ballEdge (s : State) (d : Nat) : (s.elapse d).aon.ballEdge = s.aon.ballEdge := by
  obtain ⟨t, m, k, h⟩ := State.elapse_form s d; rw [h]
@[simp] theorem State.elapse_aon_alarm (s : State) (d : Nat) : (s.elapse d).aon.alarm = s.aon.alarm := by
  obtain ⟨t, m, k, h⟩ := State.elapse_form s d; rw [h]
@[simp] theorem State.elapse_aon_alarmTaken (s : State) (d : Nat) : (s.elapse d).aon.alarmTaken = s.aon.alarmTaken := by
  obtain ⟨t, m, k, h⟩ := State.elapse_form s d; rw [h]
@[simp] theorem State.elapse_aon_spiEdge (s : State) (d : Nat) : (s.elapse d).aon.spiEdge = s.aon.spiEdge := by
  obtain ⟨t, m, k, h⟩ := State.elapse_form s d; rw [h]
@[simp] theorem State.elapse_aon_coal (s : State) (d : Nat) : (s.elapse d).aon.coal = s.aon.coal := by
  obtain ⟨t, m, k, h⟩ := State.elapse_form s d; rw [h]
@[simp] theorem State.elapse_aon_bbCoal (s : State) (d : Nat) : (s.elapse d).aon.bbCoal = s.aon.bbCoal := by
  obtain ⟨t, m, k, h⟩ := State.elapse_form s d; rw [h]
@[simp] theorem State.elapse_aon_snaps (s : State) (d : Nat) : (s.elapse d).aon.snaps = s.aon.snaps := by
  obtain ⟨t, m, k, h⟩ := State.elapse_form s d; rw [h]
@[simp] theorem State.elapse_aon_lastRate (s : State) (d : Nat) : (s.elapse d).aon.lastRate = s.aon.lastRate := by
  obtain ⟨t, m, k, h⟩ := State.elapse_form s d; rw [h]
@[simp] theorem State.elapse_aon_bipSecond (s : State) (d : Nat) : (s.elapse d).aon.bipSecond = s.aon.bipSecond := by
  obtain ⟨t, m, k, h⟩ := State.elapse_form s d; rw [h]

@[simp] theorem State.elapse_timeRuns (s : State) (d : Nat) : (s.elapse d).timeRuns = s.timeRuns := by
  simp only [State.timeRuns, State.elapse_alive, State.elapse_aon_latch]

@[simp] theorem State.elapse_rdv (s : State) (d : Nat) (e : Ent) (i : Nat) : (s.elapse d).rdv e i = s.rdv e i := by
  simp only [State.rdv, State.elapse_regs]

@[simp] theorem State.elapse_rd (s : State) (d : Nat) (e : Ent) (i : Nat) : (s.elapse d).rd e i = s.rd e i := by
  simp only [State.rd, State.elapse_rdv]

@[simp] theorem State.elapse_rdn (s : State) (d : Nat) (e : Ent) (i k : Nat) : (s.elapse d).rdn e i k = s.rdn e i k := by
  simp only [State.rdn, State.elapse_rdv]

@[simp] theorem State.elapse_running (s : State) (d : Nat) : (s.elapse d).running = s.running := by
  simp only [State.running, State.elapse_rd]

@[simp] theorem State.elapse_active (s : State) (d n : Nat) : (s.elapse d).active n = s.active n := by
  simp only [State.active, State.elapse_rd]

/-! ### untilMono: the fields it leaves as they are -/

@[simp] theorem State.untilMono_regs (s : State) (d : Nat) : (s.untilMono d).regs = s.regs := by
  obtain ⟨t, m, k, h⟩ := State.untilMono_form s d; rw [h]
@[simp] theorem State.untilMono_revs (s : State) (d : Nat) : (s.untilMono d).revs = s.revs := by
  obtain ⟨t, m, k, h⟩ := State.untilMono_form s d; rw [h]
@[simp] theorem State.untilMono_ports (s : State) (d : Nat) : (s.untilMono d).ports = s.ports := by
  obtain ⟨t, m, k, h⟩ := State.untilMono_form s d; rw [h]
@[simp] theorem State.untilMono_lanes (s : State) (d : Nat) : (s.untilMono d).lanes = s.lanes := by
  obtain ⟨t, m, k, h⟩ := State.untilMono_form s d; rw [h]
@[simp] theorem State.untilMono_outcomes (s : State) (d : Nat) : (s.untilMono d).outcomes = s.outcomes := by
  obtain ⟨t, m, k, h⟩ := State.untilMono_form s d; rw [h]
@[simp] theorem State.untilMono_sweeps (s : State) (d : Nat) : (s.untilMono d).sweeps = s.sweeps := by
  obtain ⟨t, m, k, h⟩ := State.untilMono_form s d; rw [h]
@[simp] theorem State.untilMono_sweepPkts (s : State) (d : Nat) : (s.untilMono d).sweepPkts = s.sweepPkts := by
  obtain ⟨t, m, k, h⟩ := State.untilMono_form s d; rw [h]
@[simp] theorem State.untilMono_views (s : State) (d : Nat) : (s.untilMono d).views = s.views := by
  obtain ⟨t, m, k, h⟩ := State.untilMono_form s d; rw [h]
@[simp] theorem State.untilMono_syncIn (s : State) (d : Nat) : (s.untilMono d).syncIn = s.syncIn := by
  obtain ⟨t, m, k, h⟩ := State.untilMono_form s d; rw [h]
@[simp] theorem State.untilMono_syncOut (s : State) (d : Nat) : (s.untilMono d).syncOut = s.syncOut := by
  obtain ⟨t, m, k, h⟩ := State.untilMono_form s d; rw [h]
@[simp] theorem State.untilMono_ctxs (s : State) (d : Nat) : (s.untilMono d).ctxs = s.ctxs := by
  obtain ⟨t, m, k, h⟩ := State.untilMono_form s d; rw [h]
@[simp] theorem State.untilMono_bufs (s : State) (d : Nat) : (s.untilMono d).bufs = s.bufs := by
  obtain ⟨t, m, k, h⟩ := State.untilMono_form s d; rw [h]
@[simp] theorem State.untilMono_shown (s : State) (d : Nat) : (s.untilMono d).shown = s.shown := by
  obtain ⟨t, m, k, h⟩ := State.untilMono_form s d; rw [h]
@[simp] theorem State.untilMono_quarry (s : State) (d : Nat) : (s.untilMono d).quarry = s.quarry := by
  obtain ⟨t, m, k, h⟩ := State.untilMono_form s d; rw [h]
@[simp] theorem State.untilMono_fills (s : State) (d : Nat) : (s.untilMono d).fills = s.fills := by
  obtain ⟨t, m, k, h⟩ := State.untilMono_form s d; rw [h]
@[simp] theorem State.untilMono_cap (s : State) (d : Nat) : (s.untilMono d).cap = s.cap := by
  obtain ⟨t, m, k, h⟩ := State.untilMono_form s d; rw [h]
@[simp] theorem State.untilMono_defects (s : State) (d : Nat) : (s.untilMono d).defects = s.defects := by
  obtain ⟨t, m, k, h⟩ := State.untilMono_form s d; rw [h]
@[simp] theorem State.untilMono_modl (s : State) (d : Nat) : (s.untilMono d).modl = s.modl := by
  obtain ⟨t, m, k, h⟩ := State.untilMono_form s d; rw [h]
@[simp] theorem State.untilMono_quads (s : State) (d : Nat) : (s.untilMono d).quads = s.quads := by
  obtain ⟨t, m, k, h⟩ := State.untilMono_form s d; rw [h]
@[simp] theorem State.untilMono_groups (s : State) (d : Nat) : (s.untilMono d).groups = s.groups := by
  obtain ⟨t, m, k, h⟩ := State.untilMono_form s d; rw [h]
@[simp] theorem State.untilMono_tes (s : State) (d : Nat) : (s.untilMono d).tes = s.tes := by
  obtain ⟨t, m, k, h⟩ := State.untilMono_form s d; rw [h]
@[simp] theorem State.untilMono_louts (s : State) (d : Nat) : (s.untilMono d).louts = s.louts := by
  obtain ⟨t, m, k, h⟩ := State.untilMono_form s d; rw [h]
@[simp] theorem State.untilMono_rows (s : State) (d : Nat) : (s.untilMono d).rows = s.rows := by
  obtain ⟨t, m, k, h⟩ := State.untilMono_form s d; rw [h]
@[simp] theorem State.untilMono_mgmt (s : State) (d : Nat) : (s.untilMono d).mgmt = s.mgmt := by
  obtain ⟨t, m, k, h⟩ := State.untilMono_form s d; rw [h]
@[simp] theorem State.untilMono_xfers (s : State) (d : Nat) : (s.untilMono d).xfers = s.xfers := by
  obtain ⟨t, m, k, h⟩ := State.untilMono_form s d; rw [h]
@[simp] theorem State.untilMono_jobs (s : State) (d : Nat) : (s.untilMono d).jobs = s.jobs := by
  obtain ⟨t, m, k, h⟩ := State.untilMono_form s d; rw [h]
@[simp] theorem State.untilMono_secure (s : State) (d : Nat) : (s.untilMono d).secure = s.secure := by
  obtain ⟨t, m, k, h⟩ := State.untilMono_form s d; rw [h]
@[simp] theorem State.untilMono_power (s : State) (d : Nat) : (s.untilMono d).power = s.power := by
  obtain ⟨t, m, k, h⟩ := State.untilMono_form s d; rw [h]
@[simp] theorem State.untilMono_thermal (s : State) (d : Nat) : (s.untilMono d).thermal = s.thermal := by
  obtain ⟨t, m, k, h⟩ := State.untilMono_form s d; rw [h]
@[simp] theorem State.untilMono_boot (s : State) (d : Nat) : (s.untilMono d).boot = s.boot := by
  obtain ⟨t, m, k, h⟩ := State.untilMono_form s d; rw [h]
@[simp] theorem State.untilMono_jtag (s : State) (d : Nat) : (s.untilMono d).jtag = s.jtag := by
  obtain ⟨t, m, k, h⟩ := State.untilMono_form s d; rw [h]
@[simp] theorem State.untilMono_tables (s : State) (d : Nat) : (s.untilMono d).tables = s.tables := by
  obtain ⟨t, m, k, h⟩ := State.untilMono_form s d; rw [h]
@[simp] theorem State.untilMono_tablePad (s : State) (d : Nat) : (s.untilMono d).tablePad = s.tablePad := by
  obtain ⟨t, m, k, h⟩ := State.untilMono_form s d; rw [h]
@[simp] theorem State.untilMono_draws (s : State) (d : Nat) : (s.untilMono d).draws = s.draws := by
  obtain ⟨t, m, k, h⟩ := State.untilMono_form s d; rw [h]
@[simp] theorem State.untilMono_pending (s : State) (d : Nat) : (s.untilMono d).pending = s.pending := by
  obtain ⟨t, m, k, h⟩ := State.untilMono_form s d; rw [h]
@[simp] theorem State.untilMono_lane (s : State) (d : Nat) (n l : Nat) : (s.untilMono d).lane n l = s.lane n l := by simp only [State.lane, State.untilMono_lanes]
@[simp] theorem State.untilMono_session (s : State) (d : Nat) (n : Nat) : (s.untilMono d).session n = s.session n := by simp only [State.session, State.untilMono_mgmt]
@[simp] theorem State.untilMono_domain (s : State) (d : Nat) (n : Nat) : (s.untilMono d).domain n = s.domain n := by simp only [State.domain, State.untilMono_power]
@[simp] theorem State.untilMono_rail (s : State) (d : Nat) (n : Nat) : (s.untilMono d).rail n = s.rail n := by simp only [State.rail, State.untilMono_power]
@[simp] theorem State.untilMono_on (s : State) (d : Nat) (n : Nat) : (s.untilMono d).on n = s.on n := by simp only [State.on, State.untilMono_domain]
@[simp] theorem State.untilMono_alive (s : State) (d : Nat) (n : Nat) : (s.untilMono d).alive n = s.alive n := by simp only [State.alive, State.untilMono_domain]
@[simp] theorem State.untilMono_port (s : State) (d : Nat) (n : Nat) : (s.untilMono d).port n = s.port n := by simp only [State.port, State.untilMono_ports]
@[simp] theorem State.untilMono_view (s : State) (d : Nat) (n : Nat) : (s.untilMono d).view n = s.view n := by simp only [State.view, State.untilMono_views]
@[simp] theorem State.untilMono_ctx (s : State) (d : Nat) (n : Nat) : (s.untilMono d).ctx n = s.ctx n := by simp only [State.ctx, State.untilMono_ctxs]
@[simp] theorem State.untilMono_buf (s : State) (d : Nat) (n : Nat) : (s.untilMono d).buf n = s.buf n := by simp only [State.buf, State.untilMono_bufs]
@[simp] theorem State.untilMono_quad (s : State) (d : Nat) (n : Nat) : (s.untilMono d).quad n = s.quad n := by simp only [State.quad, State.untilMono_quads]
@[simp] theorem State.untilMono_lout (s : State) (d : Nat) (n : Nat) : (s.untilMono d).lout n = s.lout n := by simp only [State.lout, State.untilMono_louts]
@[simp] theorem State.untilMono_xfer (s : State) (d : Nat) (n : Nat) : (s.untilMono d).xfer n = s.xfer n := by simp only [State.xfer, State.untilMono_xfers]
@[simp] theorem State.untilMono_job (s : State) (d : Nat) (n : Nat) : (s.untilMono d).job n = s.job n := by simp only [State.job, State.untilMono_jobs]

@[simp] theorem State.untilMono_time_calOfs (s : State) (d : Nat) : (s.untilMono d).time.calOfs = s.time.calOfs := by
  obtain ⟨t, m, k, h⟩ := State.untilMono_form s d; rw [h]
@[simp] theorem State.untilMono_time_bound (s : State) (d : Nat) : (s.untilMono d).time.bound = s.time.bound := by
  obtain ⟨t, m, k, h⟩ := State.untilMono_form s d; rw [h]
@[simp] theorem State.untilMono_time_boundAt (s : State) (d : Nat) : (s.untilMono d).time.boundAt = s.time.boundAt := by
  obtain ⟨t, m, k, h⟩ := State.untilMono_form s d; rw [h]
@[simp] theorem State.untilMono_time_integ (s : State) (d : Nat) : (s.untilMono d).time.integ = s.time.integ := by
  obtain ⟨t, m, k, h⟩ := State.untilMono_form s d; rw [h]
@[simp] theorem State.untilMono_time_lockCount (s : State) (d : Nat) : (s.untilMono d).time.lockCount = s.time.lockCount := by
  obtain ⟨t, m, k, h⟩ := State.untilMono_form s d; rw [h]
@[simp] theorem State.untilMono_time_overCount (s : State) (d : Nat) : (s.untilMono d).time.overCount = s.time.overCount := by
  obtain ⟨t, m, k, h⟩ := State.untilMono_form s d; rw [h]
@[simp] theorem State.untilMono_time_blocked (s : State) (d : Nat) : (s.untilMono d).time.blocked = s.time.blocked := by
  obtain ⟨t, m, k, h⟩ := State.untilMono_form s d; rw [h]
@[simp] theorem State.untilMono_time_reqs (s : State) (d : Nat) : (s.untilMono d).time.reqs = s.time.reqs := by
  obtain ⟨t, m, k, h⟩ := State.untilMono_form s d; rw [h]
@[simp] theorem State.untilMono_time_syncSent (s : State) (d : Nat) : (s.untilMono d).time.syncSent = s.time.syncSent := by
  obtain ⟨t, m, k, h⟩ := State.untilMono_form s d; rw [h]
@[simp] theorem State.untilMono_time_exchAt (s : State) (d : Nat) : (s.untilMono d).time.exchAt = s.time.exchAt := by
  obtain ⟨t, m, k, h⟩ := State.untilMono_form s d; rw [h]
@[simp] theorem State.untilMono_time_exchLeft (s : State) (d : Nat) : (s.untilMono d).time.exchLeft = s.time.exchLeft := by
  obtain ⟨t, m, k, h⟩ := State.untilMono_form s d; rw [h]
@[simp] theorem State.untilMono_time_exch (s : State) (d : Nat) : (s.untilMono d).time.exch = s.time.exch := by
  obtain ⟨t, m, k, h⟩ := State.untilMono_form s d; rw [h]
@[simp] theorem State.untilMono_time_exchPort (s : State) (d : Nat) : (s.untilMono d).time.exchPort = s.time.exchPort := by
  obtain ⟨t, m, k, h⟩ := State.untilMono_form s d; rw [h]
@[simp] theorem State.untilMono_time_upState (s : State) (d : Nat) : (s.untilMono d).time.upState = s.time.upState := by
  obtain ⟨t, m, k, h⟩ := State.untilMono_form s d; rw [h]
@[simp] theorem State.untilMono_time_upBound (s : State) (d : Nat) : (s.untilMono d).time.upBound = s.time.upBound := by
  obtain ⟨t, m, k, h⟩ := State.untilMono_form s d; rw [h]
@[simp] theorem State.untilMono_time_syncAt (s : State) (d : Nat) : (s.untilMono d).time.syncAt = s.time.syncAt := by
  obtain ⟨t, m, k, h⟩ := State.untilMono_form s d; rw [h]
@[simp] theorem State.untilMono_time_oscWin (s : State) (d : Nat) : (s.untilMono d).time.oscWin = s.time.oscWin := by
  obtain ⟨t, m, k, h⟩ := State.untilMono_form s d; rw [h]
@[simp] theorem State.untilMono_aon_slow (s : State) (d : Nat) : (s.untilMono d).aon.slow = s.aon.slow := by
  obtain ⟨t, m, k, h⟩ := State.untilMono_form s d; rw [h]
@[simp] theorem State.untilMono_aon_crystal (s : State) (d : Nat) : (s.untilMono d).aon.crystal = s.aon.crystal := by
  obtain ⟨t, m, k, h⟩ := State.untilMono_form s d; rw [h]
@[simp] theorem State.untilMono_aon_refclk (s : State) (d : Nat) : (s.untilMono d).aon.refclk = s.aon.refclk := by
  obtain ⟨t, m, k, h⟩ := State.untilMono_form s d; rw [h]
@[simp] theorem State.untilMono_aon_refSel (s : State) (d : Nat) : (s.untilMono d).aon.refSel = s.aon.refSel := by
  obtain ⟨t, m, k, h⟩ := State.untilMono_form s d; rw [h]
@[simp] theorem State.untilMono_aon_switched (s : State) (d : Nat) : (s.untilMono d).aon.switched = s.aon.switched := by
  obtain ⟨t, m, k, h⟩ := State.untilMono_form s d; rw [h]
@[simp] theorem State.untilMono_aon_winSwitch (s : State) (d : Nat) : (s.untilMono d).aon.winSwitch = s.aon.winSwitch := by
  obtain ⟨t, m, k, h⟩ := State.untilMono_form s d; rw [h]
@[simp] theorem State.untilMono_aon_latch (s : State) (d : Nat) : (s.untilMono d).aon.latch = s.aon.latch := by
  obtain ⟨t, m, k, h⟩ := State.untilMono_form s d; rw [h]
@[simp] theorem State.untilMono_aon_beacons (s : State) (d : Nat) : (s.untilMono d).aon.beacons = s.aon.beacons := by
  obtain ⟨t, m, k, h⟩ := State.untilMono_form s d; rw [h]
@[simp] theorem State.untilMono_aon_ball (s : State) (d : Nat) : (s.untilMono d).aon.ball = s.aon.ball := by
  obtain ⟨t, m, k, h⟩ := State.untilMono_form s d; rw [h]
@[simp] theorem State.untilMono_aon_ballEdge (s : State) (d : Nat) : (s.untilMono d).aon.ballEdge = s.aon.ballEdge := by
  obtain ⟨t, m, k, h⟩ := State.untilMono_form s d; rw [h]
@[simp] theorem State.untilMono_aon_alarm (s : State) (d : Nat) : (s.untilMono d).aon.alarm = s.aon.alarm := by
  obtain ⟨t, m, k, h⟩ := State.untilMono_form s d; rw [h]
@[simp] theorem State.untilMono_aon_alarmTaken (s : State) (d : Nat) : (s.untilMono d).aon.alarmTaken = s.aon.alarmTaken := by
  obtain ⟨t, m, k, h⟩ := State.untilMono_form s d; rw [h]
@[simp] theorem State.untilMono_aon_spiEdge (s : State) (d : Nat) : (s.untilMono d).aon.spiEdge = s.aon.spiEdge := by
  obtain ⟨t, m, k, h⟩ := State.untilMono_form s d; rw [h]
@[simp] theorem State.untilMono_aon_coal (s : State) (d : Nat) : (s.untilMono d).aon.coal = s.aon.coal := by
  obtain ⟨t, m, k, h⟩ := State.untilMono_form s d; rw [h]
@[simp] theorem State.untilMono_aon_bbCoal (s : State) (d : Nat) : (s.untilMono d).aon.bbCoal = s.aon.bbCoal := by
  obtain ⟨t, m, k, h⟩ := State.untilMono_form s d; rw [h]
@[simp] theorem State.untilMono_aon_snaps (s : State) (d : Nat) : (s.untilMono d).aon.snaps = s.aon.snaps := by
  obtain ⟨t, m, k, h⟩ := State.untilMono_form s d; rw [h]
@[simp] theorem State.untilMono_aon_lastRate (s : State) (d : Nat) : (s.untilMono d).aon.lastRate = s.aon.lastRate := by
  obtain ⟨t, m, k, h⟩ := State.untilMono_form s d; rw [h]
@[simp] theorem State.untilMono_aon_bipSecond (s : State) (d : Nat) : (s.untilMono d).aon.bipSecond = s.aon.bipSecond := by
  obtain ⟨t, m, k, h⟩ := State.untilMono_form s d; rw [h]

@[simp] theorem State.untilMono_timeRuns (s : State) (d : Nat) : (s.untilMono d).timeRuns = s.timeRuns := by
  simp only [State.timeRuns, State.untilMono_alive, State.untilMono_aon_latch]

@[simp] theorem State.untilMono_rdv (s : State) (d : Nat) (e : Ent) (i : Nat) : (s.untilMono d).rdv e i = s.rdv e i := by
  simp only [State.rdv, State.untilMono_regs]

@[simp] theorem State.untilMono_rd (s : State) (d : Nat) (e : Ent) (i : Nat) : (s.untilMono d).rd e i = s.rd e i := by
  simp only [State.rd, State.untilMono_rdv]

@[simp] theorem State.untilMono_rdn (s : State) (d : Nat) (e : Ent) (i k : Nat) : (s.untilMono d).rdn e i k = s.rdn e i k := by
  simp only [State.rdn, State.untilMono_rdv]

@[simp] theorem State.untilMono_running (s : State) (d : Nat) : (s.untilMono d).running = s.running := by
  simp only [State.running, State.untilMono_rd]

@[simp] theorem State.untilMono_active (s : State) (d n : Nat) : (s.untilMono d).active n = s.active n := by
  simp only [State.active, State.untilMono_rd]

/-! ### untilDisp: the fields it leaves as they are -/

@[simp] theorem State.untilDisp_regs (s : State) (d : Nat) : (s.untilDisp d).regs = s.regs := by
  obtain ⟨t, m, k, h⟩ := State.untilDisp_form s d; rw [h]
@[simp] theorem State.untilDisp_revs (s : State) (d : Nat) : (s.untilDisp d).revs = s.revs := by
  obtain ⟨t, m, k, h⟩ := State.untilDisp_form s d; rw [h]
@[simp] theorem State.untilDisp_ports (s : State) (d : Nat) : (s.untilDisp d).ports = s.ports := by
  obtain ⟨t, m, k, h⟩ := State.untilDisp_form s d; rw [h]
@[simp] theorem State.untilDisp_lanes (s : State) (d : Nat) : (s.untilDisp d).lanes = s.lanes := by
  obtain ⟨t, m, k, h⟩ := State.untilDisp_form s d; rw [h]
@[simp] theorem State.untilDisp_outcomes (s : State) (d : Nat) : (s.untilDisp d).outcomes = s.outcomes := by
  obtain ⟨t, m, k, h⟩ := State.untilDisp_form s d; rw [h]
@[simp] theorem State.untilDisp_sweeps (s : State) (d : Nat) : (s.untilDisp d).sweeps = s.sweeps := by
  obtain ⟨t, m, k, h⟩ := State.untilDisp_form s d; rw [h]
@[simp] theorem State.untilDisp_sweepPkts (s : State) (d : Nat) : (s.untilDisp d).sweepPkts = s.sweepPkts := by
  obtain ⟨t, m, k, h⟩ := State.untilDisp_form s d; rw [h]
@[simp] theorem State.untilDisp_views (s : State) (d : Nat) : (s.untilDisp d).views = s.views := by
  obtain ⟨t, m, k, h⟩ := State.untilDisp_form s d; rw [h]
@[simp] theorem State.untilDisp_syncIn (s : State) (d : Nat) : (s.untilDisp d).syncIn = s.syncIn := by
  obtain ⟨t, m, k, h⟩ := State.untilDisp_form s d; rw [h]
@[simp] theorem State.untilDisp_syncOut (s : State) (d : Nat) : (s.untilDisp d).syncOut = s.syncOut := by
  obtain ⟨t, m, k, h⟩ := State.untilDisp_form s d; rw [h]
@[simp] theorem State.untilDisp_ctxs (s : State) (d : Nat) : (s.untilDisp d).ctxs = s.ctxs := by
  obtain ⟨t, m, k, h⟩ := State.untilDisp_form s d; rw [h]
@[simp] theorem State.untilDisp_bufs (s : State) (d : Nat) : (s.untilDisp d).bufs = s.bufs := by
  obtain ⟨t, m, k, h⟩ := State.untilDisp_form s d; rw [h]
@[simp] theorem State.untilDisp_shown (s : State) (d : Nat) : (s.untilDisp d).shown = s.shown := by
  obtain ⟨t, m, k, h⟩ := State.untilDisp_form s d; rw [h]
@[simp] theorem State.untilDisp_quarry (s : State) (d : Nat) : (s.untilDisp d).quarry = s.quarry := by
  obtain ⟨t, m, k, h⟩ := State.untilDisp_form s d; rw [h]
@[simp] theorem State.untilDisp_fills (s : State) (d : Nat) : (s.untilDisp d).fills = s.fills := by
  obtain ⟨t, m, k, h⟩ := State.untilDisp_form s d; rw [h]
@[simp] theorem State.untilDisp_cap (s : State) (d : Nat) : (s.untilDisp d).cap = s.cap := by
  obtain ⟨t, m, k, h⟩ := State.untilDisp_form s d; rw [h]
@[simp] theorem State.untilDisp_defects (s : State) (d : Nat) : (s.untilDisp d).defects = s.defects := by
  obtain ⟨t, m, k, h⟩ := State.untilDisp_form s d; rw [h]
@[simp] theorem State.untilDisp_modl (s : State) (d : Nat) : (s.untilDisp d).modl = s.modl := by
  obtain ⟨t, m, k, h⟩ := State.untilDisp_form s d; rw [h]
@[simp] theorem State.untilDisp_quads (s : State) (d : Nat) : (s.untilDisp d).quads = s.quads := by
  obtain ⟨t, m, k, h⟩ := State.untilDisp_form s d; rw [h]
@[simp] theorem State.untilDisp_groups (s : State) (d : Nat) : (s.untilDisp d).groups = s.groups := by
  obtain ⟨t, m, k, h⟩ := State.untilDisp_form s d; rw [h]
@[simp] theorem State.untilDisp_tes (s : State) (d : Nat) : (s.untilDisp d).tes = s.tes := by
  obtain ⟨t, m, k, h⟩ := State.untilDisp_form s d; rw [h]
@[simp] theorem State.untilDisp_louts (s : State) (d : Nat) : (s.untilDisp d).louts = s.louts := by
  obtain ⟨t, m, k, h⟩ := State.untilDisp_form s d; rw [h]
@[simp] theorem State.untilDisp_rows (s : State) (d : Nat) : (s.untilDisp d).rows = s.rows := by
  obtain ⟨t, m, k, h⟩ := State.untilDisp_form s d; rw [h]
@[simp] theorem State.untilDisp_mgmt (s : State) (d : Nat) : (s.untilDisp d).mgmt = s.mgmt := by
  obtain ⟨t, m, k, h⟩ := State.untilDisp_form s d; rw [h]
@[simp] theorem State.untilDisp_xfers (s : State) (d : Nat) : (s.untilDisp d).xfers = s.xfers := by
  obtain ⟨t, m, k, h⟩ := State.untilDisp_form s d; rw [h]
@[simp] theorem State.untilDisp_jobs (s : State) (d : Nat) : (s.untilDisp d).jobs = s.jobs := by
  obtain ⟨t, m, k, h⟩ := State.untilDisp_form s d; rw [h]
@[simp] theorem State.untilDisp_secure (s : State) (d : Nat) : (s.untilDisp d).secure = s.secure := by
  obtain ⟨t, m, k, h⟩ := State.untilDisp_form s d; rw [h]
@[simp] theorem State.untilDisp_power (s : State) (d : Nat) : (s.untilDisp d).power = s.power := by
  obtain ⟨t, m, k, h⟩ := State.untilDisp_form s d; rw [h]
@[simp] theorem State.untilDisp_thermal (s : State) (d : Nat) : (s.untilDisp d).thermal = s.thermal := by
  obtain ⟨t, m, k, h⟩ := State.untilDisp_form s d; rw [h]
@[simp] theorem State.untilDisp_boot (s : State) (d : Nat) : (s.untilDisp d).boot = s.boot := by
  obtain ⟨t, m, k, h⟩ := State.untilDisp_form s d; rw [h]
@[simp] theorem State.untilDisp_jtag (s : State) (d : Nat) : (s.untilDisp d).jtag = s.jtag := by
  obtain ⟨t, m, k, h⟩ := State.untilDisp_form s d; rw [h]
@[simp] theorem State.untilDisp_tables (s : State) (d : Nat) : (s.untilDisp d).tables = s.tables := by
  obtain ⟨t, m, k, h⟩ := State.untilDisp_form s d; rw [h]
@[simp] theorem State.untilDisp_tablePad (s : State) (d : Nat) : (s.untilDisp d).tablePad = s.tablePad := by
  obtain ⟨t, m, k, h⟩ := State.untilDisp_form s d; rw [h]
@[simp] theorem State.untilDisp_draws (s : State) (d : Nat) : (s.untilDisp d).draws = s.draws := by
  obtain ⟨t, m, k, h⟩ := State.untilDisp_form s d; rw [h]
@[simp] theorem State.untilDisp_pending (s : State) (d : Nat) : (s.untilDisp d).pending = s.pending := by
  obtain ⟨t, m, k, h⟩ := State.untilDisp_form s d; rw [h]
@[simp] theorem State.untilDisp_lane (s : State) (d : Nat) (n l : Nat) : (s.untilDisp d).lane n l = s.lane n l := by simp only [State.lane, State.untilDisp_lanes]
@[simp] theorem State.untilDisp_session (s : State) (d : Nat) (n : Nat) : (s.untilDisp d).session n = s.session n := by simp only [State.session, State.untilDisp_mgmt]
@[simp] theorem State.untilDisp_domain (s : State) (d : Nat) (n : Nat) : (s.untilDisp d).domain n = s.domain n := by simp only [State.domain, State.untilDisp_power]
@[simp] theorem State.untilDisp_rail (s : State) (d : Nat) (n : Nat) : (s.untilDisp d).rail n = s.rail n := by simp only [State.rail, State.untilDisp_power]
@[simp] theorem State.untilDisp_on (s : State) (d : Nat) (n : Nat) : (s.untilDisp d).on n = s.on n := by simp only [State.on, State.untilDisp_domain]
@[simp] theorem State.untilDisp_alive (s : State) (d : Nat) (n : Nat) : (s.untilDisp d).alive n = s.alive n := by simp only [State.alive, State.untilDisp_domain]
@[simp] theorem State.untilDisp_port (s : State) (d : Nat) (n : Nat) : (s.untilDisp d).port n = s.port n := by simp only [State.port, State.untilDisp_ports]
@[simp] theorem State.untilDisp_view (s : State) (d : Nat) (n : Nat) : (s.untilDisp d).view n = s.view n := by simp only [State.view, State.untilDisp_views]
@[simp] theorem State.untilDisp_ctx (s : State) (d : Nat) (n : Nat) : (s.untilDisp d).ctx n = s.ctx n := by simp only [State.ctx, State.untilDisp_ctxs]
@[simp] theorem State.untilDisp_buf (s : State) (d : Nat) (n : Nat) : (s.untilDisp d).buf n = s.buf n := by simp only [State.buf, State.untilDisp_bufs]
@[simp] theorem State.untilDisp_quad (s : State) (d : Nat) (n : Nat) : (s.untilDisp d).quad n = s.quad n := by simp only [State.quad, State.untilDisp_quads]
@[simp] theorem State.untilDisp_lout (s : State) (d : Nat) (n : Nat) : (s.untilDisp d).lout n = s.lout n := by simp only [State.lout, State.untilDisp_louts]
@[simp] theorem State.untilDisp_xfer (s : State) (d : Nat) (n : Nat) : (s.untilDisp d).xfer n = s.xfer n := by simp only [State.xfer, State.untilDisp_xfers]
@[simp] theorem State.untilDisp_job (s : State) (d : Nat) (n : Nat) : (s.untilDisp d).job n = s.job n := by simp only [State.job, State.untilDisp_jobs]

@[simp] theorem State.untilDisp_time_calOfs (s : State) (d : Nat) : (s.untilDisp d).time.calOfs = s.time.calOfs := by
  obtain ⟨t, m, k, h⟩ := State.untilDisp_form s d; rw [h]
@[simp] theorem State.untilDisp_time_bound (s : State) (d : Nat) : (s.untilDisp d).time.bound = s.time.bound := by
  obtain ⟨t, m, k, h⟩ := State.untilDisp_form s d; rw [h]
@[simp] theorem State.untilDisp_time_boundAt (s : State) (d : Nat) : (s.untilDisp d).time.boundAt = s.time.boundAt := by
  obtain ⟨t, m, k, h⟩ := State.untilDisp_form s d; rw [h]
@[simp] theorem State.untilDisp_time_integ (s : State) (d : Nat) : (s.untilDisp d).time.integ = s.time.integ := by
  obtain ⟨t, m, k, h⟩ := State.untilDisp_form s d; rw [h]
@[simp] theorem State.untilDisp_time_lockCount (s : State) (d : Nat) : (s.untilDisp d).time.lockCount = s.time.lockCount := by
  obtain ⟨t, m, k, h⟩ := State.untilDisp_form s d; rw [h]
@[simp] theorem State.untilDisp_time_overCount (s : State) (d : Nat) : (s.untilDisp d).time.overCount = s.time.overCount := by
  obtain ⟨t, m, k, h⟩ := State.untilDisp_form s d; rw [h]
@[simp] theorem State.untilDisp_time_blocked (s : State) (d : Nat) : (s.untilDisp d).time.blocked = s.time.blocked := by
  obtain ⟨t, m, k, h⟩ := State.untilDisp_form s d; rw [h]
@[simp] theorem State.untilDisp_time_reqs (s : State) (d : Nat) : (s.untilDisp d).time.reqs = s.time.reqs := by
  obtain ⟨t, m, k, h⟩ := State.untilDisp_form s d; rw [h]
@[simp] theorem State.untilDisp_time_syncSent (s : State) (d : Nat) : (s.untilDisp d).time.syncSent = s.time.syncSent := by
  obtain ⟨t, m, k, h⟩ := State.untilDisp_form s d; rw [h]
@[simp] theorem State.untilDisp_time_exchAt (s : State) (d : Nat) : (s.untilDisp d).time.exchAt = s.time.exchAt := by
  obtain ⟨t, m, k, h⟩ := State.untilDisp_form s d; rw [h]
@[simp] theorem State.untilDisp_time_exchLeft (s : State) (d : Nat) : (s.untilDisp d).time.exchLeft = s.time.exchLeft := by
  obtain ⟨t, m, k, h⟩ := State.untilDisp_form s d; rw [h]
@[simp] theorem State.untilDisp_time_exch (s : State) (d : Nat) : (s.untilDisp d).time.exch = s.time.exch := by
  obtain ⟨t, m, k, h⟩ := State.untilDisp_form s d; rw [h]
@[simp] theorem State.untilDisp_time_exchPort (s : State) (d : Nat) : (s.untilDisp d).time.exchPort = s.time.exchPort := by
  obtain ⟨t, m, k, h⟩ := State.untilDisp_form s d; rw [h]
@[simp] theorem State.untilDisp_time_upState (s : State) (d : Nat) : (s.untilDisp d).time.upState = s.time.upState := by
  obtain ⟨t, m, k, h⟩ := State.untilDisp_form s d; rw [h]
@[simp] theorem State.untilDisp_time_upBound (s : State) (d : Nat) : (s.untilDisp d).time.upBound = s.time.upBound := by
  obtain ⟨t, m, k, h⟩ := State.untilDisp_form s d; rw [h]
@[simp] theorem State.untilDisp_time_syncAt (s : State) (d : Nat) : (s.untilDisp d).time.syncAt = s.time.syncAt := by
  obtain ⟨t, m, k, h⟩ := State.untilDisp_form s d; rw [h]
@[simp] theorem State.untilDisp_time_oscWin (s : State) (d : Nat) : (s.untilDisp d).time.oscWin = s.time.oscWin := by
  obtain ⟨t, m, k, h⟩ := State.untilDisp_form s d; rw [h]
@[simp] theorem State.untilDisp_aon_slow (s : State) (d : Nat) : (s.untilDisp d).aon.slow = s.aon.slow := by
  obtain ⟨t, m, k, h⟩ := State.untilDisp_form s d; rw [h]
@[simp] theorem State.untilDisp_aon_crystal (s : State) (d : Nat) : (s.untilDisp d).aon.crystal = s.aon.crystal := by
  obtain ⟨t, m, k, h⟩ := State.untilDisp_form s d; rw [h]
@[simp] theorem State.untilDisp_aon_refclk (s : State) (d : Nat) : (s.untilDisp d).aon.refclk = s.aon.refclk := by
  obtain ⟨t, m, k, h⟩ := State.untilDisp_form s d; rw [h]
@[simp] theorem State.untilDisp_aon_refSel (s : State) (d : Nat) : (s.untilDisp d).aon.refSel = s.aon.refSel := by
  obtain ⟨t, m, k, h⟩ := State.untilDisp_form s d; rw [h]
@[simp] theorem State.untilDisp_aon_switched (s : State) (d : Nat) : (s.untilDisp d).aon.switched = s.aon.switched := by
  obtain ⟨t, m, k, h⟩ := State.untilDisp_form s d; rw [h]
@[simp] theorem State.untilDisp_aon_winSwitch (s : State) (d : Nat) : (s.untilDisp d).aon.winSwitch = s.aon.winSwitch := by
  obtain ⟨t, m, k, h⟩ := State.untilDisp_form s d; rw [h]
@[simp] theorem State.untilDisp_aon_latch (s : State) (d : Nat) : (s.untilDisp d).aon.latch = s.aon.latch := by
  obtain ⟨t, m, k, h⟩ := State.untilDisp_form s d; rw [h]
@[simp] theorem State.untilDisp_aon_beacons (s : State) (d : Nat) : (s.untilDisp d).aon.beacons = s.aon.beacons := by
  obtain ⟨t, m, k, h⟩ := State.untilDisp_form s d; rw [h]
@[simp] theorem State.untilDisp_aon_ball (s : State) (d : Nat) : (s.untilDisp d).aon.ball = s.aon.ball := by
  obtain ⟨t, m, k, h⟩ := State.untilDisp_form s d; rw [h]
@[simp] theorem State.untilDisp_aon_ballEdge (s : State) (d : Nat) : (s.untilDisp d).aon.ballEdge = s.aon.ballEdge := by
  obtain ⟨t, m, k, h⟩ := State.untilDisp_form s d; rw [h]
@[simp] theorem State.untilDisp_aon_alarm (s : State) (d : Nat) : (s.untilDisp d).aon.alarm = s.aon.alarm := by
  obtain ⟨t, m, k, h⟩ := State.untilDisp_form s d; rw [h]
@[simp] theorem State.untilDisp_aon_alarmTaken (s : State) (d : Nat) : (s.untilDisp d).aon.alarmTaken = s.aon.alarmTaken := by
  obtain ⟨t, m, k, h⟩ := State.untilDisp_form s d; rw [h]
@[simp] theorem State.untilDisp_aon_spiEdge (s : State) (d : Nat) : (s.untilDisp d).aon.spiEdge = s.aon.spiEdge := by
  obtain ⟨t, m, k, h⟩ := State.untilDisp_form s d; rw [h]
@[simp] theorem State.untilDisp_aon_coal (s : State) (d : Nat) : (s.untilDisp d).aon.coal = s.aon.coal := by
  obtain ⟨t, m, k, h⟩ := State.untilDisp_form s d; rw [h]
@[simp] theorem State.untilDisp_aon_bbCoal (s : State) (d : Nat) : (s.untilDisp d).aon.bbCoal = s.aon.bbCoal := by
  obtain ⟨t, m, k, h⟩ := State.untilDisp_form s d; rw [h]
@[simp] theorem State.untilDisp_aon_snaps (s : State) (d : Nat) : (s.untilDisp d).aon.snaps = s.aon.snaps := by
  obtain ⟨t, m, k, h⟩ := State.untilDisp_form s d; rw [h]
@[simp] theorem State.untilDisp_aon_lastRate (s : State) (d : Nat) : (s.untilDisp d).aon.lastRate = s.aon.lastRate := by
  obtain ⟨t, m, k, h⟩ := State.untilDisp_form s d; rw [h]
@[simp] theorem State.untilDisp_aon_bipSecond (s : State) (d : Nat) : (s.untilDisp d).aon.bipSecond = s.aon.bipSecond := by
  obtain ⟨t, m, k, h⟩ := State.untilDisp_form s d; rw [h]

@[simp] theorem State.untilDisp_timeRuns (s : State) (d : Nat) : (s.untilDisp d).timeRuns = s.timeRuns := by
  simp only [State.timeRuns, State.untilDisp_alive, State.untilDisp_aon_latch]

@[simp] theorem State.untilDisp_rdv (s : State) (d : Nat) (e : Ent) (i : Nat) : (s.untilDisp d).rdv e i = s.rdv e i := by
  simp only [State.rdv, State.untilDisp_regs]

@[simp] theorem State.untilDisp_rd (s : State) (d : Nat) (e : Ent) (i : Nat) : (s.untilDisp d).rd e i = s.rd e i := by
  simp only [State.rd, State.untilDisp_rdv]

@[simp] theorem State.untilDisp_rdn (s : State) (d : Nat) (e : Ent) (i k : Nat) : (s.untilDisp d).rdn e i k = s.rdn e i k := by
  simp only [State.rdn, State.untilDisp_rdv]

@[simp] theorem State.untilDisp_running (s : State) (d : Nat) : (s.untilDisp d).running = s.running := by
  simp only [State.running, State.untilDisp_rd]

@[simp] theorem State.untilDisp_active (s : State) (d n : Nat) : (s.untilDisp d).active n = s.active n := by
  simp only [State.active, State.untilDisp_rd]

end Sys2Proof.Machine
end

