-- ==== Sys2Proof/Laws/Dither.lean ====
section
/-! SUPPORT. The bit reversal of the dither threshold is its own inverse (R218). -/

namespace Sys2Proof.Machine

/-- R218: a reversal of m bits stays within m bits. -/
theorem bitRev_lt (m n : Nat) : bitRev m n < 2 ^ m := by
  induction m generalizing n with
  | zero => simp [bitRev]
  | succ m ih =>
    have := ih (n / 2)
    have : n % 2 * 2 ^ m ≤ 1 * 2 ^ m := Nat.mul_le_mul_right _ (by omega)
    simp only [bitRev, pow_succ]; omega

/-- R218: the reversal of one more bit takes that bit lowest. -/
theorem bitRev_succ_low (m n : Nat) : bitRev (m + 1) n = 2 * bitRev m n + n / 2 ^ m % 2 := by
  induction m generalizing n with
  | zero => simp [bitRev]
  | succ m ih =>
    rw [bitRev, ih (n / 2), bitRev, Nat.div_div_eq_div_mul, ← pow_succ']
    ring

/-- R218: the reversal reads the low bits only. -/
theorem bitRev_add_high (m a b : Nat) : bitRev m (a * 2 ^ m + b) = bitRev m b := by
  induction m generalizing b with
  | zero => simp [bitRev]
  | succ m ih =>
    have e : a * 2 ^ (m + 1) = 2 * (a * 2 ^ m) := by ring
    rw [e, bitRev, bitRev, show (2 * (a * 2 ^ m) + b) / 2 = a * 2 ^ m + b / 2 by omega,
      show (2 * (a * 2 ^ m) + b) % 2 = b % 2 by omega, ih]

/-- R218: reversing m bits twice gives them back. -/
theorem bitRev_bitRev (m n : Nat) (h : n < 2 ^ m) : bitRev m (bitRev m n) = n := by
  induction m generalizing n with
  | zero => simp [bitRev] at *; omega
  | succ m ih =>
    rw [bitRev_succ_low m (bitRev (m + 1) n), bitRev, bitRev_add_high, ih (n / 2) (by rw [pow_succ] at h; omega),
      Nat.add_comm (n % 2 * 2 ^ m), Nat.add_mul_div_right _ _ (Nat.two_pow_pos m), Nat.div_eq_of_lt (bitRev_lt m (n / 2))]
    omega

end Sys2Proof.Machine
end

