-- ==== Sys2Proof/Laws/Events.lean ====
section
/-! SUPPORT. What raising an event can do (R292, R293, R326): the event queue, the coalescing counters, the black box's
queue and three counters, and nothing else. -/

namespace Sys2Proof.Machine

theorem State.wrv_form (s : State) (f : Ent) (j : Nat) (v : Val) :
    s.wrv f j v = { s with regs := (s.wrv f j v).regs, revs := (s.wrv f j v).revs } := by
  unfold State.wrv; split <;> rfl

theorem State.count_form (s : State) (f : Ent) (j : Nat) :
    s.count f j = { s with regs := (s.count f j).regs, revs := (s.count f j).revs } := State.wrv_form _ _ _ _

theorem State.bbSummarise_form (k : Nat) (s : State) :
    ∃ q c, State.bbSummarise k s = { s with secure := { s.secure with bbQueue := q }, aon := { s.aon with bbCoal := c } } := by
  induction k generalizing s with
  | zero => exact ⟨s.secure.bbQueue, s.aon.bbCoal, rfl⟩
  | succ k ih =>
    unfold State.bbSummarise
    split
    · split
      · exact ⟨s.secure.bbQueue, s.aon.bbCoal, rfl⟩
      · obtain ⟨q, c, h⟩ := ih _
        exact ⟨q, c, h⟩
    · exact ⟨s.secure.bbQueue, s.aon.bbCoal, rfl⟩

theorem State.bbPut_form (s : State) (kind : Nat) (r : EventRec) :
    ∃ q c regs revs, s.bbPut kind r = { s with regs := regs, revs := revs
                                               secure := { s.secure with bbQueue := q }, aon := { s.aon with bbCoal := c } }
      ∧ ∀ e i, e ≠ .blackBoxCoalesced → SMap.get regs (key e i) e.dflt = s.rdv e i := by
  obtain ⟨q, c, h⟩ := State.bbSummarise_form 64 s
  unfold State.bbPut
  rw [h]
  dsimp only
  split
  · exact ⟨_, _, s.regs, s.revs, rfl, fun e i _ => rfl⟩
  · rw [State.count_form]
    refine ⟨q, _, _, _, rfl, ?_⟩
    intro e i he
    simp [he.symm]

theorem State.queueEvent_form (s : State) (r : EventRec) :
    ∃ (q : List EventRec × MadeRevs) (c : SMap Coal) (regs : SMap Val) (revs : SMap Nat), s.queueEvent r = { s with
        regs := regs, revs := revs
        mgmt := { s.mgmt with events := q.1, made := q.2 }, aon := { s.aon with coal := c } }
      ∧ ∀ e i, e ≠ .eventsCoalesced → SMap.get regs (key e i) e.dflt = s.rdv e i := by
  unfold State.queueEvent
  dsimp only
  split
  · exact ⟨(_, _), _, s.regs, s.revs, rfl, fun e i _ => rfl⟩
  · rw [State.count_form]
    refine ⟨(s.mgmt.events, s.mgmt.made), _, _, _, rfl, ?_⟩
    intro e i he
    simp [he.symm]

/-- R292, R293, R326. -/
theorem State.raise_form (s : State) (e : Event) (names : List Nat) :
    ∃ (q : List EventRec × MadeRevs) (c : SMap Coal) (bq : List (Nat × EventRec)) (bc : SMap Coal) (regs : SMap Val) (revs : SMap Nat),
      s.raise e names = { s with
        regs := regs, revs := revs, mgmt := { s.mgmt with events := q.1, made := q.2 }, aon := { s.aon with coal := c, bbCoal := bc }
        secure := { s.secure with bbQueue := bq } }
      ∧ ∀ f i, f ≠ .eventsRaised → f ≠ .eventsCoalesced → f ≠ .blackBoxCoalesced →
          SMap.get regs (key f i) f.dflt = s.rdv f i := by
  unfold State.raise
  dsimp only
  obtain ⟨q, c, regs, revs, h, hr⟩ := State.queueEvent_form (s.count .eventsRaised 0) (s.record e names)
  rw [h]
  split
  · obtain ⟨bq, bc, regs2, revs2, h2, hr2⟩ := State.bbPut_form
      { s.count .eventsRaised 0 with regs := regs, revs := revs, mgmt := { (s.count .eventsRaised 0).mgmt with events := q.1, made := q.2 }
                                     aon := { (s.count .eventsRaised 0).aon with coal := c } } 1 (s.record e names)
    rw [h2]
    refine ⟨q, c, bq, bc, regs2, revs2, ?_, fun f i h0 h1 h3 => ?_⟩
    · simp
    · rw [hr2 f i h3]; simp [hr f i h1, h0.symm]
  · refine ⟨q, c, s.secure.bbQueue, s.aon.bbCoal, regs, revs, ?_, fun f i h0 h1 h3 => ?_⟩
    · simp
    · simp [hr f i h1, h0.symm]

/-! ### raise: the fields it leaves as they are -/

@[simp] theorem State.raise_ports (s : State) (e : Event) (names : List Nat) : (s.raise e names).ports = s.ports := by
  obtain ⟨q, c, bq, bc, regs, revs, h, hr⟩ := State.raise_form s e names; rw [h]
@[simp] theorem State.raise_lanes (s : State) (e : Event) (names : List Nat) : (s.raise e names).lanes = s.lanes := by
  obtain ⟨q, c, bq, bc, regs, revs, h, hr⟩ := State.raise_form s e names; rw [h]
@[simp] theorem State.raise_outcomes (s : State) (e : Event) (names : List Nat) : (s.raise e names).outcomes = s.outcomes := by
  obtain ⟨q, c, bq, bc, regs, revs, h, hr⟩ := State.raise_form s e names; rw [h]
@[simp] theorem State.raise_sweeps (s : State) (e : Event) (names : List Nat) : (s.raise e names).sweeps = s.sweeps := by
  obtain ⟨q, c, bq, bc, regs, revs, h, hr⟩ := State.raise_form s e names; rw [h]
@[simp] theorem State.raise_sweepPkts (s : State) (e : Event) (names : List Nat) : (s.raise e names).sweepPkts = s.sweepPkts := by
  obtain ⟨q, c, bq, bc, regs, revs, h, hr⟩ := State.raise_form s e names; rw [h]
@[simp] theorem State.raise_time (s : State) (e : Event) (names : List Nat) : (s.raise e names).time = s.time := by
  obtain ⟨q, c, bq, bc, regs, revs, h, hr⟩ := State.raise_form s e names; rw [h]
@[simp] theorem State.raise_views (s : State) (e : Event) (names : List Nat) : (s.raise e names).views = s.views := by
  obtain ⟨q, c, bq, bc, regs, revs, h, hr⟩ := State.raise_form s e names; rw [h]
@[simp] theorem State.raise_syncIn (s : State) (e : Event) (names : List Nat) : (s.raise e names).syncIn = s.syncIn := by
  obtain ⟨q, c, bq, bc, regs, revs, h, hr⟩ := State.raise_form s e names; rw [h]
@[simp] theorem State.raise_syncOut (s : State) (e : Event) (names : List Nat) : (s.raise e names).syncOut = s.syncOut := by
  obtain ⟨q, c, bq, bc, regs, revs, h, hr⟩ := State.raise_form s e names; rw [h]
@[simp] theorem State.raise_ctxs (s : State) (e : Event) (names : List Nat) : (s.raise e names).ctxs = s.ctxs := by
  obtain ⟨q, c, bq, bc, regs, revs, h, hr⟩ := State.raise_form s e names; rw [h]
@[simp] theorem State.raise_bufs (s : State) (e : Event) (names : List Nat) : (s.raise e names).bufs = s.bufs := by
  obtain ⟨q, c, bq, bc, regs, revs, h, hr⟩ := State.raise_form s e names; rw [h]
@[simp] theorem State.raise_shown (s : State) (e : Event) (names : List Nat) : (s.raise e names).shown = s.shown := by
  obtain ⟨q, c, bq, bc, regs, revs, h, hr⟩ := State.raise_form s e names; rw [h]
@[simp] theorem State.raise_quarry (s : State) (e : Event) (names : List Nat) : (s.raise e names).quarry = s.quarry := by
  obtain ⟨q, c, bq, bc, regs, revs, h, hr⟩ := State.raise_form s e names; rw [h]
@[simp] theorem State.raise_fills (s : State) (e : Event) (names : List Nat) : (s.raise e names).fills = s.fills := by
  obtain ⟨q, c, bq, bc, regs, revs, h, hr⟩ := State.raise_form s e names; rw [h]
@[simp] theorem State.raise_cap (s : State) (e : Event) (names : List Nat) : (s.raise e names).cap = s.cap := by
  obtain ⟨q, c, bq, bc, regs, revs, h, hr⟩ := State.raise_form s e names; rw [h]
@[simp] theorem State.raise_defects (s : State) (e : Event) (names : List Nat) : (s.raise e names).defects = s.defects := by
  obtain ⟨q, c, bq, bc, regs, revs, h, hr⟩ := State.raise_form s e names; rw [h]
@[simp] theorem State.raise_modl (s : State) (e : Event) (names : List Nat) : (s.raise e names).modl = s.modl := by
  obtain ⟨q, c, bq, bc, regs, revs, h, hr⟩ := State.raise_form s e names; rw [h]
@[simp] theorem State.raise_quads (s : State) (e : Event) (names : List Nat) : (s.raise e names).quads = s.quads := by
  obtain ⟨q, c, bq, bc, regs, revs, h, hr⟩ := State.raise_form s e names; rw [h]
@[simp] theorem State.raise_groups (s : State) (e : Event) (names : List Nat) : (s.raise e names).groups = s.groups := by
  obtain ⟨q, c, bq, bc, regs, revs, h, hr⟩ := State.raise_form s e names; rw [h]
@[simp] theorem State.raise_tes (s : State) (e : Event) (names : List Nat) : (s.raise e names).tes = s.tes := by
  obtain ⟨q, c, bq, bc, regs, revs, h, hr⟩ := State.raise_form s e names; rw [h]
@[simp] theorem State.raise_louts (s : State) (e : Event) (names : List Nat) : (s.raise e names).louts = s.louts := by
  obtain ⟨q, c, bq, bc, regs, revs, h, hr⟩ := State.raise_form s e names; rw [h]
@[simp] theorem State.raise_rows (s : State) (e : Event) (names : List Nat) : (s.raise e names).rows = s.rows := by
  obtain ⟨q, c, bq, bc, regs, revs, h, hr⟩ := State.raise_form s e names; rw [h]
@[simp] theorem State.raise_xfers (s : State) (e : Event) (names : List Nat) : (s.raise e names).xfers = s.xfers := by
  obtain ⟨q, c, bq, bc, regs, revs, h, hr⟩ := State.raise_form s e names; rw [h]
@[simp] theorem State.raise_jobs (s : State) (e : Event) (names : List Nat) : (s.raise e names).jobs = s.jobs := by
  obtain ⟨q, c, bq, bc, regs, revs, h, hr⟩ := State.raise_form s e names; rw [h]
@[simp] theorem State.raise_power (s : State) (e : Event) (names : List Nat) : (s.raise e names).power = s.power := by
  obtain ⟨q, c, bq, bc, regs, revs, h, hr⟩ := State.raise_form s e names; rw [h]
@[simp] theorem State.raise_thermal (s : State) (e : Event) (names : List Nat) : (s.raise e names).thermal = s.thermal := by
  obtain ⟨q, c, bq, bc, regs, revs, h, hr⟩ := State.raise_form s e names; rw [h]
@[simp] theorem State.raise_boot (s : State) (e : Event) (names : List Nat) : (s.raise e names).boot = s.boot := by
  obtain ⟨q, c, bq, bc, regs, revs, h, hr⟩ := State.raise_form s e names; rw [h]
@[simp] theorem State.raise_jtag (s : State) (e : Event) (names : List Nat) : (s.raise e names).jtag = s.jtag := by
  obtain ⟨q, c, bq, bc, regs, revs, h, hr⟩ := State.raise_form s e names; rw [h]
@[simp] theorem State.raise_tables (s : State) (e : Event) (names : List Nat) : (s.raise e names).tables = s.tables := by
  obtain ⟨q, c, bq, bc, regs, revs, h, hr⟩ := State.raise_form s e names; rw [h]
@[simp] theorem State.raise_tablePad (s : State) (e : Event) (names : List Nat) : (s.raise e names).tablePad = s.tablePad := by
  obtain ⟨q, c, bq, bc, regs, revs, h, hr⟩ := State.raise_form s e names; rw [h]
@[simp] theorem State.raise_draws (s : State) (e : Event) (names : List Nat) : (s.raise e names).draws = s.draws := by
  obtain ⟨q, c, bq, bc, regs, revs, h, hr⟩ := State.raise_form s e names; rw [h]
@[simp] theorem State.raise_pending (s : State) (e : Event) (names : List Nat) : (s.raise e names).pending = s.pending := by
  obtain ⟨q, c, bq, bc, regs, revs, h, hr⟩ := State.raise_form s e names; rw [h]
@[simp] theorem State.raise_lane (s : State) (e : Event) (names : List Nat) (n l : Nat) : (s.raise e names).lane n l = s.lane n l := by simp only [State.lane, State.raise_lanes]
@[simp] theorem State.raise_domain (s : State) (e : Event) (names : List Nat) (n : Nat) : (s.raise e names).domain n = s.domain n := by simp only [State.domain, State.raise_power]
@[simp] theorem State.raise_rail (s : State) (e : Event) (names : List Nat) (n : Nat) : (s.raise e names).rail n = s.rail n := by simp only [State.rail, State.raise_power]
@[simp] theorem State.raise_on (s : State) (e : Event) (names : List Nat) (n : Nat) : (s.raise e names).on n = s.on n := by simp only [State.on, State.raise_domain]
@[simp] theorem State.raise_alive (s : State) (e : Event) (names : List Nat) (n : Nat) : (s.raise e names).alive n = s.alive n := by simp only [State.alive, State.raise_domain]
@[simp] theorem State.raise_port (s : State) (e : Event) (names : List Nat) (n : Nat) : (s.raise e names).port n = s.port n := by simp only [State.port, State.raise_ports]
@[simp] theorem State.raise_view (s : State) (e : Event) (names : List Nat) (n : Nat) : (s.raise e names).view n = s.view n := by simp only [State.view, State.raise_views]
@[simp] theorem State.raise_ctx (s : State) (e : Event) (names : List Nat) (n : Nat) : (s.raise e names).ctx n = s.ctx n := by simp only [State.ctx, State.raise_ctxs]
@[simp] theorem State.raise_buf (s : State) (e : Event) (names : List Nat) (n : Nat) : (s.raise e names).buf n = s.buf n := by simp only [State.buf, State.raise_bufs]
@[simp] theorem State.raise_quad (s : State) (e : Event) (names : List Nat) (n : Nat) : (s.raise e names).quad n = s.quad n := by simp only [State.quad, State.raise_quads]
@[simp] theorem State.raise_lout (s : State) (e : Event) (names : List Nat) (n : Nat) : (s.raise e names).lout n = s.lout n := by simp only [State.lout, State.raise_louts]
@[simp] theorem State.raise_xfer (s : State) (e : Event) (names : List Nat) (n : Nat) : (s.raise e names).xfer n = s.xfer n := by simp only [State.xfer, State.raise_xfers]
@[simp] theorem State.raise_job (s : State) (e : Event) (names : List Nat) (n : Nat) : (s.raise e names).job n = s.job n := by simp only [State.job, State.raise_jobs]

@[simp] theorem State.raise_mgmt_sessions (s : State) (e : Event) (names : List Nat) : (s.raise e names).mgmt.sessions = s.mgmt.sessions := by
  obtain ⟨q, c, bq, bc, regs, revs, h, hr⟩ := State.raise_form s e names; rw [h]
@[simp] theorem State.raise_mgmt_staged (s : State) (e : Event) (names : List Nat) : (s.raise e names).mgmt.staged = s.mgmt.staged := by
  obtain ⟨q, c, bq, bc, regs, revs, h, hr⟩ := State.raise_form s e names; rw [h]
@[simp] theorem State.raise_mgmt_inbox (s : State) (e : Event) (names : List Nat) : (s.raise e names).mgmt.inbox = s.mgmt.inbox := by
  obtain ⟨q, c, bq, bc, regs, revs, h, hr⟩ := State.raise_form s e names; rw [h]
@[simp] theorem State.raise_mgmt_core (s : State) (e : Event) (names : List Nat) : (s.raise e names).mgmt.core = s.mgmt.core := by
  obtain ⟨q, c, bq, bc, regs, revs, h, hr⟩ := State.raise_form s e names; rw [h]
@[simp] theorem State.raise_mgmt_rep (s : State) (e : Event) (names : List Nat) : (s.raise e names).mgmt.rep = s.mgmt.rep := by
  obtain ⟨q, c, bq, bc, regs, revs, h, hr⟩ := State.raise_form s e names; rw [h]
@[simp] theorem State.raise_mgmt_spiBusy (s : State) (e : Event) (names : List Nat) : (s.raise e names).mgmt.spiBusy = s.mgmt.spiBusy := by
  obtain ⟨q, c, bq, bc, regs, revs, h, hr⟩ := State.raise_form s e names; rw [h]
@[simp] theorem State.raise_mgmt_spiReply (s : State) (e : Event) (names : List Nat) : (s.raise e names).mgmt.spiReply = s.mgmt.spiReply := by
  obtain ⟨q, c, bq, bc, regs, revs, h, hr⟩ := State.raise_form s e names; rw [h]
@[simp] theorem State.raise_mgmt_spiFault (s : State) (e : Event) (names : List Nat) : (s.raise e names).mgmt.spiFault = s.mgmt.spiFault := by
  obtain ⟨q, c, bq, bc, regs, revs, h, hr⟩ := State.raise_form s e names; rw [h]
@[simp] theorem State.raise_mgmt_spiOut (s : State) (e : Event) (names : List Nat) : (s.raise e names).mgmt.spiOut = s.mgmt.spiOut := by
  obtain ⟨q, c, bq, bc, regs, revs, h, hr⟩ := State.raise_form s e names; rw [h]
@[simp] theorem State.raise_mgmt_seen (s : State) (e : Event) (names : List Nat) : (s.raise e names).mgmt.seen = s.mgmt.seen := by
  obtain ⟨q, c, bq, bc, regs, revs, h, hr⟩ := State.raise_form s e names; rw [h]
@[simp] theorem State.raise_mgmt_unassignDue (s : State) (e : Event) (names : List Nat) : (s.raise e names).mgmt.unassignDue = s.mgmt.unassignDue := by
  obtain ⟨q, c, bq, bc, regs, revs, h, hr⟩ := State.raise_form s e names; rw [h]
@[simp] theorem State.raise_mgmt_resetDue (s : State) (e : Event) (names : List Nat) : (s.raise e names).mgmt.resetDue = s.mgmt.resetDue := by
  obtain ⟨q, c, bq, bc, regs, revs, h, hr⟩ := State.raise_form s e names; rw [h]
@[simp] theorem State.raise_mgmt_planDue (s : State) (e : Event) (names : List Nat) : (s.raise e names).mgmt.planDue = s.mgmt.planDue := by
  obtain ⟨q, c, bq, bc, regs, revs, h, hr⟩ := State.raise_form s e names; rw [h]
@[simp] theorem State.raise_aon_mono (s : State) (e : Event) (names : List Nat) : (s.raise e names).aon.mono = s.aon.mono := by
  obtain ⟨q, c, bq, bc, regs, revs, h, hr⟩ := State.raise_form s e names; rw [h]
@[simp] theorem State.raise_aon_slow (s : State) (e : Event) (names : List Nat) : (s.raise e names).aon.slow = s.aon.slow := by
  obtain ⟨q, c, bq, bc, regs, revs, h, hr⟩ := State.raise_form s e names; rw [h]
@[simp] theorem State.raise_aon_crystal (s : State) (e : Event) (names : List Nat) : (s.raise e names).aon.crystal = s.aon.crystal := by
  obtain ⟨q, c, bq, bc, regs, revs, h, hr⟩ := State.raise_form s e names; rw [h]
@[simp] theorem State.raise_aon_refclk (s : State) (e : Event) (names : List Nat) : (s.raise e names).aon.refclk = s.aon.refclk := by
  obtain ⟨q, c, bq, bc, regs, revs, h, hr⟩ := State.raise_form s e names; rw [h]
@[simp] theorem State.raise_aon_refSel (s : State) (e : Event) (names : List Nat) : (s.raise e names).aon.refSel = s.aon.refSel := by
  obtain ⟨q, c, bq, bc, regs, revs, h, hr⟩ := State.raise_form s e names; rw [h]
@[simp] theorem State.raise_aon_ticks (s : State) (e : Event) (names : List Nat) : (s.raise e names).aon.ticks = s.aon.ticks := by
  obtain ⟨q, c, bq, bc, regs, revs, h, hr⟩ := State.raise_form s e names; rw [h]
@[simp] theorem State.raise_aon_switched (s : State) (e : Event) (names : List Nat) : (s.raise e names).aon.switched = s.aon.switched := by
  obtain ⟨q, c, bq, bc, regs, revs, h, hr⟩ := State.raise_form s e names; rw [h]
@[simp] theorem State.raise_aon_winSwitch (s : State) (e : Event) (names : List Nat) : (s.raise e names).aon.winSwitch = s.aon.winSwitch := by
  obtain ⟨q, c, bq, bc, regs, revs, h, hr⟩ := State.raise_form s e names; rw [h]
@[simp] theorem State.raise_aon_latch (s : State) (e : Event) (names : List Nat) : (s.raise e names).aon.latch = s.aon.latch := by
  obtain ⟨q, c, bq, bc, regs, revs, h, hr⟩ := State.raise_form s e names; rw [h]
@[simp] theorem State.raise_aon_beacons (s : State) (e : Event) (names : List Nat) : (s.raise e names).aon.beacons = s.aon.beacons := by
  obtain ⟨q, c, bq, bc, regs, revs, h, hr⟩ := State.raise_form s e names; rw [h]
@[simp] theorem State.raise_aon_ball (s : State) (e : Event) (names : List Nat) : (s.raise e names).aon.ball = s.aon.ball := by
  obtain ⟨q, c, bq, bc, regs, revs, h, hr⟩ := State.raise_form s e names; rw [h]
@[simp] theorem State.raise_aon_ballEdge (s : State) (e : Event) (names : List Nat) : (s.raise e names).aon.ballEdge = s.aon.ballEdge := by
  obtain ⟨q, c, bq, bc, regs, revs, h, hr⟩ := State.raise_form s e names; rw [h]
@[simp] theorem State.raise_aon_alarm (s : State) (e : Event) (names : List Nat) : (s.raise e names).aon.alarm = s.aon.alarm := by
  obtain ⟨q, c, bq, bc, regs, revs, h, hr⟩ := State.raise_form s e names; rw [h]
@[simp] theorem State.raise_aon_alarmTaken (s : State) (e : Event) (names : List Nat) : (s.raise e names).aon.alarmTaken = s.aon.alarmTaken := by
  obtain ⟨q, c, bq, bc, regs, revs, h, hr⟩ := State.raise_form s e names; rw [h]
@[simp] theorem State.raise_aon_spiEdge (s : State) (e : Event) (names : List Nat) : (s.raise e names).aon.spiEdge = s.aon.spiEdge := by
  obtain ⟨q, c, bq, bc, regs, revs, h, hr⟩ := State.raise_form s e names; rw [h]
@[simp] theorem State.raise_aon_snaps (s : State) (e : Event) (names : List Nat) : (s.raise e names).aon.snaps = s.aon.snaps := by
  obtain ⟨q, c, bq, bc, regs, revs, h, hr⟩ := State.raise_form s e names; rw [h]
@[simp] theorem State.raise_aon_lastRate (s : State) (e : Event) (names : List Nat) : (s.raise e names).aon.lastRate = s.aon.lastRate := by
  obtain ⟨q, c, bq, bc, regs, revs, h, hr⟩ := State.raise_form s e names; rw [h]
@[simp] theorem State.raise_aon_bipSecond (s : State) (e : Event) (names : List Nat) : (s.raise e names).aon.bipSecond = s.aon.bipSecond := by
  obtain ⟨q, c, bq, bc, regs, revs, h, hr⟩ := State.raise_form s e names; rw [h]
@[simp] theorem State.raise_secure_mram (s : State) (e : Event) (names : List Nat) : (s.raise e names).secure.mram = s.secure.mram := by
  obtain ⟨q, c, bq, bc, regs, revs, h, hr⟩ := State.raise_form s e names; rw [h]
@[simp] theorem State.raise_secure_ops (s : State) (e : Event) (names : List Nat) : (s.raise e names).secure.ops = s.secure.ops := by
  obtain ⟨q, c, bq, bc, regs, revs, h, hr⟩ := State.raise_form s e names; rw [h]
@[simp] theorem State.raise_secure_stores (s : State) (e : Event) (names : List Nat) : (s.raise e names).secure.stores = s.secure.stores := by
  obtain ⟨q, c, bq, bc, regs, revs, h, hr⟩ := State.raise_form s e names; rw [h]
@[simp] theorem State.raise_secure_slotSt (s : State) (e : Event) (names : List Nat) : (s.raise e names).secure.slotSt = s.secure.slotSt := by
  obtain ⟨q, c, bq, bc, regs, revs, h, hr⟩ := State.raise_form s e names; rw [h]
@[simp] theorem State.raise_secure_delivered (s : State) (e : Event) (names : List Nat) : (s.raise e names).secure.delivered = s.secure.delivered := by
  obtain ⟨q, c, bq, bc, regs, revs, h, hr⟩ := State.raise_form s e names; rw [h]
@[simp] theorem State.raise_secure_held (s : State) (e : Event) (names : List Nat) : (s.raise e names).secure.held = s.secure.held := by
  obtain ⟨q, c, bq, bc, regs, revs, h, hr⟩ := State.raise_form s e names; rw [h]
@[simp] theorem State.raise_secure_heldBy (s : State) (e : Event) (names : List Nat) : (s.raise e names).secure.heldBy = s.secure.heldBy := by
  obtain ⟨q, c, bq, bc, regs, revs, h, hr⟩ := State.raise_form s e names; rw [h]
@[simp] theorem State.raise_secure_bbNext (s : State) (e : Event) (names : List Nat) : (s.raise e names).secure.bbNext = s.secure.bbNext := by
  obtain ⟨q, c, bq, bc, regs, revs, h, hr⟩ := State.raise_form s e names; rw [h]
@[simp] theorem State.raise_secure_bbScanned (s : State) (e : Event) (names : List Nat) : (s.raise e names).secure.bbScanned = s.secure.bbScanned := by
  obtain ⟨q, c, bq, bc, regs, revs, h, hr⟩ := State.raise_form s e names; rw [h]
@[simp] theorem State.raise_secure_bbAt (s : State) (e : Event) (names : List Nat) : (s.raise e names).secure.bbAt = s.secure.bbAt := by
  obtain ⟨q, c, bq, bc, regs, revs, h, hr⟩ := State.raise_form s e names; rw [h]
@[simp] theorem State.raise_secure_archive (s : State) (e : Event) (names : List Nat) : (s.raise e names).secure.archive = s.secure.archive := by
  obtain ⟨q, c, bq, bc, regs, revs, h, hr⟩ := State.raise_form s e names; rw [h]
@[simp] theorem State.raise_secure_running (s : State) (e : Event) (names : List Nat) : (s.raise e names).secure.running = s.secure.running := by
  obtain ⟨q, c, bq, bc, regs, revs, h, hr⟩ := State.raise_form s e names; rw [h]
@[simp] theorem State.raise_secure_trial (s : State) (e : Event) (names : List Nat) : (s.raise e names).secure.trial = s.secure.trial := by
  obtain ⟨q, c, bq, bc, regs, revs, h, hr⟩ := State.raise_form s e names; rw [h]
@[simp] theorem State.raise_secure_fallback (s : State) (e : Event) (names : List Nat) : (s.raise e names).secure.fallback = s.secure.fallback := by
  obtain ⟨q, c, bq, bc, regs, revs, h, hr⟩ := State.raise_form s e names; rw [h]
@[simp] theorem State.raise_secure_fallSlot (s : State) (e : Event) (names : List Nat) : (s.raise e names).secure.fallSlot = s.secure.fallSlot := by
  obtain ⟨q, c, bq, bc, regs, revs, h, hr⟩ := State.raise_form s e names; rw [h]
@[simp] theorem State.raise_secure_fuses (s : State) (e : Event) (names : List Nat) : (s.raise e names).secure.fuses = s.secure.fuses := by
  obtain ⟨q, c, bq, bc, regs, revs, h, hr⟩ := State.raise_form s e names; rw [h]
@[simp] theorem State.raise_secure_draws (s : State) (e : Event) (names : List Nat) : (s.raise e names).secure.draws = s.secure.draws := by
  obtain ⟨q, c, bq, bc, regs, revs, h, hr⟩ := State.raise_form s e names; rw [h]

@[simp] theorem State.raise_session (s : State) (e : Event) (names : List Nat) (n : Nat) :
    (s.raise e names).session n = s.session n := by simp only [State.session, State.raise_mgmt_sessions]

@[simp] theorem State.raise_timeRuns (s : State) (e : Event) (names : List Nat) : (s.raise e names).timeRuns = s.timeRuns := by
  simp only [State.timeRuns, State.raise_alive, State.raise_aon_latch]

@[simp] theorem State.raise_dispFine (s : State) (e : Event) (names : List Nat) : (s.raise e names).dispFine = s.dispFine := by
  simp only [State.dispFine, State.raise_aon_latch, State.raise_aon_ticks, State.raise_time]

@[simp] theorem State.raise_now (s : State) (e : Event) (names : List Nat) : (s.raise e names).now = s.now := by
  simp only [State.now, State.raise_dispFine]

@[simp] theorem State.raise_rdv (s : State) (e : Event) (names : List Nat) (f : Ent) (i : Nat) (h0 : f ≠ .eventsRaised)
    (h1 : f ≠ .eventsCoalesced) (h2 : f ≠ .blackBoxCoalesced) : (s.raise e names).rdv f i = s.rdv f i := by
  obtain ⟨q, c, bq, bc, regs, revs, h, hr⟩ := State.raise_form s e names
  rw [h]; exact hr f i h0 h1 h2

@[simp] theorem State.raise_rd (s : State) (e : Event) (names : List Nat) (f : Ent) (i : Nat) (h0 : f ≠ .eventsRaised)
    (h1 : f ≠ .eventsCoalesced) (h2 : f ≠ .blackBoxCoalesced) : (s.raise e names).rd f i = s.rd f i := by
  unfold State.rd; rw [State.raise_rdv _ _ _ _ _ h0 h1 h2]

@[simp] theorem State.raise_rdn (s : State) (e : Event) (names : List Nat) (f : Ent) (i k : Nat) (h0 : f ≠ .eventsRaised)
    (h1 : f ≠ .eventsCoalesced) (h2 : f ≠ .blackBoxCoalesced) : (s.raise e names).rdn f i k = s.rdn f i k := by
  unfold State.rdn; rw [State.raise_rdv _ _ _ _ _ h0 h1 h2]

@[simp] theorem State.raise_running (s : State) (e : Event) (names : List Nat) : (s.raise e names).running = s.running := by
  simp [State.running]

@[simp] theorem State.raise_active (s : State) (e : Event) (names : List Nat) (n : Nat) :
    (s.raise e names).active n = s.active n := by
  simp [State.active]

end Sys2Proof.Machine
end

