-- ==== Sys2Proof/Laws/Reply.lean ====
section
/-! SUPPORT. What the path of a dictionary request can do beside the request's own effect (R271 to R277): the reply, the
session, an egress queue, four drop counters and the outcomes of group requests, and nothing else. -/

namespace Sys2Proof.Machine

theorem Ent.ne_of_not_dropCounter {e : Ent} (h : e.dropCounter = false) :
    .mgmtQueueDrops ≠ e ∧ .videoQueueDrops ≠ e ∧ .bulkQueueDrops ≠ e ∧ .noRouteDrops ≠ e := by
  refine ⟨?_, ?_, ?_, ?_⟩ <;> (rintro rfl; exact absurd h (by decide))

theorem State.dropPacket_form (s : State) (p : Packet) :
    ∃ regs revs, s.dropPacket p = { s with regs := regs, revs := revs }
      ∧ ∀ e i, e.dropCounter = false → SMap.get regs (key e i) e.dflt = s.rdv e i := by
  unfold State.dropPacket
  split
  · exact ⟨_, _, State.count_form _ _ _, fun e i h => by simp [(Ent.ne_of_not_dropCounter h).1]⟩
  · split
    · exact ⟨_, _, State.count_form _ _ _, fun e i h => by simp [(Ent.ne_of_not_dropCounter h).2.1]⟩
    · split
      · exact ⟨_, _, State.count_form _ _ _, fun e i h => by simp [(Ent.ne_of_not_dropCounter h).2.2.1]⟩
      · exact ⟨s.regs, s.revs, rfl, fun e i _ => rfl⟩

/-- R72: a packet joins an egress queue or is dropped and counted. -/
theorem State.enqueue_form (s : State) (n : Nat) (p : Packet) (front : Bool) :
    ∃ ports regs revs, s.enqueue n p front = { s with ports := ports, regs := regs, revs := revs }
      ∧ ∀ e i, e.dropCounter = false → SMap.get regs (key e i) e.dflt = s.rdv e i := by
  unfold State.enqueue
  dsimp only
  split
  · exact ⟨_, s.regs, s.revs, rfl, fun e i _ => rfl⟩
  · obtain ⟨regs, revs, h, hr⟩ := State.dropPacket_form s p
    exact ⟨s.ports, regs, revs, h, hr⟩

theorem State.originate_form (s : State) (p : Packet) :
    ∃ ports regs revs, s.originate p = { s with ports := ports, regs := regs, revs := revs }
      ∧ ∀ e i, e.dropCounter = false → SMap.get regs (key e i) e.dflt = s.rdv e i := by
  have hc : ∃ ports regs revs, s.count .noRouteDrops 0 = { s with ports := ports, regs := regs, revs := revs }
      ∧ ∀ e i, e.dropCounter = false → SMap.get regs (key e i) e.dflt = s.rdv e i :=
    ⟨s.ports, _, _, State.count_form _ _ _, fun e i h => by simp [(Ent.ne_of_not_dropCounter h).2.2.2]⟩
  unfold State.originate
  dsimp only
  split
  · split
    · exact State.enqueue_form _ _ _ _
    · exact hc
  · split
    · split
      · exact State.enqueue_form _ _ _ _
      · split
        · exact State.enqueue_form _ _ _ _
        · exact hc
    · exact hc

/-- R271, R289: a reply leaves. -/
theorem State.sendReply_form (s : State) (q : Req) (r : Reply) :
    ∃ sr sb ports regs revs, s.sendReply q r = { s with
        ports := ports, regs := regs, revs := revs
        mgmt := { s.mgmt with rep := some r, spiReply := sr, spiBusy := sb } }
      ∧ ∀ e i, e.dropCounter = false → SMap.get regs (key e i) e.dflt = s.rdv e i := by
  unfold State.sendReply
  dsimp only
  split
  · exact ⟨_, _, s.ports, s.regs, s.revs, rfl, fun e i _ => rfl⟩
  · split
    · obtain ⟨ports, regs, revs, h, hr⟩ := State.enqueue_form _ _ _ _
      rw [h]; exact ⟨s.mgmt.spiReply, s.mgmt.spiBusy, ports, regs, revs, rfl, hr⟩
    · obtain ⟨ports, regs, revs, h, hr⟩ := State.originate_form _ _
      rw [h]; exact ⟨s.mgmt.spiReply, s.mgmt.spiBusy, ports, regs, revs, rfl, hr⟩

/-- R275: an executed request is answered, and its reply kept by its session. -/
theorem State.finish_form (s : State) (q : Req) (a : Ans) (isRead : Bool) :
    ∃ x rep sr sb, ∃ core : Option Env × List Env, ∃ outcomes ports regs revs, s.finish q a isRead = { s with
        ports := ports, regs := regs, revs := revs, outcomes := outcomes
        mgmt := { s.mgmt with sessions := x, rep := rep, spiReply := sr, spiBusy := sb, core := core.1, groupWait := core.2 } }
      ∧ (∀ e i, e.dropCounter = false → SMap.get regs (key e i) e.dflt = s.rdv e i)
      ∧ (∀ r, a = .now r → sessionOf q.env ≠ 255 → rep = some r) := by
  unfold State.finish
  dsimp only
  split
  · exact ⟨_, s.mgmt.rep, s.mgmt.spiReply, _, (_, _), s.outcomes, s.ports, s.regs, s.revs, rfl, fun e i _ => rfl,
      fun r h => by cases h⟩
  · rename_i r0
    split
    · rename_i h255
      exact ⟨_, s.mgmt.rep, s.mgmt.spiReply, s.mgmt.spiBusy, (s.mgmt.core, s.mgmt.groupWait), _, s.ports, s.regs, s.revs, rfl,
        fun e i _ => rfl, fun r _ hn => absurd h255 hn⟩
    · obtain ⟨sr, sb, ports, regs, revs, h, hr⟩ := State.sendReply_form _ _ _
      rw [h]
      exact ⟨_, _, sr, sb, (s.mgmt.core, s.mgmt.groupWait), s.outcomes, ports, regs, revs, rfl, hr, fun r hh _ => by cases hh; rfl⟩

/-- R276, R287: a request that waited is answered, if its session still waits for it. -/
theorem State.complete_form (s : State) (q : Req) (r : Reply) :
    ∃ x rep sr sb, ∃ core : Option Env × List Env, ∃ outcomes ports regs revs, s.complete q r = { s with
        ports := ports, regs := regs, revs := revs, outcomes := outcomes
        mgmt := { s.mgmt with sessions := x, rep := rep, spiReply := sr, spiBusy := sb, core := core.1, groupWait := core.2 } }
      ∧ (∀ e i, e.dropCounter = false → SMap.get regs (key e i) e.dflt = s.rdv e i) := by
  obtain ⟨core, hc⟩ : ∃ core, s.freeCore q.env = { s with mgmt := { s.mgmt with core := core } } := by
    unfold State.freeCore; split
    · exact ⟨none, rfl⟩
    · exact ⟨s.mgmt.core, rfl⟩
  unfold State.complete
  rw [hc]
  dsimp only
  split
  · split
    · exact ⟨s.mgmt.sessions, s.mgmt.rep, s.mgmt.spiReply, s.mgmt.spiBusy, (core, _), _, s.ports, s.regs, s.revs, rfl,
        fun e i _ => rfl⟩
    · exact ⟨s.mgmt.sessions, s.mgmt.rep, s.mgmt.spiReply, s.mgmt.spiBusy, (core, s.mgmt.groupWait), s.outcomes, s.ports,
        s.regs, s.revs, rfl, fun e i _ => rfl⟩
  · split
    · obtain ⟨sr, sb, ports, regs, revs, h, hr⟩ := State.sendReply_form _ _ _
      rw [h]
      exact ⟨_, _, sr, sb, (core, s.mgmt.groupWait), s.outcomes, ports, regs, revs, rfl, hr⟩
    · exact ⟨s.mgmt.sessions, s.mgmt.rep, s.mgmt.spiReply, s.mgmt.spiBusy, (core, s.mgmt.groupWait), s.outcomes, s.ports, s.regs, s.revs, rfl,
        fun e i _ => rfl⟩

/-! ### dropPacket: the fields it leaves as they are -/

@[simp] theorem State.dropPacket_ports (s : State) (p : Packet) : (s.dropPacket p).ports = s.ports := by
  obtain ⟨regs, revs, h, hr⟩ := State.dropPacket_form s p; rw [h]
@[simp] theorem State.dropPacket_lanes (s : State) (p : Packet) : (s.dropPacket p).lanes = s.lanes := by
  obtain ⟨regs, revs, h, hr⟩ := State.dropPacket_form s p; rw [h]
@[simp] theorem State.dropPacket_outcomes (s : State) (p : Packet) : (s.dropPacket p).outcomes = s.outcomes := by
  obtain ⟨regs, revs, h, hr⟩ := State.dropPacket_form s p; rw [h]
@[simp] theorem State.dropPacket_sweeps (s : State) (p : Packet) : (s.dropPacket p).sweeps = s.sweeps := by
  obtain ⟨regs, revs, h, hr⟩ := State.dropPacket_form s p; rw [h]
@[simp] theorem State.dropPacket_sweepPkts (s : State) (p : Packet) : (s.dropPacket p).sweepPkts = s.sweepPkts := by
  obtain ⟨regs, revs, h, hr⟩ := State.dropPacket_form s p; rw [h]
@[simp] theorem State.dropPacket_time (s : State) (p : Packet) : (s.dropPacket p).time = s.time := by
  obtain ⟨regs, revs, h, hr⟩ := State.dropPacket_form s p; rw [h]
@[simp] theorem State.dropPacket_aon (s : State) (p : Packet) : (s.dropPacket p).aon = s.aon := by
  obtain ⟨regs, revs, h, hr⟩ := State.dropPacket_form s p; rw [h]
@[simp] theorem State.dropPacket_views (s : State) (p : Packet) : (s.dropPacket p).views = s.views := by
  obtain ⟨regs, revs, h, hr⟩ := State.dropPacket_form s p; rw [h]
@[simp] theorem State.dropPacket_syncIn (s : State) (p : Packet) : (s.dropPacket p).syncIn = s.syncIn := by
  obtain ⟨regs, revs, h, hr⟩ := State.dropPacket_form s p; rw [h]
@[simp] theorem State.dropPacket_syncOut (s : State) (p : Packet) : (s.dropPacket p).syncOut = s.syncOut := by
  obtain ⟨regs, revs, h, hr⟩ := State.dropPacket_form s p; rw [h]
@[simp] theorem State.dropPacket_ctxs (s : State) (p : Packet) : (s.dropPacket p).ctxs = s.ctxs := by
  obtain ⟨regs, revs, h, hr⟩ := State.dropPacket_form s p; rw [h]
@[simp] theorem State.dropPacket_bufs (s : State) (p : Packet) : (s.dropPacket p).bufs = s.bufs := by
  obtain ⟨regs, revs, h, hr⟩ := State.dropPacket_form s p; rw [h]
@[simp] theorem State.dropPacket_shown (s : State) (p : Packet) : (s.dropPacket p).shown = s.shown := by
  obtain ⟨regs, revs, h, hr⟩ := State.dropPacket_form s p; rw [h]
@[simp] theorem State.dropPacket_quarry (s : State) (p : Packet) : (s.dropPacket p).quarry = s.quarry := by
  obtain ⟨regs, revs, h, hr⟩ := State.dropPacket_form s p; rw [h]
@[simp] theorem State.dropPacket_fills (s : State) (p : Packet) : (s.dropPacket p).fills = s.fills := by
  obtain ⟨regs, revs, h, hr⟩ := State.dropPacket_form s p; rw [h]
@[simp] theorem State.dropPacket_cap (s : State) (p : Packet) : (s.dropPacket p).cap = s.cap := by
  obtain ⟨regs, revs, h, hr⟩ := State.dropPacket_form s p; rw [h]
@[simp] theorem State.dropPacket_defects (s : State) (p : Packet) : (s.dropPacket p).defects = s.defects := by
  obtain ⟨regs, revs, h, hr⟩ := State.dropPacket_form s p; rw [h]
@[simp] theorem State.dropPacket_modl (s : State) (p : Packet) : (s.dropPacket p).modl = s.modl := by
  obtain ⟨regs, revs, h, hr⟩ := State.dropPacket_form s p; rw [h]
@[simp] theorem State.dropPacket_quads (s : State) (p : Packet) : (s.dropPacket p).quads = s.quads := by
  obtain ⟨regs, revs, h, hr⟩ := State.dropPacket_form s p; rw [h]
@[simp] theorem State.dropPacket_groups (s : State) (p : Packet) : (s.dropPacket p).groups = s.groups := by
  obtain ⟨regs, revs, h, hr⟩ := State.dropPacket_form s p; rw [h]
@[simp] theorem State.dropPacket_tes (s : State) (p : Packet) : (s.dropPacket p).tes = s.tes := by
  obtain ⟨regs, revs, h, hr⟩ := State.dropPacket_form s p; rw [h]
@[simp] theorem State.dropPacket_louts (s : State) (p : Packet) : (s.dropPacket p).louts = s.louts := by
  obtain ⟨regs, revs, h, hr⟩ := State.dropPacket_form s p; rw [h]
@[simp] theorem State.dropPacket_rows (s : State) (p : Packet) : (s.dropPacket p).rows = s.rows := by
  obtain ⟨regs, revs, h, hr⟩ := State.dropPacket_form s p; rw [h]
@[simp] theorem State.dropPacket_mgmt (s : State) (p : Packet) : (s.dropPacket p).mgmt = s.mgmt := by
  obtain ⟨regs, revs, h, hr⟩ := State.dropPacket_form s p; rw [h]
@[simp] theorem State.dropPacket_xfers (s : State) (p : Packet) : (s.dropPacket p).xfers = s.xfers := by
  obtain ⟨regs, revs, h, hr⟩ := State.dropPacket_form s p; rw [h]
@[simp] theorem State.dropPacket_jobs (s : State) (p : Packet) : (s.dropPacket p).jobs = s.jobs := by
  obtain ⟨regs, revs, h, hr⟩ := State.dropPacket_form s p; rw [h]
@[simp] theorem State.dropPacket_secure (s : State) (p : Packet) : (s.dropPacket p).secure = s.secure := by
  obtain ⟨regs, revs, h, hr⟩ := State.dropPacket_form s p; rw [h]
@[simp] theorem State.dropPacket_power (s : State) (p : Packet) : (s.dropPacket p).power = s.power := by
  obtain ⟨regs, revs, h, hr⟩ := State.dropPacket_form s p; rw [h]
@[simp] theorem State.dropPacket_thermal (s : State) (p : Packet) : (s.dropPacket p).thermal = s.thermal := by
  obtain ⟨regs, revs, h, hr⟩ := State.dropPacket_form s p; rw [h]
@[simp] theorem State.dropPacket_boot (s : State) (p : Packet) : (s.dropPacket p).boot = s.boot := by
  obtain ⟨regs, revs, h, hr⟩ := State.dropPacket_form s p; rw [h]
@[simp] theorem State.dropPacket_jtag (s : State) (p : Packet) : (s.dropPacket p).jtag = s.jtag := by
  obtain ⟨regs, revs, h, hr⟩ := State.dropPacket_form s p; rw [h]
@[simp] theorem State.dropPacket_tables (s : State) (p : Packet) : (s.dropPacket p).tables = s.tables := by
  obtain ⟨regs, revs, h, hr⟩ := State.dropPacket_form s p; rw [h]
@[simp] theorem State.dropPacket_tablePad (s : State) (p : Packet) : (s.dropPacket p).tablePad = s.tablePad := by
  obtain ⟨regs, revs, h, hr⟩ := State.dropPacket_form s p; rw [h]
@[simp] theorem State.dropPacket_draws (s : State) (p : Packet) : (s.dropPacket p).draws = s.draws := by
  obtain ⟨regs, revs, h, hr⟩ := State.dropPacket_form s p; rw [h]
@[simp] theorem State.dropPacket_pending (s : State) (p : Packet) : (s.dropPacket p).pending = s.pending := by
  obtain ⟨regs, revs, h, hr⟩ := State.dropPacket_form s p; rw [h]
@[simp] theorem State.dropPacket_lane (s : State) (p : Packet) (n l : Nat) : (s.dropPacket p).lane n l = s.lane n l := by simp only [State.lane, State.dropPacket_lanes]
@[simp] theorem State.dropPacket_session (s : State) (p : Packet) (n : Nat) : (s.dropPacket p).session n = s.session n := by simp only [State.session, State.dropPacket_mgmt]
@[simp] theorem State.dropPacket_domain (s : State) (p : Packet) (n : Nat) : (s.dropPacket p).domain n = s.domain n := by simp only [State.domain, State.dropPacket_power]
@[simp] theorem State.dropPacket_rail (s : State) (p : Packet) (n : Nat) : (s.dropPacket p).rail n = s.rail n := by simp only [State.rail, State.dropPacket_power]
@[simp] theorem State.dropPacket_on (s : State) (p : Packet) (n : Nat) : (s.dropPacket p).on n = s.on n := by simp only [State.on, State.dropPacket_domain]
@[simp] theorem State.dropPacket_alive (s : State) (p : Packet) (n : Nat) : (s.dropPacket p).alive n = s.alive n := by simp only [State.alive, State.dropPacket_domain]
@[simp] theorem State.dropPacket_port (s : State) (p : Packet) (n : Nat) : (s.dropPacket p).port n = s.port n := by simp only [State.port, State.dropPacket_ports]
@[simp] theorem State.dropPacket_view (s : State) (p : Packet) (n : Nat) : (s.dropPacket p).view n = s.view n := by simp only [State.view, State.dropPacket_views]
@[simp] theorem State.dropPacket_ctx (s : State) (p : Packet) (n : Nat) : (s.dropPacket p).ctx n = s.ctx n := by simp only [State.ctx, State.dropPacket_ctxs]
@[simp] theorem State.dropPacket_buf (s : State) (p : Packet) (n : Nat) : (s.dropPacket p).buf n = s.buf n := by simp only [State.buf, State.dropPacket_bufs]
@[simp] theorem State.dropPacket_quad (s : State) (p : Packet) (n : Nat) : (s.dropPacket p).quad n = s.quad n := by simp only [State.quad, State.dropPacket_quads]
@[simp] theorem State.dropPacket_lout (s : State) (p : Packet) (n : Nat) : (s.dropPacket p).lout n = s.lout n := by simp only [State.lout, State.dropPacket_louts]
@[simp] theorem State.dropPacket_xfer (s : State) (p : Packet) (n : Nat) : (s.dropPacket p).xfer n = s.xfer n := by simp only [State.xfer, State.dropPacket_xfers]
@[simp] theorem State.dropPacket_job (s : State) (p : Packet) (n : Nat) : (s.dropPacket p).job n = s.job n := by simp only [State.job, State.dropPacket_jobs]


@[simp] theorem State.dropPacket_timeRuns (s : State) (p : Packet) : (s.dropPacket p).timeRuns = s.timeRuns := by
  simp only [State.timeRuns, State.dropPacket_alive, State.dropPacket_aon]

@[simp] theorem State.dropPacket_dispFine (s : State) (p : Packet) : (s.dropPacket p).dispFine = s.dispFine := by
  simp only [State.dispFine, State.dropPacket_aon, State.dropPacket_time]

@[simp] theorem State.dropPacket_now (s : State) (p : Packet) : (s.dropPacket p).now = s.now := by
  simp only [State.now, State.dropPacket_dispFine]

@[simp] theorem State.dropPacket_rdv (s : State) (p : Packet) (e : Ent) (i : Nat) (he : e.dropCounter = false) :
    (s.dropPacket p).rdv e i = s.rdv e i := by
  obtain ⟨regs, revs, h, hr⟩ := State.dropPacket_form s p
  rw [h]; exact hr e i he

@[simp] theorem State.dropPacket_rd (s : State) (p : Packet) (e : Ent) (i : Nat) (he : e.dropCounter = false) :
    (s.dropPacket p).rd e i = s.rd e i := by
  unfold State.rd; rw [State.dropPacket_rdv _ _ _ _ he]

@[simp] theorem State.dropPacket_rdn (s : State) (p : Packet) (e : Ent) (i k : Nat) (he : e.dropCounter = false) :
    (s.dropPacket p).rdn e i k = s.rdn e i k := by
  unfold State.rdn; rw [State.dropPacket_rdv _ _ _ _ he]

@[simp] theorem State.dropPacket_running (s : State) (p : Packet) : (s.dropPacket p).running = s.running := by
  simp only [State.running, State.dropPacket_rd _ _ .modulatorRun 0 rfl]

@[simp] theorem State.dropPacket_active (s : State) (p : Packet) (n : Nat) : (s.dropPacket p).active n = s.active n := by
  simp only [State.active, State.dropPacket_rd _ _ .portState n rfl]

/-! ### enqueue: the fields it leaves as they are -/

@[simp] theorem State.enqueue_lanes (s : State) (m : Nat) (p : Packet) (f : Bool) : (s.enqueue m p f).lanes = s.lanes := by
  obtain ⟨ports, regs, revs, h, hr⟩ := State.enqueue_form s m p f; rw [h]
@[simp] theorem State.enqueue_outcomes (s : State) (m : Nat) (p : Packet) (f : Bool) : (s.enqueue m p f).outcomes = s.outcomes := by
  obtain ⟨ports, regs, revs, h, hr⟩ := State.enqueue_form s m p f; rw [h]
@[simp] theorem State.enqueue_sweeps (s : State) (m : Nat) (p : Packet) (f : Bool) : (s.enqueue m p f).sweeps = s.sweeps := by
  obtain ⟨ports, regs, revs, h, hr⟩ := State.enqueue_form s m p f; rw [h]
@[simp] theorem State.enqueue_sweepPkts (s : State) (m : Nat) (p : Packet) (f : Bool) : (s.enqueue m p f).sweepPkts = s.sweepPkts := by
  obtain ⟨ports, regs, revs, h, hr⟩ := State.enqueue_form s m p f; rw [h]
@[simp] theorem State.enqueue_time (s : State) (m : Nat) (p : Packet) (f : Bool) : (s.enqueue m p f).time = s.time := by
  obtain ⟨ports, regs, revs, h, hr⟩ := State.enqueue_form s m p f; rw [h]
@[simp] theorem State.enqueue_aon (s : State) (m : Nat) (p : Packet) (f : Bool) : (s.enqueue m p f).aon = s.aon := by
  obtain ⟨ports, regs, revs, h, hr⟩ := State.enqueue_form s m p f; rw [h]
@[simp] theorem State.enqueue_views (s : State) (m : Nat) (p : Packet) (f : Bool) : (s.enqueue m p f).views = s.views := by
  obtain ⟨ports, regs, revs, h, hr⟩ := State.enqueue_form s m p f; rw [h]
@[simp] theorem State.enqueue_syncIn (s : State) (m : Nat) (p : Packet) (f : Bool) : (s.enqueue m p f).syncIn = s.syncIn := by
  obtain ⟨ports, regs, revs, h, hr⟩ := State.enqueue_form s m p f; rw [h]
@[simp] theorem State.enqueue_syncOut (s : State) (m : Nat) (p : Packet) (f : Bool) : (s.enqueue m p f).syncOut = s.syncOut := by
  obtain ⟨ports, regs, revs, h, hr⟩ := State.enqueue_form s m p f; rw [h]
@[simp] theorem State.enqueue_ctxs (s : State) (m : Nat) (p : Packet) (f : Bool) : (s.enqueue m p f).ctxs = s.ctxs := by
  obtain ⟨ports, regs, revs, h, hr⟩ := State.enqueue_form s m p f; rw [h]
@[simp] theorem State.enqueue_bufs (s : State) (m : Nat) (p : Packet) (f : Bool) : (s.enqueue m p f).bufs = s.bufs := by
  obtain ⟨ports, regs, revs, h, hr⟩ := State.enqueue_form s m p f; rw [h]
@[simp] theorem State.enqueue_shown (s : State) (m : Nat) (p : Packet) (f : Bool) : (s.enqueue m p f).shown = s.shown := by
  obtain ⟨ports, regs, revs, h, hr⟩ := State.enqueue_form s m p f; rw [h]
@[simp] theorem State.enqueue_quarry (s : State) (m : Nat) (p : Packet) (f : Bool) : (s.enqueue m p f).quarry = s.quarry := by
  obtain ⟨ports, regs, revs, h, hr⟩ := State.enqueue_form s m p f; rw [h]
@[simp] theorem State.enqueue_fills (s : State) (m : Nat) (p : Packet) (f : Bool) : (s.enqueue m p f).fills = s.fills := by
  obtain ⟨ports, regs, revs, h, hr⟩ := State.enqueue_form s m p f; rw [h]
@[simp] theorem State.enqueue_cap (s : State) (m : Nat) (p : Packet) (f : Bool) : (s.enqueue m p f).cap = s.cap := by
  obtain ⟨ports, regs, revs, h, hr⟩ := State.enqueue_form s m p f; rw [h]
@[simp] theorem State.enqueue_defects (s : State) (m : Nat) (p : Packet) (f : Bool) : (s.enqueue m p f).defects = s.defects := by
  obtain ⟨ports, regs, revs, h, hr⟩ := State.enqueue_form s m p f; rw [h]
@[simp] theorem State.enqueue_modl (s : State) (m : Nat) (p : Packet) (f : Bool) : (s.enqueue m p f).modl = s.modl := by
  obtain ⟨ports, regs, revs, h, hr⟩ := State.enqueue_form s m p f; rw [h]
@[simp] theorem State.enqueue_quads (s : State) (m : Nat) (p : Packet) (f : Bool) : (s.enqueue m p f).quads = s.quads := by
  obtain ⟨ports, regs, revs, h, hr⟩ := State.enqueue_form s m p f; rw [h]
@[simp] theorem State.enqueue_groups (s : State) (m : Nat) (p : Packet) (f : Bool) : (s.enqueue m p f).groups = s.groups := by
  obtain ⟨ports, regs, revs, h, hr⟩ := State.enqueue_form s m p f; rw [h]
@[simp] theorem State.enqueue_tes (s : State) (m : Nat) (p : Packet) (f : Bool) : (s.enqueue m p f).tes = s.tes := by
  obtain ⟨ports, regs, revs, h, hr⟩ := State.enqueue_form s m p f; rw [h]
@[simp] theorem State.enqueue_louts (s : State) (m : Nat) (p : Packet) (f : Bool) : (s.enqueue m p f).louts = s.louts := by
  obtain ⟨ports, regs, revs, h, hr⟩ := State.enqueue_form s m p f; rw [h]
@[simp] theorem State.enqueue_rows (s : State) (m : Nat) (p : Packet) (f : Bool) : (s.enqueue m p f).rows = s.rows := by
  obtain ⟨ports, regs, revs, h, hr⟩ := State.enqueue_form s m p f; rw [h]
@[simp] theorem State.enqueue_mgmt (s : State) (m : Nat) (p : Packet) (f : Bool) : (s.enqueue m p f).mgmt = s.mgmt := by
  obtain ⟨ports, regs, revs, h, hr⟩ := State.enqueue_form s m p f; rw [h]
@[simp] theorem State.enqueue_xfers (s : State) (m : Nat) (p : Packet) (f : Bool) : (s.enqueue m p f).xfers = s.xfers := by
  obtain ⟨ports, regs, revs, h, hr⟩ := State.enqueue_form s m p f; rw [h]
@[simp] theorem State.enqueue_jobs (s : State) (m : Nat) (p : Packet) (f : Bool) : (s.enqueue m p f).jobs = s.jobs := by
  obtain ⟨ports, regs, revs, h, hr⟩ := State.enqueue_form s m p f; rw [h]
@[simp] theorem State.enqueue_secure (s : State) (m : Nat) (p : Packet) (f : Bool) : (s.enqueue m p f).secure = s.secure := by
  obtain ⟨ports, regs, revs, h, hr⟩ := State.enqueue_form s m p f; rw [h]
@[simp] theorem State.enqueue_power (s : State) (m : Nat) (p : Packet) (f : Bool) : (s.enqueue m p f).power = s.power := by
  obtain ⟨ports, regs, revs, h, hr⟩ := State.enqueue_form s m p f; rw [h]
@[simp] theorem State.enqueue_thermal (s : State) (m : Nat) (p : Packet) (f : Bool) : (s.enqueue m p f).thermal = s.thermal := by
  obtain ⟨ports, regs, revs, h, hr⟩ := State.enqueue_form s m p f; rw [h]
@[simp] theorem State.enqueue_boot (s : State) (m : Nat) (p : Packet) (f : Bool) : (s.enqueue m p f).boot = s.boot := by
  obtain ⟨ports, regs, revs, h, hr⟩ := State.enqueue_form s m p f; rw [h]
@[simp] theorem State.enqueue_jtag (s : State) (m : Nat) (p : Packet) (f : Bool) : (s.enqueue m p f).jtag = s.jtag := by
  obtain ⟨ports, regs, revs, h, hr⟩ := State.enqueue_form s m p f; rw [h]
@[simp] theorem State.enqueue_tables (s : State) (m : Nat) (p : Packet) (f : Bool) : (s.enqueue m p f).tables = s.tables := by
  obtain ⟨ports, regs, revs, h, hr⟩ := State.enqueue_form s m p f; rw [h]
@[simp] theorem State.enqueue_tablePad (s : State) (m : Nat) (p : Packet) (f : Bool) : (s.enqueue m p f).tablePad = s.tablePad := by
  obtain ⟨ports, regs, revs, h, hr⟩ := State.enqueue_form s m p f; rw [h]
@[simp] theorem State.enqueue_draws (s : State) (m : Nat) (p : Packet) (f : Bool) : (s.enqueue m p f).draws = s.draws := by
  obtain ⟨ports, regs, revs, h, hr⟩ := State.enqueue_form s m p f; rw [h]
@[simp] theorem State.enqueue_pending (s : State) (m : Nat) (p : Packet) (f : Bool) : (s.enqueue m p f).pending = s.pending := by
  obtain ⟨ports, regs, revs, h, hr⟩ := State.enqueue_form s m p f; rw [h]
@[simp] theorem State.enqueue_lane (s : State) (m : Nat) (p : Packet) (f : Bool) (n l : Nat) : (s.enqueue m p f).lane n l = s.lane n l := by simp only [State.lane, State.enqueue_lanes]
@[simp] theorem State.enqueue_session (s : State) (m : Nat) (p : Packet) (f : Bool) (n : Nat) : (s.enqueue m p f).session n = s.session n := by simp only [State.session, State.enqueue_mgmt]
@[simp] theorem State.enqueue_domain (s : State) (m : Nat) (p : Packet) (f : Bool) (n : Nat) : (s.enqueue m p f).domain n = s.domain n := by simp only [State.domain, State.enqueue_power]
@[simp] theorem State.enqueue_rail (s : State) (m : Nat) (p : Packet) (f : Bool) (n : Nat) : (s.enqueue m p f).rail n = s.rail n := by simp only [State.rail, State.enqueue_power]
@[simp] theorem State.enqueue_on (s : State) (m : Nat) (p : Packet) (f : Bool) (n : Nat) : (s.enqueue m p f).on n = s.on n := by simp only [State.on, State.enqueue_domain]
@[simp] theorem State.enqueue_alive (s : State) (m : Nat) (p : Packet) (f : Bool) (n : Nat) : (s.enqueue m p f).alive n = s.alive n := by simp only [State.alive, State.enqueue_domain]
@[simp] theorem State.enqueue_view (s : State) (m : Nat) (p : Packet) (f : Bool) (n : Nat) : (s.enqueue m p f).view n = s.view n := by simp only [State.view, State.enqueue_views]
@[simp] theorem State.enqueue_ctx (s : State) (m : Nat) (p : Packet) (f : Bool) (n : Nat) : (s.enqueue m p f).ctx n = s.ctx n := by simp only [State.ctx, State.enqueue_ctxs]
@[simp] theorem State.enqueue_buf (s : State) (m : Nat) (p : Packet) (f : Bool) (n : Nat) : (s.enqueue m p f).buf n = s.buf n := by simp only [State.buf, State.enqueue_bufs]
@[simp] theorem State.enqueue_quad (s : State) (m : Nat) (p : Packet) (f : Bool) (n : Nat) : (s.enqueue m p f).quad n = s.quad n := by simp only [State.quad, State.enqueue_quads]
@[simp] theorem State.enqueue_lout (s : State) (m : Nat) (p : Packet) (f : Bool) (n : Nat) : (s.enqueue m p f).lout n = s.lout n := by simp only [State.lout, State.enqueue_louts]
@[simp] theorem State.enqueue_xfer (s : State) (m : Nat) (p : Packet) (f : Bool) (n : Nat) : (s.enqueue m p f).xfer n = s.xfer n := by simp only [State.xfer, State.enqueue_xfers]
@[simp] theorem State.enqueue_job (s : State) (m : Nat) (p : Packet) (f : Bool) (n : Nat) : (s.enqueue m p f).job n = s.job n := by simp only [State.job, State.enqueue_jobs]


@[simp] theorem State.enqueue_timeRuns (s : State) (m : Nat) (p : Packet) (f : Bool) : (s.enqueue m p f).timeRuns = s.timeRuns := by
  simp only [State.timeRuns, State.enqueue_alive, State.enqueue_aon]

@[simp] theorem State.enqueue_dispFine (s : State) (m : Nat) (p : Packet) (f : Bool) : (s.enqueue m p f).dispFine = s.dispFine := by
  simp only [State.dispFine, State.enqueue_aon, State.enqueue_time]

@[simp] theorem State.enqueue_now (s : State) (m : Nat) (p : Packet) (f : Bool) : (s.enqueue m p f).now = s.now := by
  simp only [State.now, State.enqueue_dispFine]

@[simp] theorem State.enqueue_rdv (s : State) (m : Nat) (p : Packet) (f : Bool) (e : Ent) (i : Nat) (he : e.dropCounter = false) :
    (s.enqueue m p f).rdv e i = s.rdv e i := by
  obtain ⟨ports, regs, revs, h, hr⟩ := State.enqueue_form s m p f
  rw [h]; exact hr e i he

@[simp] theorem State.enqueue_rd (s : State) (m : Nat) (p : Packet) (f : Bool) (e : Ent) (i : Nat) (he : e.dropCounter = false) :
    (s.enqueue m p f).rd e i = s.rd e i := by
  unfold State.rd; rw [State.enqueue_rdv _ _ _ _ _ _ he]

@[simp] theorem State.enqueue_rdn (s : State) (m : Nat) (p : Packet) (f : Bool) (e : Ent) (i k : Nat) (he : e.dropCounter = false) :
    (s.enqueue m p f).rdn e i k = s.rdn e i k := by
  unfold State.rdn; rw [State.enqueue_rdv _ _ _ _ _ _ he]

@[simp] theorem State.enqueue_running (s : State) (m : Nat) (p : Packet) (f : Bool) : (s.enqueue m p f).running = s.running := by
  simp only [State.running, State.enqueue_rd _ _ _ _ .modulatorRun 0 rfl]

@[simp] theorem State.enqueue_active (s : State) (m : Nat) (p : Packet) (f : Bool) (n : Nat) : (s.enqueue m p f).active n = s.active n := by
  simp only [State.active, State.enqueue_rd _ _ _ _ .portState n rfl]

/-! ### originate: the fields it leaves as they are -/

@[simp] theorem State.originate_lanes (s : State) (p : Packet) : (s.originate p).lanes = s.lanes := by
  obtain ⟨ports, regs, revs, h, hr⟩ := State.originate_form s p; rw [h]
@[simp] theorem State.originate_outcomes (s : State) (p : Packet) : (s.originate p).outcomes = s.outcomes := by
  obtain ⟨ports, regs, revs, h, hr⟩ := State.originate_form s p; rw [h]
@[simp] theorem State.originate_sweeps (s : State) (p : Packet) : (s.originate p).sweeps = s.sweeps := by
  obtain ⟨ports, regs, revs, h, hr⟩ := State.originate_form s p; rw [h]
@[simp] theorem State.originate_sweepPkts (s : State) (p : Packet) : (s.originate p).sweepPkts = s.sweepPkts := by
  obtain ⟨ports, regs, revs, h, hr⟩ := State.originate_form s p; rw [h]
@[simp] theorem State.originate_time (s : State) (p : Packet) : (s.originate p).time = s.time := by
  obtain ⟨ports, regs, revs, h, hr⟩ := State.originate_form s p; rw [h]
@[simp] theorem State.originate_aon (s : State) (p : Packet) : (s.originate p).aon = s.aon := by
  obtain ⟨ports, regs, revs, h, hr⟩ := State.originate_form s p; rw [h]
@[simp] theorem State.originate_views (s : State) (p : Packet) : (s.originate p).views = s.views := by
  obtain ⟨ports, regs, revs, h, hr⟩ := State.originate_form s p; rw [h]
@[simp] theorem State.originate_syncIn (s : State) (p : Packet) : (s.originate p).syncIn = s.syncIn := by
  obtain ⟨ports, regs, revs, h, hr⟩ := State.originate_form s p; rw [h]
@[simp] theorem State.originate_syncOut (s : State) (p : Packet) : (s.originate p).syncOut = s.syncOut := by
  obtain ⟨ports, regs, revs, h, hr⟩ := State.originate_form s p; rw [h]
@[simp] theorem State.originate_ctxs (s : State) (p : Packet) : (s.originate p).ctxs = s.ctxs := by
  obtain ⟨ports, regs, revs, h, hr⟩ := State.originate_form s p; rw [h]
@[simp] theorem State.originate_bufs (s : State) (p : Packet) : (s.originate p).bufs = s.bufs := by
  obtain ⟨ports, regs, revs, h, hr⟩ := State.originate_form s p; rw [h]
@[simp] theorem State.originate_shown (s : State) (p : Packet) : (s.originate p).shown = s.shown := by
  obtain ⟨ports, regs, revs, h, hr⟩ := State.originate_form s p; rw [h]
@[simp] theorem State.originate_quarry (s : State) (p : Packet) : (s.originate p).quarry = s.quarry := by
  obtain ⟨ports, regs, revs, h, hr⟩ := State.originate_form s p; rw [h]
@[simp] theorem State.originate_fills (s : State) (p : Packet) : (s.originate p).fills = s.fills := by
  obtain ⟨ports, regs, revs, h, hr⟩ := State.originate_form s p; rw [h]
@[simp] theorem State.originate_cap (s : State) (p : Packet) : (s.originate p).cap = s.cap := by
  obtain ⟨ports, regs, revs, h, hr⟩ := State.originate_form s p; rw [h]
@[simp] theorem State.originate_defects (s : State) (p : Packet) : (s.originate p).defects = s.defects := by
  obtain ⟨ports, regs, revs, h, hr⟩ := State.originate_form s p; rw [h]
@[simp] theorem State.originate_modl (s : State) (p : Packet) : (s.originate p).modl = s.modl := by
  obtain ⟨ports, regs, revs, h, hr⟩ := State.originate_form s p; rw [h]
@[simp] theorem State.originate_quads (s : State) (p : Packet) : (s.originate p).quads = s.quads := by
  obtain ⟨ports, regs, revs, h, hr⟩ := State.originate_form s p; rw [h]
@[simp] theorem State.originate_groups (s : State) (p : Packet) : (s.originate p).groups = s.groups := by
  obtain ⟨ports, regs, revs, h, hr⟩ := State.originate_form s p; rw [h]
@[simp] theorem State.originate_tes (s : State) (p : Packet) : (s.originate p).tes = s.tes := by
  obtain ⟨ports, regs, revs, h, hr⟩ := State.originate_form s p; rw [h]
@[simp] theorem State.originate_louts (s : State) (p : Packet) : (s.originate p).louts = s.louts := by
  obtain ⟨ports, regs, revs, h, hr⟩ := State.originate_form s p; rw [h]
@[simp] theorem State.originate_rows (s : State) (p : Packet) : (s.originate p).rows = s.rows := by
  obtain ⟨ports, regs, revs, h, hr⟩ := State.originate_form s p; rw [h]
@[simp] theorem State.originate_mgmt (s : State) (p : Packet) : (s.originate p).mgmt = s.mgmt := by
  obtain ⟨ports, regs, revs, h, hr⟩ := State.originate_form s p; rw [h]
@[simp] theorem State.originate_xfers (s : State) (p : Packet) : (s.originate p).xfers = s.xfers := by
  obtain ⟨ports, regs, revs, h, hr⟩ := State.originate_form s p; rw [h]
@[simp] theorem State.originate_jobs (s : State) (p : Packet) : (s.originate p).jobs = s.jobs := by
  obtain ⟨ports, regs, revs, h, hr⟩ := State.originate_form s p; rw [h]
@[simp] theorem State.originate_secure (s : State) (p : Packet) : (s.originate p).secure = s.secure := by
  obtain ⟨ports, regs, revs, h, hr⟩ := State.originate_form s p; rw [h]
@[simp] theorem State.originate_power (s : State) (p : Packet) : (s.originate p).power = s.power := by
  obtain ⟨ports, regs, revs, h, hr⟩ := State.originate_form s p; rw [h]
@[simp] theorem State.originate_thermal (s : State) (p : Packet) : (s.originate p).thermal = s.thermal := by
  obtain ⟨ports, regs, revs, h, hr⟩ := State.originate_form s p; rw [h]
@[simp] theorem State.originate_boot (s : State) (p : Packet) : (s.originate p).boot = s.boot := by
  obtain ⟨ports, regs, revs, h, hr⟩ := State.originate_form s p; rw [h]
@[simp] theorem State.originate_jtag (s : State) (p : Packet) : (s.originate p).jtag = s.jtag := by
  obtain ⟨ports, regs, revs, h, hr⟩ := State.originate_form s p; rw [h]
@[simp] theorem State.originate_tables (s : State) (p : Packet) : (s.originate p).tables = s.tables := by
  obtain ⟨ports, regs, revs, h, hr⟩ := State.originate_form s p; rw [h]
@[simp] theorem State.originate_tablePad (s : State) (p : Packet) : (s.originate p).tablePad = s.tablePad := by
  obtain ⟨ports, regs, revs, h, hr⟩ := State.originate_form s p; rw [h]
@[simp] theorem State.originate_draws (s : State) (p : Packet) : (s.originate p).draws = s.draws := by
  obtain ⟨ports, regs, revs, h, hr⟩ := State.originate_form s p; rw [h]
@[simp] theorem State.originate_pending (s : State) (p : Packet) : (s.originate p).pending = s.pending := by
  obtain ⟨ports, regs, revs, h, hr⟩ := State.originate_form s p; rw [h]
@[simp] theorem State.originate_lane (s : State) (p : Packet) (n l : Nat) : (s.originate p).lane n l = s.lane n l := by simp only [State.lane, State.originate_lanes]
@[simp] theorem State.originate_session (s : State) (p : Packet) (n : Nat) : (s.originate p).session n = s.session n := by simp only [State.session, State.originate_mgmt]
@[simp] theorem State.originate_domain (s : State) (p : Packet) (n : Nat) : (s.originate p).domain n = s.domain n := by simp only [State.domain, State.originate_power]
@[simp] theorem State.originate_rail (s : State) (p : Packet) (n : Nat) : (s.originate p).rail n = s.rail n := by simp only [State.rail, State.originate_power]
@[simp] theorem State.originate_on (s : State) (p : Packet) (n : Nat) : (s.originate p).on n = s.on n := by simp only [State.on, State.originate_domain]
@[simp] theorem State.originate_alive (s : State) (p : Packet) (n : Nat) : (s.originate p).alive n = s.alive n := by simp only [State.alive, State.originate_domain]
@[simp] theorem State.originate_view (s : State) (p : Packet) (n : Nat) : (s.originate p).view n = s.view n := by simp only [State.view, State.originate_views]
@[simp] theorem State.originate_ctx (s : State) (p : Packet) (n : Nat) : (s.originate p).ctx n = s.ctx n := by simp only [State.ctx, State.originate_ctxs]
@[simp] theorem State.originate_buf (s : State) (p : Packet) (n : Nat) : (s.originate p).buf n = s.buf n := by simp only [State.buf, State.originate_bufs]
@[simp] theorem State.originate_quad (s : State) (p : Packet) (n : Nat) : (s.originate p).quad n = s.quad n := by simp only [State.quad, State.originate_quads]
@[simp] theorem State.originate_lout (s : State) (p : Packet) (n : Nat) : (s.originate p).lout n = s.lout n := by simp only [State.lout, State.originate_louts]
@[simp] theorem State.originate_xfer (s : State) (p : Packet) (n : Nat) : (s.originate p).xfer n = s.xfer n := by simp only [State.xfer, State.originate_xfers]
@[simp] theorem State.originate_job (s : State) (p : Packet) (n : Nat) : (s.originate p).job n = s.job n := by simp only [State.job, State.originate_jobs]


@[simp] theorem State.originate_timeRuns (s : State) (p : Packet) : (s.originate p).timeRuns = s.timeRuns := by
  simp only [State.timeRuns, State.originate_alive, State.originate_aon]

@[simp] theorem State.originate_dispFine (s : State) (p : Packet) : (s.originate p).dispFine = s.dispFine := by
  simp only [State.dispFine, State.originate_aon, State.originate_time]

@[simp] theorem State.originate_now (s : State) (p : Packet) : (s.originate p).now = s.now := by
  simp only [State.now, State.originate_dispFine]

@[simp] theorem State.originate_rdv (s : State) (p : Packet) (e : Ent) (i : Nat) (he : e.dropCounter = false) :
    (s.originate p).rdv e i = s.rdv e i := by
  obtain ⟨ports, regs, revs, h, hr⟩ := State.originate_form s p
  rw [h]; exact hr e i he

@[simp] theorem State.originate_rd (s : State) (p : Packet) (e : Ent) (i : Nat) (he : e.dropCounter = false) :
    (s.originate p).rd e i = s.rd e i := by
  unfold State.rd; rw [State.originate_rdv _ _ _ _ he]

@[simp] theorem State.originate_rdn (s : State) (p : Packet) (e : Ent) (i k : Nat) (he : e.dropCounter = false) :
    (s.originate p).rdn e i k = s.rdn e i k := by
  unfold State.rdn; rw [State.originate_rdv _ _ _ _ he]

@[simp] theorem State.originate_running (s : State) (p : Packet) : (s.originate p).running = s.running := by
  simp only [State.running, State.originate_rd _ _ .modulatorRun 0 rfl]

@[simp] theorem State.originate_active (s : State) (p : Packet) (n : Nat) : (s.originate p).active n = s.active n := by
  simp only [State.active, State.originate_rd _ _ .portState n rfl]

/-! ### sendReply: the fields it leaves as they are -/

@[simp] theorem State.sendReply_lanes (s : State) (q : Req) (r : Reply) : (s.sendReply q r).lanes = s.lanes := by
  obtain ⟨sr, sb, ports, regs, revs, h, hr⟩ := State.sendReply_form s q r; rw [h]
@[simp] theorem State.sendReply_outcomes (s : State) (q : Req) (r : Reply) : (s.sendReply q r).outcomes = s.outcomes := by
  obtain ⟨sr, sb, ports, regs, revs, h, hr⟩ := State.sendReply_form s q r; rw [h]
@[simp] theorem State.sendReply_sweeps (s : State) (q : Req) (r : Reply) : (s.sendReply q r).sweeps = s.sweeps := by
  obtain ⟨sr, sb, ports, regs, revs, h, hr⟩ := State.sendReply_form s q r; rw [h]
@[simp] theorem State.sendReply_sweepPkts (s : State) (q : Req) (r : Reply) : (s.sendReply q r).sweepPkts = s.sweepPkts := by
  obtain ⟨sr, sb, ports, regs, revs, h, hr⟩ := State.sendReply_form s q r; rw [h]
@[simp] theorem State.sendReply_time (s : State) (q : Req) (r : Reply) : (s.sendReply q r).time = s.time := by
  obtain ⟨sr, sb, ports, regs, revs, h, hr⟩ := State.sendReply_form s q r; rw [h]
@[simp] theorem State.sendReply_aon (s : State) (q : Req) (r : Reply) : (s.sendReply q r).aon = s.aon := by
  obtain ⟨sr, sb, ports, regs, revs, h, hr⟩ := State.sendReply_form s q r; rw [h]
@[simp] theorem State.sendReply_views (s : State) (q : Req) (r : Reply) : (s.sendReply q r).views = s.views := by
  obtain ⟨sr, sb, ports, regs, revs, h, hr⟩ := State.sendReply_form s q r; rw [h]
@[simp] theorem State.sendReply_syncIn (s : State) (q : Req) (r : Reply) : (s.sendReply q r).syncIn = s.syncIn := by
  obtain ⟨sr, sb, ports, regs, revs, h, hr⟩ := State.sendReply_form s q r; rw [h]
@[simp] theorem State.sendReply_syncOut (s : State) (q : Req) (r : Reply) : (s.sendReply q r).syncOut = s.syncOut := by
  obtain ⟨sr, sb, ports, regs, revs, h, hr⟩ := State.sendReply_form s q r; rw [h]
@[simp] theorem State.sendReply_ctxs (s : State) (q : Req) (r : Reply) : (s.sendReply q r).ctxs = s.ctxs := by
  obtain ⟨sr, sb, ports, regs, revs, h, hr⟩ := State.sendReply_form s q r; rw [h]
@[simp] theorem State.sendReply_bufs (s : State) (q : Req) (r : Reply) : (s.sendReply q r).bufs = s.bufs := by
  obtain ⟨sr, sb, ports, regs, revs, h, hr⟩ := State.sendReply_form s q r; rw [h]
@[simp] theorem State.sendReply_shown (s : State) (q : Req) (r : Reply) : (s.sendReply q r).shown = s.shown := by
  obtain ⟨sr, sb, ports, regs, revs, h, hr⟩ := State.sendReply_form s q r; rw [h]
@[simp] theorem State.sendReply_quarry (s : State) (q : Req) (r : Reply) : (s.sendReply q r).quarry = s.quarry := by
  obtain ⟨sr, sb, ports, regs, revs, h, hr⟩ := State.sendReply_form s q r; rw [h]
@[simp] theorem State.sendReply_fills (s : State) (q : Req) (r : Reply) : (s.sendReply q r).fills = s.fills := by
  obtain ⟨sr, sb, ports, regs, revs, h, hr⟩ := State.sendReply_form s q r; rw [h]
@[simp] theorem State.sendReply_cap (s : State) (q : Req) (r : Reply) : (s.sendReply q r).cap = s.cap := by
  obtain ⟨sr, sb, ports, regs, revs, h, hr⟩ := State.sendReply_form s q r; rw [h]
@[simp] theorem State.sendReply_defects (s : State) (q : Req) (r : Reply) : (s.sendReply q r).defects = s.defects := by
  obtain ⟨sr, sb, ports, regs, revs, h, hr⟩ := State.sendReply_form s q r; rw [h]
@[simp] theorem State.sendReply_modl (s : State) (q : Req) (r : Reply) : (s.sendReply q r).modl = s.modl := by
  obtain ⟨sr, sb, ports, regs, revs, h, hr⟩ := State.sendReply_form s q r; rw [h]
@[simp] theorem State.sendReply_quads (s : State) (q : Req) (r : Reply) : (s.sendReply q r).quads = s.quads := by
  obtain ⟨sr, sb, ports, regs, revs, h, hr⟩ := State.sendReply_form s q r; rw [h]
@[simp] theorem State.sendReply_groups (s : State) (q : Req) (r : Reply) : (s.sendReply q r).groups = s.groups := by
  obtain ⟨sr, sb, ports, regs, revs, h, hr⟩ := State.sendReply_form s q r; rw [h]
@[simp] theorem State.sendReply_tes (s : State) (q : Req) (r : Reply) : (s.sendReply q r).tes = s.tes := by
  obtain ⟨sr, sb, ports, regs, revs, h, hr⟩ := State.sendReply_form s q r; rw [h]
@[simp] theorem State.sendReply_louts (s : State) (q : Req) (r : Reply) : (s.sendReply q r).louts = s.louts := by
  obtain ⟨sr, sb, ports, regs, revs, h, hr⟩ := State.sendReply_form s q r; rw [h]
@[simp] theorem State.sendReply_rows (s : State) (q : Req) (r : Reply) : (s.sendReply q r).rows = s.rows := by
  obtain ⟨sr, sb, ports, regs, revs, h, hr⟩ := State.sendReply_form s q r; rw [h]
@[simp] theorem State.sendReply_xfers (s : State) (q : Req) (r : Reply) : (s.sendReply q r).xfers = s.xfers := by
  obtain ⟨sr, sb, ports, regs, revs, h, hr⟩ := State.sendReply_form s q r; rw [h]
@[simp] theorem State.sendReply_jobs (s : State) (q : Req) (r : Reply) : (s.sendReply q r).jobs = s.jobs := by
  obtain ⟨sr, sb, ports, regs, revs, h, hr⟩ := State.sendReply_form s q r; rw [h]
@[simp] theorem State.sendReply_secure (s : State) (q : Req) (r : Reply) : (s.sendReply q r).secure = s.secure := by
  obtain ⟨sr, sb, ports, regs, revs, h, hr⟩ := State.sendReply_form s q r; rw [h]
@[simp] theorem State.sendReply_power (s : State) (q : Req) (r : Reply) : (s.sendReply q r).power = s.power := by
  obtain ⟨sr, sb, ports, regs, revs, h, hr⟩ := State.sendReply_form s q r; rw [h]
@[simp] theorem State.sendReply_thermal (s : State) (q : Req) (r : Reply) : (s.sendReply q r).thermal = s.thermal := by
  obtain ⟨sr, sb, ports, regs, revs, h, hr⟩ := State.sendReply_form s q r; rw [h]
@[simp] theorem State.sendReply_boot (s : State) (q : Req) (r : Reply) : (s.sendReply q r).boot = s.boot := by
  obtain ⟨sr, sb, ports, regs, revs, h, hr⟩ := State.sendReply_form s q r; rw [h]
@[simp] theorem State.sendReply_jtag (s : State) (q : Req) (r : Reply) : (s.sendReply q r).jtag = s.jtag := by
  obtain ⟨sr, sb, ports, regs, revs, h, hr⟩ := State.sendReply_form s q r; rw [h]
@[simp] theorem State.sendReply_tables (s : State) (q : Req) (r : Reply) : (s.sendReply q r).tables = s.tables := by
  obtain ⟨sr, sb, ports, regs, revs, h, hr⟩ := State.sendReply_form s q r; rw [h]
@[simp] theorem State.sendReply_tablePad (s : State) (q : Req) (r : Reply) : (s.sendReply q r).tablePad = s.tablePad := by
  obtain ⟨sr, sb, ports, regs, revs, h, hr⟩ := State.sendReply_form s q r; rw [h]
@[simp] theorem State.sendReply_draws (s : State) (q : Req) (r : Reply) : (s.sendReply q r).draws = s.draws := by
  obtain ⟨sr, sb, ports, regs, revs, h, hr⟩ := State.sendReply_form s q r; rw [h]
@[simp] theorem State.sendReply_pending (s : State) (q : Req) (r : Reply) : (s.sendReply q r).pending = s.pending := by
  obtain ⟨sr, sb, ports, regs, revs, h, hr⟩ := State.sendReply_form s q r; rw [h]
@[simp] theorem State.sendReply_lane (s : State) (q : Req) (r : Reply) (n l : Nat) : (s.sendReply q r).lane n l = s.lane n l := by simp only [State.lane, State.sendReply_lanes]
@[simp] theorem State.sendReply_domain (s : State) (q : Req) (r : Reply) (n : Nat) : (s.sendReply q r).domain n = s.domain n := by simp only [State.domain, State.sendReply_power]
@[simp] theorem State.sendReply_rail (s : State) (q : Req) (r : Reply) (n : Nat) : (s.sendReply q r).rail n = s.rail n := by simp only [State.rail, State.sendReply_power]
@[simp] theorem State.sendReply_on (s : State) (q : Req) (r : Reply) (n : Nat) : (s.sendReply q r).on n = s.on n := by simp only [State.on, State.sendReply_domain]
@[simp] theorem State.sendReply_alive (s : State) (q : Req) (r : Reply) (n : Nat) : (s.sendReply q r).alive n = s.alive n := by simp only [State.alive, State.sendReply_domain]
@[simp] theorem State.sendReply_view (s : State) (q : Req) (r : Reply) (n : Nat) : (s.sendReply q r).view n = s.view n := by simp only [State.view, State.sendReply_views]
@[simp] theorem State.sendReply_ctx (s : State) (q : Req) (r : Reply) (n : Nat) : (s.sendReply q r).ctx n = s.ctx n := by simp only [State.ctx, State.sendReply_ctxs]
@[simp] theorem State.sendReply_buf (s : State) (q : Req) (r : Reply) (n : Nat) : (s.sendReply q r).buf n = s.buf n := by simp only [State.buf, State.sendReply_bufs]
@[simp] theorem State.sendReply_quad (s : State) (q : Req) (r : Reply) (n : Nat) : (s.sendReply q r).quad n = s.quad n := by simp only [State.quad, State.sendReply_quads]
@[simp] theorem State.sendReply_lout (s : State) (q : Req) (r : Reply) (n : Nat) : (s.sendReply q r).lout n = s.lout n := by simp only [State.lout, State.sendReply_louts]
@[simp] theorem State.sendReply_xfer (s : State) (q : Req) (r : Reply) (n : Nat) : (s.sendReply q r).xfer n = s.xfer n := by simp only [State.xfer, State.sendReply_xfers]
@[simp] theorem State.sendReply_job (s : State) (q : Req) (r : Reply) (n : Nat) : (s.sendReply q r).job n = s.job n := by simp only [State.job, State.sendReply_jobs]

@[simp] theorem State.sendReply_mgmt_sessions (s : State) (q : Req) (r : Reply) : (s.sendReply q r).mgmt.sessions = s.mgmt.sessions := by
  obtain ⟨sr, sb, ports, regs, revs, h, hr⟩ := State.sendReply_form s q r; rw [h]
@[simp] theorem State.sendReply_mgmt_staged (s : State) (q : Req) (r : Reply) : (s.sendReply q r).mgmt.staged = s.mgmt.staged := by
  obtain ⟨sr, sb, ports, regs, revs, h, hr⟩ := State.sendReply_form s q r; rw [h]
@[simp] theorem State.sendReply_mgmt_events (s : State) (q : Req) (r : Reply) : (s.sendReply q r).mgmt.events = s.mgmt.events := by
  obtain ⟨sr, sb, ports, regs, revs, h, hr⟩ := State.sendReply_form s q r; rw [h]
@[simp] theorem State.sendReply_mgmt_inbox (s : State) (q : Req) (r : Reply) : (s.sendReply q r).mgmt.inbox = s.mgmt.inbox := by
  obtain ⟨sr, sb, ports, regs, revs, h, hr⟩ := State.sendReply_form s q r; rw [h]
@[simp] theorem State.sendReply_mgmt_core (s : State) (q : Req) (r : Reply) : (s.sendReply q r).mgmt.core = s.mgmt.core := by
  obtain ⟨sr, sb, ports, regs, revs, h, hr⟩ := State.sendReply_form s q r; rw [h]
@[simp] theorem State.sendReply_mgmt_spiFault (s : State) (q : Req) (r : Reply) : (s.sendReply q r).mgmt.spiFault = s.mgmt.spiFault := by
  obtain ⟨sr, sb, ports, regs, revs, h, hr⟩ := State.sendReply_form s q r; rw [h]
@[simp] theorem State.sendReply_mgmt_spiOut (s : State) (q : Req) (r : Reply) : (s.sendReply q r).mgmt.spiOut = s.mgmt.spiOut := by
  obtain ⟨sr, sb, ports, regs, revs, h, hr⟩ := State.sendReply_form s q r; rw [h]
@[simp] theorem State.sendReply_mgmt_seen (s : State) (q : Req) (r : Reply) : (s.sendReply q r).mgmt.seen = s.mgmt.seen := by
  obtain ⟨sr, sb, ports, regs, revs, h, hr⟩ := State.sendReply_form s q r; rw [h]
@[simp] theorem State.sendReply_mgmt_unassignDue (s : State) (q : Req) (r : Reply) : (s.sendReply q r).mgmt.unassignDue = s.mgmt.unassignDue := by
  obtain ⟨sr, sb, ports, regs, revs, h, hr⟩ := State.sendReply_form s q r; rw [h]
@[simp] theorem State.sendReply_mgmt_resetDue (s : State) (q : Req) (r : Reply) : (s.sendReply q r).mgmt.resetDue = s.mgmt.resetDue := by
  obtain ⟨sr, sb, ports, regs, revs, h, hr⟩ := State.sendReply_form s q r; rw [h]
@[simp] theorem State.sendReply_mgmt_planDue (s : State) (q : Req) (r : Reply) : (s.sendReply q r).mgmt.planDue = s.mgmt.planDue := by
  obtain ⟨sr, sb, ports, regs, revs, h, hr⟩ := State.sendReply_form s q r; rw [h]
@[simp] theorem State.sendReply_session (s : State) (q : Req) (r : Reply) (n : Nat) : (s.sendReply q r).session n = s.session n := by
  simp only [State.session, State.sendReply_mgmt_sessions]
@[simp] theorem State.sendReply_rep (s : State) (q : Req) (r : Reply) : (s.sendReply q r).mgmt.rep = some r := by
  obtain ⟨sr, sb, ports, regs, revs, h, hr⟩ := State.sendReply_form s q r; rw [h]

@[simp] theorem State.sendReply_timeRuns (s : State) (q : Req) (r : Reply) : (s.sendReply q r).timeRuns = s.timeRuns := by
  simp only [State.timeRuns, State.sendReply_alive, State.sendReply_aon]

@[simp] theorem State.sendReply_dispFine (s : State) (q : Req) (r : Reply) : (s.sendReply q r).dispFine = s.dispFine := by
  simp only [State.dispFine, State.sendReply_aon, State.sendReply_time]

@[simp] theorem State.sendReply_now (s : State) (q : Req) (r : Reply) : (s.sendReply q r).now = s.now := by
  simp only [State.now, State.sendReply_dispFine]

@[simp] theorem State.sendReply_rdv (s : State) (q : Req) (r : Reply) (e : Ent) (i : Nat) (he : e.dropCounter = false) :
    (s.sendReply q r).rdv e i = s.rdv e i := by
  obtain ⟨sr, sb, ports, regs, revs, h, hr⟩ := State.sendReply_form s q r
  rw [h]; exact hr e i he

@[simp] theorem State.sendReply_rd (s : State) (q : Req) (r : Reply) (e : Ent) (i : Nat) (he : e.dropCounter = false) :
    (s.sendReply q r).rd e i = s.rd e i := by
  unfold State.rd; rw [State.sendReply_rdv _ _ _ _ _ he]

@[simp] theorem State.sendReply_rdn (s : State) (q : Req) (r : Reply) (e : Ent) (i k : Nat) (he : e.dropCounter = false) :
    (s.sendReply q r).rdn e i k = s.rdn e i k := by
  unfold State.rdn; rw [State.sendReply_rdv _ _ _ _ _ he]

@[simp] theorem State.sendReply_running (s : State) (q : Req) (r : Reply) : (s.sendReply q r).running = s.running := by
  simp only [State.running, State.sendReply_rd _ _ _ .modulatorRun 0 rfl]

@[simp] theorem State.sendReply_active (s : State) (q : Req) (r : Reply) (n : Nat) : (s.sendReply q r).active n = s.active n := by
  simp only [State.active, State.sendReply_rd _ _ _ .portState n rfl]

/-! ### finish: the fields it leaves as they are -/

@[simp] theorem State.finish_lanes (s : State) (q : Req) (a : Ans) (b : Bool) : (s.finish q a b).lanes = s.lanes := by
  obtain ⟨x, rep, sr, sb, core, outcomes, ports, regs, revs, h, hr, ha⟩ := State.finish_form s q a b; rw [h]
@[simp] theorem State.finish_sweeps (s : State) (q : Req) (a : Ans) (b : Bool) : (s.finish q a b).sweeps = s.sweeps := by
  obtain ⟨x, rep, sr, sb, core, outcomes, ports, regs, revs, h, hr, ha⟩ := State.finish_form s q a b; rw [h]
@[simp] theorem State.finish_sweepPkts (s : State) (q : Req) (a : Ans) (b : Bool) : (s.finish q a b).sweepPkts = s.sweepPkts := by
  obtain ⟨x, rep, sr, sb, core, outcomes, ports, regs, revs, h, hr, ha⟩ := State.finish_form s q a b; rw [h]
@[simp] theorem State.finish_time (s : State) (q : Req) (a : Ans) (b : Bool) : (s.finish q a b).time = s.time := by
  obtain ⟨x, rep, sr, sb, core, outcomes, ports, regs, revs, h, hr, ha⟩ := State.finish_form s q a b; rw [h]
@[simp] theorem State.finish_aon (s : State) (q : Req) (a : Ans) (b : Bool) : (s.finish q a b).aon = s.aon := by
  obtain ⟨x, rep, sr, sb, core, outcomes, ports, regs, revs, h, hr, ha⟩ := State.finish_form s q a b; rw [h]
@[simp] theorem State.finish_views (s : State) (q : Req) (a : Ans) (b : Bool) : (s.finish q a b).views = s.views := by
  obtain ⟨x, rep, sr, sb, core, outcomes, ports, regs, revs, h, hr, ha⟩ := State.finish_form s q a b; rw [h]
@[simp] theorem State.finish_syncIn (s : State) (q : Req) (a : Ans) (b : Bool) : (s.finish q a b).syncIn = s.syncIn := by
  obtain ⟨x, rep, sr, sb, core, outcomes, ports, regs, revs, h, hr, ha⟩ := State.finish_form s q a b; rw [h]
@[simp] theorem State.finish_syncOut (s : State) (q : Req) (a : Ans) (b : Bool) : (s.finish q a b).syncOut = s.syncOut := by
  obtain ⟨x, rep, sr, sb, core, outcomes, ports, regs, revs, h, hr, ha⟩ := State.finish_form s q a b; rw [h]
@[simp] theorem State.finish_ctxs (s : State) (q : Req) (a : Ans) (b : Bool) : (s.finish q a b).ctxs = s.ctxs := by
  obtain ⟨x, rep, sr, sb, core, outcomes, ports, regs, revs, h, hr, ha⟩ := State.finish_form s q a b; rw [h]
@[simp] theorem State.finish_bufs (s : State) (q : Req) (a : Ans) (b : Bool) : (s.finish q a b).bufs = s.bufs := by
  obtain ⟨x, rep, sr, sb, core, outcomes, ports, regs, revs, h, hr, ha⟩ := State.finish_form s q a b; rw [h]
@[simp] theorem State.finish_shown (s : State) (q : Req) (a : Ans) (b : Bool) : (s.finish q a b).shown = s.shown := by
  obtain ⟨x, rep, sr, sb, core, outcomes, ports, regs, revs, h, hr, ha⟩ := State.finish_form s q a b; rw [h]
@[simp] theorem State.finish_quarry (s : State) (q : Req) (a : Ans) (b : Bool) : (s.finish q a b).quarry = s.quarry := by
  obtain ⟨x, rep, sr, sb, core, outcomes, ports, regs, revs, h, hr, ha⟩ := State.finish_form s q a b; rw [h]
@[simp] theorem State.finish_fills (s : State) (q : Req) (a : Ans) (b : Bool) : (s.finish q a b).fills = s.fills := by
  obtain ⟨x, rep, sr, sb, core, outcomes, ports, regs, revs, h, hr, ha⟩ := State.finish_form s q a b; rw [h]
@[simp] theorem State.finish_cap (s : State) (q : Req) (a : Ans) (b : Bool) : (s.finish q a b).cap = s.cap := by
  obtain ⟨x, rep, sr, sb, core, outcomes, ports, regs, revs, h, hr, ha⟩ := State.finish_form s q a b; rw [h]
@[simp] theorem State.finish_defects (s : State) (q : Req) (a : Ans) (b : Bool) : (s.finish q a b).defects = s.defects := by
  obtain ⟨x, rep, sr, sb, core, outcomes, ports, regs, revs, h, hr, ha⟩ := State.finish_form s q a b; rw [h]
@[simp] theorem State.finish_modl (s : State) (q : Req) (a : Ans) (b : Bool) : (s.finish q a b).modl = s.modl := by
  obtain ⟨x, rep, sr, sb, core, outcomes, ports, regs, revs, h, hr, ha⟩ := State.finish_form s q a b; rw [h]
@[simp] theorem State.finish_quads (s : State) (q : Req) (a : Ans) (b : Bool) : (s.finish q a b).quads = s.quads := by
  obtain ⟨x, rep, sr, sb, core, outcomes, ports, regs, revs, h, hr, ha⟩ := State.finish_form s q a b; rw [h]
@[simp] theorem State.finish_groups (s : State) (q : Req) (a : Ans) (b : Bool) : (s.finish q a b).groups = s.groups := by
  obtain ⟨x, rep, sr, sb, core, outcomes, ports, regs, revs, h, hr, ha⟩ := State.finish_form s q a b; rw [h]
@[simp] theorem State.finish_tes (s : State) (q : Req) (a : Ans) (b : Bool) : (s.finish q a b).tes = s.tes := by
  obtain ⟨x, rep, sr, sb, core, outcomes, ports, regs, revs, h, hr, ha⟩ := State.finish_form s q a b; rw [h]
@[simp] theorem State.finish_louts (s : State) (q : Req) (a : Ans) (b : Bool) : (s.finish q a b).louts = s.louts := by
  obtain ⟨x, rep, sr, sb, core, outcomes, ports, regs, revs, h, hr, ha⟩ := State.finish_form s q a b; rw [h]
@[simp] theorem State.finish_rows (s : State) (q : Req) (a : Ans) (b : Bool) : (s.finish q a b).rows = s.rows := by
  obtain ⟨x, rep, sr, sb, core, outcomes, ports, regs, revs, h, hr, ha⟩ := State.finish_form s q a b; rw [h]
@[simp] theorem State.finish_xfers (s : State) (q : Req) (a : Ans) (b : Bool) : (s.finish q a b).xfers = s.xfers := by
  obtain ⟨x, rep, sr, sb, core, outcomes, ports, regs, revs, h, hr, ha⟩ := State.finish_form s q a b; rw [h]
@[simp] theorem State.finish_jobs (s : State) (q : Req) (a : Ans) (b : Bool) : (s.finish q a b).jobs = s.jobs := by
  obtain ⟨x, rep, sr, sb, core, outcomes, ports, regs, revs, h, hr, ha⟩ := State.finish_form s q a b; rw [h]
@[simp] theorem State.finish_secure (s : State) (q : Req) (a : Ans) (b : Bool) : (s.finish q a b).secure = s.secure := by
  obtain ⟨x, rep, sr, sb, core, outcomes, ports, regs, revs, h, hr, ha⟩ := State.finish_form s q a b; rw [h]
@[simp] theorem State.finish_power (s : State) (q : Req) (a : Ans) (b : Bool) : (s.finish q a b).power = s.power := by
  obtain ⟨x, rep, sr, sb, core, outcomes, ports, regs, revs, h, hr, ha⟩ := State.finish_form s q a b; rw [h]
@[simp] theorem State.finish_thermal (s : State) (q : Req) (a : Ans) (b : Bool) : (s.finish q a b).thermal = s.thermal := by
  obtain ⟨x, rep, sr, sb, core, outcomes, ports, regs, revs, h, hr, ha⟩ := State.finish_form s q a b; rw [h]
@[simp] theorem State.finish_boot (s : State) (q : Req) (a : Ans) (b : Bool) : (s.finish q a b).boot = s.boot := by
  obtain ⟨x, rep, sr, sb, core, outcomes, ports, regs, revs, h, hr, ha⟩ := State.finish_form s q a b; rw [h]
@[simp] theorem State.finish_jtag (s : State) (q : Req) (a : Ans) (b : Bool) : (s.finish q a b).jtag = s.jtag := by
  obtain ⟨x, rep, sr, sb, core, outcomes, ports, regs, revs, h, hr, ha⟩ := State.finish_form s q a b; rw [h]
@[simp] theorem State.finish_tables (s : State) (q : Req) (a : Ans) (b : Bool) : (s.finish q a b).tables = s.tables := by
  obtain ⟨x, rep, sr, sb, core, outcomes, ports, regs, revs, h, hr, ha⟩ := State.finish_form s q a b; rw [h]
@[simp] theorem State.finish_tablePad (s : State) (q : Req) (a : Ans) (b : Bool) : (s.finish q a b).tablePad = s.tablePad := by
  obtain ⟨x, rep, sr, sb, core, outcomes, ports, regs, revs, h, hr, ha⟩ := State.finish_form s q a b; rw [h]
@[simp] theorem State.finish_draws (s : State) (q : Req) (a : Ans) (b : Bool) : (s.finish q a b).draws = s.draws := by
  obtain ⟨x, rep, sr, sb, core, outcomes, ports, regs, revs, h, hr, ha⟩ := State.finish_form s q a b; rw [h]
@[simp] theorem State.finish_pending (s : State) (q : Req) (a : Ans) (b : Bool) : (s.finish q a b).pending = s.pending := by
  obtain ⟨x, rep, sr, sb, core, outcomes, ports, regs, revs, h, hr, ha⟩ := State.finish_form s q a b; rw [h]
@[simp] theorem State.finish_lane (s : State) (q : Req) (a : Ans) (b : Bool) (n l : Nat) : (s.finish q a b).lane n l = s.lane n l := by simp only [State.lane, State.finish_lanes]
@[simp] theorem State.finish_domain (s : State) (q : Req) (a : Ans) (b : Bool) (n : Nat) : (s.finish q a b).domain n = s.domain n := by simp only [State.domain, State.finish_power]
@[simp] theorem State.finish_rail (s : State) (q : Req) (a : Ans) (b : Bool) (n : Nat) : (s.finish q a b).rail n = s.rail n := by simp only [State.rail, State.finish_power]
@[simp] theorem State.finish_on (s : State) (q : Req) (a : Ans) (b : Bool) (n : Nat) : (s.finish q a b).on n = s.on n := by simp only [State.on, State.finish_domain]
@[simp] theorem State.finish_alive (s : State) (q : Req) (a : Ans) (b : Bool) (n : Nat) : (s.finish q a b).alive n = s.alive n := by simp only [State.alive, State.finish_domain]
@[simp] theorem State.finish_view (s : State) (q : Req) (a : Ans) (b : Bool) (n : Nat) : (s.finish q a b).view n = s.view n := by simp only [State.view, State.finish_views]
@[simp] theorem State.finish_ctx (s : State) (q : Req) (a : Ans) (b : Bool) (n : Nat) : (s.finish q a b).ctx n = s.ctx n := by simp only [State.ctx, State.finish_ctxs]
@[simp] theorem State.finish_buf (s : State) (q : Req) (a : Ans) (b : Bool) (n : Nat) : (s.finish q a b).buf n = s.buf n := by simp only [State.buf, State.finish_bufs]
@[simp] theorem State.finish_quad (s : State) (q : Req) (a : Ans) (b : Bool) (n : Nat) : (s.finish q a b).quad n = s.quad n := by simp only [State.quad, State.finish_quads]
@[simp] theorem State.finish_lout (s : State) (q : Req) (a : Ans) (b : Bool) (n : Nat) : (s.finish q a b).lout n = s.lout n := by simp only [State.lout, State.finish_louts]
@[simp] theorem State.finish_xfer (s : State) (q : Req) (a : Ans) (b : Bool) (n : Nat) : (s.finish q a b).xfer n = s.xfer n := by simp only [State.xfer, State.finish_xfers]
@[simp] theorem State.finish_job (s : State) (q : Req) (a : Ans) (b : Bool) (n : Nat) : (s.finish q a b).job n = s.job n := by simp only [State.job, State.finish_jobs]

@[simp] theorem State.finish_mgmt_staged (s : State) (q : Req) (a : Ans) (b : Bool) : (s.finish q a b).mgmt.staged = s.mgmt.staged := by
  obtain ⟨x, rep, sr, sb, core, outcomes, ports, regs, revs, h, hr, ha⟩ := State.finish_form s q a b; rw [h]
@[simp] theorem State.finish_mgmt_events (s : State) (q : Req) (a : Ans) (b : Bool) : (s.finish q a b).mgmt.events = s.mgmt.events := by
  obtain ⟨x, rep, sr, sb, core, outcomes, ports, regs, revs, h, hr, ha⟩ := State.finish_form s q a b; rw [h]
@[simp] theorem State.finish_mgmt_inbox (s : State) (q : Req) (a : Ans) (b : Bool) : (s.finish q a b).mgmt.inbox = s.mgmt.inbox := by
  obtain ⟨x, rep, sr, sb, core, outcomes, ports, regs, revs, h, hr, ha⟩ := State.finish_form s q a b; rw [h]
@[simp] theorem State.finish_mgmt_spiFault (s : State) (q : Req) (a : Ans) (b : Bool) : (s.finish q a b).mgmt.spiFault = s.mgmt.spiFault := by
  obtain ⟨x, rep, sr, sb, core, outcomes, ports, regs, revs, h, hr, ha⟩ := State.finish_form s q a b; rw [h]
@[simp] theorem State.finish_mgmt_spiOut (s : State) (q : Req) (a : Ans) (b : Bool) : (s.finish q a b).mgmt.spiOut = s.mgmt.spiOut := by
  obtain ⟨x, rep, sr, sb, core, outcomes, ports, regs, revs, h, hr, ha⟩ := State.finish_form s q a b; rw [h]
@[simp] theorem State.finish_mgmt_seen (s : State) (q : Req) (a : Ans) (b : Bool) : (s.finish q a b).mgmt.seen = s.mgmt.seen := by
  obtain ⟨x, rep, sr, sb, core, outcomes, ports, regs, revs, h, hr, ha⟩ := State.finish_form s q a b; rw [h]
@[simp] theorem State.finish_mgmt_unassignDue (s : State) (q : Req) (a : Ans) (b : Bool) : (s.finish q a b).mgmt.unassignDue = s.mgmt.unassignDue := by
  obtain ⟨x, rep, sr, sb, core, outcomes, ports, regs, revs, h, hr, ha⟩ := State.finish_form s q a b; rw [h]
@[simp] theorem State.finish_mgmt_resetDue (s : State) (q : Req) (a : Ans) (b : Bool) : (s.finish q a b).mgmt.resetDue = s.mgmt.resetDue := by
  obtain ⟨x, rep, sr, sb, core, outcomes, ports, regs, revs, h, hr, ha⟩ := State.finish_form s q a b; rw [h]
@[simp] theorem State.finish_mgmt_planDue (s : State) (q : Req) (a : Ans) (b : Bool) : (s.finish q a b).mgmt.planDue = s.mgmt.planDue := by
  obtain ⟨x, rep, sr, sb, core, outcomes, ports, regs, revs, h, hr, ha⟩ := State.finish_form s q a b; rw [h]
theorem State.finish_rep (s : State) (q : Req) (r : Reply) (b : Bool) (hn : sessionOf q.env ≠ 255) :
    (s.finish q (.now r) b).mgmt.rep = some r := by
  obtain ⟨x, rep, sr, sb, core, outcomes, ports, regs, revs, h, hr, ha⟩ := State.finish_form s q (.now r) b
  rw [h]; exact ha r rfl hn

@[simp] theorem State.finish_timeRuns (s : State) (q : Req) (a : Ans) (b : Bool) : (s.finish q a b).timeRuns = s.timeRuns := by
  simp only [State.timeRuns, State.finish_alive, State.finish_aon]

@[simp] theorem State.finish_dispFine (s : State) (q : Req) (a : Ans) (b : Bool) : (s.finish q a b).dispFine = s.dispFine := by
  simp only [State.dispFine, State.finish_aon, State.finish_time]

@[simp] theorem State.finish_now (s : State) (q : Req) (a : Ans) (b : Bool) : (s.finish q a b).now = s.now := by
  simp only [State.now, State.finish_dispFine]

@[simp] theorem State.finish_rdv (s : State) (q : Req) (a : Ans) (b : Bool) (e : Ent) (i : Nat) (he : e.dropCounter = false) :
    (s.finish q a b).rdv e i = s.rdv e i := by
  obtain ⟨x, rep, sr, sb, core, outcomes, ports, regs, revs, h, hr, ha⟩ := State.finish_form s q a b
  rw [h]; exact hr e i he

@[simp] theorem State.finish_rd (s : State) (q : Req) (a : Ans) (b : Bool) (e : Ent) (i : Nat) (he : e.dropCounter = false) :
    (s.finish q a b).rd e i = s.rd e i := by
  unfold State.rd; rw [State.finish_rdv _ _ _ _ _ _ he]

@[simp] theorem State.finish_rdn (s : State) (q : Req) (a : Ans) (b : Bool) (e : Ent) (i k : Nat) (he : e.dropCounter = false) :
    (s.finish q a b).rdn e i k = s.rdn e i k := by
  unfold State.rdn; rw [State.finish_rdv _ _ _ _ _ _ he]

@[simp] theorem State.finish_running (s : State) (q : Req) (a : Ans) (b : Bool) : (s.finish q a b).running = s.running := by
  simp only [State.running, State.finish_rd _ _ _ _ .modulatorRun 0 rfl]

@[simp] theorem State.finish_active (s : State) (q : Req) (a : Ans) (b : Bool) (n : Nat) : (s.finish q a b).active n = s.active n := by
  simp only [State.active, State.finish_rd _ _ _ _ .portState n rfl]

/-! ### complete: the fields it leaves as they are -/

@[simp] theorem State.complete_lanes (s : State) (q : Req) (r : Reply) : (s.complete q r).lanes = s.lanes := by
  obtain ⟨x, rep, sr, sb, core, outcomes, ports, regs, revs, h, hr⟩ := State.complete_form s q r; rw [h]
@[simp] theorem State.complete_sweeps (s : State) (q : Req) (r : Reply) : (s.complete q r).sweeps = s.sweeps := by
  obtain ⟨x, rep, sr, sb, core, outcomes, ports, regs, revs, h, hr⟩ := State.complete_form s q r; rw [h]
@[simp] theorem State.complete_sweepPkts (s : State) (q : Req) (r : Reply) : (s.complete q r).sweepPkts = s.sweepPkts := by
  obtain ⟨x, rep, sr, sb, core, outcomes, ports, regs, revs, h, hr⟩ := State.complete_form s q r; rw [h]
@[simp] theorem State.complete_time (s : State) (q : Req) (r : Reply) : (s.complete q r).time = s.time := by
  obtain ⟨x, rep, sr, sb, core, outcomes, ports, regs, revs, h, hr⟩ := State.complete_form s q r; rw [h]
@[simp] theorem State.complete_aon (s : State) (q : Req) (r : Reply) : (s.complete q r).aon = s.aon := by
  obtain ⟨x, rep, sr, sb, core, outcomes, ports, regs, revs, h, hr⟩ := State.complete_form s q r; rw [h]
@[simp] theorem State.complete_views (s : State) (q : Req) (r : Reply) : (s.complete q r).views = s.views := by
  obtain ⟨x, rep, sr, sb, core, outcomes, ports, regs, revs, h, hr⟩ := State.complete_form s q r; rw [h]
@[simp] theorem State.complete_syncIn (s : State) (q : Req) (r : Reply) : (s.complete q r).syncIn = s.syncIn := by
  obtain ⟨x, rep, sr, sb, core, outcomes, ports, regs, revs, h, hr⟩ := State.complete_form s q r; rw [h]
@[simp] theorem State.complete_syncOut (s : State) (q : Req) (r : Reply) : (s.complete q r).syncOut = s.syncOut := by
  obtain ⟨x, rep, sr, sb, core, outcomes, ports, regs, revs, h, hr⟩ := State.complete_form s q r; rw [h]
@[simp] theorem State.complete_ctxs (s : State) (q : Req) (r : Reply) : (s.complete q r).ctxs = s.ctxs := by
  obtain ⟨x, rep, sr, sb, core, outcomes, ports, regs, revs, h, hr⟩ := State.complete_form s q r; rw [h]
@[simp] theorem State.complete_bufs (s : State) (q : Req) (r : Reply) : (s.complete q r).bufs = s.bufs := by
  obtain ⟨x, rep, sr, sb, core, outcomes, ports, regs, revs, h, hr⟩ := State.complete_form s q r; rw [h]
@[simp] theorem State.complete_shown (s : State) (q : Req) (r : Reply) : (s.complete q r).shown = s.shown := by
  obtain ⟨x, rep, sr, sb, core, outcomes, ports, regs, revs, h, hr⟩ := State.complete_form s q r; rw [h]
@[simp] theorem State.complete_quarry (s : State) (q : Req) (r : Reply) : (s.complete q r).quarry = s.quarry := by
  obtain ⟨x, rep, sr, sb, core, outcomes, ports, regs, revs, h, hr⟩ := State.complete_form s q r; rw [h]
@[simp] theorem State.complete_fills (s : State) (q : Req) (r : Reply) : (s.complete q r).fills = s.fills := by
  obtain ⟨x, rep, sr, sb, core, outcomes, ports, regs, revs, h, hr⟩ := State.complete_form s q r; rw [h]
@[simp] theorem State.complete_cap (s : State) (q : Req) (r : Reply) : (s.complete q r).cap = s.cap := by
  obtain ⟨x, rep, sr, sb, core, outcomes, ports, regs, revs, h, hr⟩ := State.complete_form s q r; rw [h]
@[simp] theorem State.complete_defects (s : State) (q : Req) (r : Reply) : (s.complete q r).defects = s.defects := by
  obtain ⟨x, rep, sr, sb, core, outcomes, ports, regs, revs, h, hr⟩ := State.complete_form s q r; rw [h]
@[simp] theorem State.complete_modl (s : State) (q : Req) (r : Reply) : (s.complete q r).modl = s.modl := by
  obtain ⟨x, rep, sr, sb, core, outcomes, ports, regs, revs, h, hr⟩ := State.complete_form s q r; rw [h]
@[simp] theorem State.complete_quads (s : State) (q : Req) (r : Reply) : (s.complete q r).quads = s.quads := by
  obtain ⟨x, rep, sr, sb, core, outcomes, ports, regs, revs, h, hr⟩ := State.complete_form s q r; rw [h]
@[simp] theorem State.complete_groups (s : State) (q : Req) (r : Reply) : (s.complete q r).groups = s.groups := by
  obtain ⟨x, rep, sr, sb, core, outcomes, ports, regs, revs, h, hr⟩ := State.complete_form s q r; rw [h]
@[simp] theorem State.complete_tes (s : State) (q : Req) (r : Reply) : (s.complete q r).tes = s.tes := by
  obtain ⟨x, rep, sr, sb, core, outcomes, ports, regs, revs, h, hr⟩ := State.complete_form s q r; rw [h]
@[simp] theorem State.complete_louts (s : State) (q : Req) (r : Reply) : (s.complete q r).louts = s.louts := by
  obtain ⟨x, rep, sr, sb, core, outcomes, ports, regs, revs, h, hr⟩ := State.complete_form s q r; rw [h]
@[simp] theorem State.complete_rows (s : State) (q : Req) (r : Reply) : (s.complete q r).rows = s.rows := by
  obtain ⟨x, rep, sr, sb, core, outcomes, ports, regs, revs, h, hr⟩ := State.complete_form s q r; rw [h]
@[simp] theorem State.complete_xfers (s : State) (q : Req) (r : Reply) : (s.complete q r).xfers = s.xfers := by
  obtain ⟨x, rep, sr, sb, core, outcomes, ports, regs, revs, h, hr⟩ := State.complete_form s q r; rw [h]
@[simp] theorem State.complete_jobs (s : State) (q : Req) (r : Reply) : (s.complete q r).jobs = s.jobs := by
  obtain ⟨x, rep, sr, sb, core, outcomes, ports, regs, revs, h, hr⟩ := State.complete_form s q r; rw [h]
@[simp] theorem State.complete_secure (s : State) (q : Req) (r : Reply) : (s.complete q r).secure = s.secure := by
  obtain ⟨x, rep, sr, sb, core, outcomes, ports, regs, revs, h, hr⟩ := State.complete_form s q r; rw [h]
@[simp] theorem State.complete_power (s : State) (q : Req) (r : Reply) : (s.complete q r).power = s.power := by
  obtain ⟨x, rep, sr, sb, core, outcomes, ports, regs, revs, h, hr⟩ := State.complete_form s q r; rw [h]
@[simp] theorem State.complete_thermal (s : State) (q : Req) (r : Reply) : (s.complete q r).thermal = s.thermal := by
  obtain ⟨x, rep, sr, sb, core, outcomes, ports, regs, revs, h, hr⟩ := State.complete_form s q r; rw [h]
@[simp] theorem State.complete_boot (s : State) (q : Req) (r : Reply) : (s.complete q r).boot = s.boot := by
  obtain ⟨x, rep, sr, sb, core, outcomes, ports, regs, revs, h, hr⟩ := State.complete_form s q r; rw [h]
@[simp] theorem State.complete_jtag (s : State) (q : Req) (r : Reply) : (s.complete q r).jtag = s.jtag := by
  obtain ⟨x, rep, sr, sb, core, outcomes, ports, regs, revs, h, hr⟩ := State.complete_form s q r; rw [h]
@[simp] theorem State.complete_tables (s : State) (q : Req) (r : Reply) : (s.complete q r).tables = s.tables := by
  obtain ⟨x, rep, sr, sb, core, outcomes, ports, regs, revs, h, hr⟩ := State.complete_form s q r; rw [h]
@[simp] theorem State.complete_tablePad (s : State) (q : Req) (r : Reply) : (s.complete q r).tablePad = s.tablePad := by
  obtain ⟨x, rep, sr, sb, core, outcomes, ports, regs, revs, h, hr⟩ := State.complete_form s q r; rw [h]
@[simp] theorem State.complete_draws (s : State) (q : Req) (r : Reply) : (s.complete q r).draws = s.draws := by
  obtain ⟨x, rep, sr, sb, core, outcomes, ports, regs, revs, h, hr⟩ := State.complete_form s q r; rw [h]
@[simp] theorem State.complete_pending (s : State) (q : Req) (r : Reply) : (s.complete q r).pending = s.pending := by
  obtain ⟨x, rep, sr, sb, core, outcomes, ports, regs, revs, h, hr⟩ := State.complete_form s q r; rw [h]
@[simp] theorem State.complete_lane (s : State) (q : Req) (r : Reply) (n l : Nat) : (s.complete q r).lane n l = s.lane n l := by simp only [State.lane, State.complete_lanes]
@[simp] theorem State.complete_domain (s : State) (q : Req) (r : Reply) (n : Nat) : (s.complete q r).domain n = s.domain n := by simp only [State.domain, State.complete_power]
@[simp] theorem State.complete_rail (s : State) (q : Req) (r : Reply) (n : Nat) : (s.complete q r).rail n = s.rail n := by simp only [State.rail, State.complete_power]
@[simp] theorem State.complete_on (s : State) (q : Req) (r : Reply) (n : Nat) : (s.complete q r).on n = s.on n := by simp only [State.on, State.complete_domain]
@[simp] theorem State.complete_alive (s : State) (q : Req) (r : Reply) (n : Nat) : (s.complete q r).alive n = s.alive n := by simp only [State.alive, State.complete_domain]
@[simp] theorem State.complete_view (s : State) (q : Req) (r : Reply) (n : Nat) : (s.complete q r).view n = s.view n := by simp only [State.view, State.complete_views]
@[simp] theorem State.complete_ctx (s : State) (q : Req) (r : Reply) (n : Nat) : (s.complete q r).ctx n = s.ctx n := by simp only [State.ctx, State.complete_ctxs]
@[simp] theorem State.complete_buf (s : State) (q : Req) (r : Reply) (n : Nat) : (s.complete q r).buf n = s.buf n := by simp only [State.buf, State.complete_bufs]
@[simp] theorem State.complete_quad (s : State) (q : Req) (r : Reply) (n : Nat) : (s.complete q r).quad n = s.quad n := by simp only [State.quad, State.complete_quads]
@[simp] theorem State.complete_lout (s : State) (q : Req) (r : Reply) (n : Nat) : (s.complete q r).lout n = s.lout n := by simp only [State.lout, State.complete_louts]
@[simp] theorem State.complete_xfer (s : State) (q : Req) (r : Reply) (n : Nat) : (s.complete q r).xfer n = s.xfer n := by simp only [State.xfer, State.complete_xfers]
@[simp] theorem State.complete_job (s : State) (q : Req) (r : Reply) (n : Nat) : (s.complete q r).job n = s.job n := by simp only [State.job, State.complete_jobs]

@[simp] theorem State.complete_mgmt_staged (s : State) (q : Req) (r : Reply) : (s.complete q r).mgmt.staged = s.mgmt.staged := by
  obtain ⟨x, rep, sr, sb, core, outcomes, ports, regs, revs, h, hr⟩ := State.complete_form s q r; rw [h]
@[simp] theorem State.complete_mgmt_events (s : State) (q : Req) (r : Reply) : (s.complete q r).mgmt.events = s.mgmt.events := by
  obtain ⟨x, rep, sr, sb, core, outcomes, ports, regs, revs, h, hr⟩ := State.complete_form s q r; rw [h]
@[simp] theorem State.complete_mgmt_inbox (s : State) (q : Req) (r : Reply) : (s.complete q r).mgmt.inbox = s.mgmt.inbox := by
  obtain ⟨x, rep, sr, sb, core, outcomes, ports, regs, revs, h, hr⟩ := State.complete_form s q r; rw [h]
@[simp] theorem State.complete_mgmt_spiFault (s : State) (q : Req) (r : Reply) : (s.complete q r).mgmt.spiFault = s.mgmt.spiFault := by
  obtain ⟨x, rep, sr, sb, core, outcomes, ports, regs, revs, h, hr⟩ := State.complete_form s q r; rw [h]
@[simp] theorem State.complete_mgmt_spiOut (s : State) (q : Req) (r : Reply) : (s.complete q r).mgmt.spiOut = s.mgmt.spiOut := by
  obtain ⟨x, rep, sr, sb, core, outcomes, ports, regs, revs, h, hr⟩ := State.complete_form s q r; rw [h]
@[simp] theorem State.complete_mgmt_seen (s : State) (q : Req) (r : Reply) : (s.complete q r).mgmt.seen = s.mgmt.seen := by
  obtain ⟨x, rep, sr, sb, core, outcomes, ports, regs, revs, h, hr⟩ := State.complete_form s q r; rw [h]
@[simp] theorem State.complete_mgmt_unassignDue (s : State) (q : Req) (r : Reply) : (s.complete q r).mgmt.unassignDue = s.mgmt.unassignDue := by
  obtain ⟨x, rep, sr, sb, core, outcomes, ports, regs, revs, h, hr⟩ := State.complete_form s q r; rw [h]
@[simp] theorem State.complete_mgmt_resetDue (s : State) (q : Req) (r : Reply) : (s.complete q r).mgmt.resetDue = s.mgmt.resetDue := by
  obtain ⟨x, rep, sr, sb, core, outcomes, ports, regs, revs, h, hr⟩ := State.complete_form s q r; rw [h]
@[simp] theorem State.complete_mgmt_planDue (s : State) (q : Req) (r : Reply) : (s.complete q r).mgmt.planDue = s.mgmt.planDue := by
  obtain ⟨x, rep, sr, sb, core, outcomes, ports, regs, revs, h, hr⟩ := State.complete_form s q r; rw [h]

@[simp] theorem State.complete_timeRuns (s : State) (q : Req) (r : Reply) : (s.complete q r).timeRuns = s.timeRuns := by
  simp only [State.timeRuns, State.complete_alive, State.complete_aon]

@[simp] theorem State.complete_dispFine (s : State) (q : Req) (r : Reply) : (s.complete q r).dispFine = s.dispFine := by
  simp only [State.dispFine, State.complete_aon, State.complete_time]

@[simp] theorem State.complete_now (s : State) (q : Req) (r : Reply) : (s.complete q r).now = s.now := by
  simp only [State.now, State.complete_dispFine]

@[simp] theorem State.complete_rdv (s : State) (q : Req) (r : Reply) (e : Ent) (i : Nat) (he : e.dropCounter = false) :
    (s.complete q r).rdv e i = s.rdv e i := by
  obtain ⟨x, rep, sr, sb, core, outcomes, ports, regs, revs, h, hr⟩ := State.complete_form s q r
  rw [h]; exact hr e i he

@[simp] theorem State.complete_rd (s : State) (q : Req) (r : Reply) (e : Ent) (i : Nat) (he : e.dropCounter = false) :
    (s.complete q r).rd e i = s.rd e i := by
  unfold State.rd; rw [State.complete_rdv _ _ _ _ _ he]

@[simp] theorem State.complete_rdn (s : State) (q : Req) (r : Reply) (e : Ent) (i k : Nat) (he : e.dropCounter = false) :
    (s.complete q r).rdn e i k = s.rdn e i k := by
  unfold State.rdn; rw [State.complete_rdv _ _ _ _ _ he]

@[simp] theorem State.complete_running (s : State) (q : Req) (r : Reply) : (s.complete q r).running = s.running := by
  simp only [State.running, State.complete_rd _ _ _ .modulatorRun 0 rfl]

@[simp] theorem State.complete_active (s : State) (q : Req) (r : Reply) (n : Nat) : (s.complete q r).active n = s.active n := by
  simp only [State.active, State.complete_rd _ _ _ .portState n rfl]

/-! ### claimSpi: everything but two flags of the maintenance port stays -/

@[simp] theorem State.claimSpi_regs (s : State) (e : Env) : (s.claimSpi e).regs = s.regs := by unfold State.claimSpi; split <;> rfl
@[simp] theorem State.claimSpi_revs (s : State) (e : Env) : (s.claimSpi e).revs = s.revs := by unfold State.claimSpi; split <;> rfl
@[simp] theorem State.claimSpi_ports (s : State) (e : Env) : (s.claimSpi e).ports = s.ports := by unfold State.claimSpi; split <;> rfl
@[simp] theorem State.claimSpi_lanes (s : State) (e : Env) : (s.claimSpi e).lanes = s.lanes := by unfold State.claimSpi; split <;> rfl
@[simp] theorem State.claimSpi_outcomes (s : State) (e : Env) : (s.claimSpi e).outcomes = s.outcomes := by unfold State.claimSpi; split <;> rfl
@[simp] theorem State.claimSpi_sweeps (s : State) (e : Env) : (s.claimSpi e).sweeps = s.sweeps := by unfold State.claimSpi; split <;> rfl
@[simp] theorem State.claimSpi_sweepPkts (s : State) (e : Env) : (s.claimSpi e).sweepPkts = s.sweepPkts := by unfold State.claimSpi; split <;> rfl
@[simp] theorem State.claimSpi_time (s : State) (e : Env) : (s.claimSpi e).time = s.time := by unfold State.claimSpi; split <;> rfl
@[simp] theorem State.claimSpi_aon (s : State) (e : Env) : (s.claimSpi e).aon = s.aon := by unfold State.claimSpi; split <;> rfl
@[simp] theorem State.claimSpi_views (s : State) (e : Env) : (s.claimSpi e).views = s.views := by unfold State.claimSpi; split <;> rfl
@[simp] theorem State.claimSpi_syncIn (s : State) (e : Env) : (s.claimSpi e).syncIn = s.syncIn := by unfold State.claimSpi; split <;> rfl
@[simp] theorem State.claimSpi_syncOut (s : State) (e : Env) : (s.claimSpi e).syncOut = s.syncOut := by unfold State.claimSpi; split <;> rfl
@[simp] theorem State.claimSpi_ctxs (s : State) (e : Env) : (s.claimSpi e).ctxs = s.ctxs := by unfold State.claimSpi; split <;> rfl
@[simp] theorem State.claimSpi_bufs (s : State) (e : Env) : (s.claimSpi e).bufs = s.bufs := by unfold State.claimSpi; split <;> rfl
@[simp] theorem State.claimSpi_shown (s : State) (e : Env) : (s.claimSpi e).shown = s.shown := by unfold State.claimSpi; split <;> rfl
@[simp] theorem State.claimSpi_quarry (s : State) (e : Env) : (s.claimSpi e).quarry = s.quarry := by unfold State.claimSpi; split <;> rfl
@[simp] theorem State.claimSpi_fills (s : State) (e : Env) : (s.claimSpi e).fills = s.fills := by unfold State.claimSpi; split <;> rfl
@[simp] theorem State.claimSpi_cap (s : State) (e : Env) : (s.claimSpi e).cap = s.cap := by unfold State.claimSpi; split <;> rfl
@[simp] theorem State.claimSpi_defects (s : State) (e : Env) : (s.claimSpi e).defects = s.defects := by unfold State.claimSpi; split <;> rfl
@[simp] theorem State.claimSpi_modl (s : State) (e : Env) : (s.claimSpi e).modl = s.modl := by unfold State.claimSpi; split <;> rfl
@[simp] theorem State.claimSpi_quads (s : State) (e : Env) : (s.claimSpi e).quads = s.quads := by unfold State.claimSpi; split <;> rfl
@[simp] theorem State.claimSpi_groups (s : State) (e : Env) : (s.claimSpi e).groups = s.groups := by unfold State.claimSpi; split <;> rfl
@[simp] theorem State.claimSpi_tes (s : State) (e : Env) : (s.claimSpi e).tes = s.tes := by unfold State.claimSpi; split <;> rfl
@[simp] theorem State.claimSpi_louts (s : State) (e : Env) : (s.claimSpi e).louts = s.louts := by unfold State.claimSpi; split <;> rfl
@[simp] theorem State.claimSpi_rows (s : State) (e : Env) : (s.claimSpi e).rows = s.rows := by unfold State.claimSpi; split <;> rfl
@[simp] theorem State.claimSpi_xfers (s : State) (e : Env) : (s.claimSpi e).xfers = s.xfers := by unfold State.claimSpi; split <;> rfl
@[simp] theorem State.claimSpi_jobs (s : State) (e : Env) : (s.claimSpi e).jobs = s.jobs := by unfold State.claimSpi; split <;> rfl
@[simp] theorem State.claimSpi_secure (s : State) (e : Env) : (s.claimSpi e).secure = s.secure := by unfold State.claimSpi; split <;> rfl
@[simp] theorem State.claimSpi_power (s : State) (e : Env) : (s.claimSpi e).power = s.power := by unfold State.claimSpi; split <;> rfl
@[simp] theorem State.claimSpi_thermal (s : State) (e : Env) : (s.claimSpi e).thermal = s.thermal := by unfold State.claimSpi; split <;> rfl
@[simp] theorem State.claimSpi_boot (s : State) (e : Env) : (s.claimSpi e).boot = s.boot := by unfold State.claimSpi; split <;> rfl
@[simp] theorem State.claimSpi_jtag (s : State) (e : Env) : (s.claimSpi e).jtag = s.jtag := by unfold State.claimSpi; split <;> rfl
@[simp] theorem State.claimSpi_tables (s : State) (e : Env) : (s.claimSpi e).tables = s.tables := by unfold State.claimSpi; split <;> rfl
@[simp] theorem State.claimSpi_tablePad (s : State) (e : Env) : (s.claimSpi e).tablePad = s.tablePad := by unfold State.claimSpi; split <;> rfl
@[simp] theorem State.claimSpi_draws (s : State) (e : Env) : (s.claimSpi e).draws = s.draws := by unfold State.claimSpi; split <;> rfl
@[simp] theorem State.claimSpi_pending (s : State) (e : Env) : (s.claimSpi e).pending = s.pending := by unfold State.claimSpi; split <;> rfl
@[simp] theorem State.claimSpi_mgmt_sessions (s : State) (e : Env) : (s.claimSpi e).mgmt.sessions = s.mgmt.sessions := by unfold State.claimSpi; split <;> rfl
@[simp] theorem State.claimSpi_mgmt_staged (s : State) (e : Env) : (s.claimSpi e).mgmt.staged = s.mgmt.staged := by unfold State.claimSpi; split <;> rfl
@[simp] theorem State.claimSpi_mgmt_events (s : State) (e : Env) : (s.claimSpi e).mgmt.events = s.mgmt.events := by unfold State.claimSpi; split <;> rfl
@[simp] theorem State.claimSpi_mgmt_inbox (s : State) (e : Env) : (s.claimSpi e).mgmt.inbox = s.mgmt.inbox := by unfold State.claimSpi; split <;> rfl
@[simp] theorem State.claimSpi_mgmt_core (s : State) (e : Env) : (s.claimSpi e).mgmt.core = s.mgmt.core := by unfold State.claimSpi; split <;> rfl
@[simp] theorem State.claimSpi_mgmt_rep (s : State) (e : Env) : (s.claimSpi e).mgmt.rep = s.mgmt.rep := by unfold State.claimSpi; split <;> rfl
@[simp] theorem State.claimSpi_mgmt_spiReply (s : State) (e : Env) : (s.claimSpi e).mgmt.spiReply = s.mgmt.spiReply := by unfold State.claimSpi; split <;> rfl
@[simp] theorem State.claimSpi_mgmt_spiOut (s : State) (e : Env) : (s.claimSpi e).mgmt.spiOut = s.mgmt.spiOut := by unfold State.claimSpi; split <;> rfl
@[simp] theorem State.claimSpi_mgmt_seen (s : State) (e : Env) : (s.claimSpi e).mgmt.seen = s.mgmt.seen := by unfold State.claimSpi; split <;> rfl
@[simp] theorem State.claimSpi_mgmt_unassignDue (s : State) (e : Env) : (s.claimSpi e).mgmt.unassignDue = s.mgmt.unassignDue := by unfold State.claimSpi; split <;> rfl
@[simp] theorem State.claimSpi_mgmt_resetDue (s : State) (e : Env) : (s.claimSpi e).mgmt.resetDue = s.mgmt.resetDue := by unfold State.claimSpi; split <;> rfl
@[simp] theorem State.claimSpi_mgmt_planDue (s : State) (e : Env) : (s.claimSpi e).mgmt.planDue = s.mgmt.planDue := by unfold State.claimSpi; split <;> rfl
@[simp] theorem State.claimSpi_lane (s : State) (e : Env) (n l : Nat) : (s.claimSpi e).lane n l = s.lane n l := by unfold State.claimSpi; split <;> rfl
@[simp] theorem State.claimSpi_session (s : State) (e : Env) (n : Nat) : (s.claimSpi e).session n = s.session n := by unfold State.claimSpi; split <;> rfl
@[simp] theorem State.claimSpi_domain (s : State) (e : Env) (n : Nat) : (s.claimSpi e).domain n = s.domain n := by unfold State.claimSpi; split <;> rfl
@[simp] theorem State.claimSpi_rail (s : State) (e : Env) (n : Nat) : (s.claimSpi e).rail n = s.rail n := by unfold State.claimSpi; split <;> rfl
@[simp] theorem State.claimSpi_on (s : State) (e : Env) (n : Nat) : (s.claimSpi e).on n = s.on n := by unfold State.claimSpi; split <;> rfl
@[simp] theorem State.claimSpi_alive (s : State) (e : Env) (n : Nat) : (s.claimSpi e).alive n = s.alive n := by unfold State.claimSpi; split <;> rfl
@[simp] theorem State.claimSpi_port (s : State) (e : Env) (n : Nat) : (s.claimSpi e).port n = s.port n := by unfold State.claimSpi; split <;> rfl
@[simp] theorem State.claimSpi_view (s : State) (e : Env) (n : Nat) : (s.claimSpi e).view n = s.view n := by unfold State.claimSpi; split <;> rfl
@[simp] theorem State.claimSpi_ctx (s : State) (e : Env) (n : Nat) : (s.claimSpi e).ctx n = s.ctx n := by unfold State.claimSpi; split <;> rfl
@[simp] theorem State.claimSpi_buf (s : State) (e : Env) (n : Nat) : (s.claimSpi e).buf n = s.buf n := by unfold State.claimSpi; split <;> rfl
@[simp] theorem State.claimSpi_quad (s : State) (e : Env) (n : Nat) : (s.claimSpi e).quad n = s.quad n := by unfold State.claimSpi; split <;> rfl
@[simp] theorem State.claimSpi_lout (s : State) (e : Env) (n : Nat) : (s.claimSpi e).lout n = s.lout n := by unfold State.claimSpi; split <;> rfl
@[simp] theorem State.claimSpi_xfer (s : State) (e : Env) (n : Nat) : (s.claimSpi e).xfer n = s.xfer n := by unfold State.claimSpi; split <;> rfl
@[simp] theorem State.claimSpi_job (s : State) (e : Env) (n : Nat) : (s.claimSpi e).job n = s.job n := by unfold State.claimSpi; split <;> rfl
@[simp] theorem State.claimSpi_rdv (s : State) (e : Env) (f : Ent) (i : Nat) : (s.claimSpi e).rdv f i = s.rdv f i := by unfold State.claimSpi; split <;> rfl
@[simp] theorem State.claimSpi_rd (s : State) (e : Env) (f : Ent) (i : Nat) : (s.claimSpi e).rd f i = s.rd f i := by unfold State.claimSpi; split <;> rfl
@[simp] theorem State.claimSpi_rdn (s : State) (e : Env) (f : Ent) (i k : Nat) : (s.claimSpi e).rdn f i k = s.rdn f i k := by unfold State.claimSpi; split <;> rfl
@[simp] theorem State.claimSpi_timeRuns (s : State) (e : Env)  : (s.claimSpi e).timeRuns  = s.timeRuns  := by unfold State.claimSpi; split <;> rfl
@[simp] theorem State.claimSpi_dispFine (s : State) (e : Env)  : (s.claimSpi e).dispFine  = s.dispFine  := by unfold State.claimSpi; split <;> rfl
@[simp] theorem State.claimSpi_now (s : State) (e : Env)  : (s.claimSpi e).now  = s.now  := by unfold State.claimSpi; split <;> rfl
@[simp] theorem State.claimSpi_running (s : State) (e : Env)  : (s.claimSpi e).running  = s.running  := by unfold State.claimSpi; split <;> rfl
@[simp] theorem State.claimSpi_active (s : State) (e : Env) (n : Nat) : (s.claimSpi e).active n = s.active n := by unfold State.claimSpi; split <;> rfl

/-! ### A request -/

/-- R273 to R277: a request that its session lets run while the core is free: its body, then the answer. -/
theorem State.request_run (s : State) (q : Req) (o r : Bool) (body : State → State × Ans)
    (h : s.judge q.env o r = .run) (hf : s.coreFree = true) :
    s.request q o r body = (body (s.claimSpi q.env)).1.finish q (body (s.claimSpi q.env)).2 r := by
  simp only [State.request, State.arrive, h, hf, if_true, State.execute]

@[simp] theorem reqOf_env (e : Env) (op : Nat) (x : Ent) (i : Nat) : (reqOf e op x i).env = e := rfl

end Sys2Proof.Machine
end

