-- ==== Sys2Proof/Laws/Network.lean ====
section
/-! SUPPORT. What the network's shared operations can do (R64 to R72, R85): the entries of the network, the egress
queues and HELLO records of the ports, the time unit, the reference of the fast PLLs, and events; nothing else. -/

namespace Sys2Proof.Machine

/-- The entries that a change of path, a departure from ACTIVE or a packet of the device's own may write. -/
def Ent.netEntry (e : Ent) : Bool :=
  decide (e = .mgmtQueueDrops) || decide (e = .videoQueueDrops) || decide (e = .bulkQueueDrops)
    || decide (e = .noRouteDrops) || decide (e = .lineRate) || decide (e = .rxLatency)
    || decide (e = .routeTable) || decide (e = .childPorts) || decide (e = .upstreamPort)
    || decide (e = .rootDistance) || decide (e = .rootAddress) || decide (e = .isUpstream)
    || decide (e = .upstreamChanges) || decide (e = .meanPathDelay) || decide (e = .timeState) || decide (e = .lockLosses)
    || decide (e = .eventsRaised) || decide (e = .eventsCoalesced) || decide (e = .blackBoxCoalesced)

theorem Ent.dropCounter_of_netEntry {e : Ent} (h : e.netEntry = false) : e.dropCounter = false := by
  cases e <;> first | rfl | exact absurd h (by decide)

theorem Ent.ne_of_netEntry {e : Ent} (h : e.netEntry = false) {f : Ent} (hf : f.netEntry = true) : f ≠ e := by
  rintro rfl; rw [h] at hf; exact absurd hf (by decide)

/-- A port without what the network's shared operations may write in it. -/
def Port.core (p : Port) : Port :=
  { p with queue := [], ctlSeq := [], hello := none, heard := false, nbr := none, better := 0, asm := none, done := [] }

/-- A port without what a packet of the device's own writes in it. -/
def Port.hull (p : Port) : Port := { p with queue := [], ctlSeq := [] }

theorem Port.core_of_hull {p q : Port} (h : p.hull = q.hull) : p.core = q.core := by
  have := congrArg Port.core h; simpa [Port.core, Port.hull] using this

/-- The network's shared operations take the state `s` to `t`; `f` is what stays of a port. -/
structure NetKeepBy (f : Port → Port) (s t : State) : Prop where
  rdv : ∀ e i, e.netEntry = false → t.rdv e i = s.rdv e i
  port : ∀ n, f (t.port n) = f (s.port n)
  time : t.time.disp = s.time.disp
  aon : t.aon = { s.aon with refSel := t.aon.refSel, coal := t.aon.coal, bbCoal := t.aon.bbCoal }
  mgmt : t.mgmt = { s.mgmt with events := t.mgmt.events, made := t.mgmt.made }
  secure : t.secure = { s.secure with bbQueue := t.secure.bbQueue }
  rest : t = { s with regs := t.regs, revs := t.revs, ports := t.ports, time := t.time, aon := t.aon, mgmt := t.mgmt
                      secure := t.secure }

/-- The network's shared operations, but for a port's departure from ACTIVE. -/
abbrev NetKeep := NetKeepBy Port.hull

theorem NetKeepBy.refl {f : Port → Port} (s : State) : NetKeepBy f s s := ⟨fun _ _ _ => rfl, fun _ => rfl, rfl, rfl, rfl, rfl, rfl⟩

theorem NetKeepBy.trans {f : Port → Port} {s t u : State} (h : NetKeepBy f s t) (g : NetKeepBy f t u) :
    NetKeepBy f s u where
  rdv e i he := (g.rdv e i he).trans (h.rdv e i he)
  port n := (g.port n).trans (h.port n)
  time := g.time.trans h.time
  aon := by rw [g.aon, h.aon]
  mgmt := by rw [g.mgmt, h.mgmt]
  secure := by rw [g.secure, h.secure]
  rest := by rw [g.rest, h.rest]

theorem NetKeepBy.toCore {s t : State} (h : NetKeep s t) : NetKeepBy Port.core s t :=
  ⟨h.rdv, fun n => Port.core_of_hull (h.port n), h.time, h.aon, h.mgmt, h.secure, h.rest⟩

theorem NetKeep.refl (s : State) : NetKeep s s := NetKeepBy.refl s

theorem NetKeep.trans {s t u : State} (h : NetKeep s t) (g : NetKeep t u) : NetKeep s u := NetKeepBy.trans h g

theorem NetKeep.forEach {α : Type} (l : List α) (f : State → α → State) (hf : ∀ s a, NetKeep s (f s a)) (s : State) :
    NetKeep s (s.forEach l f) := by
  unfold State.forEach
  induction l generalizing s with
  | nil => exact NetKeep.refl s
  | cons a l ih => exact (hf s a).trans (ih (f s a))

theorem NetKeep.wrv (s : State) (e : Ent) (i : Nat) (v : Val) (he : e.netEntry = true) : NetKeep s (s.wrv e i v) where
  rdv f j hf := by simp [Ent.ne_of_netEntry hf he]
  port n := by simp
  time := by simp
  aon := by simp
  mgmt := by simp
  secure := by simp
  rest := by rw [State.wrv_form]

theorem NetKeep.wr (s : State) (e : Ent) (i n : Nat) (he : e.netEntry = true) : NetKeep s (s.wr e i n) :=
  NetKeep.wrv _ _ _ _ he

theorem NetKeep.count (s : State) (e : Ent) (i : Nat) (he : e.netEntry = true) : NetKeep s (s.count e i) :=
  NetKeep.wrv _ _ _ _ he

theorem NetKeep.setPort (s : State) (n : Nat) (p : Port) (hp : p.hull = (s.port n).hull) : NetKeep s (s.setPort n p) where
  rdv e i _ := rfl
  port m := by
    rw [State.setPort_port]; split
    · rename_i h; subst h; exact hp
    · rfl
  time := rfl
  aon := rfl
  mgmt := rfl
  secure := rfl
  rest := rfl

theorem NetKeep.raise (s : State) (e : Event) (names : List Nat) : NetKeep s (s.raise e names) where
  rdv f j hf := State.raise_rdv _ _ _ _ _ (Ent.ne_of_netEntry hf rfl).symm (Ent.ne_of_netEntry hf rfl).symm
    (Ent.ne_of_netEntry hf rfl).symm
  port n := by simp
  time := by simp
  aon := by obtain ⟨q, c, bq, bc, regs, revs, h, hr⟩ := State.raise_form s e names; rw [h]
  mgmt := by obtain ⟨q, c, bq, bc, regs, revs, h, hr⟩ := State.raise_form s e names; rw [h]
  secure := by obtain ⟨q, c, bq, bc, regs, revs, h, hr⟩ := State.raise_form s e names; rw [h]
  rest := by obtain ⟨q, c, bq, bc, regs, revs, h, hr⟩ := State.raise_form s e names; rw [h]

theorem NetKeep.dropPacket (s : State) (p : Packet) : NetKeep s (s.dropPacket p) := by
  unfold State.dropPacket
  repeat' split
  all_goals first | exact NetKeep.count _ _ _ rfl | exact NetKeep.refl _

theorem NetKeep.enqueue (s : State) (n : Nat) (p : Packet) (f : Bool) : NetKeep s (s.enqueue n p f) := by
  unfold State.enqueue; dsimp only
  split
  · exact NetKeep.setPort _ _ _ rfl
  · exact NetKeep.dropPacket _ _

theorem NetKeep.originate (s : State) (p : Packet) : NetKeep s (s.originate p) := by
  unfold State.originate; dsimp only
  repeat' split
  all_goals first | exact NetKeep.enqueue _ _ _ _ | exact NetKeep.count _ _ _ rfl

theorem NetKeep.useSeq (s : State) (n c : Nat) : NetKeep s (s.useSeq n c) := NetKeep.setPort _ _ _ rfl

theorem NetKeep.sendLocal (s : State) (n cls chan : Nat) (b : Bytes) (f : Bool) :
    NetKeep s (s.sendLocal n cls chan b f) := (NetKeep.useSeq _ _ _).trans (NetKeep.enqueue _ _ _ _)

/-- R64. -/
theorem NetKeep.helloAll (s : State) : NetKeep s s.helloAll := by
  refine NetKeep.forEach _ _ (fun s n => ?_) s
  split
  · exact NetKeep.sendLocal _ _ _ _ _ _
  · exact NetKeep.refl _

/-- R70. -/
theorem NetKeep.announce (s : State) : NetKeep s s.announce := by
  unfold State.announce
  split
  · exact NetKeep.refl _
  · exact (NetKeep.useSeq _ _ _).trans (NetKeep.originate _ _)

theorem NetKeep.clearLearned (s : State) (n : Nat) : NetKeep s (s.clearLearned n) := NetKeep.wrv _ _ _ _ rfl

theorem NetKeep.setChildren (s : State) : NetKeep s s.setChildren := NetKeep.wr _ _ _ _ rfl

theorem NetKeep.setTime (s : State) (x : TimeUnit) (hx : x.disp = s.time.disp) : NetKeep s { s with time := x } :=
  ⟨fun _ _ _ => rfl, fun _ => rfl, hx, rfl, rfl, rfl, rfl⟩

/-- R85. -/
theorem NetKeep.toHoldover (s : State) : NetKeep s s.toHoldover := by
  unfold State.toHoldover
  split
  · refine NetKeep.trans ?_ (NetKeep.raise _ _ _)
    refine NetKeep.trans ?_ (NetKeep.count _ _ _ rfl)
    refine NetKeep.trans ?_ (NetKeep.wr _ _ _ _ rfl)
    exact NetKeep.setTime s _ rfl
  · exact NetKeep.refl _

theorem NetKeep.newPath (s : State) (b : Bool) : NetKeep s (s.newPath b) := by
  unfold State.newPath
  refine NetKeep.trans ?_ (NetKeep.wr _ _ _ _ rfl)
  exact ⟨fun _ _ _ => rfl, fun _ => rfl, rfl, rfl, rfl, rfl, rfl⟩

/-- R66, R67: the upstream port and what its change brings. -/
theorem NetKeep.setUpstream (s : State) (up : Option Nat) : NetKeep s (s.setUpstream up) := by
  unfold State.setUpstream
  extract_lets f d dist root s1 s2 a1 a2 s3 s4 s5
  have h1 : NetKeep s s1 := ((NetKeep.wr _ _ _ _ rfl).trans (NetKeep.wr _ _ _ _ rfl)).trans (NetKeep.wr _ _ _ _ rfl)
  have h2 : NetKeep s1 s2 := NetKeep.forEach _ _ (fun s n => NetKeep.wr _ _ _ _ rfl) _
  have h3 : NetKeep s2 s3 := by
    simp only [s3]
    split
    · exact NetKeep.refl _
    · refine NetKeep.trans ?_ (NetKeep.toHoldover _)
      refine NetKeep.trans ?_ (NetKeep.newPath a2 _)
      have h : NetKeep s2 a1 := (NetKeep.count _ _ _ rfl).trans (NetKeep.raise _ _ _)
      refine h.trans ?_
      simp only [a2]
      cases up with
      | none => exact NetKeep.refl _
      | some n => exact NetKeep.clearLearned _ _
  have h4 : NetKeep s3 s4 := by
    simp only [s4]
    split
    · exact (NetKeep.raise _ _ _).trans (NetKeep.toHoldover _)
    · exact NetKeep.refl _
  have h5 : NetKeep s4 s5 := by
    simp only [s5]
    split
    · exact NetKeep.helloAll _
    · exact NetKeep.refl _
  have h := (((h1.trans h2).trans h3).trans h4).trans h5
  split
  · exact h
  · exact h.trans (NetKeep.announce _)

/-- R67. -/
theorem NetKeep.reselect (s : State) (m : Option Nat) : NetKeep s (s.reselect m) := by
  unfold State.reselect
  repeat' split
  all_goals exact NetKeep.setUpstream _ _

theorem NetKeep.emptyQueues (s : State) (n : Nat) : NetKeep s (s.emptyQueues n) := by
  unfold State.emptyQueues
  refine NetKeep.trans ?_ (NetKeep.forEach _ _ (fun s p => NetKeep.dropPacket s p) _)
  exact NetKeep.setPort s n _ rfl

/-- R42, R70 to R72: what leaving ACTIVE brings in the network. -/
theorem NetKeep.netLeave (s : State) (n : Nat) : NetKeepBy Port.core s (s.netLeave n) := by
  unfold State.netLeave
  extract_lets up s1 s2 a s3 s4
  have h1 : NetKeep s s1 := (NetKeep.wr _ _ _ _ rfl).trans (NetKeep.wr _ _ _ _ rfl)
  have h2 : NetKeep s1 s2 := NetKeep.emptyQueues _ _
  have h3 : NetKeepBy Port.core s2 s3 := by
    refine ⟨fun _ _ _ => rfl, fun m => ?_, rfl, rfl, rfl, rfl, rfl⟩
    simp only [s3, State.setPort_port]
    split
    · rename_i h; subst h; rfl
    · rfl
  have h4 : NetKeep s3 s4 :=
    ((NetKeep.clearLearned _ _).trans (NetKeep.setChildren _)).trans (NetKeep.reselect _ _)
  have h := ((h1.trans h2).toCore.trans h3).trans h4.toCore
  split
  · exact h.trans (NetKeep.announce _).toCore
  · exact h

/-- A reply changes nothing in a port but its egress queue. -/
theorem State.sendReply_core (s : State) (q : Req) (r : Reply) (n : Nat) :
    ((s.sendReply q r).port n).core = (s.port n).core := by
  unfold State.sendReply
  dsimp only
  split
  · rfl
  · split
    · exact Port.core_of_hull ((NetKeep.enqueue _ _ _ _).port n)
    · exact Port.core_of_hull ((NetKeep.originate _ _).port n)

theorem State.complete_core (s : State) (q : Req) (r : Reply) (n : Nat) :
    ((s.complete q r).port n).core = (s.port n).core := by
  have hf : (s.freeCore q.env).port n = s.port n := by unfold State.freeCore; split <;> rfl
  rw [← hf]
  unfold State.complete
  dsimp only
  split
  · split <;> rfl
  · split
    · exact State.sendReply_core _ _ _ _
    · rfl

theorem State.finish_core (s : State) (q : Req) (a : Ans) (b : Bool) (n : Nat) :
    ((s.finish q a b).port n).core = (s.port n).core := by
  unfold State.finish
  dsimp only
  split
  · rfl
  · split
    · rfl
    · exact State.sendReply_core _ _ _ _

theorem Port.hello_of_hull {p q : Port} (h : p.hull = q.hull) : p.hello = q.hello := by
  have := congrArg Port.hello h; simpa [Port.hull] using this

theorem Port.heard_of_hull {p q : Port} (h : p.hull = q.hull) : p.heard = q.heard := by
  have := congrArg Port.heard h; simpa [Port.hull] using this

theorem Port.idle_of_core {p q : Port} (h : p.core = q.core) : p.idle = q.idle := by
  have := congrArg Port.idle h; simpa [Port.core] using this

theorem Port.phase_of_core {p q : Port} (h : p.core = q.core) : p.phase = q.phase := by
  have := congrArg Port.phase h; simpa [Port.core] using this

theorem Port.asked_of_core {p q : Port} (h : p.core = q.core) : p.asked = q.asked := by
  have := congrArg Port.asked h; simpa [Port.core] using this

theorem Port.ordered_of_core {p q : Port} (h : p.core = q.core) : p.ordered = q.ordered := by
  have := congrArg Port.ordered h; simpa [Port.core] using this

theorem Port.term_of_core {p q : Port} (h : p.core = q.core) : p.term = q.term := by
  have := congrArg Port.term h; simpa [Port.core] using this

theorem Port.nak_of_core {p q : Port} (h : p.core = q.core) : p.nak = q.nak := by
  have := congrArg Port.nak h; simpa [Port.core] using this

section
variable {f : Port → Port} {s t : State} (h : NetKeepBy f s t)
include h

theorem NetKeepBy.rd (e : Ent) (i : Nat) (he : e.netEntry = false) : t.rd e i = s.rd e i := by
  unfold State.rd; rw [h.rdv e i he]

theorem NetKeepBy.rdn (e : Ent) (i k : Nat) (he : e.netEntry = false) : t.rdn e i k = s.rdn e i k := by
  unfold State.rdn; rw [h.rdv e i he]

theorem NetKeepBy.lane (n l : Nat) : t.lane n l = s.lane n l := by rw [h.rest]; rfl

theorem NetKeepBy.power : t.power = s.power := by rw [h.rest]

theorem NetKeepBy.pending : t.pending = s.pending := by rw [h.rest]

theorem NetKeepBy.on (d : Nat) : t.on d = s.on d := by rw [h.rest]; rfl

theorem NetKeepBy.alive (d : Nat) : t.alive d = s.alive d := by rw [h.rest]; rfl

theorem NetKeepBy.mono : t.aon.mono = s.aon.mono := by rw [h.aon]

theorem NetKeepBy.session (n : Nat) : t.session n = s.session n := by
  unfold State.session; rw [h.mgmt]
end

end Sys2Proof.Machine
end

