-- ==== Sys2Proof/Laws/Link.lean ====
section
/-! SUPPORT. What the shared operations of the Izsor lanes do (R36 to R42). -/

namespace Sys2Proof.Machine

@[simp] theorem State.forEach_ports4 (s : State) (f : State → Nat → State) :
    s.forEach ports4 f = f (f (f (f s 0) 1) 2) 3 := rfl

@[simp] theorem Lane.slotStep_locked (a : Lane) (b st : Bool) (p : Nat) : (a.slotStep b st p).1.locked = a.locked := by
  unfold Lane.slotStep; repeat' split
  all_goals rfl

@[simp] theorem Lane.slotStep_goodRun (a : Lane) (b st : Bool) (p : Nat) :
    (a.slotStep b st p).1.goodRun = a.goodRun := by
  unfold Lane.slotStep; repeat' split
  all_goals rfl

/-- A port without its transmitter's counts. -/
def Port.rxPart (p : Port) : Port := { p with txLane := 0, txBase := 0, txCount := 0, txPos := 0 }

/-- A lane without its transmitter. -/
def Lane.rxPart (a : Lane) : Lane := { a with txScr := 0, txSlot := 0, txBip := 0, txMarker := 0, sent := [] }

/-- From `s` to `t` only transmitters of the lanes went on, and free values may have been drawn. -/
structure TxKeep (s t : State) : Prop where
  rest : t = { s with ports := t.ports, lanes := t.lanes, draws := t.draws }
  port : ∀ m, (t.port m).rxPart = (s.port m).rxPart
  lane : ∀ m l, (t.lane m l).rxPart = (s.lane m l).rxPart

theorem TxKeep.refl (s : State) : TxKeep s s := ⟨rfl, fun _ => rfl, fun _ _ => rfl⟩

theorem TxKeep.trans {s t u : State} (h : TxKeep s t) (g : TxKeep t u) : TxKeep s u where
  rest := by rw [g.rest, h.rest]
  port m := (g.port m).trans (h.port m)
  lane m l := (g.lane m l).trans (h.lane m l)

theorem TxKeep.rdv {s t : State} (h : TxKeep s t) (e : Ent) (i : Nat) : t.rdv e i = s.rdv e i := by rw [h.rest]; rfl

theorem TxKeep.rd {s t : State} (h : TxKeep s t) (e : Ent) (i : Nat) : t.rd e i = s.rd e i := by rw [h.rest]; rfl

theorem TxKeep.setPort (s : State) (n : Nat) (p : Port) (hp : p.rxPart = (s.port n).rxPart) :
    TxKeep s (s.setPort n p) where
  rest := rfl
  port m := by
    rw [State.setPort_port]; split
    · rename_i h; subst h; exact hp
    · rfl
  lane m l := by rw [State.setPort_lane]

theorem TxKeep.setLane (s : State) (n l : Nat) (a : Lane) (ha : a.rxPart = (s.lane n l).rxPart) :
    TxKeep s (s.setLane n l a) where
  rest := rfl
  port m := by rw [State.setLane_port]
  lane m k := by
    rw [State.setLane_lane]; split
    · rename_i h
      have : s.lane m k = s.lane n l := by unfold State.lane; rw [h]
      rw [this]; exact ha
    · rfl

theorem TxKeep.forEach {α : Type} (l : List α) (f : State → α → State) (hf : ∀ s a, TxKeep s (f s a)) (s : State) :
    TxKeep s (s.forEach l f) := by
  unfold State.forEach
  induction l generalizing s with
  | nil => exact TxKeep.refl s
  | cons a l ih => exact (hf s a).trans (ih (f s a))

/-- R33. -/
theorem TxKeep.putMarkers (s : State) (n : Nat) (k : Bool) : TxKeep s (s.putMarkers n k) := by
  unfold State.putMarkers; dsimp only
  split
  · exact TxKeep.refl s
  · refine (TxKeep.setPort s n _ ?_).trans (TxKeep.forEach _ _ (fun s l => TxKeep.setLane _ _ _ _ ?_) _)
    · rfl
    · rfl

/-- R30, R32: a block sent changes its port's transmitter and nothing else. -/
theorem TxKeep.putBlock (s : State) (n h : Nat) (w : BitVec 64) (k : Bool) : TxKeep s (s.putBlock n h w k) := by
  have hm : TxKeep s (if (s.port n).txLane % 4 = 0 then s.putMarkers n k else s) := by
    split
    · exact TxKeep.putMarkers s n k
    · exact TxKeep.refl s
  unfold State.putBlock; dsimp only
  refine hm.trans ((TxKeep.setLane _ _ _ _ ?_).trans (TxKeep.setPort _ _ _ ?_))
  · rfl
  · rw [State.setLane_port]; rfl

/-- R32. -/
theorem TxKeep.stripe (s : State) (n : Nat) (bl : List (Nat × BitVec 64)) : TxKeep s (State.stripe s n bl) := by
  induction bl generalizing s with
  | nil => exact TxKeep.refl s
  | cons x t ih => exact (TxKeep.putBlock s n x.1 x.2 true).trans (ih _)

/-- R37. -/
theorem TxKeep.fillBlocks (k n : Nat) (s : State) : TxKeep s (State.fillBlocks k n s) := by
  induction k generalizing s with
  | zero => exact TxKeep.refl s
  | succ k ih => exact (TxKeep.putBlock s n 2 _ false).trans (ih _)

theorem TxKeep.txRun (s : State) (n : Nat) : TxKeep s (s.txRun n) := by
  unfold State.txRun; dsimp only
  split
  · exact TxKeep.refl s
  · refine TxKeep.trans ?_ (TxKeep.trans (TxKeep.fillBlocks _ n { s with draws := s.draws + 1 }) (TxKeep.setPort _ n _ ?_))
    · exact ⟨rfl, fun _ => rfl, fun _ _ => rfl⟩
    · rfl

/-- R36, Table 2.4: a part of the bring-up shows in PortState, but in RESUME. -/
theorem State.enterPhase_rd (s : State) (n ph : Nat) (e : Ent) (i : Nat) (he : e ≠ .portState) :
    (s.enterPhase n ph).rd e i = s.rd e i := by
  unfold State.enterPhase; dsimp only; split <;> simp [he.symm, (TxKeep.txRun s n).rd]

theorem Lane.rxPart_locked {a b : Lane} (h : a.rxPart = b.rxPart) : a.locked = b.locked := by
  have := congrArg Lane.locked h; simpa [Lane.rxPart] using this

theorem State.enterPhase_lane (s : State) (n ph m l : Nat) :
    ((s.enterPhase n ph).lane m l).rxPart = (s.lane m l).rxPart := by
  have h := (TxKeep.txRun s n).lane m l
  have g : ∀ t : State, ((t.forEach ports4 (fun s l => s.setLane n l { s.lane n l with txSlot := 0 })).lane m l).rxPart
      = (t.lane m l).rxPart := fun t => by
    refine (TxKeep.forEach _ _ (fun s l => TxKeep.setLane _ _ _ _ ?_) t).lane m l
    rfl
  unfold State.enterPhase; dsimp only
  split
  · rw [g, State.setPort_lane]; exact h
  · rw [State.wr_lane, g, State.setPort_lane]; exact h

/-- R36. -/
theorem State.quartzExit_lane (s : State) (n m l : Nat) : ((s.quartzExit n).lane m l).rxPart = (s.lane m l).rxPart := by
  unfold State.quartzExit; split
  · exact State.enterPhase_lane _ _ _ _ _
  · rfl

theorem State.quartzExit_rd (s : State) (n : Nat) (e : Ent) (i : Nat) (he : e ≠ .portState) :
    (s.quartzExit n).rd e i = s.rd e i := by
  unfold State.quartzExit; split <;> simp [State.enterPhase_rd, he]

/-- R49, R50: the answer to the write that asked for sleep changes no port, but for its queue. -/
theorem State.answerAsk_core (s : State) (n : Nat) (a : Option SleepAsk) (st : Status) (m : Nat) :
    ((s.answerAsk n a st).port m).core = (s.port m).core := by
  unfold State.answerAsk; split
  · exact State.complete_core _ _ _ _
  · rfl

theorem State.answerAsk_rd (s : State) (n : Nat) (a : Option SleepAsk) (st : Status) (e : Ent) (i : Nat)
    (he : e.dropCounter = false) : (s.answerAsk n a st).rd e i = s.rd e i := by
  unfold State.answerAsk; split
  · exact State.complete_rd _ _ _ _ _ he
  · rfl

/-- A port whose sleep request, electrical idle and training are over. -/
def Port.isDown (p : Port) : Prop := p.idle = .down ∧ p.phase = 0 ∧ p.asked = none

theorem Port.isDown_of_core {p q : Port} (h : p.core = q.core) (hq : q.isDown) : p.isDown :=
  ⟨(Port.idle_of_core h).trans hq.1, (Port.phase_of_core h).trans hq.2.1, (Port.asked_of_core h).trans hq.2.2⟩

/-- R42: what leaving ACTIVE leaves in the port. -/
theorem State.linkDown_port (s : State) (n : Nat) : ((s.linkDown n).port n).isDown := by
  unfold State.linkDown
  extract_lets p s1 s2 a s3 s4
  have h3 : (s3.port n).isDown := by
    simp only [s3, State.setPort_port, if_true]; exact ⟨rfl, rfl, rfl⟩
  have h4 : (s4.port n).isDown := by
    simp only [s4, State.forEach_ports4, State.setLane_port]; exact h3
  have h5 : ((s4.netLeave n).port n).isDown := Port.isDown_of_core ((NetKeep.netLeave s4 n).port n) h4
  exact Port.isDown_of_core (State.answerAsk_core _ _ _ _ _) h5

/-- R42: leaving ACTIVE shows DETECT in PortState, counts LinkDowns, and writes no entry but those of the network,
PortState, LinkDowns and BadPackets. -/
theorem State.linkDown_rd (s : State) (n : Nat) (e : Ent) (i : Nat) (he : e.netEntry = false) :
    (s.linkDown n).rd e i = if .portState = e ∧ n % 65536 = i % 65536 then 1
      else if .linkDowns = e ∧ n % 65536 = i % 65536 then min (s.rd .linkDowns n + 1) 0xFFFFFFFF
      else if (s.port n).asm.isSome = true ∧ .badPackets = e ∧ n % 65536 = i % 65536 then
        min (s.rd .badPackets n + 1) 0xFFFFFFFF
      else s.rd e i := by
  have h0 : e ≠ .eventsRaised ∧ e ≠ .eventsCoalesced ∧ e ≠ .blackBoxCoalesced :=
    ⟨(Ent.ne_of_netEntry he rfl).symm, (Ent.ne_of_netEntry he rfl).symm, (Ent.ne_of_netEntry he rfl).symm⟩
  have hd := Ent.dropCounter_of_netEntry he
  unfold State.linkDown
  extract_lets p s1 s2 a s3 s4
  have h5 : (s4.netLeave n).rd e i = s3.rd e i := by
    rw [(NetKeep.netLeave s4 n).rd e i he]; simp only [s4, State.forEach_ports4, State.setLane_rd]
  have h3 : s3.rd e i = if .portState = e ∧ n % 65536 = i % 65536 then 1 else s2.rd e i := by
    simp only [s3, State.setPort_rd, State.wr_rd]
  have h2 : s2.rd e i = if (s.port n).asm.isSome = true ∧ .badPackets = e ∧ n % 65536 = i % 65536 then
      min (s.rd .badPackets n + 1) 0xFFFFFFFF else s1.rd e i := by
    simp only [s2, p]
    split
    · simp [s1, *]
    · simp [*]
  have h1 : s1.rd e i = if .linkDowns = e ∧ n % 65536 = i % 65536 then min (s.rd .linkDowns n + 1) 0xFFFFFFFF
      else s.rd e i := by
    simp only [s1, State.raise_rd _ _ _ _ _ h0.1 h0.2.1 h0.2.2, State.count_rd]
  have h : (s4.netLeave n).rd e i = if .portState = e ∧ n % 65536 = i % 65536 then 1
      else if .linkDowns = e ∧ n % 65536 = i % 65536 then min (s.rd .linkDowns n + 1) 0xFFFFFFFF
      else if (s.port n).asm.isSome = true ∧ .badPackets = e ∧ n % 65536 = i % 65536 then
        min (s.rd .badPackets n + 1) 0xFFFFFFFF
      else s.rd e i := by
    rw [h5, h3, h2, h1]
    by_cases hl : Ent.linkDowns = e
    · subst hl; simp
    · simp [hl]
  rw [State.answerAsk_rd _ _ _ _ _ _ hd]; exact h

/-- R49: what the entry into LINK_SLEEP leaves. -/
theorem State.linkSleep_done (s : State) (n : Nat) : (s.linkSleep n).rd .portState n = 7
    ∧ ((s.linkSleep n).port n).term = false ∧ ((s.linkSleep n).port n).asked = none := by
  unfold State.linkSleep
  dsimp only
  refine ⟨?_, ?_, ?_⟩
  · rw [State.answerAsk_rd _ _ _ _ _ _ rfl]; simp
  · rw [Port.term_of_core (State.answerAsk_core _ _ _ _ _)]; simp
  · rw [Port.asked_of_core (State.answerAsk_core _ _ _ _ _)]; simp

end Sys2Proof.Machine
end

