-- ==== Sys2Proof/Laws/Secure.lean ====
section
/-! SUPPORT. What a read of the MRAM by the T9 itself can do (R314): corrected words are counted, and one word may from then
on read otherwise. -/

namespace Sys2Proof.Machine

theorem State.with_secure {s t : State} (h : t.secure = s.secure) : t = { t with secure := s.secure } :=
  congrArg (fun z : Secure => ({ t with secure := z } : State)) h

/-- R314: all that such a read can change: NvmCorrected, and at most one byte of the range read. -/
theorem State.mramScan_eq (s : State) (a n : Nat) : ∃ (k : Nat) (m : SMap Byte),
    s.mramScan a n = { { s with draws := s.draws + 1 }.countBy .nvmCorrected 0 k with
      secure := { s.secure with mram := m } } ∧
    (m = s.secure.mram ∨ ∃ i x, i < n ∧ m = SMap.write s.secure.mram (a + i) [x]) := by
  unfold State.mramScan
  dsimp only
  split
  · rename_i w _
    split
    · exact ⟨(Config.mramCorrected s.draws).toNat, s.secure.mram, State.with_secure (State.countBy_secure _ _ _ _), .inl rfl⟩
    · refine ⟨(Config.mramCorrected s.draws).toNat, SMap.write s.secure.mram (a + w.1.toNat % n) [w.2], ?_, .inr ⟨_, _, Nat.mod_lt _ (by omega), rfl⟩⟩
      unfold State.mramWrite
      simp only [State.countBy_secure]
  · exact ⟨(Config.mramCorrected s.draws).toNat, s.secure.mram, State.with_secure (State.countBy_secure _ _ _ _), .inl rfl⟩

/-- R314: a byte outside the range reads as before. -/
theorem State.mramScan_get (s : State) (a n k : Nat) (h : k < a ∨ a + n ≤ k) :
    SMap.get (s.mramScan a n).secure.mram k 0 = SMap.get s.secure.mram k 0 := by
  obtain ⟨_, m, e, hm⟩ := s.mramScan_eq a n
  rw [e]
  rcases hm with rfl | ⟨i, x, hi, rfl⟩
  · rfl
  · simp only []
    rw [Memory.get_write, if_neg (by simp only [List.length_singleton]; omega)]

@[simp] theorem State.mramScan_ports (s : State) (a n : Nat) : (s.mramScan a n).ports = s.ports := by
  obtain ⟨_, _, e, _⟩ := s.mramScan_eq a n; rw [e]; exact State.countBy_ports _ _ _ _
@[simp] theorem State.mramScan_lanes (s : State) (a n : Nat) : (s.mramScan a n).lanes = s.lanes := by
  obtain ⟨_, _, e, _⟩ := s.mramScan_eq a n; rw [e]; exact State.countBy_lanes _ _ _ _
@[simp] theorem State.mramScan_outcomes (s : State) (a n : Nat) : (s.mramScan a n).outcomes = s.outcomes := by
  obtain ⟨_, _, e, _⟩ := s.mramScan_eq a n; rw [e]; exact State.countBy_outcomes _ _ _ _
@[simp] theorem State.mramScan_sweeps (s : State) (a n : Nat) : (s.mramScan a n).sweeps = s.sweeps := by
  obtain ⟨_, _, e, _⟩ := s.mramScan_eq a n; rw [e]; exact State.countBy_sweeps _ _ _ _
@[simp] theorem State.mramScan_sweepPkts (s : State) (a n : Nat) : (s.mramScan a n).sweepPkts = s.sweepPkts := by
  obtain ⟨_, _, e, _⟩ := s.mramScan_eq a n; rw [e]; exact State.countBy_sweepPkts _ _ _ _
@[simp] theorem State.mramScan_time (s : State) (a n : Nat) : (s.mramScan a n).time = s.time := by
  obtain ⟨_, _, e, _⟩ := s.mramScan_eq a n; rw [e]; exact State.countBy_time _ _ _ _
@[simp] theorem State.mramScan_aon (s : State) (a n : Nat) : (s.mramScan a n).aon = s.aon := by
  obtain ⟨_, _, e, _⟩ := s.mramScan_eq a n; rw [e]; exact State.countBy_aon _ _ _ _
@[simp] theorem State.mramScan_views (s : State) (a n : Nat) : (s.mramScan a n).views = s.views := by
  obtain ⟨_, _, e, _⟩ := s.mramScan_eq a n; rw [e]; exact State.countBy_views _ _ _ _
@[simp] theorem State.mramScan_syncIn (s : State) (a n : Nat) : (s.mramScan a n).syncIn = s.syncIn := by
  obtain ⟨_, _, e, _⟩ := s.mramScan_eq a n; rw [e]; exact State.countBy_syncIn _ _ _ _
@[simp] theorem State.mramScan_syncOut (s : State) (a n : Nat) : (s.mramScan a n).syncOut = s.syncOut := by
  obtain ⟨_, _, e, _⟩ := s.mramScan_eq a n; rw [e]; exact State.countBy_syncOut _ _ _ _
@[simp] theorem State.mramScan_ctxs (s : State) (a n : Nat) : (s.mramScan a n).ctxs = s.ctxs := by
  obtain ⟨_, _, e, _⟩ := s.mramScan_eq a n; rw [e]; exact State.countBy_ctxs _ _ _ _
@[simp] theorem State.mramScan_bufs (s : State) (a n : Nat) : (s.mramScan a n).bufs = s.bufs := by
  obtain ⟨_, _, e, _⟩ := s.mramScan_eq a n; rw [e]; exact State.countBy_bufs _ _ _ _
@[simp] theorem State.mramScan_shown (s : State) (a n : Nat) : (s.mramScan a n).shown = s.shown := by
  obtain ⟨_, _, e, _⟩ := s.mramScan_eq a n; rw [e]; exact State.countBy_shown _ _ _ _
@[simp] theorem State.mramScan_quarry (s : State) (a n : Nat) : (s.mramScan a n).quarry = s.quarry := by
  obtain ⟨_, _, e, _⟩ := s.mramScan_eq a n; rw [e]; exact State.countBy_quarry _ _ _ _
@[simp] theorem State.mramScan_fills (s : State) (a n : Nat) : (s.mramScan a n).fills = s.fills := by
  obtain ⟨_, _, e, _⟩ := s.mramScan_eq a n; rw [e]; exact State.countBy_fills _ _ _ _
@[simp] theorem State.mramScan_cap (s : State) (a n : Nat) : (s.mramScan a n).cap = s.cap := by
  obtain ⟨_, _, e, _⟩ := s.mramScan_eq a n; rw [e]; exact State.countBy_cap _ _ _ _
@[simp] theorem State.mramScan_defects (s : State) (a n : Nat) : (s.mramScan a n).defects = s.defects := by
  obtain ⟨_, _, e, _⟩ := s.mramScan_eq a n; rw [e]; exact State.countBy_defects _ _ _ _
@[simp] theorem State.mramScan_modl (s : State) (a n : Nat) : (s.mramScan a n).modl = s.modl := by
  obtain ⟨_, _, e, _⟩ := s.mramScan_eq a n; rw [e]; exact State.countBy_modl _ _ _ _
@[simp] theorem State.mramScan_quads (s : State) (a n : Nat) : (s.mramScan a n).quads = s.quads := by
  obtain ⟨_, _, e, _⟩ := s.mramScan_eq a n; rw [e]; exact State.countBy_quads _ _ _ _
@[simp] theorem State.mramScan_groups (s : State) (a n : Nat) : (s.mramScan a n).groups = s.groups := by
  obtain ⟨_, _, e, _⟩ := s.mramScan_eq a n; rw [e]; exact State.countBy_groups _ _ _ _
@[simp] theorem State.mramScan_tes (s : State) (a n : Nat) : (s.mramScan a n).tes = s.tes := by
  obtain ⟨_, _, e, _⟩ := s.mramScan_eq a n; rw [e]; exact State.countBy_tes _ _ _ _
@[simp] theorem State.mramScan_louts (s : State) (a n : Nat) : (s.mramScan a n).louts = s.louts := by
  obtain ⟨_, _, e, _⟩ := s.mramScan_eq a n; rw [e]; exact State.countBy_louts _ _ _ _
@[simp] theorem State.mramScan_rows (s : State) (a n : Nat) : (s.mramScan a n).rows = s.rows := by
  obtain ⟨_, _, e, _⟩ := s.mramScan_eq a n; rw [e]; exact State.countBy_rows _ _ _ _
@[simp] theorem State.mramScan_mgmt (s : State) (a n : Nat) : (s.mramScan a n).mgmt = s.mgmt := by
  obtain ⟨_, _, e, _⟩ := s.mramScan_eq a n; rw [e]; exact State.countBy_mgmt _ _ _ _
@[simp] theorem State.mramScan_xfers (s : State) (a n : Nat) : (s.mramScan a n).xfers = s.xfers := by
  obtain ⟨_, _, e, _⟩ := s.mramScan_eq a n; rw [e]; exact State.countBy_xfers _ _ _ _
@[simp] theorem State.mramScan_jobs (s : State) (a n : Nat) : (s.mramScan a n).jobs = s.jobs := by
  obtain ⟨_, _, e, _⟩ := s.mramScan_eq a n; rw [e]; exact State.countBy_jobs _ _ _ _
@[simp] theorem State.mramScan_power (s : State) (a n : Nat) : (s.mramScan a n).power = s.power := by
  obtain ⟨_, _, e, _⟩ := s.mramScan_eq a n; rw [e]; exact State.countBy_power _ _ _ _
@[simp] theorem State.mramScan_thermal (s : State) (a n : Nat) : (s.mramScan a n).thermal = s.thermal := by
  obtain ⟨_, _, e, _⟩ := s.mramScan_eq a n; rw [e]; exact State.countBy_thermal _ _ _ _
@[simp] theorem State.mramScan_boot (s : State) (a n : Nat) : (s.mramScan a n).boot = s.boot := by
  obtain ⟨_, _, e, _⟩ := s.mramScan_eq a n; rw [e]; exact State.countBy_boot _ _ _ _
@[simp] theorem State.mramScan_jtag (s : State) (a n : Nat) : (s.mramScan a n).jtag = s.jtag := by
  obtain ⟨_, _, e, _⟩ := s.mramScan_eq a n; rw [e]; exact State.countBy_jtag _ _ _ _
@[simp] theorem State.mramScan_tables (s : State) (a n : Nat) : (s.mramScan a n).tables = s.tables := by
  obtain ⟨_, _, e, _⟩ := s.mramScan_eq a n; rw [e]; exact State.countBy_tables _ _ _ _
@[simp] theorem State.mramScan_tablePad (s : State) (a n : Nat) : (s.mramScan a n).tablePad = s.tablePad := by
  obtain ⟨_, _, e, _⟩ := s.mramScan_eq a n; rw [e]; exact State.countBy_tablePad _ _ _ _
@[simp] theorem State.mramScan_pending (s : State) (a n : Nat) : (s.mramScan a n).pending = s.pending := by
  obtain ⟨_, _, e, _⟩ := s.mramScan_eq a n; rw [e]; exact State.countBy_pending _ _ _ _
@[simp] theorem State.mramScan_ops (s : State) (a n : Nat) : (s.mramScan a n).secure.ops = s.secure.ops := by
  obtain ⟨_, _, e, _⟩ := s.mramScan_eq a n; rw [e]
@[simp] theorem State.mramScan_stores (s : State) (a n : Nat) : (s.mramScan a n).secure.stores = s.secure.stores := by
  obtain ⟨_, _, e, _⟩ := s.mramScan_eq a n; rw [e]
@[simp] theorem State.mramScan_slotSt (s : State) (a n : Nat) : (s.mramScan a n).secure.slotSt = s.secure.slotSt := by
  obtain ⟨_, _, e, _⟩ := s.mramScan_eq a n; rw [e]
@[simp] theorem State.mramScan_delivered (s : State) (a n : Nat) : (s.mramScan a n).secure.delivered = s.secure.delivered := by
  obtain ⟨_, _, e, _⟩ := s.mramScan_eq a n; rw [e]
@[simp] theorem State.mramScan_held (s : State) (a n : Nat) : (s.mramScan a n).secure.held = s.secure.held := by
  obtain ⟨_, _, e, _⟩ := s.mramScan_eq a n; rw [e]
@[simp] theorem State.mramScan_heldBy (s : State) (a n : Nat) : (s.mramScan a n).secure.heldBy = s.secure.heldBy := by
  obtain ⟨_, _, e, _⟩ := s.mramScan_eq a n; rw [e]
@[simp] theorem State.mramScan_running (s : State) (a n : Nat) : (s.mramScan a n).secure.running = s.secure.running := by
  obtain ⟨_, _, e, _⟩ := s.mramScan_eq a n; rw [e]
@[simp] theorem State.mramScan_trial (s : State) (a n : Nat) : (s.mramScan a n).secure.trial = s.secure.trial := by
  obtain ⟨_, _, e, _⟩ := s.mramScan_eq a n; rw [e]
@[simp] theorem State.mramScan_fuses (s : State) (a n : Nat) : (s.mramScan a n).secure.fuses = s.secure.fuses := by
  obtain ⟨_, _, e, _⟩ := s.mramScan_eq a n; rw [e]
@[simp] theorem State.mramScan_archive (s : State) (a n : Nat) : (s.mramScan a n).secure.archive = s.secure.archive := by
  obtain ⟨_, _, e, _⟩ := s.mramScan_eq a n; rw [e]
@[simp] theorem State.mramScan_bbQueue (s : State) (a n : Nat) : (s.mramScan a n).secure.bbQueue = s.secure.bbQueue := by
  obtain ⟨_, _, e, _⟩ := s.mramScan_eq a n; rw [e]
@[simp] theorem State.mramScan_bbScanned (s : State) (a n : Nat) : (s.mramScan a n).secure.bbScanned = s.secure.bbScanned := by
  obtain ⟨_, _, e, _⟩ := s.mramScan_eq a n; rw [e]
@[simp] theorem State.mramScan_session (s : State) (a n k : Nat) : (s.mramScan a n).session k = s.session k := by
  unfold State.session; simp
@[simp] theorem State.mramScan_domain (s : State) (a n k : Nat) : (s.mramScan a n).domain k = s.domain k := by
  unfold State.domain; simp
@[simp] theorem State.mramScan_rail (s : State) (a n k : Nat) : (s.mramScan a n).rail k = s.rail k := by
  unfold State.rail; simp
@[simp] theorem State.mramScan_on (s : State) (a n k : Nat) : (s.mramScan a n).on k = s.on k := by
  unfold State.on; simp
@[simp] theorem State.mramScan_alive (s : State) (a n k : Nat) : (s.mramScan a n).alive k = s.alive k := by
  unfold State.alive; simp
@[simp] theorem State.mramScan_port (s : State) (a n k : Nat) : (s.mramScan a n).port k = s.port k := by
  unfold State.port; simp
@[simp] theorem State.mramScan_view (s : State) (a n k : Nat) : (s.mramScan a n).view k = s.view k := by
  unfold State.view; simp
@[simp] theorem State.mramScan_ctx (s : State) (a n k : Nat) : (s.mramScan a n).ctx k = s.ctx k := by
  unfold State.ctx; simp
@[simp] theorem State.mramScan_buf (s : State) (a n k : Nat) : (s.mramScan a n).buf k = s.buf k := by
  unfold State.buf; simp
@[simp] theorem State.mramScan_quad (s : State) (a n k : Nat) : (s.mramScan a n).quad k = s.quad k := by
  unfold State.quad; simp
@[simp] theorem State.mramScan_lout (s : State) (a n k : Nat) : (s.mramScan a n).lout k = s.lout k := by
  unfold State.lout; simp
@[simp] theorem State.mramScan_xfer (s : State) (a n k : Nat) : (s.mramScan a n).xfer k = s.xfer k := by
  unfold State.xfer; simp
@[simp] theorem State.mramScan_job (s : State) (a n k : Nat) : (s.mramScan a n).job k = s.job k := by
  unfold State.job; simp

/-- R314: every entry but NvmCorrected reads as before. -/
theorem State.mramScan_rdv (s : State) (a n : Nat) (x : Ent) (i : Nat) (h : x ≠ .nvmCorrected) :
    (s.mramScan a n).rdv x i = s.rdv x i := by
  obtain ⟨k, _, e, _⟩ := s.mramScan_eq a n
  rw [e]
  have := State.countBy_rdv { s with draws := s.draws + 1 } .nvmCorrected 0 k x i
  rw [if_neg (fun g => h (by rcases g with ⟨g, -⟩; exact g.symm))] at this
  exact this

end Sys2Proof.Machine
end

