-- ==== Sys2Proof/Laws/Write.lean ====
section
/-! SUPPORT. A write that its session lets run and that passes the first checks of R278 does its entry's own effect and is
answered. -/

namespace Sys2Proof.Machine

@[simp] theorem State.claimSpi_claimed (s : State) (e : Env) : (s.claimSpi e).claimed = s.claimed := by
  unfold State.claimSpi; split <;> rfl

@[simp] theorem State.claimSpi_preWrite (s : State) (e f : Env) (x : Ent) (b : Bytes) :
    (s.claimSpi e).preWrite f x b = s.preWrite f x b := by
  unfold State.preWrite State.authorised; simp

@[simp] theorem State.claimSpi_served (s : State) (e : Env) (x : Ent) (i : Nat) :
    (s.claimSpi e).served x i = s.served x i := by
  unfold State.served
  have : (s.claimSpi e).on = s.on := funext fun n => by simp
  rw [this]

/-- The body of a write that passes the first checks is the entry's own effect. -/
theorem State.writeBody_run {s : State} {e : Env} {x : Ent} {i : Nat} {v : Bytes} (h : s.mayWrite e x i v)
    (eff : Val → State → State × Ans) :
    State.writeBody e x i v eff (s.claimSpi e) = eff (x.info.decode v) (s.claimSpi e) := by
  obtain ⟨_, h2, h3⟩ := h
  unfold State.writeBody
  rw [State.claimSpi_preWrite, h2]
  dsimp only
  by_cases ha : x.info.acc = .wo
  · simp [ha, h3 ha]
  · simp [ha]

@[simp] theorem writeReq_env (e : Env) (x : Ent) (i : Nat) (v : Bytes) : (writeReq e x i v).env = e := rfl

/-- R273 to R278: such a write does the entry's own effect and is answered. -/
theorem State.writeCmd_run {s : State} {e : Env} {x : Ent} {i : Nat} {v : Bytes} (h : s.mayWrite e x i v)
    (eff : Val → State → State × Ans) :
    s.writeCmd e x i v eff = (eff (x.info.decode v) (s.claimSpi e)).1.finish (writeReq e x i v)
      (eff (x.info.decode v) (s.claimSpi e)).2 false := by
  unfold State.writeCmd
  rw [State.request_run _ _ _ _ _ h.1.1 h.1.2, writeReq_env, State.writeBody_run h]

/-- The status of the answer to a request that its session let run. -/
theorem State.finish_answered (s : State) (q : Req) (st : Status) (b : Bool) :
    (s.finish q (ans st) b).answered q.env st := by
  intro hn
  exact ⟨Reply.of st, State.finish_rep _ _ _ _ hn, rfl⟩

theorem State.finish_answered_now (s : State) (q : Req) (r : Reply) (b : Bool) :
    (s.finish q (.now r) b).answered q.env r.status := by
  intro hn
  exact ⟨r, State.finish_rep _ _ _ _ hn, rfl⟩

/-- R275: what the session of an answered request holds. -/
theorem State.finish_session (s : State) (q : Req) (r : Reply) (b : Bool) (h : sessionOf q.env ≠ 255)
    (ho : (s.afterSeq q).isOpen = true) :
    (s.finish q (.now r) b).session (sessionOf q.env) = { s.afterSeq q with
      busy := false, kept := if b then (s.afterSeq q).kept else some r } := by
  unfold State.finish
  dsimp only
  rw [if_neg h, if_pos ho]
  simp

/-- R275: another session holds what it held. -/
theorem State.finish_session_ne (s : State) (q : Req) (a : Ans) (b : Bool) (n : Nat) (h : n ≠ sessionOf q.env) :
    (s.finish q a b).session n = s.session n := by
  have key : ∀ x : Session, (s.setSession (sessionOf q.env) x).session n = s.session n := fun x => by
    rw [State.setSession_session, if_neg (Ne.symm h)]
  unfold State.finish
  dsimp only
  split
  · exact key _
  · split
    · exact key _
    · rw [State.sendReply_session, key]

/-- R315: with no job in the write path nothing is written; a hold ends in an open window. -/
theorem State.nvmKick_idle (n : Nat) (s : State) (h : s.secure.ops = []) :
    ∃ a b, State.nvmKick n s = { s with secure := { s.secure with held := a, heldBy := b } } := by
  have hn : ∀ t : State, t.secure.ops = [] → t.nextOp = none := fun t ht => by simp [State.nextOp, ht]
  have hu : s.unhold = { s with secure := { s.secure with held := none, heldBy := false } } := by simp [State.unhold, h]
  cases n with
  | zero => exact ⟨_, _, rfl⟩
  | succ n =>
    unfold State.nvmKick
    split
    · exact ⟨_, _, rfl⟩
    · split
      · dsimp only
        rw [hn s.unhold (by simp [State.unhold, h])]
        exact ⟨_, _, hu⟩
      · rw [h, hn s h]
        exact ⟨_, _, rfl⟩

/-- R291: without a reset that is due nothing follows. -/
theorem State.resetIfDue_none (s : State) (h : s.mgmt.resetDue = false) : s.resetIfDue = s := by
  simp [State.resetIfDue, h]

/-- R69, R285, R291, R315: what follows a request when no job waits, no STORE begins, no address goes and no reset is due. -/
theorem State.settled_idle (s b : State) (h : s.secure.ops = []) (hs : b.secure.stores = [] → s.secure.stores = [])
    (hu : s.mgmt.unassignDue = false) (hr : s.mgmt.resetDue = false) :
    ∃ x y, s.settled b = { s with secure := { s.secure with held := x, heldBy := y } } := by
  obtain ⟨x, y, e⟩ := State.nvmKick_idle 300 s h
  refine ⟨x, y, ?_⟩
  have h1 : s.unassignIfDue = s := by simp [State.unassignIfDue, hu]
  have h2 : ¬ (b.secure.stores = [] ∧ s.secure.stores ≠ []) := fun g => g.2 (hs g.1)
  unfold State.settled
  dsimp only
  rw [h1, if_neg h2, e]
  exact State.resetIfDue_none _ hr

end Sys2Proof.Machine
end

