-- ==== Sys2Proof/Tests/Slice0.lean ====
section
/-! SUPPORT. The model's own tests: a witness for the hypotheses of every statement, ill-formed operands that the check of
well-formedness refuses, and single steps checked against values that the spec states. -/

namespace Sys2Proof.Tests

open Sys2Proof Sys2Proof.Machine

set_option maxRecDepth 100000
set_option Elab.async false

/-- The envelope of a message on the maintenance port. -/
def e0 : Env := ⟨.spi, 0, .unicast, 0, 0⟩
/-- A device that is up: every domain ON, the boot complete. -/
def up : State := {
  power := { doms := (List.range 24).map (fun d => (d, { st := .on })) }
  boot := { phase := .complete, causes := [] }
  aon := { mono := ms 20000 }
  time := { disp := 0x2540BE40000000000 } }
/-- Port 1 is ACTIVE. -/
def act : State := up.wr .portState 1 5
/-- A packet of class 3. -/
def pk : Packet := { cls := 3, hop := 5, dest := 7, source := 0xE000 }
/-- Ports 1 and 2 are ACTIVE, and address 7 lies behind port 2. -/
def net : State := ((act.wr .portState 2 5).wr .deviceAddress 0 3).wrn .routeTable 0 7 2
/-- The payload of a SWEEP. -/
def sw : Bytes := [1, 0, 2, 0] ++ leBytes 8 20000000000 ++ List.replicate 1548 0
/-- An interior device of a tree. -/
def tree : State := ((act.wr .deviceAddress 0 3).wr .upstreamPort 0 1).wr .childPorts 0 4
/-- A configuration that the checks of a start accept: one lane, a tile of 4 by 4. -/
def cfg : State := ((((up.wr .tileWidth 0 4).wr .tileHeight 0 4).wr .laneCount 0 1).wr .outputsPerLane 0 12).wr .scanRatio 0 4
/-- The modulator runs. -/
def run : State := cfg.wr .modulatorRun 0 1
/-- Display time is locked. -/
def lock : State := up.wr .timeState 0 2
/-- The bytes of a launch entry. -/
def instantBytes (t : Nat) : Bytes := leBytes 8 t ++ [1, 0, 0, 0, 0, 0, 0, 0]
/-- Context 5, ready to bind: 8-bit samples, 16 by 16, two buffers of one page. -/
def ctx5 : State :=
  ((((((((up.wr .window 5 3).wr .format 5 0x0800).wr .width 5 16).wr .height 5 16).wr .unitBytes 5 64).wr .owner 5 0xE001).wrv .bufferSet 5
    [1, 2, 0xFFFF, 0xFFFF, 0xFFFF, 0xFFFF, 0xFFFF, 0xFFFF]).wr .pageCount 1 1).wr .pageCount 2 1 |>.refit 5
/-- Context 5 in a frame. -/
def frm : State := ((ctx5.wr .ctxState 5 3).setCtx 5 { asmBuf := 1 }).setBuf 1 { pages := [0] }
/-- The payload of a video unit of frame 0, line 0. -/
def unitBytes0 (m l : Nat) : Bytes := leBytes 4 0 ++ leBytes 2 0 ++ leBytes 2 m ++ leBytes 8 0 ++ List.replicate l 0
/-- Session 3 is open. -/
def open5 : State := (up.setSession 3 { isOpen := true, partner := 0xE001 })
/-- A message of session 3 from port 1. -/
def e3 (n : Nat) : Env := ⟨.izsor 1, 0xE001, .unicast, 3, BitVec.ofNat 16 n⟩
/-- A READ or WRITE message. -/
def msg (i k : Nat) (b : Bytes) : EntryMsg := ⟨BitVec.ofNat 16 i, BitVec.ofNat 8 k, false, false, false, 0, 0, b⟩
/-- A device that is up and in the write window. -/
def warm : State := { up with thermal := { seen := true, j := 400 } }
/-- The modulator runs in grey mode with TE. -/
def grey : State := (run.wr .driveMode 0 1).wr .teEnable 0 1
/-- A message of 20 bytes. -/
def good : Bytes := [1] ++ List.replicate 19 0
/-- The bytes of a SEND of that message. -/
def sendB : Bytes := leBytes 2 20 ++ good ++ leBytes 2 (crc16 (leBytes 2 20 ++ good))
/-- A value of TransferOpen. -/
def openV (t dir coded kind h off len : Nat) : Bytes :=
  leBytes 1 t ++ leBytes 1 dir ++ leBytes 1 coded ++ leBytes 1 kind ++ leBytes 2 h ++ leBytes 2 0 ++ leBytes 4 off ++ leBytes 4 len
    ++ List.replicate 16 0
/-- Handle 3 has a page. -/
def buf3 : State := (up.wr .pageCount 3 1).setBuf 3 { pages := [0] }
/-- Transfer 2 comes in. -/
def xin : State := (buf3.wr .transferState 2 1).setXfer 2 { kind := 4, handle := 3, length := 100, peer := 0xE001 }
/-- Transfer 2 goes out. -/
def xout : State := ((((act.wr .deviceAddress 0 3).wrn .routeTable 0 7 1).wr .pageCount 3 1).setBuf 3 { pages := [0] } |>.wr .transferState 2 1).setXfer 2
  { kind := 4, out := true, handle := 3, length := 100, peer := 7 }
/-- A value of JobSpec. -/
def specV (op kind h off len oo : Nat) (chain : List Nat) : Bytes :=
  leBytes 1 op ++ leBytes 1 kind ++ leBytes 2 h ++ leBytes 4 off ++ leBytes 4 len ++ leBytes 4 oo ++ chain.flatMap (leBytes 2) ++ List.replicate 16 0
/-- The specification of a compress job. -/
def jobV : Val := (specV 1 4 3 0 100 0 [4, 0xFFFF, 0xFFFF, 0xFFFF, 0xFFFF, 0xFFFF, 0xFFFF, 0xFFFF]).map BitVec.toNat
/-- Job 1 is specified. -/
def job0 : State := ((buf3.wr .pageCount 4 1).setBuf 4 { pages := [1] }).wrv .jobSpec 1 jobV
/-- A bank of an area with a payload, valid by its header. -/
def bank (area : Nat) (p : Bytes) : SMap Byte :=
  let h := leBytes 2 area ++ leBytes 2 1 ++ leBytes 4 1 ++ leBytes 4 p.length ++ List.replicate 16 0
  SMap.write [] (bankBase area false) (h ++ leBytes 4 (crc32 (h ++ p)) ++ List.replicate 32 0 ++ p)

/-- A running modulator whose tile does not fit the stores. -/
def big : State := (run.wr .tileWidth 0 4096).wr .tileHeight 0 2048

theorem burst_outside : exec (.burstCompute 0) big = .fault .quarryOutside :=
  if_pos (show (big.running && !big.recordsInside) = true by decide +kernel)

theorem burst_idle : exec (.burstCompute 0) up = .next (if up.running then (burstComputeEff 0 up).stalled else up) :=
  if_neg (show ¬(up.running && !up.recordsInside) = true by decide +kernel)

theorem restricted_read : exec (.read e0 (msg 0xF000 1 [])) up = .refused .restrictedDiagnostics := by
  show execRead e0 (msg 0xF000 1 []) up = _
  unfold execRead
  rw [if_pos (show up.restricted e0 true (msg 0xF000 1 []) = true by decide +kernel)]

/-- At its fused count of 30 degrees, a sensor with a scale reads 30 degrees. -/
theorem coolReading (n : Nat) (h : n < 32) :
    (sensorTemp n (((List.range 32).map (fun n => (Config.sensorC30 n).toNat)).getD n 0)).getD (up.sensor n).t < 2000 := by
  have h0 : (up.sensor n).t = 0 := rfl
  have hc : ((List.range 32).map (fun n => (Config.sensorC30 n).toNat)).getD n 0 = (Config.sensorC30 n).toNat := by
    simp [List.getD, h]
  rw [hc, h0]
  unfold sensorTemp
  simp only [sub_self, zero_mul, add_zero]
  split
  · simp
  · rename_i hd
    simp only [Option.getD_some]
    unfold roundAway
    split
    · rw [if_pos (by omega)]
      rw [Int.ediv_lt_iff_lt_mul (by omega)]; omega
    · rw [if_pos (by omega)]
      rw [Int.ediv_lt_iff_lt_mul (by omega)]; omega

/-- The length of a record of the settings payload. -/
def recLen (e : Ent) (v : Val) : Nat := 8 + v.length * e.info.elt + padTo4 (v.length * e.info.elt)

theorem recordBytes_length (e : Ent) (i : Nat) (v : Val) : (recordBytes e i v).length = recLen e v := by
  have le : ∀ k n, (leBytes k n).length = k := by
    intro k
    induction k with
    | zero => intro n; rfl
    | succ k ih => intro n; simp [leBytes, ih]
  have en : (e.info.encode v).length = v.length * e.info.elt := by
    simp [EntInfo.encode, List.length_flatMap, le]
  simp only [recordBytes, recLen, List.length_append, List.length_replicate, le, en]

theorem payload_fits : warm.settingsPayload.length + 64 ≤ 262144 := by
  have h : warm.settingsPayload.length = ((Ent.all.filter (fun e => e.info.stored)).map (fun e =>
      ((List.range e.info.count).map (fun i => recLen e (warm.committed e i))).sum)).sum := by
    simp only [State.settingsPayload, List.length_flatMap, recordBytes_length]
  rw [h]
  decide +kernel

theorem payload_fits_up : up.settingsPayload.length + 64 ≤ 262144 := by
  have h : up.committed = warm.committed := rfl
  have h' : up.settingsPayload = warm.settingsPayload := by simp only [State.settingsPayload, h]
  rw [h']
  exact payload_fits

/-- A lane output with new trims. -/
def trimmed0 : State :=
  ({ run.wr .calPhase 0 2 with modl := { wasSlate := true }, thermal := { calStep := 4 } } :
    State).setLout 0 { newTrim := some (-40, 63, 31) }

theorem trimless (k : Nat) (hk : k ≠ 0) : (trimmed0.lout k).newTrim = none := by
  have h0 : trimmed0.louts = [(0, { newTrim := some (-40, 63, 31) })] := by decide +kernel
  show (SMap.get trimmed0.louts k {}).newTrim = none
  rw [h0]
  simp [SMap.get, Ne.symm hk]

/-- A device in the boot ROM, its MRAM empty, which holds the images delivered in some slots. -/
def rom (counted : Bool) (slots : List Nat) : State :=
  { warm with boot := { phase := .rom, counted := counted }, secure := { delivered := slots } }

/-- The read of both slots may leave one worn byte in them. -/
theorem rom_scan (s : State) (h : s.secure.mram = []) :
    ∃ a x, a < 6291456 ∧ (s.mramScan 0 6291456).secure.mram = SMap.write [] a [x] := by
  obtain ⟨_, m, e, hm⟩ := s.mramScan_eq 0 6291456
  rw [e, ← h]
  rcases hm with rfl | ⟨i, x, hi, rfl⟩
  · exact ⟨0, 0, by decide, by rw [h]; rfl⟩
  · exact ⟨0 + i, x, by omega, rfl⟩

theorem one_byte {s : State} {a : Nat} {x : Byte} (h : s.secure.mram = SMap.write [] a [x]) (k : Nat) (hk : k ≠ a) :
    SMap.get s.secure.mram k 0 = 0 := by
  rw [h, Memory.get_write, if_neg]
  · rfl
  · simp only [List.length_singleton]; omega

theorem owner_blank {s : State} {a : Nat} {x : Byte} (ha : a < 6291456) (h : s.secure.mram = SMap.write [] a [x]) :
    s.ownerBytes = List.replicate 66 0 ++ [0xFF] ++ List.replicate 61 0 := by
  have g : ∀ k, 6291456 ≤ k → SMap.get s.secure.mram k 0 = 0 := fun k hk => one_byte h k (by omega)
  have hb : ∀ b, s.bankValid 3 b = false := by
    intro b
    have : ∀ base, 6291456 ≤ base → field (s.mramRead base 32) 0 2 = 0 := by
      intro base hb
      have h0 := g base hb
      have h1 := g (base + 1) (by omega)
      simp only [field, State.mramRead, SMap.bytes, List.drop_zero, List.take_succ_cons, List.take_zero, leNat, h0, h1]
      rfl
    unfold State.bankValid
    dsimp only
    rw [this _ (by cases b <;> decide)]
    simp
  unfold State.ownerBytes State.payload State.inForce
  rw [hb, hb]
  rfl

theorem no_image {s : State} {a : Nat} {x : Byte} (h : s.secure.mram = SMap.write [] a [x]) (slot : Nat)
    (hd : s.secure.delivered.contains slot = false) : s.verifySlot slot ≠ none := by
  have hm : field (s.mramRead (slot * 3145728) 192) 0 4 ≠ 0x57465856 := by
    intro e
    have g : ∀ k, k ≠ a → SMap.get s.secure.mram k 0 = 0 := one_byte h
    simp only [field, State.mramRead, SMap.bytes, List.drop_zero, List.take_succ_cons, List.take_zero, leNat] at e
    have b0 := (SMap.get s.secure.mram (slot * 3145728) 0).isLt
    have b1 := (SMap.get s.secure.mram (slot * 3145728 + 1) 0).isLt
    by_cases k0 : slot * 3145728 = a
    · rw [g (slot * 3145728 + 1) (by omega)] at e; simp at e; omega
    · rw [g (slot * 3145728) k0] at e; simp at e; omega
  have hi : s.imageFault slot = some .range := by
    unfold State.imageFault
    dsimp only
    rw [if_pos (by rw [hd]; simp [hm])]
  unfold State.verifySlot
  rw [hi]
  simp

theorem delivered_image {s : State} (slot : Nat) (hd : s.secure.delivered.contains slot = true)
    (ho : s.rd .ownerSignsFirmware 0 = 0) (hf : s.secure.fuses = 0) :
    s.verifySlot slot = none := by
  have hi : s.imageFault slot = none := by
    unfold State.imageFault
    dsimp only
    rw [hd, ho]
    simp
  unfold State.verifySlot
  rw [hi, hf]
  simp

theorem rom_owner (c : Bool) (l : List Nat) : ((rom c l).mramScan 0 6291456).ownerField 66 1 = 255 ∧
    ((rom c l).mramScan 0 6291456).ownerField 65 1 = 0 := by
  obtain ⟨a, x, ha, h⟩ := rom_scan (rom c l) rfl
  unfold State.ownerField
  rw [owner_blank ha h]
  decide

theorem rom_fails (c : Bool) (l : List Nat) (k : Nat) (h : l.contains k = false) :
    ((rom c l).mramScan 0 6291456).verifySlot k ≠ none := by
  obtain ⟨a, x, _, hm⟩ := rom_scan (rom c l) rfl
  exact no_image hm k (by rw [State.mramScan_delivered]; exact h)

theorem rom_verifies (c : Bool) (l : List Nat) (k : Nat) (h : l.contains k = true) :
    ((rom c l).mramScan 0 6291456).verifySlot k = none :=
  delivered_image k (by rw [State.mramScan_delivered]; exact h)
    (by unfold State.rd; rw [State.mramScan_rdv _ _ _ _ _ (by decide)]; show (Ent.dflt .ownerSignsFirmware).headD 0 = 0; decide +kernel)
    (by obtain ⟨_, _, e, _⟩ := (rom c l).mramScan_eq 0 6291456; rw [e]; rfl)

/-- Port 1 is in Granite at code 1, with 9 equal acknowledged sets on its lanes. -/
def gran : State :=
  ([0, 1, 2, 3] : List Nat).foldl (fun s l => s.setLane 1 l {
    ackRun := 9, granRun := 9, align := some (0, 0)
    granite := if l = 1 then [0, 0, 1, 0, 0, 0] else List.replicate 6 0 })
    ({ up with aon := { up.aon with refclk := true } }.setPort 1 { phase := 4, step := 1 })
/-- The servo is about to take a SYNC of port 1. -/
def servo (r : State) : State :=
  let a := (r.wr .portState 1 5).wr .upstreamPort 0 1
  { a with time := { a.time with exchPort := 2 } }
/-- A part that is claimed. -/
def owned : State :=
  { up with
    thermal := { seen := true, j := 400 }
    secure := { mram := bank 3 (List.replicate 64 1 ++ List.replicate 64 0) } }

/-- Job 1 decompresses bytes of handle 3. -/
def job2 (n : Nat) : State :=
  ((job0.wrv .jobSpec 1 ((specV 2 4 3 0 n 0 [4, 0xFFFF, 0xFFFF, 0xFFFF, 0xFFFF, 0xFFFF, 0xFFFF, 0xFFFF]).map
    BitVec.toNat)).wr .jobState 1 1).setJob 1 { co := { op := 2 } }
/-- A segmented write of SavedState of job 1, with what has come. -/
def segS (n : Nat) (b : Bytes) : SegXfer := { index := 0x8121, sub := 8, total := n, data := b }
/-- Session 256 has it open. -/
def segged (n : Nat) (b : Bytes) : State := up.setSession 256 { isOpen := true, seg := some (segS n b) }

/-- Domains in a state, the others ON. -/
def withDom (d : Nat) (x : Domain) : State := up.setDomain d x
/-- The maintenance port's request is being executed. -/
def busyE0 (s : State) : State := s.setSession 256 { isOpen := true, busy := true }
/-- D9 alone is ON. -/
def only9 : State := { up with power := { doms := [(9, { st := .on })] } }
/-- A plan towards these targets is accepted. -/
def planned (l : List Nat) : State :=
  { up.wrv .planTargets 0 ((List.range 24).map (fun d => if l.contains d then 2 else 0)) with
    mgmt := { planDue := true } }

theorem saved_ring : ({} : Coder).ring = List.replicate 65536 0 := by
  simp only [Coder.ring, List.reverse_nil, List.length_nil, Nat.sub_zero, List.append_nil]
  rw [List.drop_of_length_le (by rw [List.length_replicate]), List.take_of_length_le (by rw [List.length_replicate]),
    List.nil_append]

theorem saved_front : ({} : Coder).front.length = 60 := by decide +kernel

theorem bytes_back (k n : Nat) : leNat (leBytes k n) = n % 256 ^ k := by
  induction k generalizing n with
  | zero => simp [leBytes, leNat, Nat.mod_one]
  | succ k ih =>
    simp only [leBytes, leNat, ih]
    simp [Nat.pow_succ, Nat.mul_comm (256 ^ k) 256, Nat.mod_mul, BitVec.toNat_ofNat]

theorem crc_lt (b : Bytes) : crc32 b < 4294967296 := by
  have half : ∀ l : List Nat, ∀ c, c < 2 ^ 32 →
      l.foldl (fun c _ => if c.testBit 0 then (c / 2) ^^^ 0xEDB88320 else c / 2) c < 2 ^ 32 := by
    intro l
    induction l with
    | nil => exact fun _ h => h
    | cons _ l ih =>
      intro c h
      refine ih _ ?_
      dsimp only
      split
      · exact Nat.xor_lt_two_pow (Nat.lt_of_le_of_lt (Nat.div_le_self _ _) h) (by decide)
      · exact Nat.lt_of_le_of_lt (Nat.div_le_self _ _) h
  have run : ∀ l : Bytes, ∀ c, c < 2 ^ 32 → l.foldl crc32Step c < 2 ^ 32 := by
    intro l
    induction l with
    | nil => exact fun _ h => h
    | cons x l ih =>
      exact fun c h => ih _ (half _ _ (Nat.xor_lt_two_pow h (by have := x.isLt; omega)))
  exact Nat.xor_lt_two_pow (run b _ (by decide)) (by decide)

/-- The record of a slot that is idle. -/
def savedIdle : Bytes := ({} : Coder).record

theorem saved_length : savedIdle.length = 65600 := by
  simp only [savedIdle, Coder.record, List.length_append, saved_front, saved_ring, List.length_replicate]
  rfl

theorem saved_parts (c : Bytes) (hc : c.length = 4) :
    (({} : Coder).front ++ c ++ ({} : Coder).ring).take 60 = ({} : Coder).front ∧
    (({} : Coder).front ++ c ++ ({} : Coder).ring).drop 64 = ({} : Coder).ring ∧
    ((({} : Coder).front ++ c ++ ({} : Coder).ring).drop 60).take 4 = c := by
  have h := saved_front
  refine ⟨?_, ?_, ?_⟩
  · rw [List.append_assoc, ← h, List.take_left]
  · rw [show 64 = (({} : Coder).front ++ c).length by rw [List.length_append, h, hc], List.drop_left]
  · rw [List.append_assoc, ← h, List.drop_left, ← hc, List.take_left]

theorem saved_good : slotRecordOk savedIdle = true := by
  have p := saved_parts (leBytes 4 (crc32 (({} : Coder).front ++ ({} : Coder).ring))) rfl
  have e : savedIdle = ({} : Coder).front ++ leBytes 4 (crc32 (({} : Coder).front ++ ({} : Coder).ring)) ++ ({} : Coder).ring := rfl
  have hf : field savedIdle 60 4 = crc32 (savedIdle.take 60 ++ savedIdle.drop 64) := by
    rw [e, p.1, p.2.1]
    unfold field
    rw [p.2.2, bytes_back]
    exact Nat.mod_eq_of_lt (crc_lt _)
  have hg : field savedIdle 1 1 < 6 := by decide +kernel
  simp only [slotRecordOk, saved_length, ← hf, hg, decide_true, Bool.and_self]

theorem saved_fields : slotFieldsOk savedIdle = true := by
  have ha : field savedIdle 30 2 = 0 := by decide +kernel
  have hb : ((savedIdle.drop 40).take 20).all (· = 0) = true := by decide +kernel
  simp only [slotFieldsOk, saved_length, ha, hb, and_self, decide_true, Bool.and_self]

/-- A record of the right form whose Phase is none. -/
def savedBad : Bytes := [0, 7] ++ List.replicate 65598 0

theorem bad_length : savedBad.length = 65600 := by
  simp only [savedBad, List.length_append, List.length_replicate]; rfl

theorem bad_fields : slotFieldsOk savedBad = true := by
  have ha : field savedBad 30 2 = 0 := by decide +kernel
  have hb : ((savedBad.drop 40).take 20).all (· = 0) = true := by decide +kernel
  simp only [slotFieldsOk, bad_length, ha, hb, and_self, decide_true, Bool.and_self]

theorem bad_record : slotRecordOk savedBad = false := by
  have h : decide (field savedBad 1 1 < 6) = false := by decide +kernel
  simp only [slotRecordOk, h, Bool.and_false]

theorem saved_up : (up.wr .jobState 1 2).savedState 1 = some savedIdle := by
  unfold State.savedState
  rw [if_pos (by decide +kernel), show (up.wr .jobState 1 2).job 1 = {} by decide +kernel]
  rfl

/-- The last segment of a write of a job's SavedState. -/
def lastSeg (b : Bytes) : EntryMsg :=
  { msg 0 0 (b.drop 65000) with segLast := true, total := 65600, offset := 65000 }

theorem last_segment (b : Bytes) (h : b.length = 65600) :
    (segged 65600 (b.take 65000)).runs e0 false false ∧
    ((segged 65600 (b.take 65000)).session (sessionOf e0)).seg = some (segS 65600 (b.take 65000)) ∧
    (lastSeg b).offset = (segS 65600 (b.take 65000)).data.length ∧
    b = (segS 65600 (b.take 65000)).data ++ (lastSeg b).body ∧ (segged 65600 (b.take 65000)).still ∧
    (segged 65600 (b.take 65000)).rd .jobState 1 = 0 := by
  refine ⟨?_, rfl, ?_, (List.take_append_drop 65000 b).symm, ?_, ?_⟩
  · unfold State.runs; exact ⟨rfl, rfl⟩
  · show 65000 = (b.take 65000).length
    rw [List.length_take, h]
    exact (Nat.min_eq_left (by decide)).symm
  · unfold State.still; exact ⟨rfl, rfl, rfl⟩
  · exact show State.rd up .jobState 1 = 0 by decide +kernel

/-- Ports 1 and 3 are ACTIVE child ports of an addressed device. -/
def sync2 : State := ((act.wr .portState 3 5).wr .deviceAddress 0 3).wr .childPorts 0 10
/-- A commit of a timing entry and of another. -/
def twoVals : Pend := { e := 5, values := [(key .scanRatio 0, [8]), (key .dimmer 0, [7])] }
/-- A defect of lamp 7 is about to be confirmed. -/
def dying (s : State) : State := { s with defects := { seen := [(0, 7, 1)], st := [(7, 7)], cause := [(7, 2)] } }
/-- A slow round meets a throttle step at a junction temperature. -/
def cooling (n : Nat) (j : Int) (c : Option Nat) : State :=
  { (up.setDomain 11 {}).wr .throttleStep 0 n with thermal := { seen := true, j := j }, modl := { coolSince := c } }
/-- Input 0 is of a kind, with a thermistor's table that rises. -/
def analog (k : Nat) : State :=
  let s := ((up.wr .channelKind 0 k).wrv .thermistorTable 0 ((List.range 33).map (fun i => 16 * i))).wrv .bandEdges 0
    [80, 160, 240, 320, 400, 480, 560]
  { s with
    regs := SMap.put (SMap.put s.regs (key .adcGain 0) [65536]) (key .adcOffset 0) [0]
    thermal := { seen := true, j := 400 } }
/-- Every sample of a round reads one code. -/
def hotIn (v : Nat) : List Nat := List.replicate 368 v
/-- Slot 9 of the black box, about to be zeroed, holds the Kind 2 record of frozen head 7. -/
def headed : State :=
  { warm.wrv .frozenHeads 0 ([7, 5] ++ List.replicate 6 0xFFFFFFFF) with
    secure := {
      mram := SMap.write [] (boxBase + 576) (up.recordLine 7 2 (up.record .resetCause []))
      ops := [{ kind := .clear, fresh := false, started := true, names := [9] }] } }
theorem twoVals_keys : ∀ q ∈ twoVals.values, ∃ x i, q.1 = key x i ∧ (x.info.cls = .refresh ∨ x.info.cls = .frame) ∧
    x ≠ .concealList ∧ x ≠ .throttleStep := by
  intro q hq
  simp only [twoVals, List.mem_cons, List.not_mem_nil, or_false] at hq
  rcases hq with rfl | rfl
  · exact ⟨.scanRatio, 0, rfl, by decide +kernel⟩
  · exact ⟨.dimmer, 0, rfl, by decide +kernel⟩

/-- States and operands that meet the hypotheses of the clauses of PortsComeUp. -/
theorem test_met_PortsComeUp :
  (∃ (n : Fin 4) (s : State), s.alive n = true ∧ (s.port n).phase = 1 ∧ (s.port n).idle = .none) ∧
  (∃ (n : Fin 4) (s : State), s.alive n = true ∧ (s.port n).idle = .detect ∧ (s.port n).fast = false ∧ s.rcAlone =
    false ∧ (s.port n).idleSince + ms 2 ≤ s.aon.mono) ∧
  (∃ (n : Fin 4) (s : State), s.alive n = true ∧ (s.port n).step ≠ 0 ∧ (s.port n).phase = 0 ∧ (s.port n).quiet =
    false ∧ s.active n = false ∧ s.rcAlone = false) ∧
  (∃ (n : Fin 4) (s : State), s.alive n = true ∧ 2 ≤ (s.port n).phase ∧ (s.port n).step ≠ 0 ∧ (s.port n).limit ≤
    s.aon.mono) ∧
  (∃ (n : Fin 4) (s : State), s.alive n = true ∧ (s.port n).idle ≠ .detect ∧ (s.port n).step = 1 ∧ (s.port n).fast =
    false ∧ s.active n = false ∧ s.rcAlone = false ∧ (s.port n).stepStart + ms 26 ≤ s.aon.mono) ∧
  (∃ (n : Fin 4) (s : State), s.alive n = true ∧ (s.port n).idle = .fail ∧ (s.port n).idleSince + ms 100 ≤
    s.aon.mono) ∧
  (∃ (e : Env) (n : Fin 4) (v : Bytes) (s : State), s.mayWrite e .portEnable n v ∧ s.alive n = true ∧
    Ent.portEnable.info.decode v = [0] ∧ (s.port n).idle ≠ .down) ∧
  (∃ (e : Env) (n : Fin 4) (v : Bytes) (s : State), s.mayWrite e .portEnable n v ∧ s.alive n = true ∧
    Ent.portEnable.info.decode v = [1]) ∧
  (∃ (e : Env) (n : Fin 4) (v : Bytes) (s : State), s.mayWrite e .retrain n v ∧ s.active n = true ∧
    Ent.retrain.info.decode v = [1]) ∧
  (∃ (n : Fin 4) (s : State), s.alive n = true ∧ (s.port n).idle = .down ∧ (s.port n).idleSince + ms 2 ≤ s.aon.mono) :=
  ⟨⟨1, up.setPort 1 { phase := 1 }, (by decide +kernel)⟩,
  ⟨3, { up.setPort 3 { idle := .detect } with aon := { up.aon with refclk := true } }, (by decide +kernel)⟩,
  ⟨0, { up.setPort 0 { step := 3 } with aon := { up.aon with refclk := true } }, (by decide +kernel)⟩,
  ⟨2, up.setPort 2 { step := 2, phase := 2 }, (by decide +kernel)⟩,
  ⟨1, { up.setPort 1 { step := 1 } with aon := { up.aon with refclk := true } }, (by decide +kernel)⟩,
  ⟨1, up.setPort 1 { idle := .fail }, (by decide +kernel)⟩,
  ⟨e0, 1, [0], up, (by unfold State.mayWrite State.runs; decide +kernel), (by decide +kernel)⟩,
  ⟨e0, 1, [1], up, (by unfold State.mayWrite State.runs; decide +kernel), (by decide +kernel)⟩,
  ⟨e0, 1, [1], act, (by unfold State.mayWrite State.runs; decide +kernel), (by decide +kernel)⟩,
  ⟨1, up.setPort 1 { idle := .down }, (by decide +kernel)⟩⟩

/-- States and operands that meet the hypotheses of the clauses of LanesReceiveBlocks. -/
theorem test_met_LanesReceiveBlocks :
  (∃ (n : Fin 4) (l : Fin 4) (s : State), s.alive n = true ∧ (s.port n).phase = 2 ∧ s.rd .portState n ≠ 5 ∧ s.rd
    .portState n ≠ 6 ∧ (s.lane n l).locked = false) ∧
  (∃ (n : Fin 4) (s : State), s.alive n = true ∧ s.rd .portState n = 5 ∧ (s.port n).phase ≠ 4) ∧
  (∃ (n : Fin 4) (w : BitVec 64) (s : State), s.alive n = true ∧ (s.port n).phase = 3 ∧ field (blockBytes w) 1 1 = 2) ∧
  (∃ (n : Fin 4) (l : Fin 4) (w : BitVec 64) (s : State), s.alive n = true ∧ (s.port n).phase = 4 ∧ s.rcAlone = false
    ∧ field (blockBytes w) 1 1 = 3 ∧ (∀ k : Fin 4, 8 ≤ ((s.setLane n l ((s.lane n l).graniteSet ((blockBytes w).drop
    2)) : State).lane n k).ackRun) ∧ s.aligned n = true ∧ recordOk ((s.setLane n l ((s.lane n l).graniteSet
    ((blockBytes w).drop 2)) : State).graniteRecord n) (s.port n).step = true) ∧
  (∃ (n : Fin 4) (l : Fin 4) (s : State), s.alive n = true ∧ s.active n = true ∧ (s.lane n l).berAt + blockSpan
    (s.rateOf n) 1048576 ≤ s.aon.mono) ∧
  (∃ (n : Fin 4) (l : Fin 4) (s : State), s.alive n = true ∧ s.active n = true ∧ (s.lane n l).winAt + blockSpan
    (s.rateOf n) 65536 ≤ s.aon.mono) ∧
  (∃ (n : Fin 4) (l : Fin 4) (eye : BitVec 8) (s : State), s.alive n = true ∧ s.active n = true ∧ eye.toNat < (s.lane
    n l).floor) :=
  ⟨⟨0, 3, up.setPort 0 { phase := 2 }, (by decide +kernel)⟩,
  ⟨1, act, (by decide +kernel)⟩,
  ⟨1, 0x0200, up.setPort 1 { phase := 3 }, (by decide +kernel)⟩,
  ⟨1, 0, 0x800300, gran, (by decide +kernel)⟩,
  ⟨1, 2, act, (by decide +kernel)⟩,
  ⟨1, 2, act, (by decide +kernel)⟩,
  ⟨1, 2, 3, act, (by decide +kernel)⟩⟩

/-- States and operands that meet the hypotheses of the clauses of PortsSleepAndWake. -/
theorem test_met_PortsSleepAndWake :
  (∃ (e : Env) (n : Fin 4) (v : Bytes) (s : State), s.mayWrite e .sleepRequest n v ∧ s.active n = true ∧
    Ent.sleepRequest.info.decode v = [1] ∧ (s.port n).asked = none) ∧
  (∃ (n : Fin 4) (s : State), s.alive n = true ∧ s.active n = true ∧ (s.port n).asked = none ∧ (s.port n).queue = []) ∧
  (∃ (n : Fin 4) (s : State), s.alive n = true ∧ s.active n = true ∧ (s.port n).asked = none ∧ (s.port n).queue ≠ []) ∧
  (∃ (n : Fin 4) (s : State), s.alive n = true ∧ s.active n = true ∧ (s.port n).asked ≠ none) ∧
  (∃ (n : Fin 4) (s : State), s.alive n = true ∧ s.active n = true ∧ (s.port n).asked ≠ none) ∧
  (∃ (n : Fin 4) (e : Env) (s : State), s.alive n = true ∧ s.active n = true ∧ (s.port n).asked = some (.host e)) ∧
  (∃ (n : Fin 4) (d : Nat) (s : State), s.alive n = true ∧ s.active n = true ∧ (s.port n).asked = some (.domain d)) ∧
  (∃ (n : Fin 4) (e : Env) (d : Nat) (s : State), s.alive n = true ∧ s.active n = true ∧ (s.port n).asked = some
    (.both e d)) ∧
  (∃ (n : Fin 4) (s : State), s.alive n = true ∧ s.active n = true ∧ (s.port n).asked ≠ none ∧ (s.port n).askedAt +
    us 100 ≤ s.aon.mono) ∧
  (∃ (n : Fin 4) (s : State), s.rd .portState n = 6) ∧
  (∃ (n : Fin 4) (s : State), s.rd .portState n = 7 ∧ n.val ∉ s.aon.beacons) ∧
  (∃ (n : Fin 4) (s : State), s.alive n = true ∧ s.rd .portState n = 7) ∧
  (∃ (n : Fin 4) (e : Env) (s : State), (s.port n).asked = some (.host e) ∧ (s.session (sessionOf e)).busy = true ∧
    (s.session (sessionOf e)).lastSeq = e.seq.toNat ∧ (sessionOf e = 256 ∨ (s.session (sessionOf e)).partner =
    e.source.toNat) ∧ s.alive 1 = true ∧ s.active 1 = true ∧ (s.port 1).askedAt + us 100 ≤ s.aon.mono) ∧
  (∃ (n : Fin 4) (e : Env) (s : State), (s.port n).asked = some (.host e) ∧ (s.session (sessionOf e)).busy = true ∧
    (s.session (sessionOf e)).lastSeq = e.seq.toNat ∧ (sessionOf e = 256 ∨ (s.session (sessionOf e)).partner =
    e.source.toNat) ∧ s.rd .portState 1 = 6) :=
  ⟨⟨e0, 1, [1], act, (by unfold State.mayWrite State.runs; decide +kernel), (by decide +kernel)⟩,
  ⟨1, act, (by decide +kernel)⟩,
  ⟨1, act.setPort 1 { queue := [{ cls := 3 }] }, (by decide +kernel)⟩,
  ⟨1, act.setPort 1 { asked := some (.domain 1) }, (by decide +kernel)⟩,
  ⟨1, act.setPort 1 { asked := some (.domain 1) }, (by decide +kernel)⟩,
  ⟨1, e0, act.setPort 1 { asked := some (.host e0) }, (by decide +kernel)⟩,
  ⟨1, 1, act.setPort 1 { asked := some (.domain 1) }, (by decide +kernel)⟩,
  ⟨1, e0, 1, act.setPort 1 { asked := some (.both e0 1) }, (by decide +kernel)⟩,
  ⟨1, act.setPort 1 { asked := some (.domain 1) }, (by decide +kernel)⟩,
  ⟨1, up.wr .portState 1 6, (by decide +kernel)⟩,
  ⟨1, up.wr .portState 1 7, (by decide +kernel)⟩,
  ⟨1, up.wr .portState 1 7, (by decide +kernel)⟩,
  ⟨1, e0, (act.setPort 1 { asked := some (.host e0) }).setSession 256 { isOpen := true, busy := true },
    (by decide +kernel)⟩,
  ⟨1, e0, (((act.wr .portState 1 6).setPort 1 { asked := some (.host e0) }).setSession 256
    { isOpen := true, busy := true }), (by decide +kernel)⟩⟩

/-- States and operands that meet the hypotheses of the clauses of PacketsMoveOn. -/
theorem test_met_PacketsMoveOn :
  (∃ (n : Fin 4) (s : State), s.alive n = true ∧ s.alive 4 = true ∧ s.active n = true) ∧
  (∃ (n : Fin 4) (b : Bytes) (x : Ent) (s : State), s.alive n = true ∧ s.alive 4 = true ∧ s.active n = true ∧
    packetFault b = some x) ∧
  (∃ (n : Fin 4) (r : Fin 4) (b : Bytes) (s : State), s.alive n = true ∧ s.alive 4 = true ∧ s.active n = true ∧
    packetFault b = none ∧ (Packet.ofBytes b).mode = .unicast ∧ s.rd .deviceAddress 0 ≠ 0xFFFF ∧ (Packet.ofBytes
    b).dest ≠ s.rd .deviceAddress 0 ∧ (Packet.ofBytes b).dest < 0x1000 ∧ (Packet.ofBytes b).hop ≠ 0 ∧ 0x1000 ≤
    (Packet.ofBytes b).source ∧ s.rdn .routeTable 0 (Packet.ofBytes b).dest % 8 = r ∧ r ≠ n ∧ s.active r = true ∧
    queueRoom (s.port r).queue { Packet.ofBytes b with hop := (Packet.ofBytes b).hop - 1 } = true) ∧
  (∃ (n : Fin 4) (b : Bytes) (s : State), s.alive n = true ∧ s.alive 4 = true ∧ s.active n = true ∧ packetFault b =
    none ∧ (Packet.ofBytes b).mode = .unicast ∧ s.rd .deviceAddress 0 ≠ 0xFFFF ∧ (Packet.ofBytes b).dest ≠ s.rd
    .deviceAddress 0 ∧ (Packet.ofBytes b).source < (s.rdv .routeTable 0).length ∧ (Packet.ofBytes b).source < 0x1000
    ∧ s.upstream ≠ some n.val ∧ 4 ≤ s.rdn .routeTable 0 (Packet.ofBytes b).source) ∧
  (∃ (n : Fin 4) (p : Packet) (s : State), s.alive n = true ∧ s.active n = true ∧ nextPacket (s.port n).queue = some
    p ∧ s.txFree n ≤ s.aon.mono ∧ s.mgmt.resetDue = false) :=
  ⟨⟨1, act, (by decide +kernel)⟩,
  ⟨1, [], .packetCheckErrors, act, (by decide +kernel)⟩,
  ⟨1, 2, pk.bytes, net, (by decide +kernel)⟩,
  ⟨1, { pk with source := 9 }.bytes, net, (by decide +kernel)⟩,
  ⟨1, pk, act.setPort 1 { queue := [pk] }, (by decide +kernel)⟩⟩

/-- States and operands that meet the hypotheses of the clauses of PathsAndAddresses. -/
theorem test_met_PathsAndAddresses :
  (∃ (s : State), s.alive 4 = true ∧ (∀ m : Fin 4, s.active m = true → (s.port m).helloAt + ms 1 ≤ s.aon.mono)) ∧
  (∃ (n : Fin 4) (b : Bytes) (s : State), s.alive 4 = true ∧ s.active n = true ∧ b.length = 8) ∧
  (∃ (n : Fin 4) (s : State), s.alive 4 = true ∧ s.active n = true ∧ (s.port n).heard = true ∧ ((s.port n).hello.map
    Hello.since).getD 0 + ms 3 ≤ s.aon.mono) ∧
  (∃ (n : Fin 4) (b : Bytes) (s : State), s.alive 4 = true ∧ s.active n = true ∧ b.length = 4 ∧ field b 0 2 < 0x1000
    ∧ s.rd .deviceAddress 0 = 0xFFFF) ∧
  (∃ (n : Fin 4) (b : Bytes) (s : State), s.alive 4 = true ∧ s.active n = true ∧ b.length = 4 ∧ s.rd .deviceAddress 0
    ≠ 0xFFFF ∧ field b 0 2 ≠ s.rd .deviceAddress 0) ∧
  (∃ (e : Env) (s : State), s.mayWrite e .unassign 0 [1]) ∧
  (∃ (src : BitVec 16) (b : Bytes) (s : State), s.alive 4 = true ∧ s.rd .deviceAddress 0 ≠ 0xFFFF ∧ 0xE000 ≤
    src.toNat ∧ src.toNat ≤ 0xEFFF ∧ b.length = 4 ∧ s.active (field b 0 1 % 4) = false) ∧
  (∃ (src : BitVec 16) (b : Bytes) (s : State), s.alive 4 = true ∧ s.rd .deviceAddress 0 ≠ 0xFFFF ∧ 0xE000 ≤
    src.toNat ∧ src.toNat ≤ 0xEFFF ∧ b.length = 4 ∧ s.active (field b 0 1 % 4) = true ∧ queueRoom (s.port (field b 0
    1 % 4)).queue
    ({ cls := 1, mode := .linkLocal, hop := Config.originHop.toNat, dest := 0, source := s.rd .deviceAddress 0, channel := 0xFF02, seq := s.nextSeq (field b 0 1 % 4) 0xFF02, payload := leBytes 2 (field b 2 2) ++ leBytes 2 src.toNat }
    : Packet) = true) :=
  ⟨⟨up, (by decide +kernel)⟩,
  ⟨1, List.replicate 8 0, act, (by decide +kernel)⟩,
  ⟨1, act.setPort 1 { heard := true, hello := some {} }, (by decide +kernel)⟩,
  ⟨1, [5, 0, 1, 0xE0], act, (by decide +kernel)⟩,
  ⟨1, [5, 0, 1, 0xE0], act.wr .deviceAddress 0 3, (by decide +kernel)⟩,
  ⟨e0, up, (by unfold State.mayWrite State.runs; decide +kernel)⟩,
  ⟨0xE001, [2, 0, 1, 0], up.wr .deviceAddress 0 3, (by decide +kernel)⟩,
  ⟨0xE001, [1, 0, 1, 0], act.wr .deviceAddress 0 3, (by decide +kernel)⟩⟩

/-- States and operands that meet the hypotheses of the clauses of SweepsGatherMaps. -/
theorem test_met_SweepsGatherMaps :
  (∃ (n : Fin 4) (b : Bytes) (s : State), s.alive 4 = true ∧ s.active n = true ∧ s.upstream = some n.val ∧ b.length =
    1560 ∧ (∀ w ∈ s.sweeps, ¬ (w.tagSource = field b 0 2 ∧ w.tagSeq = field b 2 2)) ∧ s.sweeps.length < 4 ∧
    ports4.filter s.isChild ≠ [] ∧ s.coreFree = true ∧ s.releasedEnvs = [] ∧ s.now < field b 4 8 - s.rd .rootDistance
    0 * 8000) ∧
  (∃ (n : Fin 4) (b : Bytes) (s : State), s.alive 4 = true ∧ s.active n = true ∧ s.upstream = some n.val ∧ b.length =
    1560 ∧ (∀ w ∈ s.sweeps, ¬ (w.tagSource = field b 0 2 ∧ w.tagSeq = field b 2 2)) ∧ 4 ≤ s.sweeps.length ∧
    s.coreFree = true ∧ s.releasedEnvs = []) ∧
  (∃ (n : Fin 4) (b : Bytes) (s : State), s.alive 4 = true ∧ s.active n = true ∧ s.upstream = some n.val ∧ b.length =
    1560 ∧ s.coreFree = false) ∧
  (∃ (n : Fin 4) (b : Bytes) (s : State), s.alive 4 = true ∧ s.active n = true ∧ s.upstream = some n.val ∧ b.length =
    1560 ∧ s.coreFree = true ∧ s.releasedEnvs ≠ []) ∧
  (∃ (n : Fin 4) (m : Fin 4) (b : Bytes) (w : Sweep) (s : State), s.alive 4 = true ∧ s.active n = true ∧ b.length =
    1560 ∧ s.sweeps = [w] ∧ w.tagSource = field b 0 2 ∧ w.tagSeq = field b 2 2 ∧ n.val ∈ w.waiting ∧ m ≠ n ∧ m.val ∈
    w.waiting) ∧
  (∃ (n : Fin 4) (b : Bytes) (s : State), s.alive 4 = true ∧ s.active n = true ∧ b.length = 1560 ∧ (∀ w ∈ s.sweeps, ¬
    (w.tagSource = field b 0 2 ∧ w.tagSeq = field b 2 2))) ∧
  (∃ (src : BitVec 16) (sq : BitVec 16) (w : Sweep) (s : State), s.alive 4 = true ∧ s.sweeps = [w] ∧ w.tagSource =
    src.toNat ∧ w.tagSeq = sq.toNat ∧ w.ret ≤ s.now) :=
  ⟨⟨1, sw, tree, (by decide +kernel)⟩,
  ⟨1, sw, { tree with sweeps := List.replicate 4 { tagSource := 9 } }, (by decide +kernel)⟩,
  ⟨1, sw, { tree with mgmt := { core := some e0 } }, (by decide +kernel)⟩,
  ⟨1, sw, { tree with secure := { stores := [{ env := e0 }] } }, (by decide +kernel)⟩,
  ⟨1, 2, sw, { tagSource := 1, tagSeq := 2, waiting := [1, 2] },
    { tree with sweeps := [{ tagSource := 1, tagSeq := 2, waiting := [1, 2] }] }, (by decide +kernel)⟩,
  ⟨1, sw, act, (by decide +kernel)⟩,
  ⟨1, 2, { tagSource := 1, tagSeq := 2 }, { up with sweeps := [{ tagSource := 1, tagSeq := 2 }] }, (by decide +kernel)⟩⟩

/-- States and operands that meet the hypotheses of the clauses of TimeTransfer. -/
theorem test_met_TimeTransfer :
  (∃ (p : Nat → Packet) (s : State), (∀ n, p n =
    { cls := 0, mode := .linkLocal, hop := Config.originHop.toNat, dest := 0, source := s.rd .deviceAddress 0, channel := 1, seq := s.nextSeq n 1, payload := s.syncPayload })
    ∧ s.alive 5 = true ∧ s.rd .deviceAddress 0 ≠ 0xFFFF ∧ s.time.syncSent + us (s.rd .syncInterval 0) ≤ s.aon.mono ∧
    (∀ n < 4, s.isChild n = true → s.active n = true ∧ queueRoom (s.port n).queue (p n) = true)) ∧
  (∃ (n : Fin 4) (b : Bytes) (s : State), s.alive 5 = true ∧ s.active n = true ∧ s.upstream = some n.val ∧ b.length =
    48 ∧ s.time.exchPort = 0) ∧
  (∃ (n : Fin 4) (b : Bytes) (rx : BitVec 96) (s : State), s.alive 5 = true ∧ s.active n = true ∧ s.upstream = some
    n.val ∧ b.length = 48 ∧ s.time.exchPort ≠ 0 ∧ ((s.theta n (stampOf b) rx.toNat : Int).natAbs ≤ 1000000 ∨
    s.running = true)) ∧
  (∃ (n : Fin 4) (b : Bytes) (rx : BitVec 96) (s : State), s.alive 5 = true ∧ s.active n = true ∧ s.upstream = some
    n.val ∧ b.length = 48 ∧ s.time.exchPort ≠ 0 ∧ 1000000 < (s.theta n (stampOf b) rx.toNat : Int).natAbs ∧ s.running
    = false) ∧
  (∃ (n : Fin 4) (s : State), s.alive 5 = true ∧ s.active n = true ∧ s.upstream ≠ some n.val) ∧
  (∃ (u : Fin 4) (s : State), s.alive 5 = true ∧ s.active u = true ∧ s.upstream = some u.val ∧ s.time.exchAt ≤
    s.aon.mono ∧ queueRoom (s.port u).queue
    ({ cls := 0, mode := .linkLocal, hop := Config.originHop.toNat, dest := 0, source := s.rd .deviceAddress 0, channel := 2, seq := s.nextSeq u 2, payload := List.replicate 16 0 }
    : Packet) = true) ∧
  (∃ (n : Fin 4) (sq : BitVec 16) (b : Bytes) (rx : BitVec 96) (s : State), s.alive 5 = true ∧ s.active n = true ∧
    s.isChild n = true ∧ b.length = 16 ∧ s.rd .deviceAddress 0 ≠ 0xFFFF ∧ queueRoom (s.port n).queue
    ({ cls := 0, mode := .linkLocal, hop := Config.originHop.toNat, dest := 0, source := s.rd .deviceAddress 0, channel := 3, seq := s.nextSeq n 3, payload := stamp12 (s.atBalls n rx.toNat) ++ List.replicate 12 0 ++ leBytes 2 sq.toNat ++ List.replicate 6 0 }
    : Packet) = true) ∧
  (∃ (n : Fin 4) (b : Bytes) (rx : BitVec 96) (t1 : Nat) (m : Nat) (s : State), s.alive 5 = true ∧ s.active n = true
    ∧ s.upstream = some n.val ∧ b.length = 32 ∧ s.time.reqs = [(field b 24 2, t1, m)] ∧ (s.atBalls n rx.toNat : Int)
    - t1 ≤ us 20) :=
  ⟨⟨(fun n =>
    { cls := 0, mode := .linkLocal, hop := Config.originHop.toNat, dest := 0, source := sync2.rd .deviceAddress 0, channel := 1, seq := sync2.nextSeq n 1, payload := sync2.syncPayload }),
    sync2, (fun _ => rfl), (by decide +kernel)⟩,
  ⟨1, List.replicate 48 0, act.wr .upstreamPort 0 1, (by decide +kernel)⟩,
  ⟨1, List.replicate 48 0, 0, servo run, (by decide +kernel)⟩,
  ⟨1, leBytes 8 5000 ++ List.replicate 40 0, 0, servo up, (by decide +kernel)⟩,
  ⟨1, act, (by decide +kernel)⟩,
  ⟨1, act.wr .upstreamPort 0 1, (by decide +kernel)⟩,
  ⟨1, 7, List.replicate 16 0, 0, (act.wr .deviceAddress 0 3).wr .childPorts 0 2, (by decide +kernel)⟩,
  ⟨1, List.replicate 32 0, 0, 0, 0, { act.wr .upstreamPort 0 1 with time := { act.time with reqs := [(0, 0, 0)] } },
    (by decide +kernel)⟩⟩

/-- States and operands that meet the hypotheses of the clauses of TimeStatesAndSleep. -/
theorem test_met_TimeStatesAndSleep :
  (∃ (q : Nat × Nat × Nat) (l : List (Nat × Nat × Nat)) (s : State), s.alive 5 = true ∧ s.time.reqs = q :: l ∧ q.2.2
    + us 100 ≤ s.aon.mono) ∧
  (∃ (s : State), s.alive 5 = true ∧ s.rd .timeState 0 = 2 ∧ s.time.syncAt + us (8 * s.rd .syncInterval 0) ≤
    s.aon.mono) ∧
  (∃ (s : State), s.alive 5 = true ∧ s.rd .timeState 0 = 1 ∧ s.rd .holdoverLimit 0 * 1000000000 < s.bound) ∧
  (∃ (s : State), s.timeRuns = true) ∧
  (∃ (l : TimeLatch) (s : State), s.alive 5 = true ∧ s.aon.latch = some l) :=
  ⟨⟨(3, 0, 0), [], { up with time := { up.time with reqs := [(3, 0, 0)] } }, (by decide +kernel)⟩,
  ⟨up.wr .timeState 0 2, (by decide +kernel)⟩,
  ⟨({ up with time := { up.time with bound := 5 } }.wr .timeState 0 1).wr .holdoverLimit 0 0, (by decide +kernel)⟩,
  ⟨up, (by decide +kernel)⟩,
  ⟨{}, { up with aon := { up.aon with latch := some {} } }, (by decide +kernel)⟩⟩

/-- States and operands that meet the hypotheses of the clauses of LaunchesAreQueued. -/
theorem test_met_LaunchesAreQueued :
  (∃ (e : Env) (v : Fin 8) (b : Bytes) (s : State), s.mayWrite e .launchPush v b ∧ b.length = 16 ∧ field b 12 4 = 0 ∧
    s.launchCheck v (field b 0 8) true = none) ∧
  (∃ (e : Env) (v : Fin 8) (b : Bytes) (st : Status) (s : State), s.mayWrite e .launchPush v b ∧ b.length = 16 ∧
    s.launchCheck v (field b 0 8) (decide (field b 12 4 = 0)) = some st) ∧
  (∃ (e : Env) (v : Fin 8) (s : State), s.mayWrite e .launchFlush v [1]) ∧
  (∃ (v : Fin 8) (x : LaunchEnt) (q : List LaunchEnt) (s : State), s.timeRuns = true ∧ (s.view v).queue = x :: q ∧
    x.instant ≤ s.now) ∧
  (∃ (s : State), s.rd .timeState 0 ≠ 2 ∧ s.rd .freeRunPermit 0 ≠ 1) ∧
  (∃ (v : Nat) (instant : Nat) (ok : Bool) (s : State), (s.rd .timeState 0 = 2 ∨ s.rd .freeRunPermit 0 = 1) ∧ (ok =
    false ∨ s.rd .viewCount 0 ≤ v ∨ (s.geoAt instant).isBoundary instant = false ∨ instant ≤ s.lastInstant v)) ∧
  (∃ (v : Nat) (instant : Nat) (ok : Bool) (s : State), s.rd .timeState 0 = 2 ∧ ok = true ∧ v < s.rd .viewCount 0 ∧
    (s.geoAt instant).isBoundary instant = true ∧ s.lastInstant v < instant ∧ 8 ≤ (s.view v).queue.length) ∧
  (∃ (v : Nat) (instant : Nat) (ok : Bool) (s : State), s.rd .timeState 0 = 2 ∧ ok = true ∧ v < s.rd .viewCount 0 ∧
    (s.geoAt instant).isBoundary instant = true ∧ s.lastInstant v < instant ∧ (s.view v).queue.length < 8 ∧ instant *
    4294967296 < s.dispFine + s.horizon) ∧
  (∃ (v : Nat) (instant : Nat) (ok : Bool) (s : State), s.rd .timeState 0 = 2 ∧ ok = true ∧ v < s.rd .viewCount 0 ∧
    (s.geoAt instant).isBoundary instant = true ∧ s.lastInstant v < instant ∧ (s.view v).queue.length < 8 ∧
    s.dispFine + s.horizon ≤ instant * 4294967296) :=
  ⟨⟨e0, 0, instantBytes 10016666666, lock, (by unfold State.mayWrite State.runs; decide +kernel), (by decide +kernel)⟩,
  ⟨e0, 0, instantBytes 0, .state, up, (by unfold State.mayWrite State.runs; decide +kernel), (by decide +kernel)⟩,
  ⟨e0, 0, up, (by unfold State.mayWrite State.runs; decide +kernel)⟩,
  ⟨0, { instant := 5 }, [], up.setView 0 { queue := [{ instant := 5 }] }, (by decide +kernel)⟩,
  ⟨up, (by decide +kernel)⟩,
  ⟨0, 5, true, lock, (by decide +kernel)⟩,
  ⟨0, 10016666666, true, lock.setView 0 { queue := List.replicate 8 { instant := 1 } }, (by decide +kernel)⟩,
  ⟨0, 10000000000, true, lock, (by decide +kernel)⟩,
  ⟨0, 10016666666, true, lock, (by decide +kernel)⟩⟩

/-- States and operands that meet the hypotheses of the clauses of SyncPins. -/
theorem test_met_SyncPins :
  (∃ (i : Fin 4) (f : Bool) (s : State), s.alive 5 = true ∧ (s.rd .captureEnable i).testBit (if f then 1 else 0) =
    true ∧ (s.syncI i).caps.length < 16) ∧
  (∃ (i : Fin 4) (f : Bool) (s : State), s.alive 5 = true ∧ (s.rd .captureEnable i).testBit (if f then 1 else 0) =
    true ∧ 16 ≤ (s.syncI i).caps.length) ∧
  (∃ (e : Env) (i : Fin 4) (c : Capt) (q : List Capt) (s : State), s.runs e false true ∧ s.on 5 = true ∧ (s.syncI
    i).caps = c :: q) ∧
  (∃ (o : Fin 4) (at_ : Nat) (vals : List Nat) (pres : Bool) (s : State), s.timeRuns = true ∧ (SMap.get s.syncOut o
    {}).active = false ∧ s.pulseFrom o (SMap.get s.syncOut o {}).single s.dispFine (SMap.get s.syncOut o {}).hist =
    some (at_, vals, pres)) ∧
  (∃ (o : Fin 4) (s : State), s.timeRuns = true ∧ (SMap.get s.syncOut o {}).active = true ∧ (SMap.get s.syncOut o
    {}).ends ≤ s.dispFine) :=
  ⟨⟨1, true, up.wr .captureEnable 1 2, (by decide +kernel)⟩,
  ⟨1, true, (up.wr .captureEnable 1 2).setSyncI 1 { caps := List.replicate 16 {} }, (by decide +kernel)⟩,
  ⟨e0, 1, {}, [], up.setSyncI 1 { caps := [{}] }, (by unfold State.runs; decide +kernel), (by decide +kernel)⟩,
  ⟨0, up.dispFine, [2, 0, 4294967296000, 20000, 0, 0, 0], true, ((up.wr .outputMode 0 2).wr .outputPeriod 0
    4294967296000).wr .outputWidth 0 20000, (by decide +kernel)⟩,
  ⟨0, { up with syncOut := [(0, { active := true, ends := up.dispFine })] }, (by decide +kernel)⟩⟩

/-- States and operands that meet the hypotheses of the clauses of ContextsLiveAndEnd. -/
theorem test_met_ContextsLiveAndEnd :
  (∃ (e : Env) (c : Fin 16384) (f : CtxField) (v : Bytes) (s : State), s.mayWrite e (fieldEnt f) c v ∧ s.rd .ctxState
    c ≠ 2 ∧ s.rd .ctxState c ≠ 3 ∧ s.fieldOk c f ((fieldEnt f).info.decode v) = true) ∧
  (∃ (e : Env) (c : Fin 16384) (f : CtxField) (v : Bytes) (s : State), s.mayWrite e (fieldEnt f) c v ∧ (s.rd
    .ctxState c = 2 ∨ s.rd .ctxState c = 3)) ∧
  (∃ (e : Env) (c : Fin 16384) (s : State), s.mayWrite e .ctxCommand c [1] ∧ s.rd .ctxState c ≠ 2 ∧ s.rd .ctxState c
    ≠ 3 ∧ s.bindRange c = true ∧ s.bindCheck c = none) ∧
  (∃ (e : Env) (c : Fin 16384) (s : State), s.mayWrite e .ctxCommand c [1] ∧ (s.rd .ctxState c = 2 ∨ s.rd .ctxState c
    = 3)) ∧
  (∃ (e : Env) (c : Fin 16384) (s : State), s.mayWrite e .ctxCommand c [1] ∧ s.rd .ctxState c ≠ 2 ∧ s.rd .ctxState c
    ≠ 3 ∧ s.bindRange c = false) ∧
  (∃ (e : Env) (c : Fin 16384) (st : Status) (s : State), s.mayWrite e .ctxCommand c [1] ∧ s.rd .ctxState c ≠ 2 ∧
    s.rd .ctxState c ≠ 3 ∧ s.bindRange c = true ∧ s.bindCheck c = some st) ∧
  (∃ (e : Env) (c : Fin 16384) (s : State), s.mayWrite e .ctxCommand c [2] ∧ (s.rd .ctxState c = 2 ∨ s.rd .ctxState c
    = 3)) ∧
  (∃ (e : Env) (c : Fin 16384) (s : State), s.mayWrite e .ctxCommand c [3] ∧ s.rd .ctxState c ≠ 0) ∧
  (∃ (c : Nat) (s : State), (s.rdv .bufferSet c).length = 8 ∧ c < 16384 ∧ s.power.ctxLost = false ∧ 16777216 ≤
    s.storeSize 2) ∧
  (∃ (c : Fin 16384) (s : State), s.alive 6 = true ∧ (s.rd .ctxState c = 2 ∨ s.rd .ctxState c = 3) ∧ s.rd
    .lastUnitTime c + s.rd .parkTimeout 0 * 1000000 ≤ s.now) ∧
  (∃ (c : Fin 16384) (s : State), s.alive 6 = true ∧ (s.rd .ctxState c = 1 ∨ s.rd .ctxState c = 4) ∧ s.rd
    .evictTimeout 0 ≠ 0 ∧ (s.ctx c).since + s.rd .evictTimeout 0 * 1000000 < s.now) ∧
  (∃ (s : State), s.rd .evictTimeout 0 = 0) :=
  ⟨⟨e0, 5, .width, [16, 0], up, (by unfold State.mayWrite State.runs; decide +kernel), (by decide +kernel)⟩,
  ⟨e0, 5, .width, [16, 0], up.wr .ctxState 5 2, (by unfold State.mayWrite State.runs; decide +kernel),
    (by decide +kernel)⟩,
  ⟨e0, 5, ctx5, (by unfold State.mayWrite State.runs; decide +kernel), (by decide +kernel)⟩,
  ⟨e0, 5, up.wr .ctxState 5 2, (by unfold State.mayWrite State.runs; decide +kernel), (by decide +kernel)⟩,
  ⟨e0, 5, up, (by unfold State.mayWrite State.runs; decide +kernel), (by decide +kernel)⟩,
  ⟨e0, 5, .noSpace, ctx5.wr .pageCount 2 0, (by unfold State.mayWrite State.runs; decide +kernel), (by decide +kernel)⟩,
  ⟨e0, 5, up.wr .ctxState 5 2, (by unfold State.mayWrite State.runs; decide +kernel), (by decide +kernel)⟩,
  ⟨e0, 5, up.wr .ctxState 5 2, (by unfold State.mayWrite State.runs; decide +kernel), (by decide +kernel)⟩,
  ⟨5, ctx5, (by decide +kernel)⟩,
  ⟨5, up.wr .ctxState 5 2, (by decide +kernel)⟩,
  ⟨5, (up.wr .ctxState 5 1).wr .evictTimeout 0 1, (by decide +kernel)⟩,
  ⟨up.wr .evictTimeout 0 0, (by decide +kernel)⟩⟩

/-- States and operands that meet the hypotheses of the clauses of VideoUnits. -/
theorem test_met_VideoUnits :
  (∃ (chan : BitVec 16) (s : State), s.on 6 = true ∧ s.rd .ctxState (chan.toNat % 16384) = 0 ∧ s.rd .autoAdmit 0 = 1) ∧
  (∃ (chan : BitVec 16) (s : State), s.on 6 = true ∧ s.rd .ctxState (chan.toNat % 16384) = 0 ∧ s.rd .autoAdmit 0 ≠ 1) ∧
  (∃ (src : BitVec 16) (chan : BitVec 16) (s : State), s.on 6 = true ∧ s.rd .ctxState (chan.toNat % 16384) ≠ 0 ∧ s.rd
    .owner (chan.toNat % 16384) ≠ 0xFFFF ∧ s.rd .owner (chan.toNat % 16384) ≠ src.toNat) ∧
  (∃ (src : BitVec 16) (chan : BitVec 16) (s : State), s.on 6 = true ∧ s.rd .ctxState (chan.toNat % 16384) = 1 ∧ s.rd
    .owner (chan.toNat % 16384) = src.toNat) ∧
  (∃ (src : BitVec 16) (chan : BitVec 16) (b : Bytes) (c : Nat) (s : State), s.on 6 = true ∧ c = chan.toNat % 16384 ∧
    s.rd .ctxState c = 3 ∧ s.rd .owner c = src.toNat ∧ s.unitOk c (unitOf b) = true ∧ (unitOf b).frame = s.rd
    .assemblingFrame c ∧ (s.rd .flags c).testBit 0 = false ∧ (s.ctx c).asmBuf ≠ 0xFFFF ∧ (s.ctx c).amap.testBit
    (unitOf b).unit = false ∧ (unitOf b).launch = (s.ctx c).asmLaunch ∧ s.rd .unitsReceived c + 1 < s.rd .unitCount
    c) ∧
  (∃ (src : BitVec 16) (chan : BitVec 16) (sq : BitVec 16) (b : Bytes) (c : Nat) (s : State), s.on 6 = true ∧ c =
    chan.toNat % 16384 ∧ (s.rd .ctxState c = 2 ∨ s.rd .ctxState c = 3) ∧ s.rd .owner c = src.toNat ∧ s.unitOk c
    (unitOf b) = false ∧ (s.rd .flags c).testBit 1 = true ∧ sq.toNat ≠ (s.ctx c).expSeq) ∧
  (∃ (src : BitVec 16) (chan : BitVec 16) (b : Bytes) (c : Nat) (s : State), s.on 6 = true ∧ c = chan.toNat % 16384 ∧
    s.rd .ctxState c = 2 ∧ s.rd .owner c = src.toNat ∧ s.unitOk c (unitOf b) = true ∧ (s.rd .flags c).testBit 0 =
    false ∧ 1 < s.rd .unitCount c ∧ (slotOrder (s.ctx c).nextSlot).find? (fun k => s.qualifies c ((s.rdv .bufferSet
    c).getD k 0xFFFF)) = some 0) ∧
  (∃ (src : BitVec 16) (chan : BitVec 16) (b : Bytes) (c : Nat) (s : State), s.on 6 = true ∧ c = chan.toNat % 16384 ∧
    s.rd .ctxState c = 2 ∧ s.rd .owner c = src.toNat ∧ s.unitOk c (unitOf b) = true ∧ (s.rd .flags c).testBit 0 =
    false ∧ 1 < s.rd .unitCount c ∧ (slotOrder (s.ctx c).nextSlot).find? (fun k => s.qualifies c ((s.rdv .bufferSet
    c).getD k 0xFFFF)) = none) ∧
  (∃ (src : BitVec 16) (chan : BitVec 16) (b : Bytes) (c : Nat) (s : State), s.on 6 = true ∧ c = chan.toNat % 16384 ∧
    s.rd .ctxState c = 3 ∧ s.rd .owner c = src.toNat ∧ s.unitOk c (unitOf b) = true ∧ (unitOf b).frame = s.rd
    .assemblingFrame c ∧ (s.rd .flags c).testBit 0 = false ∧ (s.rd .flags c).testBit 2 = false ∧ (unitOf b).last =
    false ∧ (s.ctx c).asmBuf ≠ 0xFFFF ∧ (s.ctx c).amap.testBit (unitOf b).unit = false ∧ (unitOf b).launch = (s.ctx
    c).asmLaunch ∧ s.rd .unitsReceived c + 1 = s.rd .unitCount c ∧ s.rd .launchMode c = 0) ∧
  (∃ (src : BitVec 16) (chan : BitVec 16) (b : Bytes) (c : Nat) (s : State), s.on 6 = true ∧ c = chan.toNat % 16384 ∧
    s.rd .ctxState c = 3 ∧ s.rd .owner c = src.toNat ∧ s.unitOk c (unitOf b) = true ∧ 0 < sgn 32 ((unitOf b).frame +
    4294967296 - s.rd .assemblingFrame c) ∧ (s.rd .flags c).testBit 0 = false ∧ (s.ctx c).asmBuf ≠ 0xFFFF ∧ 1 < s.rd
    .unitCount c) :=
  ⟨⟨5, up.wr .autoAdmit 0 1, (by decide +kernel)⟩,
  ⟨5, up.wr .autoAdmit 0 0, (by decide +kernel)⟩,
  ⟨0xE001, 5, (up.wr .ctxState 5 1).wr .owner 5 1, (by decide +kernel)⟩,
  ⟨0xE001, 5, (up.wr .ctxState 5 1).wr .owner 5 0xE001, (by decide +kernel)⟩,
  ⟨0xE001, 5, unitBytes0 (frm.rd .unitCount 5 - 1) 64, 5, frm, (by decide +kernel)⟩,
  ⟨0xE001, 5, 7, [], 5, frm.wr .flags 5 2, (by decide +kernel)⟩,
  ⟨0xE001, 5, unitBytes0 11 64, 5, ctx5.wr .ctxState 5 2, (by decide +kernel)⟩,
  ⟨0xE001, 5, unitBytes0 11 64, 5, ((ctx5.wr .ctxState 5 2).wr .handleState 1 1).wr .handleState 2 1,
    (by decide +kernel)⟩,
  ⟨0xE001, 5, unitBytes0 11 64, 5, frm.wr .unitsReceived 5 11, (by decide +kernel)⟩,
  ⟨0xE001, 5, leBytes 4 1 ++ (unitBytes0 11 64).drop 4, 5, frm, (by decide +kernel)⟩⟩

/-- States and operands that meet the hypotheses of the clauses of BufferCommands. -/
theorem test_met_BufferCommands :
  (∃ (e : Env) (h : Fin 1024) (s : State), s.mayWrite e .handleCommand h [1] ∧ s.rd .handleState h ≠ 4 ∧ s.rd
    .pageCount h = 0 ∧ 1 ≤ s.rd .pageRequest h ∧ s.rd .pageRequest h ≤ 576 ∧ s.rd .pageRequest h ≤
    s.freePageList.length) ∧
  (∃ (e : Env) (h : Fin 1024) (s : State), s.mayWrite e .handleCommand h [1] ∧ s.rd .handleState h ≠ 4 ∧ s.rd
    .pageCount h = 0 ∧ 1 ≤ s.rd .pageRequest h ∧ s.rd .pageRequest h ≤ 576 ∧ s.freePageList.length < s.rd
    .pageRequest h) ∧
  (∃ (e : Env) (h : Fin 1024) (s : State), s.mayWrite e .handleCommand h [2] ∧ s.rd .pageCount h ≠ 0 ∧ (s.rd
    .handleState h = 0 ∨ s.rd .handleState h = 2) ∧ (∀ c ∈ s.boundCtxs, s.inSet c h = false) ∧ s.held h = false) ∧
  (∃ (e : Env) (h : Fin 1024) (s : State), s.mayWrite e .handleCommand h [2] ∧ s.rd .pageCount h ≠ 0 ∧ s.rd
    .handleState h = 3 ∧ (∀ c ∈ s.boundCtxs, s.inSet c h = false) ∧ s.held h = false) ∧
  (∃ (e : Env) (k : Fin 6) (v : Bytes) (w : Nat) (s : State), s.mayWrite e (placeEnt k) 0 v ∧ (placeEnt
    k).info.decode v = [w] ∧ s.running = false ∧ s.having .handleState (· ≠ 0) = [] ∧ s.openJobs = [] ∧ s.openXfers =
    [] ∧ s.placeOk k w = true ∧ s.rd (placeEnt k) 0 ≠ w) :=
  ⟨⟨e0, 3, up.wr .pageRequest 3 2, (by unfold State.mayWrite State.runs; decide +kernel), (by decide +kernel)⟩,
  ⟨e0, 3, ((up.wr (placeEnt 5) 0 0x1000B).wr .pageRequest 3 9), (by unfold State.mayWrite State.runs; decide +kernel),
    (by decide +kernel)⟩,
  ⟨e0, 3, (up.wr .pageCount 3 2).setBuf 3 { pages := [0, 1] }, (by unfold State.mayWrite State.runs; decide +kernel),
    (by decide +kernel)⟩,
  ⟨e0, 3, ((up.wr .pageCount 3 2).setBuf 3 { pages := [0, 1] }).wr .handleState 3 3,
    (by unfold State.mayWrite State.runs; decide +kernel), (by decide +kernel)⟩,
  ⟨e0, 4, leBytes 4 0x2C004E, 0x2C004E, up, (by unfold State.mayWrite State.runs; decide +kernel), (by decide +kernel)⟩⟩

/-- States and operands that meet the hypotheses of the clauses of CaptureRuns. -/
theorem test_met_CaptureRuns :
  (∃ (e : Env) (v : Bytes) (at_ : Nat) (s : State), s.mayWrite e .captureAt 0 v ∧ Ent.captureAt.info.decode v = [at_]
    ∧ s.captureCheck at_ = none) ∧
  (∃ (e : Env) (v : Bytes) (at_ : Nat) (st : Status) (s : State), s.mayWrite e .captureAt 0 v ∧
    Ent.captureAt.info.decode v = [at_] ∧ s.captureCheck at_ = some st) ∧
  (∃ (s : State), s.rd .captureState 0 = 1 ∧ s.timeRuns = true ∧ s.boundaryFrom s.cap.since ≤ s.now ∧ s.running =
    false ∧ s.alive 12 = true) ∧
  (∃ (s : State), s.rd .captureState 0 = 1 ∧ s.timeRuns = true ∧ (s.boundaryFrom s.cap.since : Nat) ≤ s.now ∧
    s.running = false ∧ s.alive 12 = true ∧ (s.view s.cap.view).queue = []) ∧
  (∃ (s : State), s.rd .captureState 0 = 1 ∧ s.timeRuns = true ∧ s.boundaryFrom s.cap.since ≤ s.now ∧ s.alive 12 =
    false) ∧
  (∃ (s : State), s.rd .captureState 0 = 2) ∧
  (∃ (e : Env) (s : State), s.mayWrite e .captureAbort 0 [1] ∧ s.rd .captureState 0 ≠ 0) :=
  ⟨⟨e0, leBytes 8 10016666666, 10016666666, ((cfg.wr .pageCount 4 8).setBuf 4 { pages := [0, 1, 2, 3, 4, 5, 6, 7] }).wr
    .captureHandle 0 4, (by unfold State.mayWrite State.runs; decide +kernel), (by decide +kernel)⟩,
  ⟨e0, leBytes 8 0, 0, .late, ((cfg.wr .pageCount 4 8).setBuf 4 { pages := [0, 1, 2, 3, 4, 5, 6, 7] }).wr
    .captureHandle 0 4, (by unfold State.mayWrite State.runs; decide +kernel), (by decide +kernel)⟩,
  ⟨cfg.wr .captureState 0 1, (by decide +kernel)⟩,
  ⟨cfg.wr .captureState 0 1, (by decide +kernel)⟩,
  ⟨{ cfg with power := { doms := SMap.put cfg.power.doms 12 {} } }.wr .captureState 0 1, (by decide +kernel)⟩,
  ⟨up.wr .captureState 0 2, (by decide +kernel)⟩,
  ⟨e0, up.wr .captureState 0 1, (by unfold State.mayWrite State.runs; decide +kernel), (by decide +kernel)⟩⟩

/-- States and operands that meet the hypotheses of the clauses of ParametersTakeEffect. -/
theorem test_met_ParametersTakeEffect :
  (∃ (e : Env) (v : Bytes) (n : Nat) (s : State), s.mayWrite e .primaryCount 0 v ∧ Ent.primaryCount.info.decode v =
    [n] ∧ (n = 3 ∨ n = 4) ∧ n ≠ s.rd .primaryCount 0 ∧ s.running = false ∧ tileFits (s.rd .tileWidth 0) (s.rd
    .tileHeight 0) n = true) ∧
  (∃ (e : Env) (v : Bytes) (s : State), s.mayWrite e .primaryCount 0 v ∧ s.running = true) ∧
  (∃ (x : Ent) (i : Nat) (v : Val) (p : Pend) (s : State), s.modl.commits = [p] ∧ p.done = false ∧ p.e ≤ s.now ∧
    p.values = [(key x i, v)] ∧ p.dev = {} ∧ (x.info.cls = .refresh ∨ x.info.cls = .frame) ∧ x ∉ timingEnts ∧ x ≠
    .concealList ∧ x ≠ .pattern ∧ x ≠ .throttleStep) ∧
  (∃ (p : Pend) (s : State), (∀ q ∈ p.values, ∃ x i, q.1 = key x i ∧ (x.info.cls = .refresh ∨ x.info.cls = .frame) ∧
    x ≠ .concealList ∧ x ≠ .throttleStep) ∧ s.modl.commits = [p] ∧ p.done = false ∧ p.e ≤ s.now ∧ p.dev = {} ∧
    (p.values.map Prod.fst).Nodup ∧ s.running = true ∧ s.slateAt p.e = true ∧ s.modl.slate.map Prod.fst ≠ some p.e) ∧
  (∃ (p : Pend) (s : State), (∀ q ∈ p.values, ∃ x i, q.1 = key x i ∧ (x.info.cls = .refresh ∨ x.info.cls = .frame) ∧
    x ≠ .concealList ∧ x ≠ .throttleStep) ∧ s.modl.commits = [p] ∧ p.done = false ∧ p.e ≤ s.now ∧ p.dev = {} ∧
    (p.values.map Prod.fst).Nodup ∧ s.running = false) ∧
  (∃ (p : Pend) (l : List (Nat × Nat)) (s : State), s.modl.commits = [p] ∧ p.done = false ∧ p.e ≤ s.now ∧ p.values =
    [] ∧ p.dev = { band := l } ∧ (l.map Prod.fst).Nodup ∧ (∀ a ∈ l, a.1 < 65536)) ∧
  (∃ (p : Pend) (n : Nat) (s : State), s.modl.commits = [p] ∧ p.done = false ∧ p.e ≤ s.now ∧ p.values = [] ∧ p.dev =
    { throttle := some n } ∧ (n ≠ 2 ∨ step2Ok (s.rd .viewCount 0) (s.rd .refreshesPerView 0) (s.rd .framePeriod 0) =
    true)) ∧
  (∃ (p : Pend) (n : Nat) (s : State), s.modl.commits = [p] ∧ p.done = false ∧ p.e ≤ s.now ∧ p.values = [] ∧ p.dev =
    { throttle := some n } ∧ (n ≠ 2 ∨ step2Ok (s.rd .viewCount 0) (s.rd .refreshesPerView 0) (s.rd .framePeriod 0) =
    true)) :=
  ⟨⟨e0, [4], 4, up, (by unfold State.mayWrite State.runs; decide +kernel), (by decide +kernel)⟩,
  ⟨e0, [4], run, (by unfold State.mayWrite State.runs; decide +kernel), (by decide +kernel)⟩,
  ⟨.dimmer, 0, [7], { e := 5, values := [(key .dimmer 0, [7])] },
    { up with modl := { commits := [{ e := 5, values := [(key .dimmer 0, [7])] }] } }, (by decide +kernel)⟩,
  ⟨twoVals, { run with modl := { commits := [twoVals] } }, twoVals_keys, (by decide +kernel)⟩,
  ⟨twoVals, { cfg with modl := { commits := [twoVals] } }, twoVals_keys, (by decide +kernel)⟩,
  ⟨{ e := 5, dev := { band := [(0, 3), (4, 1)] } }, [(0, 3), (4, 1)],
    { up with modl := { commits := [{ e := 5, dev := { band := [(0, 3), (4, 1)] } }] } }, (by decide +kernel)⟩,
  ⟨{ e := 5, dev := { throttle := some 1 } }, 1,
    { up with modl := { commits := [{ e := 5, dev := { throttle := some 1 } }] } }, (by decide +kernel)⟩,
  ⟨{ e := 5, dev := { throttle := some 2 } }, 2,
    { up with modl := { commits := [{ e := 5, dev := { throttle := some 2 } }] } }, (by decide +kernel)⟩⟩

/-- States and operands that meet the hypotheses of the clauses of ModulatorStartsAndStops. -/
theorem test_met_ModulatorStartsAndStops :
  (∃ (e : Env) (s : State), s.mayWrite e .modulatorRun 0 [1] ∧ s.modl.startE = none ∧ s.modl.stopE = none ∧ s.running
    = false ∧ s.lanesOn (s.committed.n .laneCount 0) = true ∧ s.configCheck s.committed [] true = none) ∧
  (∃ (e : Env) (s : State), s.mayWrite e .modulatorRun 0 [0] ∧ s.modl.startE = none ∧ s.modl.stopE = none ∧ s.running
    = true) ∧
  (∃ (e : Env) (s : State), s.mayWrite e .modulatorRun 0 [1] ∧ (s.modl.startE.isSome = true ∨ s.modl.stopE.isSome =
    true)) ∧
  (∃ (at_ : Nat) (s : State), s.modl.startE = some at_ ∧ s.alive 15 = true ∧ at_ ≤ s.now) ∧
  (∃ (at_ : Nat) (s : State), s.modl.stopE = some at_ ∧ s.running = true ∧ at_ ≤ s.now ∧ s.modl.commits = []) ∧
  (∃ (a : Nat) (b : Nat) (s : State), s.modl.slate = some (a, b) ∧ s.running = true ∧ b ≤ s.now) ∧
  (∃ (e : Env) (s : State), s.mayWrite e .modulatorRun 0 [0] ∧ (s.modl.startE.isSome = true ∨ s.modl.stopE.isSome =
    true)) ∧
  (∃ (e : Env) (s : State), s.mayWrite e .modulatorRun 0 [0] ∧ (s.modl.startE.isSome = true ∨ s.modl.stopE.isSome =
    true)) :=
  ⟨⟨e0, cfg, (by unfold State.mayWrite State.runs; decide +kernel), (by decide +kernel)⟩,
  ⟨e0, run, (by unfold State.mayWrite State.runs; decide +kernel), (by decide +kernel)⟩,
  ⟨e0, { cfg with modl := { startE := some 5 } }, (by unfold State.mayWrite State.runs; decide +kernel),
    (by decide +kernel)⟩,
  ⟨5, { cfg with modl := { startE := some 5 } }, (by decide +kernel)⟩,
  ⟨5, { run with modl := { stopE := some 5 } }, (by decide +kernel)⟩,
  ⟨5, 6, { run with modl := { slate := some (5, 6) } }, (by decide +kernel)⟩,
  ⟨e0, { cfg with modl := { startE := some 5 } }, (by unfold State.mayWrite State.runs; decide +kernel),
    (by decide +kernel)⟩,
  ⟨e0, { run with modl := { stopE := some 5 } }, (by unfold State.mayWrite State.runs; decide +kernel),
    (by decide +kernel)⟩⟩

/-- States and operands that meet the hypotheses of the clauses of BurstsRunTheirCourse. -/
theorem test_met_BurstsRunTheirCourse :
  (∃ (l : Fin 512) (a : LaneLed) (s : State), s.running = true ∧ s.alive 15 = true ∧ s.recordsInside = true ∧
    SMap.find s.modl.lanes l = some a ∧ firstSquashed a.ents = none ∧ a.ents.length < min ((s.geoAt a.frame).d *
    (s.geoAt a.frame).k) 256) ∧
  (∃ (l : Fin 512) (x : LedEnt) (q : List LedEnt) (r : List LedEnt) (s : State), (s.led l).ents = q ++ x :: r ∧ (∀ y
    ∈ q, y.busy = false) ∧ x.busy = true ∧ x.st = .computing) ∧
  (∃ (l : Fin 512) (x : LedEnt) (q : List LedEnt) (r : List LedEnt) (s : State), (s.led l).ents = q ++ x :: r ∧ (∀ y
    ∈ q, y.busy = false) ∧ x.busy = true ∧ x.st = .squashed) ∧
  (∃ (l : Fin 512) (a : LaneLed) (x : LedEnt) (q : List LedEnt) (s : State), s.running = true ∧ s.alive 15 = true ∧
    s.timeRuns = true ∧ SMap.find s.modl.lanes l = some a ∧ a.ents = x :: q ∧ s.lineOf x.start x.row ≤ s.dispFine) ∧
  (∃ (l : Fin 512) (a : LaneLed) (s : State), s.running = true ∧ s.alive 15 = true ∧ s.recordsInside = true ∧
    SMap.find s.modl.lanes l = some a ∧ firstSquashed a.ents = none ∧ a.ents.length < min ((s.geoAt a.frame).d *
    (s.geoAt a.frame).k) 256 ∧ (s.newEntry a.frame a.j a.row a.seq a.nextSlot false : LedEnt).dark = false) ∧
  (∃ (f : Look) (dead : List Nat) (e : LedEnt) (x : Nat) (y : Nat) (p : Nat), f.n .pattern e.view % 16 = 0 ∧ (f.n
    .compControl 0).testBit 3 = true ∧ (y * f.n .tileWidth 0 + x) * f.n .primaryCount 0 + p ∈ dead) ∧
  (∃ (f : Look) (dead : List Nat) (shut : List Nat) (pv : Nat → Nat → List Nat) (e : LedEnt) (x : Nat) (y : Nat) (p :
    Nat) (s : State), f.n .pattern e.view % 16 = 0 ∧ (s.driveValue f dead shut (e.start / 4294967296) pv x y p).2.1 =
    false) ∧
  (∃ (f : Look) (p : Nat) (prev : Nat) (d : Nat) (i : Nat) (j : Nat) (a : Int) (b : Int) (tab : Nat → Nat → Int), (∀
    i j, tab i j = sgn 32 ((f .overdriveTable 0).getD (p * 1089 + i * 33 + j) 0)) ∧ (f.n .overdriveControl 0).testBit
    0 = true ∧ i = prev / 8 ∧ j = logCode d / 8 ∧ a = (prev % 8 : Nat) ∧ b = (logCode d % 8 : Nat)) ∧
  (∃ (d : Nat), d ≤ 262143) ∧
  (∃ (planes : Nat) (m : Nat), planes ≤ 18 ∧ m ≤ 18 - planes) ∧
  (∃ (f : Look) (shown : SMap Shown) (v : Nat) (px : Nat) (py : Nat) (pc : Nat) (layer : Nat) (w : Nat) (c : Nat) (r
    : Nat) (p : Nat) (x : Shown) (below : List Nat), (f.n .layerEnable v).testBit layer = true ∧ layerWindow f shown
    v layer px py = some (w, x, c, r) ∧ below.length = pc ∧ p < pc) ∧
  (∃ (knots : Val) (px : List Nat) (m : Nat) (p : Nat) (t : Nat), (∀ i, i < 32 → knots.getD (2 * i) 0 < knots.getD (2
    * i + 2) 0) ∧ knots.getD 0 0 = 0 ∧ (px.length = 3 ∨ px.length = 4) ∧ p < px.length ∧ m ∈ px ∧ (∀ a ∈ px, a ≤ m) ∧
    0 < m ∧ knots.getD 64 0 ≤ m ∧ t = knots.getD 65 0) ∧
  (∃ (knots : Val) (px : List Nat) (m : Nat) (k : Nat) (p : Nat), (∀ i, i < 32 → knots.getD (2 * i) 0 < knots.getD (2
    * i + 2) 0) ∧ knots.getD 0 0 = 0 ∧ (px.length = 3 ∨ px.length = 4) ∧ p < px.length ∧ m ∈ px ∧ (∀ a ∈ px, a ≤ m) ∧
    0 < m ∧ k < 32 ∧ knots.getD (2 * k) 0 ≤ m ∧ m < knots.getD (2 * k + 2) 0) ∧
  (∃ (f : Look), 0 < f.n .tilePeak 0) ∧
  (∃ (knots : Val) (px : List Nat) (m : Nat) (p : Nat), (∀ i, i < 32 → knots.getD (2 * i) 0 < knots.getD (2 * i + 2)
    0) ∧ knots.getD 0 0 = 0 ∧ (px.length = 3 ∨ px.length = 4) ∧ p < px.length ∧ m ∈ px ∧ (∀ a ∈ px, a ≤ m) ∧ m = 0) ∧
  (∃ (p : Nat) (px : List Nat), (px.length = 3 ∨ px.length = 4) ∧ p < px.length) :=
  ⟨⟨0, { frame := 10000000000 }, { run with modl := { lanes := [(0, { frame := 10000000000 })] } }, (by decide +kernel)⟩,
  ⟨0, { st := .computing, busy := true }, [], [],
    { run with modl := { lanes := [(0, { ents := [{ st := .computing, busy := true }] })] } }, (by decide +kernel)⟩,
  ⟨0, { st := .squashed, busy := true }, [], [],
    { run with modl := { lanes := [(0, { ents := [{ st := .squashed, busy := true }] })] } }, (by decide +kernel)⟩,
  ⟨0, { ents := [{}] }, {}, [], { run with modl := { lanes := [(0, { ents := [{}] })] } }, (by decide +kernel)⟩,
  ⟨0, { frame := 10000000000 }, { run with modl := { lanes := [(0, { frame := 10000000000 })] } }, (by decide +kernel)⟩,
  ⟨(fun e _ => if e = .primaryCount then [3] else if e = .compControl then [8] else []), [0], {}, 0, 0, 0,
    (by decide +kernel)⟩,
  ⟨(fun e _ => if e = .primaryCount then [3] else if e = .compControl then [8] else []), [], [], (fun _ _ => []), {},
    0, 0, 0, run, (by decide +kernel)⟩,
  ⟨(fun e _ => if e = .overdriveControl then [1] else []), 0, 9, 9, 1, logCode 9 / 8, ((9 % 8 : Nat) : Int), ((logCode
    9 % 8 : Nat) : Int), (fun i j => sgn 32 (([] : Val).getD (0 * 1089 + i * 33 + j) 0)), (fun _ _ => rfl),
    (by decide +kernel)⟩,
  ⟨262143, (by decide +kernel)⟩,
  ⟨16, 2, (by decide +kernel)⟩,
  ⟨(fun e _ => if e = .layerEnable then [1] else if e = .control then [256] else if e = .crop then [2 ^ 32 + 2 ^ 48]
    else []), [(0, { width := 1, height := 1 })], 0, 0, 0, 3, 0, 0, 0, 0, 0, { width := 1, height := 1 }, [0, 0, 0],
    (by decide +kernel)⟩,
  ⟨(List.range 66).map (fun i => i / 2), [40, 3, 2], 40, 1, 32, (by decide +kernel)⟩,
  ⟨(List.range 66).map (fun i => i / 2), [5, 1, 2], 5, 5, 0, (by decide +kernel)⟩,
  ⟨(fun _ _ => [1]), (by decide +kernel)⟩,
  ⟨(List.range 66).map (fun i => i / 2), [0, 0, 0], 0, 0, (by decide +kernel)⟩,
  ⟨2, [700000, 800000, 900000, 1], (by decide +kernel)⟩⟩

/-- States and operands that meet the hypotheses of the clauses of LampVerdictsAndReadback. -/
theorem test_met_LampVerdictsAndReadback :
  (∃ (lamp : Nat) (f : Nat) (k : Nat) (s : State), s.alive 13 = true ∧ s.timeRuns = true ∧ s.boundaryFrom
    (s.defects.since + 1) ≤ s.now ∧ (∀ p ∈ s.groups, p.2.want = []) ∧ s.defects.seen = [(f, lamp, k)] ∧ k ≠ 0 ∧ f <
    s.frameOf s.now ∧ s.defState lamp = 0) ∧
  (∃ (lamp : Nat) (f : Nat) (k : Nat) (s : State), s.alive 13 = true ∧ s.timeRuns = true ∧ s.boundaryFrom
    (s.defects.since + 1) ≤ s.now ∧ (∀ p ∈ s.groups, p.2.want = []) ∧ s.defects.seen = [(f, lamp, k), (f, lamp, 0)] ∧
    f < s.frameOf s.now ∧ 1 ≤ s.defState lamp ∧ s.defState lamp ≤ 7) ∧
  (∃ (lamp : Nat) (f : Nat) (k : Nat) (c : Nat) (s : State), s.alive 13 = true ∧ s.timeRuns = true ∧ s.boundaryFrom
    (s.defects.since + 1) ≤ s.now ∧ (∀ p ∈ s.groups, p.2.want = []) ∧ s.defects.seen = [(f, lamp, k)] ∧ k ≠ 0 ∧ f <
    s.frameOf s.now ∧ s.defState lamp = 7 ∧ c = SMap.get s.defects.cause lamp 0 ∧ s.slotFree = true ∧ (∀ r ∈ s.rdv
    .concealList 0, recLamp r ≠ lamp) ∧ lamp < 4194304 ∧ s.running = false) ∧
  (∃ (lamp : Nat) (f : Nat) (k : Nat) (c : Nat) (s : State), s.alive 13 = true ∧ s.timeRuns = true ∧ s.boundaryFrom
    (s.defects.since + 1) ≤ s.now ∧ (∀ p ∈ s.groups, p.2.want = []) ∧ s.defects.seen = [(f, lamp, k)] ∧ k ≠ 0 ∧ f <
    s.frameOf s.now ∧ s.defState lamp = 7 ∧ c = SMap.get s.defects.cause lamp 0 ∧ s.slotFree = true ∧ (∀ r ∈ s.rdv
    .concealList 0, recLamp r ≠ lamp) ∧ lamp < 4194304 ∧ s.running = true ∧ s.now < s.effectTime (s.dispFine +
    horizon2 s.geo s.geo) true) ∧
  (∃ (p : Pend) (v : Val) (s : State), s.modl.commits = [p] ∧ p.done = false ∧ p.e ≤ s.now ∧ p.values = [(key
    .concealList 0, v)] ∧ p.kept = [] ∧ p.dev = {} ∧ SMap.sorted s.defects.st = true) ∧
  (∃ (g : Fin 64) (w : Want) (q : List Want) (s : State), s.alive (16 + g / 16) = true ∧ (SMap.get s.groups g
    {}).want = w :: q ∧ (∀ v ∈ w :: q, s.dispFine ≤ v.due) ∧ (∀ o ∈ s.defects.seen, s.defects.since ≤ o.1) ∧
    s.defects.since ≤ s.frameOf (w.lit / 4294967296)) ∧
  (∃ (g : Fin 64) (w : Want) (s : State), s.timeRuns = true ∧ (SMap.get s.groups g {}).want = [w] ∧ w.due <
    s.dispFine ∧ (∀ o ∈ s.defects.seen, s.defects.since ≤ o.1)) :=
  ⟨⟨7, 0, 1, { up with defects := { seen := [(0, 7, 1)] } }, (by decide +kernel)⟩,
  ⟨7, 0, 1, { up with defects := { seen := [(0, 7, 1), (0, 7, 0)], st := [(7, 3)] } }, (by decide +kernel)⟩,
  ⟨7, 0, 1, 2, dying up, (by decide +kernel)⟩,
  ⟨7, 0, 1, 2, dying run, (by decide +kernel)⟩,
  ⟨{ e := 5, values := [(key .concealList 0, [12])] }, [12],
    { up with modl := { commits := [{ e := 5, values := [(key .concealList 0, [12])] }] }, defects := { st := [(3, 9), (4, 1)] } },
    (by decide +kernel)⟩,
  ⟨5, { lane := 1, row := 2, seq := 3, due := up.dispFine }, [],
    { up with groups := [(5, { want := [{ lane := 1, row := 2, seq := 3, due := up.dispFine }] })] },
    (by decide +kernel)⟩,
  ⟨5, { due := 4 }, { up with groups := [(5, { want := [{ due := 4 }] })] }, (by decide +kernel)⟩⟩

/-- States and operands that meet the hypotheses of the clauses of TearingAndDarkQuadrants. -/
theorem test_met_TearingAndDarkQuadrants :
  (∃ (i : Fin 16) (s : State), s.alive (16 + i / 4) = true ∧ s.teTimes i = true ∧ (s.teFor i (s.frameOf s.now)).w =
    none ∧ (s.teFor i (s.frameOf s.now)).skip = false ∧ s.dispFine ≤ s.teDue (s.teFor i (s.frameOf s.now)) ∧ i.val <
    (s.rdv .teLastSwap 0).length) ∧
  (∃ (i : Fin 16) (s : State), s.alive (16 + i / 4) = true ∧ s.timeRuns = true ∧ s.teTimes i = true ∧ (s.teFor i
    (s.frameOf s.now)).w = none ∧ (s.teFor i (s.frameOf s.now)).skip = false ∧ s.teDue (s.teFor i (s.frameOf s.now))
    ≤ s.dispFine) ∧
  (∃ (q : Fin 4) (s : State), s.alive (16 + q) = true ∧ (s.rd .quadrantLocked 0).testBit q = true) ∧
  (∃ (q : Fin 4) (s : State), s.alive (16 + q) = true ∧ (s.quad q).unlock = true ∧ (s.quad q).dip = false ∧ (s.quad
    q).hot = false ∧ (s.rd .quadrantLocked 0).testBit q = false) ∧
  (∃ (q : Fin 4) (x : Nat) (s : State), (s.quad q).relock = some x ∧ s.timeRuns = true ∧ s.resumeAt x ≤ s.now) :=
  ⟨⟨0, grey, (by decide +kernel)⟩,
  ⟨0, { grey with time := { grey.time with disp := 0x2540BE40000000000 + 0xF000000000000 } }, (by decide +kernel)⟩,
  ⟨2, up.wr .quadrantLocked 0 4, (by decide +kernel)⟩,
  ⟨2, (up.wr .quadrantLocked 0 0).setQuad 2 { unlock := true }, (by decide +kernel)⟩,
  ⟨2, 5, up.setQuad 2 { relock := some 5 }, (by decide +kernel)⟩⟩

/-- States and operands that meet the hypotheses of the clauses of SessionsAndSegments. -/
theorem test_met_SessionsAndSegments :
  (∃ (e : Env) (b : Bytes) (s : State), s.runs e true false ∧ b.length = 4 ∧ (leNat b = 0 ∨ (1000 ≤ leNat b ∧ leNat b
    ≤ 600000)) ∧ sessionOf e < 255) ∧
  (∃ (e : Env) (b : Bytes) (s : State), s.runs e true false ∧ b.length = 4 ∧ (leNat b = 0 ∨ (1000 ≤ leNat b ∧ leNat b
    ≤ 600000)) ∧ sessionOf e < 255) ∧
  (∃ (e : Env) (s : State), s.runs e false false ∧ sessionOf e < 255 ∧ s.secure.ops = [] ∧ (∀ k ∈ s.openXfers,
    (s.xfer k).session ≠ sessionOf e)) ∧
  (∃ (n : Fin 256) (s : State), n.val < 255 ∧ s.on 9 = true ∧ (s.session n).isOpen = true ∧ (s.session n).lastAt + ms
    (s.session n).timeout ≤ s.aon.mono ∧ s.secure.ops = [] ∧ (∀ k ∈ s.openXfers, (s.xfer k).session ≠ n.val)) ∧
  (∃ (n : Fin 257) (g : SegXfer) (s : State), (s.session n).seg = some g ∧ g.since + ms 100 ≤ s.aon.mono) ∧
  (∃ (e : Env) (g : SegXfer) (s : State), s.runs e false false ∧ (s.session (sessionOf e)).seg = some g) :=
  ⟨⟨e3 7, [0, 0, 0, 0], up, (by unfold State.runs; decide +kernel), (by decide +kernel)⟩,
  ⟨e3 7, leBytes 4 600000, up, (by unfold State.runs; decide +kernel), (by decide +kernel)⟩,
  ⟨e3 1, open5, (by unfold State.runs; decide +kernel), (by decide +kernel)⟩,
  ⟨3, up.setSession 3 { isOpen := true, timeout := 1000 }, (by decide +kernel)⟩,
  ⟨256, {}, up.setSession 256 { isOpen := true, seg := some {} }, (by decide +kernel)⟩,
  ⟨e0, {}, up.setSession 256 { isOpen := true, seg := some {} }, (by unfold State.runs; decide +kernel),
    (by decide +kernel)⟩⟩

/-- States and operands that meet the hypotheses of the clauses of WritesAreCheckedInOrder. -/
theorem test_met_WritesAreCheckedInOrder :
  (∃ (e : Env) (m : EntryMsg) (s : State), s.runs e false false ∧ s.still ∧ m.index.toNat < 0xF000 ∧ Ent.indexUsed
    m.index.toNat = false) ∧
  (∃ (e : Env) (m : EntryMsg) (s : State), s.runs e false false ∧ s.still ∧ m.index.toNat < 0xF000 ∧ Ent.indexUsed
    m.index.toNat = true ∧ Ent.find m.index.toNat m.sub.toNat = none ∧ m.sub.toNat ≠ 0) ∧
  (∃ (e : Env) (m : EntryMsg) (s : State), s.runs e false false ∧ s.still ∧ m.index.toNat < 0xF000 ∧ Ent.find
    m.index.toNat m.sub.toNat = some (.parkTimeout, 0) ∧ Ent.guarded .parkTimeout = false ∧ m.body.length ≠
    Ent.parkTimeout.info.elt) ∧
  (∃ (e : Env) (m : EntryMsg) (s : State), s.runs e false false ∧ s.still ∧ m.index.toNat < 0xF000 ∧ Ent.find
    m.index.toNat m.sub.toNat = some (.blackBoxClear, 0) ∧ Ent.guarded .blackBoxClear = true ∧ s.authorised e =
    false) ∧
  (∃ (e : Env) (m : EntryMsg) (s : State), s.runs e false false ∧ s.still ∧ m.index.toNat < 0xF000 ∧ Ent.find
    m.index.toNat m.sub.toNat = some (.portState, 1) ∧ Ent.guarded .portState = false ∧ Ent.portState.info.acc = .ro) :=
  ⟨⟨e0, msg 0x0001 0 [], up, (by unfold State.runs; decide +kernel), (by unfold State.still; decide +kernel),
    (by decide +kernel)⟩,
  ⟨e0, msg 0x8000 0xEE [], up, (by unfold State.runs; decide +kernel), (by unfold State.still; decide +kernel),
    (by decide +kernel)⟩,
  ⟨e0, msg 0x8000 2 [1], up, (by unfold State.runs; decide +kernel), (by unfold State.still; decide +kernel),
    (by decide +kernel)⟩,
  ⟨e3 1, msg 0x1210 7 [1], owned.setSession 3 { isOpen := true, partner := 0xE001 },
    (by unfold State.runs; decide +kernel), (by unfold State.still; decide +kernel), (by decide +kernel)⟩,
  ⟨e0, msg 0x2001 3 [1], up, (by unfold State.runs; decide +kernel), (by unfold State.still; decide +kernel),
    (by decide +kernel)⟩⟩

/-- States and operands that meet the hypotheses of the clauses of ReadsReturnValues. -/
theorem test_met_ReadsReturnValues :
  (∃ (e : Env) (m : EntryMsg) (x : Ent) (i : Nat) (s : State), s.runs e false true ∧ m.index.toNat < 0xF000 ∧
    Ent.find m.index.toNat m.sub.toNat = some (x, i) ∧ x.info.acc ≠ .wo ∧ (x.info.acc = .ro → s.served x i = true) ∧
    x ∉ [.savedState, .eventPop, .capturePop, .authChallenge, .attestReport] ∧ m.body = [] ∧ s.derived x i = none ∧
    m.offset < (x.info.encode (s.shownValue x i m.stagedView)).length ∧ sessionOf e ≠ 255) ∧
  (∃ (e : Env) (m : EntryMsg) (x : Ent) (i : Nat) (s : State), s.runs e false true ∧ m.index.toNat < 0xF000 ∧
    Ent.find m.index.toNat m.sub.toNat = some (x, i) ∧ x.info.acc = .rw ∧ x ≠ .savedState ∧ m.body = [] ∧ s.derived x
    i = none ∧ (x.info.encode (s.shownValue x i m.stagedView)).length ≤ m.offset) ∧
  (∃ (e : Env) (m : EntryMsg) (x : Ent) (i : Nat) (v : Val) (s : State), s.runs e false true ∧ m.index.toNat < 0xF000
    ∧ Ent.find m.index.toNat m.sub.toNat = some (x, i) ∧ x.info.acc ≠ .wo ∧ (x.info.acc = .ro → s.served x i = true)
    ∧ x ∉ [.savedState, .eventPop, .capturePop, .authChallenge, .attestReport] ∧ m.body = [] ∧ s.derived x i = some v
    ∧ m.offset < (x.info.encode v).length ∧ sessionOf e ≠ 255) ∧
  (∃ (e : Env) (m : EntryMsg) (x : Ent) (i : Nat) (s : State), s.runs e false true ∧ m.index.toNat < 0xF000 ∧
    Ent.find m.index.toNat m.sub.toNat = some (x, i) ∧ x.info.acc = .ro ∧ s.served x i = false ∧ m.body = []) ∧
  (∃ (e : Env) (m : EntryMsg) (x : Ent) (i : Nat) (s : State), s.runs e false true ∧ m.index.toNat < 0xF000 ∧
    Ent.find m.index.toNat m.sub.toNat = some (x, i) ∧ x.info.acc = .wo) ∧
  (∃ (e : Env) (m : EntryMsg) (x : Ent) (i : Nat) (b : Bytes) (s : State), s.runs e false true ∧ m.index.toNat <
    0xF000 ∧ Ent.find m.index.toNat m.sub.toNat = some (x, i) ∧ x = .savedState ∧ m.body = [] ∧ m.stagedView = false
    ∧ s.savedState i = some b ∧ m.offset < b.length ∧ sessionOf e ≠ 255) :=
  ⟨⟨e0, msg 0x8000 2 [], .parkTimeout, 0, up, (by unfold State.runs; decide +kernel), (by decide +kernel)⟩,
  ⟨e0, { msg 0x8000 2 [] with offset := 4 }, .parkTimeout, 0, up, (by unfold State.runs; decide +kernel),
    (by decide +kernel)⟩,
  ⟨e0,
    { msg 0 0 [] with index := BitVec.ofNat 16 (Ent.eventCount.address 0).1, sub := BitVec.ofNat 8 (Ent.eventCount.address 0).2 },
    .eventCount, 0, [0], up, (by unfold State.runs; decide +kernel), (by decide +kernel)⟩,
  ⟨e0,
    { msg 0 0 [] with index := BitVec.ofNat 16 (Ent.captureState.address 0).1, sub := BitVec.ofNat 8 (Ent.captureState.address 0).2 },
    .captureState, 0, up.setDomain 12 {}, (by unfold State.runs; decide +kernel), (by decide +kernel)⟩,
  ⟨e0, msg 0x2001 7 [], .retrain, 1, up, (by unfold State.runs; decide +kernel), (by decide +kernel)⟩,
  ⟨e0, msg 0x8121 8 [], .savedState, 1, savedIdle, up.wr .jobState 1 2, (by unfold State.runs; decide +kernel),
    (by decide), (by decide +kernel), rfl, rfl, rfl, saved_up, (by rw [saved_length]; decide), (by decide)⟩⟩

/-- States and operands that meet the hypotheses of the clauses of OnlyTwoStops. -/
theorem test_met_OnlyTwoStops :
  (∃ (e : Env) (m : EntryMsg) (s : State), s.runs e false true ∧ 0xF000 ≤ m.index.toNat) ∧
  (∃ (e : Env) (m : EntryMsg) (s : State), s.runs e false false ∧ 0xF000 ≤ m.index.toNat) ∧
  (∃ (s : State), s.running = true ∧ s.recordsInside = false) ∧
  (∃ (c : Instr) (s : State) (f : Fault), exec c s = .fault f) ∧
  (∃ (c : Instr) (s : State) (r : Refusal), exec c s = .refused r) :=
  ⟨⟨e0, msg 0xF000 1 [], up, (by unfold State.runs; decide +kernel), (by decide +kernel)⟩,
  ⟨e0, msg 0xF000 1 [], up, (by unfold State.runs; decide +kernel), (by decide +kernel)⟩,
  ⟨(run.wr .tileWidth 0 4096).wr .tileHeight 0 2048, (by decide +kernel)⟩,
  ⟨.burstCompute 0, big, .quarryOutside, burst_outside⟩,
  ⟨.read e0 (msg 0xF000 1 []), up, .restrictedDiagnostics, restricted_read⟩⟩

/-- States and operands that meet the hypotheses of the clauses of WritesApplyOrStage. -/
theorem test_met_WritesApplyOrStage :
  (∃ (e : Env) (m : EntryMsg) (x : Ent) (i : Nat) (s : State), s.runs e false false ∧ s.still ∧ (∀ v s, writeEff e x
    i v s = plainEff x i v s) ∧ m.index.toNat < 0xF000 ∧ Ent.find m.index.toNat m.sub.toNat = some (x, i) ∧ x.guarded
    = false ∧ x.info.acc = .rw ∧ x.info.cls = .immediate ∧ Machine.EntryMsg.isSegment m = false ∧ (s.session
    (sessionOf e)).seg = none ∧ (x.info.ty.scalar = true → m.body.length = x.info.elt) ∧ m.body.length % x.info.elt =
    0 ∧ s.entryCheck x i (x.info.decode m.body) = none ∧ x.dropCounter = false) ∧
  (∃ (e : Env) (m : EntryMsg) (x : Ent) (i : Nat) (s : State), s.runs e false false ∧ s.still ∧ m.index.toNat <
    0xF000 ∧ Ent.find m.index.toNat m.sub.toNat = some (x, i) ∧ x.guarded = false ∧ x.info.acc = .rw ∧ (x.info.cls =
    .refresh ∨ x.info.cls = .frame) ∧ Machine.EntryMsg.isSegment m = false ∧ (s.session (sessionOf e)).seg = none ∧
    s.stagingHeld (sessionOf e) = false ∧ (x.info.ty.scalar = true → m.body.length = x.info.elt) ∧ m.body.length %
    x.info.elt = 0 ∧ s.entryCheck x i (x.info.decode m.body) = none ∧
    ({ s with mgmt := { s.mgmt with staged := restage (key x i) (x.info.decode m.body) s.mgmt.staged } } :
    State).stagedTotal ≤ 524288) ∧
  (∃ (e : Env) (m : EntryMsg) (x : Ent) (i : Nat) (s : State), s.runs e false false ∧ s.still ∧ m.index.toNat <
    0xF000 ∧ Ent.find m.index.toNat m.sub.toNat = some (x, i) ∧ x.guarded = false ∧ x.info.acc = .rw ∧
    (x.info.ty.scalar = true → m.body.length = x.info.elt) ∧ s.stagingHeld (sessionOf e) = true) ∧
  (∃ (e : Env) (m : EntryMsg) (x : Ent) (i : Nat) (s : State), s.runs e false false ∧ s.still ∧ m.index.toNat <
    0xF000 ∧ Ent.find m.index.toNat m.sub.toNat = some (x, i) ∧ x.guarded = false ∧ x.info.acc = .rw ∧ (x.info.cls =
    .refresh ∨ x.info.cls = .frame) ∧ (x.info.ty.scalar = true → m.body.length = x.info.elt) ∧ s.stagingHeld
    (sessionOf e) = true) ∧
  (∃ (e : Env) (m : EntryMsg) (x : Ent) (i : Nat) (s : State), s.runs e false false ∧ s.still ∧ (∀ v s, writeEff e x
    i v s = plainEff x i v s) ∧ m.index.toNat < 0xF000 ∧ Ent.find m.index.toNat m.sub.toNat = some (x, i) ∧ x.guarded
    = false ∧ x.info.acc = .rw ∧ x.info.cls = .immediate ∧ Machine.EntryMsg.isSegment m = false ∧ (s.session
    (sessionOf e)).seg = none ∧ s.stagingHeld (sessionOf e) = false ∧ (x.info.ty.scalar = true → m.body.length =
    x.info.elt) ∧ m.body.length % x.info.elt = 0 ∧ s.entryCheck x i (x.info.decode m.body) = none ∧
    ({ s with mgmt := { s.mgmt with staged := restage (key x i) (x.info.decode m.body) s.mgmt.staged } } :
    State).stagedTotal ≤ 524288) :=
  ⟨⟨e0, msg 0x8000 2 [100, 0, 0, 0], .parkTimeout, 0, up, (by unfold State.runs; decide +kernel),
    (by unfold State.still; decide +kernel), (fun _ _ => rfl), (by decide +kernel)⟩,
  ⟨e0, msg 0x8810 2 [7, 0], .dimmer, 0, up, (by unfold State.runs; decide +kernel),
    (by unfold State.still; decide +kernel), (by decide +kernel)⟩,
  ⟨e0, msg 0x8810 2 [7, 0], .dimmer, 0, up.wr .stagingOwner 0 3, (by unfold State.runs; decide +kernel),
    (by unfold State.still; decide +kernel), (by decide +kernel)⟩,
  ⟨e0, msg 0x8810 2 [7, 0], .dimmer, 0, up.wr .stagingOwner 0 3, (by unfold State.runs; decide +kernel),
    (by unfold State.still; decide +kernel), (by decide +kernel)⟩,
  ⟨e0, msg 0x8000 2 [100, 0, 0, 0], .parkTimeout, 0, up, (by unfold State.runs; decide +kernel),
    (by unfold State.still; decide +kernel), (fun _ _ => rfl), (by decide +kernel)⟩⟩

/-- States and operands that meet the hypotheses of the clauses of CommitAndDiscard. -/
theorem test_met_CommitAndDiscard :
  (∃ (e : Env) (b : Bytes) (st : Status) (p : Pend) (late : Bool) (s : State), s.runs e false false ∧ s.still ∧
    b.length = 8 ∧ s.rd .stagingOwner 0 = sessionOf e ∧ (s.session (sessionOf e)).seg = none ∧ sessionOf e ≠ 255 ∧ (∀
    q ∈ s.mgmt.staged, keyClass q.1 = .refresh ∨ keyClass q.1 = .frame) ∧ s.hostCommit (leNat b) = (st, some (p,
    late))) ∧
  (∃ (e : Env) (b : Bytes) (s : State), s.runs e false false ∧ s.still ∧ b.length = 8 ∧ s.rd .stagingOwner 0 = 0xFFFF
    ∧ (s.session (sessionOf e)).seg = none) ∧
  (∃ (e : Env) (s : State), s.runs e false false ∧ (s.session (sessionOf e)).seg = none) ∧
  (∃ (e : Env) (b : Bytes) (st : Status) (s : State), s.runs e false false ∧ s.still ∧ b.length = 8 ∧ s.rd
    .stagingOwner 0 = sessionOf e ∧ (s.session (sessionOf e)).seg = none ∧ (∀ q ∈ s.mgmt.staged, keyClass q.1 =
    .refresh ∨ keyClass q.1 = .frame) ∧ s.hostCommit (leNat b) = (st, none)) :=
  ⟨⟨e0, [0, 0, 0, 0, 0, 0, 0, 0], .ok, { gen := 1, e := 10000000000, values := [(key .dimmer 0, [7])] }, false,
    { cfg.wr .stagingOwner 0 256 with mgmt := { cfg.mgmt with staged := [(key .dimmer 0, [7])] } },
    (by unfold State.runs; decide +kernel), (by unfold State.still; decide +kernel), (by decide +kernel)⟩,
  ⟨e0, [0, 0, 0, 0, 0, 0, 0, 0], up, (by unfold State.runs; decide +kernel), (by unfold State.still; decide +kernel),
    (by decide +kernel)⟩,
  ⟨e0, { cfg.wr .stagingOwner 0 256 with mgmt := { cfg.mgmt with staged := [(key .dimmer 0, [7])] } },
    (by unfold State.runs; decide +kernel), (by decide +kernel)⟩,
  ⟨e0, leBytes 8 100000000000, .range,
    { run.wr .stagingOwner 0 256 with mgmt := { run.mgmt with staged := [(key .dimmer 0, [7])] } },
    (by unfold State.runs; decide +kernel), (by unfold State.still; decide +kernel), (by decide +kernel)⟩⟩

/-- States and operands that meet the hypotheses of the clauses of SequencesAreJudged. -/
theorem test_met_SequencesAreJudged :
  (∃ (e : Env) (s : State), (∃ p, e.via = .izsor p) ∧ s.on 9 = true ∧ e.mode = .unicast ∧ e.channel.val < 255 ∧
    (s.session e.channel).isOpen = true ∧ (s.session e.channel).partner = e.source.toNat ∧ e.seq.toNat = (s.session
    e.channel).lastSeq) ∧
  (∃ (e : Env) (s : State), (∃ p, e.via = .izsor p) ∧ s.on 9 = true ∧ e.mode = .unicast ∧ e.channel.val < 255 ∧
    (s.session e.channel).isOpen = true ∧ (s.session e.channel).partner = e.source.toNat ∧ e.seq.toNat ≠ (s.session
    e.channel).lastSeq ∧ (e.seq.toNat + 65535) % 65536 = (s.session e.channel).lastSeq) ∧
  (∃ (e : Env) (isOpen : Bool) (s : State), (∃ p, e.via = .izsor p) ∧ s.on 9 = true ∧ e.mode = .unicast ∧
    e.channel.val < 255 ∧ (s.session e.channel).isOpen = true ∧ (s.session e.channel).partner = e.source.toNat ∧
    e.seq.toNat ≠ (s.session e.channel).lastSeq ∧ (e.seq.toNat + 65535) % 65536 ≠ (s.session e.channel).lastSeq ∧
    isOpen = false) ∧
  (∃ (e : Env) (s : State), (∃ p, e.via = .izsor p) ∧ s.on 9 = true ∧ e.mode = .unicast ∧ e.channel.val < 255 ∧
    ((s.session e.channel).isOpen = false ∨ (s.session e.channel).partner ≠ e.source.toNat)) ∧
  (∃ (c : Instr) (e : Env) (isOpen : Bool) (isRead : Bool) (s : State), s.atRest ∧ requestOf c = some (e, isOpen,
    isRead) ∧ s.judge e isOpen isRead = .dup) ∧
  (∃ (c : Instr) (e : Env) (isOpen : Bool) (isRead : Bool) (s : State), s.atRest ∧ requestOf c = some (e, isOpen,
    isRead) ∧ s.judge e isOpen isRead = .resend ∧ (s.session (sessionOf e)).kept = some {}) ∧
  (∃ (c : Instr) (e : Env) (isOpen : Bool) (isRead : Bool) (s : State), s.atRest ∧ requestOf c = some (e, isOpen,
    isRead) ∧ s.judge e isOpen isRead = .refuse .session) ∧
  (∃ (c : Instr) (e : Env) (isOpen : Bool) (isRead : Bool) (s : State), s.atRest ∧ requestOf c = some (e, isOpen,
    isRead) ∧ s.judge e isOpen isRead = .run ∧ s.coreFree = false) :=
  ⟨⟨e3 7, up.setSession 3 { isOpen := true, partner := 0xE001, lastSeq := 7 }, ⟨1, rfl⟩, (by decide +kernel)⟩,
  ⟨e3 8, up.setSession 3 { isOpen := true, partner := 0xE001, lastSeq := 7 }, ⟨1, rfl⟩, (by decide +kernel)⟩,
  ⟨e3 9, false, up.setSession 3 { isOpen := true, partner := 0xE001, lastSeq := 7 }, ⟨1, rfl⟩, (by decide +kernel)⟩,
  ⟨e3 9, up, ⟨1, rfl⟩, (by decide +kernel)⟩,
  ⟨.discard (e3 7) [], e3 7, false, false, up.setSession 3
    { isOpen := true, partner := 0xE001, lastSeq := 7, busy := true },
    (by unfold State.atRest State.still; decide +kernel), (by decide +kernel)⟩,
  ⟨.bindContext (e3 7) 5, e3 7, false, false, up.setSession 3
    { isOpen := true, partner := 0xE001, lastSeq := 7, kept := some {} },
    (by unfold State.atRest State.still; decide +kernel), (by decide +kernel)⟩,
  ⟨.eventPop (e3 9), e3 9, false, true, up.setSession 3 { isOpen := true, partner := 0xE001, lastSeq := 7 },
    (by unfold State.atRest State.still; decide +kernel), (by decide +kernel)⟩,
  ⟨.capturePop (e3 7) 1, e3 7, false, true,
    { up.setSession 3 { isOpen := true, partner := 0xE001, lastSeq := 7 } with mgmt := { (up.setSession 3 { isOpen := true, partner := 0xE001, lastSeq := 7 }).mgmt with core := some e0 } },
    (by unfold State.atRest State.still; decide +kernel), (by decide +kernel)⟩⟩

/-- States and operands that meet the hypotheses of the clauses of SpiPort. -/
theorem test_met_SpiPort :
  (∃ (b : Bytes) (m : Bytes) (s : State), s.on 9 = true ∧ sendMessage b false = some m ∧ s.mgmt.spiBusy = false ∧
    s.mgmt.spiReply = none) ∧
  (∃ (b : Bytes) (early : Bool) (s : State), s.on 9 = true ∧ (sendMessage b early = none ∨ s.mgmt.spiBusy = true ∨
    s.mgmt.spiReply ≠ none)) ∧
  (∃ (r : Option Bytes) (s : State), s.on 9 = true ∧ s.mgmt.spiReply = r ∧ s.mgmt.resetDue = false) ∧
  (∃ (s : State), s.on 9 = true) ∧
  (∃ (s : State), s.on 9 = false) :=
  ⟨⟨sendB, good, up, (by decide +kernel)⟩,
  ⟨[], false, up, (by decide +kernel)⟩,
  ⟨some [1, 2], { up with mgmt := { spiReply := some [1, 2] } }, (by decide +kernel)⟩,
  ⟨up, (by decide +kernel)⟩,
  ⟨{}, (by decide +kernel)⟩⟩

/-- States and operands that meet the hypotheses of the clauses of EventsAreKept. -/
theorem test_met_EventsAreKept :
  (∃ (e : Env) (x : EventRec) (l : List EventRec) (s : State), s.runs e false true ∧ sessionOf e ≠ 255 ∧
    s.mgmt.events = x :: l ∧ s.aon.coal = []) ∧
  (∃ (e : Env) (s : State), s.runs e false true ∧ s.mgmt.events = []) ∧
  (∃ (s : State), s.rd .eventsRaised 0 < 0xFFFFFFFF ∧ s.rd .eventsCoalesced 0 < 0xFFFFFFFF) :=
  ⟨⟨e0, {}, [], { up with mgmt := { events := [{}] } }, (by unfold State.runs; decide +kernel), (by decide +kernel)⟩,
  ⟨e0, up, (by unfold State.runs; decide +kernel), (by decide +kernel)⟩,
  ⟨up, (by decide +kernel)⟩⟩

/-- States and operands that meet the hypotheses of the clauses of HostResetFollowsItsReply. -/
theorem test_met_HostResetFollowsItsReply :
  (∃ (e : Env) (s : State), s.mayWrite e .reset 0 [1] ∧ e.via = .spi ∧ s.secure.ops = [] ∧ s.mgmt.unassignDue =
    false) ∧
  (∃ (e : Env) (s : State), s.mayWrite e .reset 0 [0] ∧ s.still) ∧
  (∃ (n : Nat) (b : Bytes) (s : State), s.on 9 = true ∧ s.mgmt.spiReply = some b ∧ b.length + 4 ≤ n ∧ s.mgmt.resetDue
    = true ∧ (∀ p : Fin 4, (s.port p).queue = []) ∧ s.boot.phase ≠ .held) :=
  ⟨⟨e0, up, (by unfold State.mayWrite State.runs; decide +kernel), (by decide +kernel)⟩,
  ⟨e0, up, (by unfold State.mayWrite State.runs; decide +kernel), (by unfold State.still; decide +kernel)⟩,
  ⟨30, [1], { up with mgmt := { spiReply := some [1], resetDue := true } }, (by decide +kernel)⟩⟩

/-- States and operands that meet the hypotheses of the clauses of TransfersOpenAndEnd. -/
theorem test_met_TransfersOpenAndEnd :
  (∃ (e : Env) (v : Bytes) (k : Nat) (x : Xfer) (s : State), s.mayWrite e .transferOpen 0 v ∧ s.secure.ops = [] ∧
    openFields (Ent.transferOpen.info.decode v) = (k, x, true) ∧ s.openCheck (sessionOf e) k x true = none ∧ (x.kind
    ≤ 5 ∨ x.out = true)) ∧
  (∃ (e : Env) (v : Bytes) (k : Nat) (x : Xfer) (s : State), s.mayWrite e .transferOpen 0 v ∧ s.secure.ops = [] ∧
    openFields (Ent.transferOpen.info.decode v) = (k, x, true) ∧ s.openCheck (sessionOf e) k x true = none ∧ (x.kind
    = 6 ∨ x.kind = 7) ∧ x.out = false ∧ s.windowOpen = false) ∧
  (∃ (e : Env) (v : Bytes) (k : Nat) (x : Xfer) (g : Bool) (st : Status) (s : State), s.mayWrite e .transferOpen 0 v
    ∧ s.secure.ops = [] ∧ openFields (Ent.transferOpen.info.decode v) = (k, x, g) ∧ s.openCheck (sessionOf e) k x g =
    some st) ∧
  (∃ (e : Env) (k : Fin 16) (s : State), s.mayWrite e .transferAbort 0 [BitVec.ofNat 8 k] ∧ s.secure.ops = []) ∧
  (∃ (k : Fin 16) (s : State), s.on 9 = true ∧ s.rd .transferState k = 1 ∧ s.secure.ops = [] ∧ (s.xfer k).since + ms
    (s.rd .transferTimeout 0) ≤ s.aon.mono) :=
  ⟨⟨e0, openV 2 0 0 4 3 0 100, 2, { kind := 4, handle := 3, length := 100, co := { op := 2 } }, buf3,
    (by unfold State.mayWrite State.runs; decide +kernel), (by decide +kernel)⟩,
  ⟨e0, openV 2 0 0 7 0 0 100, 2, { kind := 7, length := 100, co := { op := 2 } }, up,
    (by unfold State.mayWrite State.runs; decide +kernel), (by decide +kernel)⟩,
  ⟨e0, openV 2 0 0 4 3 0 0, 2, { kind := 4, handle := 3, co := { op := 2 } }, true, .range, buf3,
    (by unfold State.mayWrite State.runs; decide +kernel), (by decide +kernel)⟩,
  ⟨e0, 2, xin, (by unfold State.mayWrite State.runs; decide +kernel), (by decide +kernel)⟩,
  ⟨2, xin, (by decide +kernel)⟩⟩

/-- States and operands that meet the hypotheses of the clauses of BulkPacketsPass. -/
theorem test_met_BulkPacketsPass :
  (∃ (src : BitVec 16) (ch : BitVec 16) (sq : BitVec 16) (p : Bytes) (s : State), s.on 9 = true ∧ ch.toNat ≤ 15 ∧
    s.rd .transferState ch.toNat = 1 ∧ (s.xfer ch.toNat).out = false ∧ (s.xfer ch.toNat).peer = src.toNat ∧ sq.toNat
    = (s.xfer ch.toNat).next ∧ sq.toNat ≠ 0xFFFF ∧ 4 ≤ p.length ∧ field p 0 4 + (p.drop 4).length ≤ (s.xfer
    ch.toNat).length ∧ (s.xfer ch.toNat).coded = false ∧ (s.xfer ch.toNat).kind = 4 ∧ s.targetOn (s.xfer ch.toNat) =
    true ∧ s.secure.ops = []) ∧
  (∃ (src : BitVec 16) (ch : BitVec 16) (sq : BitVec 16) (s : State), s.on 9 = true ∧ ch.toNat ≤ 15 ∧ s.rd
    .transferState ch.toNat = 1 ∧ (s.xfer ch.toNat).out = false ∧ (s.xfer ch.toNat).peer = src.toNat ∧ sq.toNat ≠
    (s.xfer ch.toNat).next ∧ sq.toNat ≠ 0xFFFF ∧ (s.xfer ch.toNat).gap = none) ∧
  (∃ (k : Fin 16) (r : Fin 4) (g : Nat) (s : State), s.on 9 = true ∧ s.rd .transferState k = 1 ∧ (s.xfer k).gap =
    some g ∧ g + us 100 ≤ s.aon.mono ∧ (s.xfer k).peer < 0x1000 ∧ s.rdn .routeTable 0 (s.xfer k).peer % 8 = r ∧
    queueRoom (s.port r).queue
    ({ cls := 3, mode := .unicast, hop := Config.originHop.toNat, dest := (s.xfer k).peer, source := s.rd .deviceAddress 0, channel := k, seq := 0xFFFF, payload := leBytes 2 (s.xfer k).next ++ leBytes 2 32 ++ [0, 0, 0, 0] }
    : Packet) = true ∧ s.active r = true) ∧
  (∃ (k : Fin 16) (r : Fin 4) (s : State), s.on 9 = true ∧ s.rd .transferState k = 1 ∧ (s.xfer k).out = true ∧
    (s.xfer k).kind = 4 ∧ s.targetOn (s.xfer k) = true ∧ (s.xfer k).next < (s.xfer k).acked + (s.xfer k).credit ∧
    4092 * (s.xfer k).next < (s.xfer k).length ∧ (s.xfer k).peer < 0x1000 ∧ s.rdn .routeTable 0 (s.xfer k).peer % 8 =
    r ∧ queueRoom (s.port r).queue
    ({ cls := 3, mode := .unicast, hop := Config.originHop.toNat, dest := (s.xfer k).peer, source := s.rd .deviceAddress 0, channel := k, seq := (s.xfer k).next, payload := leBytes 4 (4092 * (s.xfer k).next) ++ (s.rangeRead 4 (s.xfer k).handle ((s.xfer k).offset + 4092 * (s.xfer k).next) (min 4092 ((s.xfer k).length - 4092 * (s.xfer k).next))) }
    : Packet) = true ∧ s.active r = true) ∧
  (∃ (k : Fin 16) (src : BitVec 16) (p : Bytes) (s : State), s.on 9 = true ∧ s.rd .transferState k = 1 ∧ (s.xfer
    k).out = true ∧ (s.xfer k).peer = src.toNat ∧ p.length = 8 ∧ field p 0 2 ≤ (s.xfer k).next ∧ (s.xfer k).acked ≤
    field p 0 2) :=
  ⟨⟨0xE001, 2, 0, [0, 0, 0, 0, 7, 8], xin, (by decide +kernel)⟩,
  ⟨0xE001, 2, 4, xin, (by decide +kernel)⟩,
  ⟨2, 1, 0, xout.setXfer 2 { peer := 7, gap := some 0 }, (by decide +kernel)⟩,
  ⟨2, 1, xout, (by decide +kernel)⟩,
  ⟨2, 7, [0, 0, 32, 0, 0, 0, 0, 0], xout, (by decide +kernel)⟩⟩

/-- States and operands that meet the hypotheses of the clauses of ShaleJobs. -/
theorem test_met_ShaleJobs :
  (∃ (e : Env) (j : Fin 4) (s : State), s.mayWrite e .jobCommand j [1] ∧ s.rd .jobState j = 0 ∧ s.jobCheck j = none) ∧
  (∃ (e : Env) (j : Fin 4) (s : State), s.mayWrite e .jobCommand j [2] ∧ s.rd .jobState j = 2 ∧ s.jobCheck j = none) ∧
  (∃ (e : Env) (j : Fin 4) (s : State), s.mayWrite e .jobCommand j [3]) ∧
  (∃ (e : Env) (j : Fin 4) (s : State), s.mayWrite e .jobCommand j [1] ∧ s.rd .jobState j = 0 ∧ s.jobCheck j = some
    .range) ∧
  (∃ (e : Env) (j : Fin 4) (s : State), s.mayWrite e .jobCommand j [1]) ∧
  (∃ (e : Env) (j : Fin 4) (m : EntryMsg) (g : SegXfer) (s : State), s.runs e false false ∧ s.still ∧ (s.session
    (sessionOf e)).seg = some g ∧ g.staged = false ∧ g.index = (Ent.savedState.address j).1 ∧ g.sub =
    (Ent.savedState.address j).2 ∧ m.segFirst = false ∧ m.segLast = true ∧ m.total = g.total ∧ m.offset =
    g.data.length ∧ (g.data ++ m.body : Bytes).length = g.total ∧ 0 < g.total ∧ s.rd .jobState j = 0) ∧
  (∃ (e : Env) (j : Fin 4) (m : EntryMsg) (g : SegXfer) (s : State), s.runs e false false ∧ s.still ∧ (s.session
    (sessionOf e)).seg = some g ∧ g.staged = false ∧ g.index = (Ent.savedState.address j).1 ∧ g.sub =
    (Ent.savedState.address j).2 ∧ m.segFirst = false ∧ m.segLast = true ∧ m.total = g.total ∧ m.offset =
    g.data.length ∧ (g.data ++ m.body : Bytes).length = g.total ∧ 0 < g.total ∧ s.rd .jobState j ≠ 0) ∧
  (∃ (e : Env) (j : Fin 4) (m : EntryMsg) (g : SegXfer) (s : State), s.runs e false false ∧ s.still ∧ (s.session
    (sessionOf e)).seg = some g ∧ g.staged = false ∧ g.index = (Ent.savedState.address j).1 ∧ g.sub =
    (Ent.savedState.address j).2 ∧ m.segFirst = false ∧ m.segLast = false ∧ m.total = g.total ∧ m.offset =
    g.data.length ∧ m.offset + m.body.length < g.total) ∧
  (∃ (e : Env) (m : EntryMsg) (s : State), s.runs e false false ∧ s.still ∧ m.segFirst = false ∧ m.segLast = false ∧
    m.total = 0 ∧ m.offset = 0 ∧ m.body.length ≠ 65600 ∧ (s.session (sessionOf e)).seg = none) ∧
  (∃ (e : Env) (m : EntryMsg) (s : State), s.runs e false false ∧ s.still ∧ m.segFirst = false ∧ m.segLast = false ∧
    m.total = 0 ∧ m.offset = 0 ∧ m.body.length ≠ 65600 ∧ (s.session (sessionOf e)).seg = none) ∧
  (∃ (e : Env) (j : Fin 4) (m : EntryMsg) (g : SegXfer) (b : Bytes) (s : State), s.runs e false false ∧ (s.session
    (sessionOf e)).seg = some g ∧ g.staged = false ∧ g.index = (Ent.savedState.address j).1 ∧ g.sub =
    (Ent.savedState.address j).2 ∧ m.segFirst = false ∧ m.segLast = true ∧ m.total = g.total ∧ m.offset =
    g.data.length ∧ b = g.data ++ m.body ∧ b.length = g.total ∧ 0 < g.total ∧ s.still ∧ s.rd .jobState j = 0 ∧
    slotFieldsOk b = true ∧ slotRecordOk b = true) ∧
  (∃ (e : Env) (j : Fin 4) (m : EntryMsg) (g : SegXfer) (b : Bytes) (s : State), s.runs e false false ∧ (s.session
    (sessionOf e)).seg = some g ∧ g.staged = false ∧ g.index = (Ent.savedState.address j).1 ∧ g.sub =
    (Ent.savedState.address j).2 ∧ m.segFirst = false ∧ m.segLast = true ∧ m.total = g.total ∧ m.offset =
    g.data.length ∧ b = g.data ++ m.body ∧ b.length = g.total ∧ 0 < g.total ∧ s.still ∧ s.rd .jobState j = 0 ∧
    slotFieldsOk b = true ∧ slotRecordOk b = false) :=
  ⟨⟨e0, 1, job0, (by unfold State.mayWrite State.runs; decide +kernel), (by decide +kernel)⟩,
  ⟨e0, 1, job0.wr .jobState 1 2, (by unfold State.mayWrite State.runs; decide +kernel), (by decide +kernel)⟩,
  ⟨e0, 1, job0.wr .jobState 1 2, (by unfold State.mayWrite State.runs; decide +kernel)⟩,
  ⟨e0, 1, up, (by unfold State.mayWrite State.runs; decide +kernel), (by decide +kernel)⟩,
  ⟨e0, 1, up.wr .jobState 1 3, (by unfold State.mayWrite State.runs; decide +kernel)⟩,
  ⟨e0, 1, { msg 0 0 [2] with segLast := true, total := 2, offset := 1 }, segS 2 [1], segged 2 [1],
    (by unfold State.runs; decide +kernel), (by unfold State.still; decide +kernel), (by decide +kernel)⟩,
  ⟨e0, 1, { msg 0 0 [2] with segLast := true, total := 2, offset := 1 }, segS 2 [1], (segged 2 [1]).wr .jobState 1 1,
    (by unfold State.runs; decide +kernel), (by unfold State.still; decide +kernel), (by decide +kernel)⟩,
  ⟨e0, 1, { msg 0 0 [2] with segLast := false, total := 3, offset := 1 }, segS 3 [1], segged 3 [1],
    (by unfold State.runs; decide +kernel), (by unfold State.still; decide +kernel), (by decide +kernel)⟩,
  ⟨e0, msg 0 0 [], up.wr .jobState 1 3, (by unfold State.runs; decide +kernel),
    (by unfold State.still; decide +kernel), (by decide +kernel)⟩,
  ⟨e0, msg 0 0 [], up, (by unfold State.runs; decide +kernel), (by unfold State.still; decide +kernel),
    (by decide +kernel)⟩,
  ⟨e0, 1, lastSeg savedIdle, segS 65600 (savedIdle.take 65000), savedIdle, segged 65600 (savedIdle.take 65000),
    (last_segment savedIdle saved_length).1, (last_segment savedIdle saved_length).2.1, rfl, (by decide +kernel),
    (by decide +kernel), rfl, rfl, rfl, (last_segment savedIdle saved_length).2.2.1, (last_segment savedIdle
    saved_length).2.2.2.1, saved_length, (by decide), (last_segment savedIdle saved_length).2.2.2.2.1, (last_segment
    savedIdle saved_length).2.2.2.2.2, saved_fields, saved_good⟩,
  ⟨e0, 1, lastSeg savedBad, segS 65600 (savedBad.take 65000), savedBad, segged 65600 (savedBad.take 65000),
    (last_segment savedBad bad_length).1, (last_segment savedBad bad_length).2.1, rfl, (by decide +kernel),
    (by decide +kernel), rfl, rfl, rfl, (last_segment savedBad bad_length).2.2.1, (last_segment savedBad
    bad_length).2.2.2.1, bad_length, (by decide), (last_segment savedBad bad_length).2.2.2.2.1, (last_segment
    savedBad bad_length).2.2.2.2.2, bad_fields, bad_record⟩⟩

/-- States and operands that meet the hypotheses of the clauses of ShaleBlocksAndArchive. -/
theorem test_met_ShaleBlocksAndArchive :
  (∃ (j : Fin 4) (s : State), s.rd .jobState j ≠ 1) ∧
  (∃ (j : Fin 4) (c : Coder) (s : State), s.alive 8 = true ∧ s.rd .jobState j = 1 ∧ (s.job j).co = c ∧ s.rangeOn
    (s.spec j).kind (s.spec j).handle = true ∧ (s.spec j).outs.all s.bufOn = true ∧ c.op = 1 ∧ c.phase = 6) ∧
  (∃ (j : Fin 4) (c : Coder) (d : Coder) (w : Bytes) (n : Nat) (s : State), s.alive 8 = true ∧ s.rd .jobState j = 1 ∧
    (s.job j).co = c ∧ s.rangeOn (s.spec j).kind (s.spec j).handle = true ∧ (s.spec j).outs.all s.bufOn = true ∧ c.op
    = 1 ∧ c.word (Config.shaleChoice (s.scanJob j : State).draws) ((s.scanJob j : State).rangeRead (s.spec j).kind
    (s.spec j).handle ((s.spec j).off + c.inDone) (min 4096 ((s.spec j).len - c.inDone))) = some (w, d, n) ∧ (s.spec
    j).len ≤ c.outDone + w.length) ∧
  (∃ (j : Fin 4) (c : Coder) (s : State), s.alive 8 = true ∧ s.rd .jobState j = 1 ∧ (s.job j).co = c ∧ s.rangeOn
    (s.spec j).kind (s.spec j).handle = true ∧ (s.spec j).outs.all s.bufOn = true ∧ c.op = 2) ∧
  (∃ (j : Fin 4) (c : Coder) (s : State), s.alive 8 = true ∧ s.rd .jobState j = 1 ∧ (s.job j).co = c ∧ s.rangeOn
    (s.spec j).kind (s.spec j).handle = true ∧ (s.spec j).outs.all s.bufOn = true ∧ c.op = 2) ∧
  (∃ (h : Bytes), h.length = 8 ∧ (field h 0 2 ≠ 0x4853 ∨ field h 2 1 ≠ 1 ∨ field h 3 1 ≠ 0 ∨ field h 4 4 = 0 ∨
    37748736 < field h 4 4)) ∧
  (∃ (b : Bytes) (k : Nat) (room : Nat) (lim : Nat), 1 ≤ b.length ∧ b.length ≤ 128 ∧ b.length ≤ room ∧ b.length ≤ lim
    ∧ k % 4294967296 ≠ crc32 b) ∧
  (∃ (b : Bytes) (k : Nat) (room : Nat) (lim : Nat), 1 ≤ b.length ∧ b.length ≤ 128 ∧ b.length ≤ room ∧ b.length ≤ lim
    ∧ k % 4294967296 = crc32 b) ∧
  (∃ (d : Dec) (dist : Nat), d.err = none ∧ d.co.outDone < dist) ∧
  (∃ (d : Dec) (len : Nat) (dist : Nat), d.err = none ∧ dist ≤ d.co.outDone ∧ d.co.decoded < d.co.outDone + len) ∧
  (∃ (d : Dec) (len : Nat) (dist : Nat), d.err = none ∧ 1 ≤ len ∧ dist ≤ d.co.outDone ∧ d.co.outDone + len ≤
    d.co.decoded ∧ 0 < d.room ∧ d.full = false) ∧
  (∃ (s : State), s.on 8 = true ∧ s.on 10 = true ∧ s.storeOn 0 = true ∧ s.slotUsed 7 = false ∧ s.power.coefGone =
    true ∧ s.rd .archiveAutoLoad 0 = 1 ∧ (s.inForce 4).isSome = true) :=
  ⟨⟨1, up, (by decide +kernel)⟩,
  ⟨1, { op := 1, phase := 6, outDone := 20 }, (job0.wr .jobState 1 1).setJob 1
    { co := { op := 1, phase := 6, outDone := 20 } }, (by decide +kernel)⟩,
  ⟨1, { op := 1 }, { op := 1, phase := 1, outDone := 8 }, shaleHeader 0, 0, ((job0.wrv .jobSpec 1 ((specV 1 4 3 0 8 0
    [4, 0xFFFF, 0xFFFF, 0xFFFF, 0xFFFF, 0xFFFF, 0xFFFF, 0xFFFF]).map BitVec.toNat)).wr .jobState 1 1).setJob 1
    { co := { op := 1 } }, (by decide +kernel)⟩,
  ⟨1, { op := 2 }, job2 100, (by decide +kernel)⟩,
  ⟨1, { op := 2 }, job2 4, (by decide +kernel)⟩,
  ⟨List.replicate 8 0, (by decide +kernel)⟩,
  ⟨[7], 0, 9, 9, (by decide +kernel)⟩,
  ⟨[7], crc32 [7], 9, 9, (by decide +kernel)⟩,
  ⟨{ co := {}, inp := [], room := 1 }, 1, (by decide +kernel)⟩,
  ⟨{ co := { outDone := 2 }, inp := [], room := 1 }, 1, 1, (by decide +kernel)⟩,
  ⟨{ co := { outDone := 2, decoded := 9 }, inp := [], room := 1 }, 1, 1, (by decide +kernel)⟩,
  ⟨{ (warm.wr .archiveAutoLoad 0 1) with power := { warm.power with coefGone := true }, secure := { mram := bank 4 [1, 2, 3] } },
    (by decide +kernel)⟩⟩

/-- States and operands that meet the hypotheses of the clauses of StoreWritesLines. -/
theorem test_met_StoreWritesLines :
  (∃ (e : Env) (s : State), s.runs e false false ∧ s.still ∧ s.settingsPayload.length + 64 ≤ 262144 ∧ s.on 10 = true
    ∧ s.secure.stores = [] ∧ s.windowOpen = true) ∧
  (∃ (e : Env) (s : State), s.runs e false false ∧ s.still ∧ s.settingsPayload.length + 64 ≤ 262144 ∧ s.on 10 = true
    ∧ s.secure.stores = [] ∧ s.windowOpen = false) ∧
  (∃ (e : Env) (b : Bytes) (s : State), s.runs e false false ∧ s.still ∧ s.secure.stores = [] ∧ b.length = 1) ∧
  (∃ (e : Env) (b : Bytes) (s : State), s.runs e false false ∧ s.still ∧ s.secure.stores = [] ∧ b.length = 1) ∧
  (∃ (o : NvmOp) (l : Line) (m : Line) (q : List Line) (s : State), s.on 10 = true ∧ s.windowOpen = true ∧
    s.secure.ops = [o] ∧ o.started = true ∧ o.fresh = false ∧ o.kind ≠ .clear ∧ o.lines = l :: m :: q) ∧
  (∃ (o : NvmOp) (k : Nat) (s : State), s.on 10 = true ∧ s.windowOpen = true ∧ s.secure.ops = [o] ∧ o.started = true
    ∧ o.fresh = false ∧ o.kind = .clear ∧ o.names = [k] ∧ k < 65536) ∧
  (∃ (o : NvmOp) (w : Waiter) (a : Nat) (s : State), s.on 10 = true ∧ s.windowOpen = false ∧ s.secure.ops = [o] ∧
    o.heldAt = some a ∧ a + ms (s.rd .storeHoldLimit 0) ≤ s.aon.mono ∧ o.kind = .owner ∧ o.names = [1] ∧ o.started =
    false ∧ o.fresh = false ∧ o.lines ≠ [] ∧ o.who = some w ∧ (s.session (sessionOf w.env)).busy = true ∧ (s.session
    (sessionOf w.env)).lastSeq = w.env.seq.toNat ∧ (sessionOf w.env = 256 ∨ (s.session (sessionOf w.env)).partner =
    w.env.source.toNat)) ∧
  (∃ (o : NvmOp) (k : Nat) (s : State), s.on 10 = true ∧ s.windowOpen = true ∧ s.secure.ops = [o] ∧ o.started = true
    ∧ o.fresh = false ∧ o.kind = .clear ∧ o.names = [k] ∧ k < 65536 ∧ slotGood (s.boxSlot k) = true ∧ field
    (s.boxSlot k) 4 1 = 2 ∧ (s.rdv .frozenHeads 0).length ≤ 8) :=
  ⟨⟨e0, warm, (by unfold State.runs; decide +kernel), (by unfold State.still; decide +kernel), payload_fits,
    (by decide +kernel)⟩,
  ⟨e0, up, (by unfold State.runs; decide +kernel), (by unfold State.still; decide +kernel), payload_fits_up,
    (by decide +kernel)⟩,
  ⟨e0, [0], up, (by unfold State.runs; decide +kernel), (by unfold State.still; decide +kernel), (by decide +kernel)⟩,
  ⟨e0, [9], up, (by unfold State.runs; decide +kernel), (by unfold State.still; decide +kernel), (by decide +kernel)⟩,
  ⟨{ fresh := false, started := true, lines := [{ addr := 64, data := List.replicate 64 5 }, { addr := 64, data := List.replicate 64 5 }] },
    { addr := 64, data := List.replicate 64 5 }, { addr := 64, data := List.replicate 64 5 }, [],
    { warm with secure := { ops := [{ fresh := false, started := true, lines := [{ addr := 64, data := List.replicate 64 5 }, { addr := 64, data := List.replicate 64 5 }] }] } },
    (by decide +kernel)⟩,
  ⟨{ kind := .clear, fresh := false, started := true, names := [9] }, 9,
    { warm with secure := { ops := [{ kind := .clear, fresh := false, started := true, names := [9] }] } },
    (by decide +kernel)⟩,
  ⟨{ kind := .owner, fresh := false, names := [1], lines := [{ addr := 64, data := List.replicate 64 5 }], who := some { opcode := 2 }, heldAt := some 0 },
    { opcode := 2 }, 0,
    { up.setSession 256 { isOpen := true, busy := true } with secure := { ops := [{ kind := .owner, fresh := false, names := [1], lines := [{ addr := 64, data := List.replicate 64 5 }], who := some { opcode := 2 }, heldAt := some 0 }], held := some 0 } },
    (by decide +kernel)⟩,
  ⟨{ kind := .clear, fresh := false, started := true, names := [9] }, 9, headed, (by decide +kernel)⟩⟩

/-- States and operands that meet the hypotheses of the clauses of RestoreStages. -/
theorem test_met_RestoreStages :
  (∃ (e : Env) (a : Fin 2) (s : State), s.runs e false false ∧ s.still ∧ s.on 10 = true ∧ s.stagingHeld (sessionOf e)
    = false ∧ (s.inForce (a + 1)).isSome = true) ∧
  (∃ (e : Env) (a : Fin 2) (s : State), s.runs e false false ∧ s.still ∧ s.on 10 = true ∧ s.stagingHeld (sessionOf e)
    = false ∧ (s.inForce (a + 1)).isSome = true) ∧
  (∃ (e : Env) (a : Fin 2) (s : State), s.runs e false false ∧ s.still ∧ s.on 10 = true ∧ s.stagingHeld (sessionOf e)
    = false ∧ s.inForce (a + 1) = none) ∧
  (∃ (e : Env) (s : State), s.runs e false false ∧ s.still ∧ s.on 10 = true ∧ s.on 8 = true ∧ s.storeOn 0 = true ∧
    s.slotUsed 7 = false ∧ (s.inForce 4).isSome = true) :=
  ⟨⟨e0, 0, { warm with secure := { mram := bank 1 (recordBytes .dimmer 0 [7]) } },
    (by unfold State.runs; decide +kernel), (by unfold State.still; decide +kernel), (by decide +kernel)⟩,
  ⟨e0, 1, { warm with secure := { mram := bank 2 (recordBytes .adcOffset 0 [7]) } },
    (by unfold State.runs; decide +kernel), (by unfold State.still; decide +kernel), (by decide +kernel)⟩,
  ⟨e0, 0, warm, (by unfold State.runs; decide +kernel), (by unfold State.still; decide +kernel), (by decide +kernel)⟩,
  ⟨e0, { warm with secure := { mram := bank 4 [1, 2, 3] } }, (by unfold State.runs; decide +kernel),
    (by unfold State.still; decide +kernel), (by decide +kernel)⟩⟩

/-- States and operands that meet the hypotheses of the clauses of BlackBoxKeepsRecords. -/
theorem test_met_BlackBoxKeepsRecords :
  (∃ (k : Nat) (r : EventRec) (q : List (Nat × EventRec)) (s : State), s.on 10 = true ∧ s.secure.bbScanned = true ∧
    s.recordsFlow = true ∧ s.windowOpen = true ∧ s.secure.ops = [] ∧ s.secure.bbQueue = (k, r) :: q ∧ k ≠ 2 ∧
    s.aon.bbCoal = [] ∧ s.secure.bbAt + us 500 ≤ s.aon.mono) ∧
  (∃ (s : State), s.on 10 = true ∧ s.secure.bbScanned = false) ∧
  (∃ (s : State), s.on 10 = true ∧ s.secure.bbScanned = false) ∧
  (∃ (e : Env) (v : Bytes) (n : Nat) (s : State), s.mayWrite e .headRelease 0 v ∧ Ent.headRelease.info.decode v = [n]
    ∧ s.on 10 = true ∧ s.secure.bbQueue.length < 256 ∧ s.aon.bbCoal = []) ∧
  (∃ (e : Env) (v : Bytes) (n : Nat) (s : State), s.mayWrite e .headRelease 0 v ∧ Ent.headRelease.info.decode v = [n]
    ∧ s.on 10 = true ∧ s.secure.bbQueue.length < 256 ∧ s.aon.bbCoal = []) ∧
  (∃ (e : Env) (s : State), s.mayWrite e .blackBoxClear 0 [1] ∧ s.on 10 = true ∧ s.windowOpen = true ∧ s.secure.ops =
    []) ∧
  (∃ (e : Env) (s : State), s.mayWrite e .blackBoxClear 0 [0] ∧ s.secure.ops = []) :=
  ⟨⟨1, {}, [], { warm with secure := { bbScanned := true, bbQueue := [(1, {})] } }, (by decide +kernel)⟩,
  ⟨warm, (by decide +kernel)⟩,
  ⟨{ warm with secure := { mram := SMap.write [] boxBase (warm.recordLine 9 1 {}) } }, (by decide +kernel)⟩,
  ⟨e0, [7, 0, 0, 0], 7, (warm.wrv .frozenHeads 0 [7, 8, 0xFFFFFFFF, 0xFFFFFFFF, 0xFFFFFFFF, 0xFFFFFFFF, 0xFFFFFFFF,
    0xFFFFFFFF]), (by unfold State.mayWrite State.runs; decide +kernel), (by decide +kernel)⟩,
  ⟨e0, [9, 0, 0, 0], 9, (warm.wrv .frozenHeads 0 [7, 8, 0xFFFFFFFF, 0xFFFFFFFF, 0xFFFFFFFF, 0xFFFFFFFF, 0xFFFFFFFF,
    0xFFFFFFFF]), (by unfold State.mayWrite State.runs; decide +kernel), (by decide +kernel)⟩,
  ⟨e0, warm, (by unfold State.mayWrite State.runs; decide +kernel), (by decide +kernel)⟩,
  ⟨e0, warm, (by unfold State.mayWrite State.runs; decide +kernel), (by decide +kernel)⟩⟩

/-- States and operands that meet the hypotheses of the clauses of OwnerAndTokens. -/
theorem test_met_OwnerAndTokens :
  (∃ (e : Env) (v : Bytes) (s : State), s.mayWrite e .ownerEnrol 0 v ∧ s.secure.ops = [] ∧ s.on 10 = true ∧
    s.windowOpen = true ∧ s.claimed = true) ∧
  (∃ (e : Env) (v : Bytes) (s : State), s.mayWrite e .ownerEnrol 0 v ∧ s.secure.ops = [] ∧ s.on 10 = true ∧
    s.windowOpen = true ∧ s.claimed = false ∧ isPoint v = false) ∧
  (∃ (e : Env) (v : Bytes) (s : State), s.mayWrite e .ownerEnrol 0 v ∧ s.secure.ops = [] ∧ s.on 10 = true ∧
    s.windowOpen = true ∧ s.claimed = false ∧ isPoint v = true) ∧
  (∃ (e : Env) (s : State), s.runs e false true ∧ s.on 10 = true ∧ sessionOf e ≠ 255) ∧
  (∃ (e : Env) (v : Bytes) (s : State), s.mayWrite e .ownerToken 0 v ∧ s.secure.ops = [] ∧ field v 2 1 = 1 ∧
    s.tokenFault v (s.session (sessionOf e)).challenge = some .auth) ∧
  (∃ (e : Env) (v : Bytes) (s : State), s.mayWrite e .ownerToken 0 v ∧ s.secure.ops = [] ∧ s.on 10 = true ∧
    s.windowOpen = true ∧ field v 2 1 = 2 ∧ s.tokenFault v (s.session (sessionOf e)).challenge = some .auth) ∧
  (∃ (e : Env) (v : Bytes) (s : State), s.mayWrite e .ownerToken 0 v ∧ s.secure.ops = [] ∧ s.on 10 = true ∧
    s.windowOpen = true ∧ field v 2 1 = 3 ∧ s.tokenFault v (s.session (sessionOf e)).challenge = some .auth) :=
  ⟨⟨e0, List.replicate 64 1, owned, (by unfold State.mayWrite State.runs; decide +kernel), (by decide +kernel)⟩,
  ⟨e0, List.replicate 64 0, warm, (by unfold State.mayWrite State.runs; decide +kernel), (by decide +kernel)⟩,
  ⟨e0, beBytes 32 g256.1 ++ beBytes 32 g256.2, warm, (by unfold State.mayWrite State.runs; decide +kernel),
    (by decide +kernel)⟩,
  ⟨e0, warm, (by unfold State.runs; decide +kernel), (by decide +kernel)⟩,
  ⟨e0, [1, 0, 1, 0] ++ List.replicate 176 0, warm, (by unfold State.mayWrite State.runs; decide +kernel),
    (by decide +kernel)⟩,
  ⟨e0, [1, 0, 2, 0] ++ List.replicate 176 0, warm, (by unfold State.mayWrite State.runs; decide +kernel),
    (by decide +kernel)⟩,
  ⟨e0, [1, 0, 3, 0] ++ List.replicate 176 0, warm, (by unfold State.mayWrite State.runs; decide +kernel),
    (by decide +kernel)⟩⟩

/-- States and operands that meet the hypotheses of the clauses of FirmwareAndAttestation. -/
theorem test_met_FirmwareAndAttestation :
  (∃ (e : Env) (k : Fin 2) (s : State), s.mayWrite e .firmwareActivate 0 [BitVec.ofNat 8 k] ∧ s.secure.ops = [] ∧
    s.on 10 = true ∧ s.windowOpen = true ∧ (k.val = s.secure.running ∨ s.secure.slotSt.getD k 0 ≠ 2)) ∧
  (∃ (e : Env) (k : Fin 2) (s : State), s.mayWrite e .firmwareActivate 0 [BitVec.ofNat 8 k] ∧ s.secure.ops = [] ∧
    s.on 10 = true ∧ s.windowOpen = true ∧ k.val ≠ s.secure.running ∧ s.secure.slotSt.getD k 0 = 2 ∧ s.secure.fuses ≤
    leNat (s.mramRead (k * 3145728 + 7) 1)) ∧
  (∃ (e : Env) (s : State), s.mayWrite e .firmwareConfirm 0 [1] ∧ s.secure.ops = [] ∧ s.on 10 = true ∧ s.windowOpen =
    true ∧ s.secure.trial = false) ∧
  (∃ (e : Env) (s : State), s.mayWrite e .firmwareConfirm 0 [1] ∧ s.secure.ops = [] ∧ s.on 10 = true ∧ s.windowOpen =
    true ∧ s.secure.trial = true) ∧
  (∃ (e : Env) (v : Bytes) (s : State), s.mayWrite e .attestNonce 0 v ∧ v.length = 32 ∧ sessionOf e ≠ 255) ∧
  (∃ (n : Fin 257) (a : Attest) (s : State), s.on 10 = true ∧ (s.session n).attest = some a ∧ a.report = none) :=
  ⟨⟨e0, 0, warm, (by unfold State.mayWrite State.runs; decide +kernel), (by decide +kernel)⟩,
  ⟨e0, 1, { warm with secure := { slotSt := [2, 2] } }, (by unfold State.mayWrite State.runs; decide +kernel),
    (by decide +kernel)⟩,
  ⟨e0, warm, (by unfold State.mayWrite State.runs; decide +kernel), (by decide +kernel)⟩,
  ⟨e0, { warm with secure := { trial := true } }, (by unfold State.mayWrite State.runs; decide +kernel),
    (by decide +kernel)⟩,
  ⟨e0, List.replicate 32 1, warm, (by unfold State.mayWrite State.runs; decide +kernel), (by decide +kernel)⟩,
  ⟨256, {}, up.setSession 256 { isOpen := true, attest := some {} }, (by decide +kernel)⟩⟩

/-- States and operands that meet the hypotheses of the clauses of DomainRequests. -/
theorem test_met_DomainRequests :
  (∃ (e : Env) (d : Fin 24) (s : State), s.runs e false false ∧ s.needsOn d = true ∧ s.dip = false ∧ s.railFault d =
    false ∧ ((s.domain d).st = .off ∨ (s.domain d).st = .ret) ∧ (s.domain d).next = none ∧ s.railsWait d = false) ∧
  (∃ (e : Env) (d : Fin 24) (s : State), s.runs e false false ∧ s.needsOn d = true ∧ s.dip = false ∧ s.railFault d =
    false ∧ ((s.domain d).st = .off ∨ (s.domain d).st = .ret) ∧ (s.domain d).next = none ∧ s.railsWait d = false) ∧
  (∃ (e : Env) (d : Fin 24) (s : State), s.runs e false false ∧ s.needsOn d = true ∧ s.dip = false ∧ s.railFault d =
    false ∧ ((s.domain d).st = .off ∨ (s.domain d).st = .ret) ∧ (s.domain d).next = none ∧ (∃ r ∈ railsOf d,
    s.asksRail r true = true)) ∧
  (∃ (e : Env) (d : Fin 24) (s : State), s.runs e false false ∧ s.needsOn d = false) ∧
  (∃ (e : Env) (d : Fin 24) (s : State), s.runs e false false ∧ s.needsOn d = true ∧ s.dip = true) ∧
  (∃ (e : Env) (d : Fin 24) (s : State), s.runs e false false ∧ s.needsOn d = true ∧ s.dip = false ∧ s.railFault d =
    false ∧ (s.domain d).st = .on) ∧
  (∃ (e : Env) (d : Fin 24) (s : State), s.runs e false false ∧ s.needsOn d = true ∧ s.dip = false ∧ s.railFault d =
    false ∧ ((s.domain d).st = .entering ∨ (s.domain d).st = .exiting)) ∧
  (∃ (e : Env) (d : Fin 24) (k : Nat) (x : DomState) (s : State), s.runs e false false ∧ s.neededBy d = false ∧
    selfCut e d = false ∧ ((k = 1 ∧ x = .ret) ∨ (k = 2 ∧ x = .off)) ∧ ((s.domain d).st = .on ∨ ((s.domain d).st =
    .ret ∧ x = .off)) ∧ (s.domain d).next = none) ∧
  (∃ (e : Env) (d : Fin 24) (k : Nat) (x : DomState) (s : State), s.runs e false false ∧ s.neededBy d = false ∧
    selfCut e d = false ∧ ((k = 1 ∧ x = .ret) ∨ (k = 2 ∧ x = .off)) ∧ ((s.domain d).st = .on ∨ ((s.domain d).st =
    .ret ∧ x = .off)) ∧ (s.domain d).next = none) ∧
  (∃ (e : Env) (d : Fin 24) (k : Nat) (x : DomState) (s : State), s.runs e false false ∧ s.neededBy d = false ∧
    selfCut e d = false ∧ ((k = 1 ∧ x = .ret) ∨ (k = 2 ∧ x = .off)) ∧ ((s.domain d).st = .on ∨ ((s.domain d).st =
    .ret ∧ x = .off)) ∧ (s.domain d).next = none) ∧
  (∃ (e : Env) (d : Fin 24) (s : State), s.runs e false false ∧ s.neededBy d = true) ∧
  (∃ (e : Env) (d : Fin 24) (s : State), s.runs e false false ∧ s.neededBy d = false ∧ (s.domain d).st = .off ∧
    (s.domain d).next = none) ∧
  (∃ (e : Env) (s : State), s.runs e false false ∧ s.neededBy 9 = false ∧ (s.domain 9).st = .on) ∧
  (∃ (e : Env) (d : Fin 24) (s : State), s.runs e false false ∧ (d.val = 9 ∨ (∃ p, e.via = .izsor p ∧ d.val = p.val))
    ∧ (s.domain d).st = .on) ∧
  (∃ (e : Env) (d : Fin 24) (s : State), s.runs e false false ∧ (d.val = 9 ∨ (∃ p, e.via = .izsor p ∧ d.val = p.val))
    ∧ (s.domain d).st = .on) :=
  ⟨⟨e0, 13, withDom 13 {  }, (by unfold State.runs; decide +kernel), (by decide +kernel)⟩,
  ⟨e0, 13, withDom 13 { st := .ret }, (by unfold State.runs; decide +kernel), (by decide +kernel)⟩,
  ⟨e0, 13,
    { withDom 13 {  } with power := { (withDom 13 {  }).power with reg := some { rail := 1, cmd := 1, mv := 1 } } },
    (by unfold State.runs; decide +kernel), (by decide +kernel)⟩,
  ⟨e0, 14, (withDom 13 {}).setDomain 14 {}, (by unfold State.runs; decide +kernel), (by decide +kernel)⟩,
  ⟨e0, 13, { up with power := { (up).power with dipAt := some 0 } }, (by unfold State.runs; decide +kernel),
    (by decide +kernel)⟩,
  ⟨e0, 13, up, (by unfold State.runs; decide +kernel), (by decide +kernel)⟩,
  ⟨e0, 13, withDom 13 { st := .entering }, (by unfold State.runs; decide +kernel), (by decide +kernel)⟩,
  ⟨e0, 11, 2, .off, up, (by unfold State.runs; decide +kernel), (by decide +kernel)⟩,
  ⟨e0, 11, 1, .ret, up, (by unfold State.runs; decide +kernel), (by decide +kernel)⟩,
  ⟨e0, 11, 2, .off, withDom 11 { st := .ret }, (by unfold State.runs; decide +kernel), (by decide +kernel)⟩,
  ⟨e0, 20, up, (by unfold State.runs; decide +kernel), (by decide +kernel)⟩,
  ⟨e0, 13, only9, (by unfold State.runs; decide +kernel), (by decide +kernel)⟩,
  ⟨e0, only9, (by unfold State.runs; decide +kernel), (by decide +kernel)⟩,
  ⟨e0, 9, up, (by unfold State.runs; decide +kernel), .inl rfl, (by decide +kernel)⟩,
  ⟨e3 1, 1, open5, (by unfold State.runs; decide +kernel), .inr ⟨1, rfl, rfl⟩, (by decide +kernel)⟩⟩

/-- States and operands that meet the hypotheses of the clauses of DomainsChangeState. -/
theorem test_met_DomainsChangeState :
  (∃ (d : Fin 24) (b : Nat) (s : State), (s.domain d).st = .entering ∧ (s.domain d).window = false ∧ s.portBusy d =
    false ∧ s.refuser d = some b ∧ (s.domain d).plan = false ∧ (s.domain d).next = none ∧ s.power.plan = none ∧
    s.power.wakeLayer = none) ∧
  (∃ (d : Fin 24) (b : Nat) (s : State), (s.domain d).st = .entering ∧ (s.domain d).window = false ∧ s.portBusy d =
    false ∧ s.refuser d = some b ∧ (s.domain d).plan = false ∧ (s.domain d).next = none ∧ s.power.plan = none ∧
    s.power.wakeLayer = none) ∧
  (∃ (d : Fin 24) (b : Nat) (s : State), (s.domain d).st = .entering ∧ (s.domain d).window = false ∧ s.portBusy d =
    false ∧ s.refuser d = some b ∧ (s.domain d).plan = false ∧ (s.domain d).next = none ∧ s.power.plan = none ∧
    s.power.wakeLayer = none) ∧
  (∃ (s : State), s.rd .jobState 2 = 1) ∧
  (∃ (s : State), s.openXfers ≠ []) ∧
  (∃ (s : State), s.secure.stores ≠ []) ∧
  (∃ (s : State), s.running = true) ∧
  (∃ (d : Fin 24) (s : State), (s.domain d).st = .entering ∧ (s.domain d).window = false ∧ s.portBusy d = false ∧
    s.refuser d = none ∧ s.power.planGap = false) ∧
  (∃ (d : Fin 24) (s : State), (s.domain d).st = .entering ∧ (s.domain d).window = false ∧ s.portBusy d = false ∧
    s.refuser d = none ∧ s.power.planGap = false) ∧
  (∃ (d : Fin 24) (s : State), (s.domain d).st = .entering ∧ (s.domain d).window = true ∧ (s.domain d).since + 4 *
    slowTick ≤ s.aon.mono ∧ (s.domain d).env = none ∧ (s.domain d).plan = false ∧ (s.domain d).next = none ∧
    s.power.plan = none ∧ s.power.wakeLayer = none ∧ s.rd .railSleepMask 0 = 0) ∧
  (∃ (d : Fin 24) (s : State), (s.domain d).st = .exiting ∧ (s.domain d).target = .on ∧ s.railsGood d = true ∧
    s.needsOn d = true ∧ (s.domain d).since + us (s.exitTime d) ≤ s.aon.mono ∧ (s.domain d).env = none ∧ (s.domain
    d).next = none ∧ s.power.plan = none ∧ s.power.wakeLayer = none) ∧
  (∃ (d : Fin 24) (s : State), (s.needsOn d = false ∨ s.railsGood d = false)) ∧
  (∃ (d : Fin 24) (s : State), (s.domain d).st = .exiting ∧ (∃ r ∈ railsOf d, (s.rail r).warn = true) ∧ (s.domain
    d).since + ms 2 ≤ s.aon.mono ∧ ((s.domain d).left = .off ∨ (s.domain d).left = .ret) ∧ (s.domain d).env = none ∧
    (s.domain d).plan = false ∧ (s.domain d).next = none ∧ s.power.plan = none ∧ s.power.wakeLayer = none) :=
  ⟨⟨8, 6, (busyE0 (withDom 8 { st := .entering, left := .on, target := .off, env := some e0 })).wr .jobState 2 1,
    (by decide +kernel)⟩,
  ⟨16, 12, (run.setDomain 16 { st := .entering, left := .on, target := .off }), (by decide +kernel)⟩,
  ⟨0, 1, (withDom 0 { st := .entering, left := .on, target := .off }).setPort 0 { nak := true }, (by decide +kernel)⟩,
  ⟨up.wr .jobState 2 1, (by decide +kernel)⟩,
  ⟨xin, (by decide +kernel)⟩,
  ⟨{ up with secure := { stores := [{ env := e0 }] } }, (by decide +kernel)⟩,
  ⟨run, (by decide +kernel)⟩,
  ⟨8, withDom 8 { st := .entering, left := .on, target := .off }, (by decide +kernel)⟩,
  ⟨5, withDom 5 { st := .entering, left := .on, target := .off }, (by decide +kernel)⟩,
  ⟨5, withDom 5 { st := .entering, left := .on, target := .off, window := true }, (by decide +kernel)⟩,
  ⟨11, withDom 11 { st := .exiting, left := .off, target := .on }, (by decide +kernel)⟩,
  ⟨15, withDom 14 {  }, (by decide +kernel)⟩,
  ⟨13, (withDom 13 { st := .exiting, left := .off, target := .on }).setRail 1 { warn := true }, (by decide +kernel)⟩⟩

/-- States and operands that meet the hypotheses of the clauses of PlansAndWakes. -/
theorem test_met_PlansAndWakes :
  (∃ (e : Env) (s : State), s.mayWrite e .planEnter 0 [1] ∧ s.power.plan = none ∧ s.mgmt.planDue = false ∧ (∀ x ∈
    s.rdv .planTargets 0, x ≤ 2)) ∧
  (∃ (e : Env) (s : State), s.mayWrite e .planEnter 0 [1] ∧ (s.power.plan ≠ none ∨ s.mgmt.planDue = true)) ∧
  (∃ (e : Env) (s : State), s.mayWrite e .planEnter 0 [1] ∧ s.power.plan = none ∧ s.mgmt.planDue = false ∧ (∃ x ∈
    s.rdv .planTargets 0, 2 < x)) ∧
  (∃ (l : Nat) (s : State), s.on 9 = true ∧ s.mgmt.planDue = true ∧ s.repliesWait = false ∧ s.power.plan = none ∧
    s.power.wakeLayer = none ∧ 1 ≤ l ∧ l ≤ 7 ∧ (∀ d ∈ allDomains, layerOf d < l → s.planTarget d = none) ∧ (∃ d ∈
    layer l, (s.planTarget d).isSome = true) ∧ (∀ d ∈ layer l, (s.planTarget d).isSome = true → (s.domain d).next =
    none ∧ s.neededBy d = false ∧ ((s.domain d).st = .on ∨ ((s.domain d).st = .ret ∧ s.planTarget d = some .off)))) ∧
  (∃ (l : Nat) (s : State), s.on 9 = true ∧ s.mgmt.planDue = true ∧ s.repliesWait = false ∧ s.power.plan = none ∧
    s.power.wakeLayer = none ∧ 1 ≤ l ∧ l ≤ 7 ∧ (∀ d ∈ allDomains, layerOf d < l → s.planTarget d = none) ∧ (∃ d ∈
    layer l, (s.planTarget d).isSome = true) ∧ (∀ d ∈ layer l, (s.planTarget d).isSome = true → (s.domain d).next =
    none ∧ s.neededBy d = false ∧ ((s.domain d).st = .on ∨ ((s.domain d).st = .ret ∧ s.planTarget d = some .off)))) ∧
  (∃ (d : Fin 24) (s : State), s.power.plan = some (layerOf d) ∧ (s.domain d).st = .entering ∧ (s.domain d).window =
    true ∧ (s.domain d).plan = true ∧ (s.domain d).target ≠ .on ∧ (s.domain d).target ≠ .entering ∧ (s.domain
    d).since + 4 * slowTick ≤ s.aon.mono ∧ (s.domain d).env = none ∧ (s.domain d).next = none ∧ (∀ k ∈ layer (layerOf
    d), k ≠ d.val → s.planWaits k = false) ∧ s.power.wakeLayer = none ∧ (∃ k ∈ layer (layerOf d + 1), (s.planTarget
    k).isSome = true)) ∧
  (∃ (d : Fin 24) (s : State), s.power.plan = some (layerOf d) ∧ (s.domain d).st = .entering ∧ (s.domain d).window =
    true ∧ (s.domain d).plan = true ∧ (s.domain d).target ≠ .on ∧ (s.domain d).target ≠ .entering ∧ (s.domain
    d).since + 4 * slowTick ≤ s.aon.mono ∧ (s.domain d).env = none ∧ (s.domain d).next = none ∧ (∀ k ∈ layer (layerOf
    d), k ≠ d.val → s.planWaits k = false) ∧ s.power.wakeLayer = none ∧ (∀ k ∈ allDomains, layerOf d < layerOf k →
    s.planTarget k = none) ∧ (∀ k ∈ allDomains, layerOf d < layerOf k → s.planWaits k = false)) ∧
  (∃ (d : Fin 24) (l : Nat) (s : State), s.power.plan = some l ∧ s.power.planGap = true ∧ layerOf d = l + 1 ∧ 1 ≤ l ∧
    s.wakeSource = none ∧ (∀ k ∈ layer (l + 1), (s.planTarget k).isSome = true → (s.domain k).next = none ∧
    s.neededBy k = false ∧ (s.domain k).st = .on) ∧ (s.planTarget d).isSome = true) ∧
  (∃ (d : Fin 24) (b : Nat) (s : State), (s.domain d).st = .entering ∧ (s.domain d).window = false ∧ s.portBusy d =
    false ∧ s.refuser d = some b ∧ (s.domain d).plan = true ∧ (s.domain d).env = none ∧ (s.domain d).next = none ∧
    s.power.plan = some (layerOf d) ∧ s.power.planGap = false ∧ s.power.wakeLayer = none) ∧
  (∃ (s : State), s.rd .wakeBallMode 0 = 1 ∧ s.inWindow = false) ∧
  (∃ (s : State), s.aon.latch ≠ none ∧ s.rd .alarmTicks 0 ≠ 0 ∧ s.aon.alarm = false ∧ s.aon.alarmTaken = false ∧
    s.alive 5 = false ∧ s.rd .alarmTicks 0 ≤ s.aon.ticks) ∧
  (∃ (c : Nat) (s : State), s.inWindow = false ∧ s.thermal.shut = false ∧ s.boot.phase ≠ .held ∧ s.wakeSource = some
    c ∧ s.power.plan = none ∧ (∀ d ∈ allDomains, (s.domain d).st = .on ∧ (s.domain d).next = none)) ∧
  (∃ (s : State), s.wakeSource = none) ∧
  (∃ (c : Nat) (l : Nat) (s : State), s.inWindow = false ∧ s.thermal.shut = false ∧ s.boot.phase ≠ .held ∧
    s.wakeSource = some c ∧ s.power.plan = none ∧ s.dip = false ∧ (∀ d ∈ allDomains, (s.domain d).next = none) ∧ 1 ≤
    l ∧ l ≤ 7 ∧ (∀ d ∈ allDomains, d ∈ (s.wakeUp c ++ s.power.wakeSet : List Nat) → l < layerOf d → (s.domain d).st =
    .on) ∧ (∃ d ∈ layer l, d ∈ (s.wakeUp c ++ s.power.wakeSet : List Nat) ∧ (s.domain d).st ≠ .on) ∧ (∀ d ∈ layer l,
    d ∈ (s.wakeUp c ++ s.power.wakeSet : List Nat) → (s.domain d).st = .on ∨ (((s.domain d).st = .off ∨ (s.domain
    d).st = .ret) ∧ s.needsOn d = true ∧ s.railFault d = false ∧ s.railsWait d = false))) ∧
  (∃ (d : Fin 24) (s : State), (s.domain d).st = .exiting ∧ (s.domain d).target = .on ∧ s.railsGood d = true ∧
    s.needsOn d = true ∧ (s.domain d).since + us (s.exitTime d) ≤ s.aon.mono ∧ (s.domain d).env = none ∧ (s.domain
    d).next = none ∧ s.power.plan = none ∧ s.power.wakeLayer = some (layerOf d) ∧ 2 ≤ layerOf d ∧ allDomains.any s.on
    = true ∧ (((s.domainReaches d).enterOn d ((s.domain d).left = .ret)).beginCal : State).power.plan = none ∧
    (((s.domainReaches d).enterOn d ((s.domain d).left = .ret)).beginCal : State).power.wakeLayer = some (layerOf d)
    ∧ (((s.domainReaches d).enterOn d ((s.domain d).left = .ret)).beginCal : State).power.wakeSet = s.power.wakeSet ∧
    (∀ k ∈ layer (layerOf d), k ∈ s.power.wakeSet → (((s.domainReaches d).enterOn d ((s.domain d).left =
    .ret)).beginCal : State).on k = true) ∧ (((s.domainReaches d).enterOn d ((s.domain d).left = .ret)).beginCal :
    State).dip = false ∧ (∃ k ∈ layer (layerOf d - 1), k ∈ s.power.wakeSet ∧ (((s.domainReaches d).enterOn d
    ((s.domain d).left = .ret)).beginCal : State).on k = false) ∧ (∀ k ∈ layer (layerOf d - 1), k ∈ s.power.wakeSet →
    (((s.domainReaches d).enterOn d ((s.domain d).left = .ret)).beginCal : State).on k = true ∨ ((((((s.domainReaches
    d).enterOn d ((s.domain d).left = .ret)).beginCal : State).domain k).st = .off ∨ ((((s.domainReaches d).enterOn d
    ((s.domain d).left = .ret)).beginCal : State).domain k).st = .ret) ∧ (((s.domainReaches d).enterOn d ((s.domain
    d).left = .ret)).beginCal : State).needsOn k = true ∧ (((s.domainReaches d).enterOn d ((s.domain d).left =
    .ret)).beginCal : State).railFault k = false ∧ (((s.domainReaches d).enterOn d ((s.domain d).left =
    .ret)).beginCal : State).railsWait k = false ∧ ((((s.domainReaches d).enterOn d ((s.domain d).left =
    .ret)).beginCal : State).domain k).next = none)) ∧ ((((s.domainReaches d).enterOn d ((s.domain d).left =
    .ret)).beginCal : State).domain d).next = none) ∧
  (∃ (c : Nat) (l : Nat) (s : State), s.inWindow = false ∧ s.thermal.shut = false ∧ s.boot.phase ≠ .held ∧
    s.wakeSource = some c ∧ s.power.plan = some l ∧ 1 ≤ l ∧ (l < 7 ∨ s.power.planGap = true)) :=
  ⟨⟨e0, up, (by unfold State.mayWrite State.runs; decide +kernel), (by decide +kernel)⟩,
  ⟨e0, { up with power := { (up).power with plan := some 1 } }, (by unfold State.mayWrite State.runs; decide +kernel),
    (by decide +kernel)⟩,
  ⟨e0, up.wrv .planTargets 0 (List.replicate 24 3), (by unfold State.mayWrite State.runs; decide +kernel),
    (by decide +kernel)⟩,
  ⟨1, planned [1, 3, 8], (by decide +kernel)⟩,
  ⟨7, planned [11], (by decide +kernel)⟩,
  ⟨8,
    { (planned [8, 6]).setDomain 8 { st := .entering, left := .on, target := .off, window := true, plan := true } with power := { ((planned [8, 6]).setDomain 8 { st := .entering, left := .on, target := .off, window := true, plan := true }).power with plan := some 1 } },
    (by decide +kernel)⟩,
  ⟨8,
    { (planned [8]).setDomain 8 { st := .entering, left := .on, target := .off, window := true, plan := true } with power := { ((planned [8]).setDomain 8 { st := .entering, left := .on, target := .off, window := true, plan := true }).power with plan := some 1 } },
    (by decide +kernel)⟩,
  ⟨6, 1,
    { planned [8, 6] with power := { (planned [8, 6]).power with plan := some 1, planGap := true, doms := SMap.put up.power.doms 8 {} } },
    (by decide +kernel)⟩,
  ⟨8, 6,
    { ((planned [8]).setDomain 8 { st := .entering, left := .on, target := .off, plan := true }).wr .jobState 2 1 with power := { (((planned [8]).setDomain 8 { st := .entering, left := .on, target := .off, plan := true }).wr .jobState 2 1).power with plan := some 1 } },
    (by decide +kernel)⟩,
  ⟨up.wr .wakeBallMode 0 1, (by decide +kernel)⟩,
  ⟨{ up.wr .alarmTicks 0 5 with aon := { up.aon with latch := some {}, ticks := 5 }, power := {} },
    (by decide +kernel)⟩,
  ⟨1, { up.wr .wakeEnable 0 2 with aon := { up.aon with beacons := [1] } }, (by decide +kernel)⟩,
  ⟨up, (by decide +kernel)⟩,
  ⟨1, 1, ({ up.wr .wakeEnable 0 2 with aon := { up.aon with beacons := [1] } } : State).setDomain 1 {},
    (by decide +kernel)⟩,
  ⟨15,
    { (up.setDomain 15 { st := .exiting, left := .off, target := .on }).setDomain 16 {} with power := { ((up.setDomain 15 { st := .exiting, left := .off, target := .on }).setDomain 16 {}).power with wakeLayer := some 2, wakeSet := [15, 16] } },
    (by decide +kernel)⟩,
  ⟨1, 3,
    { { up.wr .wakeEnable 0 2 with aon := { up.aon with beacons := [1] } } with power := { ({ up.wr .wakeEnable 0 2 with aon := { up.aon with beacons := [1] } }).power with plan := some 3 } },
    (by decide +kernel)⟩⟩

/-- States and operands that meet the hypotheses of the clauses of SuppliesAndResets. -/
theorem test_met_SuppliesAndResets :
  (∃ (r : Fin 7) (w : BitVec 16) (q : RegReq) (s : State), s.power.reg = some q ∧ q.rail = r.val ∧ (q.cmd = 0 ∨ q.cmd
    = 1) ∧ acknowledges q w.toNat = true ∧ s.power.regQ = [] ∧ s.aon.mono ≤ q.since + us (s.rd .regulatorTimeout 0) ∧
    s.dip = false ∧ (∀ d ∈ allDomains, (s.domain d).next = none) ∧ s.power.plan = none ∧ s.power.wakeLayer = none) ∧
  (∃ (r : Fin 7) (w : BitVec 16) (q : RegReq) (s : State), s.power.reg = some q ∧ q.rail = r.val ∧ (q.cmd = 0 ∨ q.cmd
    = 1) ∧ acknowledges q w.toNat = true ∧ s.power.regQ = [] ∧ s.aon.mono ≤ q.since + us (s.rd .regulatorTimeout 0) ∧
    s.dip = false ∧ (∀ d ∈ allDomains, (s.domain d).next = none) ∧ s.power.plan = none ∧ s.power.wakeLayer = none) ∧
  (∃ (r : Fin 7) (d : Fin 24) (w : BitVec 16) (q : RegReq) (x : DomReq) (s : State), s.power.reg = some q ∧ q.rail =
    r.val ∧ q.cmd = 1 ∧ q.mv ≠ 0 ∧ acknowledges q w.toNat = true ∧ s.power.regQ = [] ∧ s.aon.mono ≤ q.since + us
    (s.rd .regulatorTimeout 0) ∧ s.dip = false ∧ s.power.plan = none ∧ (∀ k ∈ allDomains, k ≠ d.val → (s.domain
    k).next = none) ∧ (s.domain d).next = some x ∧ x.target = .on ∧ ((s.domain d).st = .off ∨ (s.domain d).st = .ret)
    ∧ s.needsOn d = true ∧ (∀ k ∈ railsOf d, k ≠ r.val → (s.rail k).off = false ∧ (s.rail k).fault = false) ∧
    s.power.wakeLayer = none) ∧
  (∃ (r : Fin 7) (q : RegReq) (s : State), s.power.reg = some q ∧ (q.rail ≠ r.val ∨ q.since + us (s.rd
    .regulatorTimeout 0) < s.aon.mono)) ∧
  (∃ (r : Fin 7) (w : BitVec 16) (q : RegReq) (s : State), s.power.reg = some q ∧ q.rail = r.val ∧ faultBits w.toNat
    = true ∧ (s.rail r).fault = false ∧ s.aon.mono ≤ q.since + us (s.rd .regulatorTimeout 0)) ∧
  (∃ (r : Fin 7) (q : RegReq) (s : State), s.power.reg = some q ∧ q.rail = r.val ∧ q.since + us (s.rd
    .regulatorTimeout 0) ≤ s.aon.mono ∧ q.tries < 2) ∧
  (∃ (r : Fin 7) (q : RegReq) (s : State), s.power.reg = some q ∧ q.rail = r.val ∧ s.power.regQ = [] ∧ q.since + us
    (s.rd .regulatorTimeout 0) ≤ s.aon.mono ∧ 2 ≤ q.tries ∧ (q.cmd = 1 ∨ (∀ d ∈ allDomains, s.waitsReg q d = false))
    ∧ s.power.plan = none ∧ s.power.wakeLayer = none) ∧
  (∃ (r : Fin 7) (mv : BitVec 16) (s : State), (s.rail r).off = false ∧ mv.toNat < s.warnLevel r ∧ (s.rdv .supplyMin
    0).length = 7) ∧
  (∃ (a : Nat) (s : State), s.power.dipAt = some a ∧ s.power.dark = false ∧ a + ms 10 ≤ s.aon.mono) ∧
  (∃ (r : Fin 7) (k : Fin 7) (s : State), (s.rail r).warn = true ∧ k ≠ r ∧ (s.rail k).warn = true) ∧
  (∃ (r : Fin 7) (a : Nat) (s : State), (s.rail r).warn = true ∧ (∀ k : Fin 7, k ≠ r → (s.rail k).warn = false) ∧
    s.power.dipAt = some a ∧ s.power.dark = false ∧ s.thermal.calStep ≠ 1 ∧ s.boot.phase = .complete ∧ (∀ d ∈
    allDomains, (s.domain d).next = none) ∧ s.power.plan = none ∧ s.power.wakeLayer = none ∧ s.secure.ops = []) ∧
  (∃ (r : Fin 7) (mv : BitVec 16) (s : State), r.val ≠ 4 ∧ (s.rail r).off = false ∧ mv.toNat < s.resetLevel r ∧
    s.boot.phase ≠ .held) ∧
  (∃ (r : Fin 7) (mv : BitVec 16) (s : State), r.val ≠ 4 ∧ (s.rail r).off = false ∧ mv.toNat < s.resetLevel r ∧
    s.boot.phase = .held ∧ (s.rdv .supplyMin 0).length = 7) ∧
  (∃ (mv : BitVec 16) (s : State), (s.rail 4).off = false ∧ mv.toNat < s.resetLevel 4) ∧
  (∃ (n : Nat), n < 1000) ∧
  (∃ (n : Nat) (s : State), 1000 ≤ n ∧ s.boot.phase ≠ .held) ∧
  (∃ (s : State), s.boot.wdOn = true ∧ s.on 9 = true ∧ s.boot.wdAt + ms 1000 ≤ s.aon.mono ∧ s.boot.phase ≠ .held) ∧
  (∃ (s : State), s.boot.wdOn = false) :=
  ⟨⟨3, 0, { rail := 3, cmd := 1, mv := 1, since := ms 20000 },
    { up with power := { (up).power with reg := some { rail := 3, cmd := 1, mv := 1, since := ms 20000 } } },
    (by decide +kernel)⟩,
  ⟨0, 0, { rail := 0, cmd := 0, mv := 800, since := ms 20000 },
    { up with power := { (up).power with reg := some { rail := 0, cmd := 0, mv := 800, since := ms 20000 } } },
    (by decide +kernel)⟩,
  ⟨1, 13, 0, { rail := 1, cmd := 1, mv := 1, since := ms 20000 }, { target := .on },
    { up.setDomain 13 { next := some { target := .on } } with power := { (up.setDomain 13 { next := some { target := .on } }).power with reg := some { rail := 1, cmd := 1, mv := 1, since := ms 20000 } } },
    (by decide +kernel)⟩,
  ⟨3, { rail := 2 }, { up with power := { (up).power with reg := some { rail := 2 } } }, (by decide +kernel)⟩,
  ⟨3, 0x10, { rail := 3, cmd := 1, mv := 1, since := ms 20000 },
    { up with power := { (up).power with reg := some { rail := 3, cmd := 1, mv := 1, since := ms 20000 } } },
    (by decide +kernel)⟩,
  ⟨3, { rail := 3 }, { up with power := { (up).power with reg := some { rail := 3 } } }, (by decide +kernel)⟩,
  ⟨3, { rail := 3, cmd := 1, mv := 1, tries := 2 },
    { up.setDomain 16 { next := some { target := .on } } with power := { (up.setDomain 16 { next := some { target := .on } }).power with reg := some { rail := 3, cmd := 1, mv := 1, tries := 2 } } },
    (by decide +kernel)⟩,
  ⟨1, 100, up, (by decide +kernel)⟩,
  ⟨0, { up with power := { up.power with dipAt := some 0 } }, (by decide +kernel)⟩,
  ⟨1, 2, ({ up with power := { up.power with dipAt := some 0 } } : State).setRail 1 { warn := true } |>.setRail 2
    { warn := true }, (by decide +kernel)⟩,
  ⟨1, 0, ({ up with power := { up.power with dipAt := some 0 } } : State).setRail 1 { warn := true },
    (by decide +kernel)⟩,
  ⟨1, 100, up, (by decide +kernel)⟩,
  ⟨1, 100, {}, (by decide +kernel)⟩,
  ⟨100, up, (by decide +kernel)⟩,
  ⟨999, (by decide +kernel)⟩,
  ⟨1000, up, (by decide +kernel)⟩,
  ⟨{ up with boot := { up.boot with wdOn := true } }, (by decide +kernel)⟩,
  ⟨up, (by decide +kernel)⟩⟩

/-- States and operands that meet the hypotheses of the clauses of TemperaturesActAndShutDown. -/
theorem test_met_TemperaturesActAndShutDown :
  (∃ (counts : List Nat) (r : Nat → Int) (s : State), s.thermal.shut = false ∧ (∃ d ∈ allDomains, s.on d = true) ∧
    s.thermal.convAt + ms 1 ≤ s.aon.mono ∧ s.secure.ops = [] ∧ (∀ n, r n = (sensorTemp n (counts.getD n 0)).getD
    (s.sensor n).t) ∧ (∀ n < 32, (s.sensor n).failed = false ∧ (s.sensor n).badRun = 0 ∧ r n < 2000)) ∧
  (∃ (counts : List Nat) (s : State), (3 ≤ (sensors32.filter (fun n => (s.sensor n).failed && decide ((s.sensor
    n).goodRun < 63))).length ∨ (∃ n x, n < 32 ∧ (s.sensor n).failed = false ∧ counts.getD n 0 ≠ 0 ∧ sensorTemp n
    (counts.getD n 0) = some x ∧ 2000 ≤ x ∧ x ≤ 2400)) ∧ s.thermal.shut = false ∧ (∃ d ∈ allDomains, s.on d = true) ∧
    s.thermal.convAt + ms 1 ≤ s.aon.mono ∧ s.secure.ops = []) ∧
  (∃ (s : State), s.thermal.shut = false ∧ (∃ d ∈ allDomains, s.on d = true) ∧ s.thermal.roundAt + s.roundTime ≤
    s.aon.mono ∧ s.thermal.seen = true ∧ s.rd .thermalStatus 0 < 16 ∧ s.throttlePending = false ∧ s.rd .throttleStep
    0 = 0 ∧ s.thermal.j ≥ s.rd .throttleLevel 0 * 16) ∧
  (∃ (s : State), s.thermal.shut = false ∧ (∃ d ∈ allDomains, s.on d = true) ∧ s.thermal.roundAt + s.roundTime ≤
    s.aon.mono ∧ s.thermal.seen = true ∧ s.rd .thermalStatus 0 < 16 ∧ s.throttlePending = false ∧ s.rd .throttleStep
    0 = 0 ∧ s.thermal.j < s.rd .throttleLevel 0 * 16) ∧
  (∃ (x : Nat) (s : State), s.thermal.shut = false ∧ (∃ d ∈ allDomains, s.on d = true) ∧ s.thermal.roundAt +
    s.roundTime ≤ s.aon.mono ∧ s.thermal.seen = true ∧ s.throttlePending = false ∧ x = s.rd .throttleStep 0 ∧ 1 ≤ x ∧
    x = 1 ∧ s.modl.noStep2 = false ∧ step2Ok (s.rd .viewCount 0) (s.rd .refreshesPerView 0) (s.rd .framePeriod 0) =
    true ∧ s.rd .throttleLevel 0 * 16 + 80 ≤ s.thermal.j) ∧
  (∃ (x : Nat) (s : State), s.thermal.shut = false ∧ (∃ d ∈ allDomains, s.on d = true) ∧ s.thermal.roundAt +
    s.roundTime ≤ s.aon.mono ∧ s.thermal.seen = true ∧ s.throttlePending = false ∧ x = s.rd .throttleStep 0 ∧ 1 ≤ x ∧
    s.modl.coolSince = some 0 ∧ 0 + 2000000000 ≤ s.now ∧ s.thermal.j < s.rd .throttleLevel 0 * 16 - 80 ∧ x = 1 ∧
    s.modl.t1 + 2000000000 ≤ s.now ∧ s.modl.t2 + 2000000000 ≤ s.now) ∧
  (∃ (x : Nat) (s : State), s.thermal.shut = false ∧ (∃ d ∈ allDomains, s.on d = true) ∧ s.thermal.roundAt +
    s.roundTime ≤ s.aon.mono ∧ s.thermal.seen = true ∧ s.throttlePending = false ∧ x = s.rd .throttleStep 0 ∧ 1 ≤ x ∧
    s.modl.coolSince = some 0 ∧ 0 + 2000000000 ≤ s.now ∧ s.thermal.j < s.rd .throttleLevel 0 * 16 - 80 ∧ x ≠ 1) ∧
  (∃ (x : Nat) (s : State), s.thermal.shut = false ∧ (∃ d ∈ allDomains, s.on d = true) ∧ s.thermal.roundAt +
    s.roundTime ≤ s.aon.mono ∧ s.thermal.seen = true ∧ s.throttlePending = false ∧ x = s.rd .throttleStep 0 ∧ 1 ≤ x ∧
    s.thermal.j < s.rd .throttleLevel 0 * 16 ∧ s.modl.coolSince = none) ∧
  (∃ (c : Nat) (s : State), s.thermal.shut = false ∧ s.on 11 = true ∧ s.thermal.roundAt + s.roundTime ≤ s.aon.mono ∧
    s.thermal.seen = true ∧ c < 16 ∧ s.rd .channelKind c = 0) ∧
  (∃ (c : Nat) (s : State), s.thermal.shut = false ∧ s.on 11 = true ∧ s.thermal.roundAt + s.roundTime ≤ s.aon.mono ∧
    s.thermal.seen = true ∧ c < 16 ∧ s.rd .channelKind c = 2) ∧
  (∃ (ain : List Nat) (c : Nat) (s : State), s.thermal.shut = false ∧ s.on 11 = true ∧ s.thermal.roundAt +
    s.roundTime ≤ s.aon.mono ∧ s.thermal.seen = true ∧ c < 16 ∧ s.rd .channelKind c = 1 ∧ s.adcCode (samplesOf ain c)
    < 1024) ∧
  (∃ (ain : List Nat) (c : Nat) (s : State), s.thermal.shut = false ∧ s.on 11 = true ∧ s.thermal.roundAt +
    s.roundTime ≤ s.aon.mono ∧ s.thermal.seen = true ∧ c < 16 ∧ s.rd .channelKind c = 1 ∧ 1024 ≤ s.adcCode (samplesOf
    ain c) ∧ s.adcCode (samplesOf ain c) ≤ 64512 ∧ s.running = false ∧ (∀ k < 16, k ≠ c → s.rd .channelKind k ≠ 1)) :=
  ⟨⟨(List.range 32).map (fun n => (Config.sensorC30 n).toNat), _, up, rfl, ⟨9, by decide +kernel⟩, (by decide +kernel),
    rfl, (fun _ => rfl), (fun n h => ⟨rfl, rfl, coolReading n h⟩)⟩,
  ⟨[], up.setSensor 0 { failed := true } |>.setSensor 1 { failed := true } |>.setSensor 2 { failed := true }, .inl
    (by decide +kernel), (by decide +kernel)⟩,
  ⟨{ up.setDomain 11 {} with thermal := { seen := true, j := 1900 } }, (by decide +kernel)⟩,
  ⟨{ up.setDomain 11 {} with thermal := { seen := true, j := 400 } }, (by decide +kernel)⟩,
  ⟨1, cooling 1 2000 none, (by decide +kernel)⟩,
  ⟨1, cooling 1 400 (some 0), (by decide +kernel)⟩,
  ⟨2, cooling 2 400 (some 0), (by decide +kernel)⟩,
  ⟨2, cooling 2 400 none, (by decide +kernel)⟩,
  ⟨0, analog 0, (by decide +kernel)⟩,
  ⟨0, analog 2, (by decide +kernel)⟩,
  ⟨hotIn 0, 0, analog 1, (by decide +kernel)⟩,
  ⟨hotIn 30000, 0, analog 1, (by decide +kernel)⟩⟩

/-- States and operands that meet the hypotheses of the clauses of CalibrationRuns. -/
theorem test_met_CalibrationRuns :
  (∃ (g : Nat) (o : Nat) (s : State), s.on 11 = true ∧ s.thermal.calStep = 1 ∧ s.dip = false ∧ s.thermal.calAt + ms 2
    ≤ s.aon.mono ∧ g < 4294967296 ∧ o < 65536) ∧
  (∃ (s : State), s.on 11 = true ∧ s.thermal.calStep = 3 ∧ s.thermal.calAt + ms 2 ≤ s.aon.mono) ∧
  (∃ (s : State), s.on 11 = false) ∧
  (∃ (l : Fin 512) (x : TrimSet) (s : State), s.phase2Runs = true ∧ s.measurable l = true ∧ s.rd .calPhase 0 = 2 ∧
    (s.lout l).trimmed = false ∧ -40 ≤ x.deskew ∧ x.deskew ≤ 40 ∧ x.swing ≤ 63 ∧ x.impedance ≤ 31) ∧
  (∃ (l : Fin 512) (d : Int) (w : Nat) (z : Nat) (s : State), (∀ k, k ≠ l.val → (s.lout k).newTrim = none) ∧
    s.phase2Runs = true ∧ s.rd .calPhase 0 = 2 ∧ s.measurable l = true ∧ (s.lout l).newTrim = some (d, w, z) ∧ ((if
    s.geo.grey || !s.timeRuns then s else s.toGap) : State).trimmable l = true) ∧
  (∃ (s : State), s.phase2Runs = true ∧ s.thermal.firstPass = true ∧ s.rd .calRepeat 0 ≠ 0 ∧ s.rd .calPhase 0 = 3 ∧
    s.thermal.passAt + ms (1000 * s.rd .calRepeat 0) ≤ s.aon.mono) :=
  ⟨⟨65536, 0, { up with thermal := { calStep := 1 } }, (by decide +kernel)⟩,
  ⟨{ up with thermal := { calStep := 3 } }, (by decide +kernel)⟩,
  ⟨{}, (by decide +kernel)⟩,
  ⟨0, { deskew := -40, swing := 63, impedance := 31 },
    { run.wr .calPhase 0 2 with modl := { wasSlate := true }, thermal := { calStep := 4 } }, (by decide +kernel)⟩,
  ⟨0, -40, 63, 31, trimmed0, (fun k hk => trimless k hk), (by decide +kernel)⟩,
  ⟨({ run.wr .calPhase 0 3 with modl := { wasSlate := true }, thermal := { calStep := 4, firstPass := true } } :
    State).wr .calRepeat 0 1, (by decide +kernel)⟩⟩

/-- States and operands that meet the hypotheses of the clauses of PowerOnToRelease. -/
theorem test_met_PowerOnToRelease :
  (∃ (c : Nat) (s : State), (∀ d, (s.domain d).st = .off ∧ (s.domain d).next = none) ∧ s.boot.phase = .held ∧
    s.boot.causes = [c] ∧ 1 ≤ c ∧ c ≤ 7 ∧ s.anyWarn = false ∧ s.thermal.shut = false ∧ s.boot.holdFrom + ms 1 ≤
    s.aon.mono ∧ s.boot.goodFrom + ms 1 ≤ s.aon.mono ∧ s.dip = false ∧ (∀ r < 7, (s.rail r).off = false) ∧
    s.power.reg = none ∧ s.power.regQ = [] ∧ (s.rdv .resetCounts 0).length = 7) :=
  ⟨1, { aon := { mono := ms 1 } }, (fun _ => ⟨rfl, rfl⟩), (by decide +kernel)⟩

/-- States and operands that meet the hypotheses of the clauses of BootToComplete. -/
theorem test_met_BootToComplete :
  (∃ s : State, s.boot.phase = .rom ∧ s.on 9 = true ∧ s.on 10 = true ∧ s.on 11 = true ∧ s.boot.counted = false ∧
    s.secure.ops = [] ∧ s.windowOpen = true ∧ 2 ≤ s.ownerField 66 1) ∧
  (∃ (s u : State), s.boot.phase = .rom ∧ s.on 9 = true ∧ s.on 10 = true ∧ s.on 11 = true ∧ s.boot.counted = true ∧
    s.secure.ops = [] ∧ u = s.mramScan 0 6291456 ∧ 2 ≤ u.ownerField 66 1 ∧ u.verifySlot (u.ownerField 65 1 % 2) =
    none) ∧
  (∃ (s u : State), s.boot.phase = .rom ∧ s.on 9 = true ∧ s.on 10 = true ∧ s.on 11 = true ∧ s.boot.counted = true ∧
    s.secure.ops = [] ∧ u = s.mramScan 0 6291456 ∧ 2 ≤ u.ownerField 66 1 ∧ u.verifySlot (u.ownerField 65 1 % 2) ≠
    none ∧ u.verifySlot (1 - u.ownerField 65 1 % 2) = none ∧ s.windowOpen = true) ∧
  (∃ (s u : State), s.boot.phase = .rom ∧ s.on 9 = true ∧ s.on 10 = true ∧ s.on 11 = true ∧ s.boot.counted = true ∧
    s.secure.ops = [] ∧ u = s.mramScan 0 6291456 ∧ 2 ≤ u.ownerField 66 1 ∧ u.verifySlot (u.ownerField 65 1 % 2) ≠
    none ∧ u.verifySlot (1 - u.ownerField 65 1 % 2) ≠ none) ∧
  (∃ (s : State), s.boot.phase = .firmware ∧ s.on 9 = true ∧ s.on 10 = true ∧ s.on 11 = true ∧ s.power.plan = none) ∧
  (∃ (s : State), s.boot.phase = .bringUp ∧ s.power.wakeLayer = none ∧ s.on 9 = true) ∧
  (∃ (s : State), s.autoReady = true ∧ s.modl.startE = none ∧ s.modl.stopE = none ∧ s.running = false ∧ s.lanesOn
    (s.committed.n .laneCount 0) = true ∧ s.configCheck s.committed [] true = none) ∧
  (∃ (s : State), s.autoReady = false) :=
  ⟨⟨rom false [0], (by decide +kernel)⟩,
  ⟨rom true [0], _, rfl, (by decide +kernel), (by decide +kernel), (by decide +kernel), rfl, rfl, rfl,
    (by rw [(rom_owner _ _).1]; decide), (by rw [(rom_owner _ _).2]; exact rom_verifies _ _ _ rfl)⟩,
  ⟨rom true [1], _, rfl, (by decide +kernel), (by decide +kernel), (by decide +kernel), rfl, rfl, rfl,
    (by rw [(rom_owner _ _).1]; decide), (by rw [(rom_owner _ _).2]; exact rom_fails _ _ _ rfl),
    (by rw [(rom_owner _ _).2]; exact rom_verifies _ _ _ rfl), (by decide +kernel)⟩,
  ⟨rom true [], _, rfl, (by decide +kernel), (by decide +kernel), (by decide +kernel), rfl, rfl, rfl,
    (by rw [(rom_owner _ _).1]; decide), (by rw [(rom_owner _ _).2]; exact rom_fails _ _ _ rfl),
    (by rw [(rom_owner _ _).2]; exact rom_fails _ _ _ rfl)⟩,
  ⟨{ warm with boot := { phase := .firmware } }, (by decide +kernel)⟩,
  ⟨{ warm with boot := { phase := .bringUp } }, (by decide +kernel)⟩,
  ⟨((cfg.wr .autoStart 0 1).wr .coefValid 0 1).wr .freeRunPermit 0 1, (by decide +kernel)⟩,
  ⟨up, (by decide +kernel)⟩⟩

/-- States and operands that meet the hypotheses of the clauses of JtagAndTest. -/
theorem test_met_JtagAndTest :
  (∃ (s : State), s.jtag.ir.drives = false) ∧
  (∃ (s : State), s.jtag.ir.drives = false) ∧
  (∃ (s : State), s.jtag.ir.drives = false) ∧
  (∃ (s : State), s.jtag.ir.drives = false) ∧
  (∃ (s : State), s.jtag.ir.drives = false) ∧
  (∃ (s : State), s.jtag.ir.drives = true ∧ s.boot.phase ≠ .held) ∧
  (∃ (s : State), s.jtag.ir.drives = true ∧ s.boot.phase ≠ .held) ∧
  (∃ (s : State), s.jtag.ir.drives = false) :=
  ⟨⟨up, (by decide +kernel)⟩,
  ⟨{ up with jtag := { ir := .bypass, bypass := true } }, (by decide +kernel)⟩,
  ⟨up, (by decide +kernel)⟩,
  ⟨up, (by decide +kernel)⟩,
  ⟨up, (by decide +kernel)⟩,
  ⟨{ up with jtag := { ir := .extest, pins := some [] } }, (by decide +kernel)⟩,
  ⟨{ up with jtag := { ir := .extest, pins := some [] } }, (by decide +kernel)⟩,
  ⟨up, (by decide +kernel)⟩⟩

/-- States and operands that meet the hypotheses of the clauses of StepRunsTheFront. -/
theorem test_met_StepRunsTheFront :
  (∃ (c : Instr) (q : List Instr) (s : State), s.pending = c :: q) :=
  ⟨.powerOnReset, [], { up with pending := [.powerOnReset] }, (by decide +kernel)⟩

/-- States and operands that meet the hypotheses of the clauses of AnEmptyQueueTicks. -/
theorem test_met_AnEmptyQueueTicks :
  (∃ (s : State), s.pending = [] ∧ (s.on 9 = false ∨ s.mgmt.core.isSome = true ∨ (s.mgmt.inbox = [] ∧
    s.idleTick.freeSweep = none))) ∧
  (∃ (m : Msg) (q : List Msg) (s : State), s.pending = [] ∧ s.on 9 = true ∧ s.mgmt.core = none ∧ s.mgmt.inbox = m ::
    q ∧ s.idleTick.freeSweep = none) ∧
  (∃ (s : State), s.pending = [] ∧ s.on 9 = true ∧ s.mgmt.core = none ∧ ∃ t, s.idleTick.freeSweep = some t) :=
  ⟨⟨up, (by decide +kernel)⟩,
  ⟨{ env := e0, bytes := good }, [], { up with mgmt := { inbox := [{ env := e0, bytes := good }] } },
    (by decide +kernel)⟩,
  ⟨{ tree with mgmt := { held := [{ bytes := sw, sweep := some 7 }] } }, (by decide +kernel), (by decide +kernel),
    (by decide +kernel), Option.isSome_iff_exists.mp (by decide +kernel)⟩⟩

/-- States and operands that meet the hypotheses of the clauses of StepsKeepFormAndQueue. -/
theorem test_met_StepsKeepFormAndQueue :
  (∃ (s t : State), s.canonical ∧ step s = .next t) ∧
  (∃ (c : Instr) (s t : State), exec c s = .next t) :=
  ⟨⟨State.reset, _, ⟨rfl, rfl, rfl, rfl⟩, rfl⟩,
  ⟨.wakeBallEdge true, up, _, rfl⟩⟩

/-- States and operands that meet the hypotheses of the clauses of CountersSaturateAndClear. -/
theorem test_met_CountersSaturateAndClear :
  (∃ (i : Nat) (s : State), s.rd .trainFailures i ≤ 0xFFFFFFFF ∧ s.rd .trainFailures i + 1 ≤ 0xFFFFFFFF) ∧
  (∃ (i : Nat) (s : State), s.rd .trainFailures i ≤ 0xFFFFFFFF ∧ ¬s.rd .trainFailures i + 1 ≤ 0xFFFFFFFF) ∧
  (∃ (e : Env) (m : EntryMsg) (i : Nat) (s : State), s.runs e false false ∧ s.still ∧ Ent.find m.index.toNat
    m.sub.toNat = some (.trainFailures, i) ∧ Machine.EntryMsg.isSegment m = false ∧ (s.session (sessionOf e)).seg =
    none ∧ m.body = [0, 0, 0, 0]) ∧
  (∃ (e : Env) (m : EntryMsg) (i : Nat) (s : State), s.runs e false false ∧ s.still ∧ Ent.find m.index.toNat
    m.sub.toNat = some (.trainFailures, i) ∧ Machine.EntryMsg.isSegment m = false ∧ (s.session (sessionOf e)).seg =
    none ∧ m.body.length = 4 ∧ m.body ≠ [0, 0, 0, 0]) :=
  ⟨⟨1, up, (by decide +kernel)⟩,
  ⟨1, up.wr .trainFailures 1 0xFFFFFFFF, (by decide +kernel)⟩,
  ⟨e0, msg 0x2001 12 [0, 0, 0, 0], 1, up, (by unfold State.runs; decide +kernel),
    (by unfold State.still; decide +kernel), (by decide +kernel)⟩,
  ⟨e0, msg 0x2001 12 [1, 0, 0, 0], 1, up, (by unfold State.runs; decide +kernel),
    (by unfold State.still; decide +kernel), (by decide +kernel)⟩⟩

/-- States and operands that meet the hypotheses of the clauses of HelloLossIsToldOnce. -/
theorem test_met_HelloLossIsToldOnce :
  (∃ (n : Fin 4) (s : State), s.alive 4 = true ∧ s.active n = true ∧ (s.port n).heard = true ∧ ((s.port n).hello.map
    Hello.since).getD 0 + ms 3 ≤ s.aon.mono ∧ s.on 9 = true ∧ s.mgmt.events.length < 256) ∧
  (∃ (n : Nat) (s : State), ((s.port n).hello = none ∨ (s.port n).heard = false)) :=
  ⟨⟨1, act.setPort 1 { heard := true, hello := some {} }, (by decide +kernel)⟩,
  ⟨1, up, (by decide +kernel)⟩⟩

/-- States and operands that meet the hypotheses of the clauses of EveryEntryHasItsAddress. -/
theorem test_met_EveryEntryHasItsAddress :
  (∃ (x : Ent) (i : Nat), i < x.info.count) ∧
  (∃ (n : Nat) (k : Nat) (x : Ent) (i : Nat), Ent.find n k = some (x, i)) ∧
  (∃ (e : Env) (m : EntryMsg) (s : State), s.runs e false true ∧ m.index.toNat < 0xF000 ∧ sessionOf e ≠ 255 ∧
    Ent.indexUsed m.index.toNat = true ∧ m.sub.toNat = 0 ∧ m.body = [] ∧ m.offset = 0) ∧
  (∃ (e : Env) (m : EntryMsg) (s : State), s.runs e false true ∧ m.index.toNat < 0xF000 ∧ sessionOf e ≠ 255 ∧
    Ent.indexUsed m.index.toNat = false) ∧
  (∃ (e : Env) (m : EntryMsg) (s : State), s.runs e false true ∧ m.index.toNat < 0xF000 ∧ sessionOf e ≠ 255 ∧
    Ent.indexUsed m.index.toNat = true ∧ Ent.find m.index.toNat m.sub.toNat = none ∧ m.sub.toNat ≠ 0) ∧
  (∃ (e : Env) (m : EntryMsg) (c : Instr) (s : State), s.runs e false false ∧ s.still ∧ m.index.toNat < 0xF000 ∧ (c =
    .write e m ∨ c = .writeStaged e m) ∧ Ent.indexUsed m.index.toNat = true ∧ m.sub.toNat = 0) ∧
  (∃ (e : Env) (m : EntryMsg) (c : Instr) (s : State), s.runs e false false ∧ s.still ∧ m.index.toNat < 0xF000 ∧ (c =
    .write e m ∨ c = .writeStaged e m) ∧ Ent.indexUsed m.index.toNat = false) ∧
  (∃ (e : Env) (m : EntryMsg) (c : Instr) (s : State), s.runs e false false ∧ s.still ∧ m.index.toNat < 0xF000 ∧ (c =
    .write e m ∨ c = .writeStaged e m) ∧ Ent.indexUsed m.index.toNat = true ∧ Ent.find m.index.toNat m.sub.toNat =
    none ∧ m.sub.toNat ≠ 0) :=
  ⟨⟨.dimmer, 0, (by decide +kernel)⟩,
  ⟨0x8810, 2, .dimmer, 0, (by decide +kernel)⟩,
  ⟨e0, msg 0x8810 0 [], up, (by unfold State.runs; decide +kernel), (by decide +kernel)⟩,
  ⟨e0, msg 0x0001 0 [], up, (by unfold State.runs; decide +kernel), (by decide +kernel)⟩,
  ⟨e0, msg 0x8000 0xEE [], up, (by unfold State.runs; decide +kernel), (by decide +kernel)⟩,
  ⟨e0, msg 0x8810 0 [1], .write e0 (msg 0x8810 0 [1]), up, (by unfold State.runs; decide +kernel),
    (by unfold State.still; decide +kernel), (by decide +kernel)⟩,
  ⟨e0, msg 0x0001 0 [], .writeStaged e0 (msg 0x0001 0 []), up, (by unfold State.runs; decide +kernel),
    (by unfold State.still; decide +kernel), (by decide +kernel)⟩,
  ⟨e0, msg 0x8000 0xEE [], .write e0 (msg 0x8000 0xEE []), up, (by unfold State.runs; decide +kernel),
    (by unfold State.still; decide +kernel), (by decide +kernel)⟩⟩

/-- States and operands that meet the hypotheses of the clauses of BytesComeBack. -/
theorem test_met_BytesComeBack :
  (∃ (x : Ent) (v : Val), (∀ n ∈ v, n < 256 ^ x.info.elt)) ∧
  (∃ (p : Packet), p.hop < 256 ∧ p.dest < 65536 ∧ p.source < 65536 ∧ p.channel < 65536 ∧ p.seq < 65536 ∧
    p.payload.length ≤ 4096 ∧ (p.cls = 2 ∨ p.cls = 3 ∨ (p.cls = 1 ∧ p.channel < 256) ∨ (p.cls = 0 ∧ p.mode =
    .linkLocal ∧ p.payload.length ≤ 64))) ∧
  (∃ (p : Packet), p.hop < 256 ∧ p.dest < 65536 ∧ p.source < 65536 ∧ p.channel < 65536 ∧ p.seq < 65536 ∧
    p.payload.length ≤ 4096 ∧ (p.cls = 2 ∨ p.cls = 3 ∨ (p.cls = 1 ∧ p.channel < 256) ∨ (p.cls = 0 ∧ p.mode =
    .linkLocal ∧ p.payload.length ≤ 64))) ∧
  (∃ (p : Packet), p.hop < 256 ∧ p.dest < 65536 ∧ p.source < 65536 ∧ p.channel < 65536 ∧ p.seq < 65536 ∧
    p.payload.length ≤ 4096 ∧ (p.cls = 2 ∨ p.cls = 3 ∨ (p.cls = 1 ∧ p.channel < 256) ∨ (p.cls = 0 ∧ p.mode =
    .linkLocal ∧ p.payload.length ≤ 64))) ∧
  (∃ (p : Packet), p.hop < 256 ∧ p.dest < 65536 ∧ p.source < 65536 ∧ p.channel < 65536 ∧ p.seq < 65536 ∧
    p.payload.length ≤ 4096 ∧ (p.cls = 2 ∨ p.cls = 3 ∨ (p.cls = 1 ∧ p.channel < 256) ∨ (p.cls = 0 ∧ p.mode =
    .linkLocal ∧ p.payload.length ≤ 64))) ∧
  (∃ (w : Bytes) (x y : PortAccess) (k : Nat), k < w.length ∧ x.lanes.length = w.length ∧ y.lanes.length = w.length ∧
    x.writes = true ∧ y.writes = true ∧ (y.lanes.getD k none).isSome = true) ∧
  (∃ (w : Bytes) (x y : PortAccess) (k : Nat), k < w.length ∧ x.lanes.length = w.length ∧ y.lanes.length = w.length ∧
    x.writes = true ∧ (x.lanes.getD k none).isSome = true ∧ ¬(y.writes = true ∧ (y.lanes.getD k none).isSome = true)) :=
  ⟨⟨.dimmer, [65535], (by decide +kernel)⟩,
  ⟨{ cls := 2, hop := 255, dest := 65535, source := 65535, channel := 65535, seq := 65535, payload := List.replicate 4 9 },
    (by decide +kernel)⟩,
  ⟨{ cls := 3 }, (by decide +kernel)⟩,
  ⟨{ cls := 1, channel := 255 }, (by decide +kernel)⟩,
  ⟨{ cls := 0, mode := .linkLocal, payload := [1] }, (by decide +kernel)⟩,
  ⟨[1, 2], { writes := true, lanes := [some 3, some 4] }, { writes := true, lanes := [none, some 5] }, 1, (by decide)⟩,
  ⟨[1, 2], { writes := true, lanes := [some 3, some 4] }, { writes := true, lanes := [none, some 5] }, 0, (by decide)⟩⟩

/-- States and operands that meet the hypotheses of the clauses of LinkAndNetworkFrame. -/
theorem test_met_LinkAndNetworkFrame :
  (∃ (c : Instr) (s t : State), (familyOf c = .links ∨ familyOf c = .network) ∧ (∀ n, c = .egressTransmit n →
    s.mgmt.resetDue = false) ∧ exec c s = .next t) :=
  ⟨.sweepReturnTime 1 2, up, _, .inr rfl, (fun _ h => nomatch h), rfl⟩

/-- States and operands that meet the hypotheses of the clauses of TimeAndVideoFrame. -/
theorem test_met_TimeAndVideoFrame :
  (∃ (c : Instr) (s t : State), (familyOf c = .time ∨ familyOf c = .video) ∧ exec c s = .next t) ∧
  (∃ (f : Look) (g n : Nat) (s t : State), g = s.boundaryFrom s.cap.since ∧ exec .captureBoundary s = .next t ∧ f =
    t.tablesAt (if s.running = true then ((s.untilDisp g).captureSlot g).getD 0 / 4294967296 else g) ∧ s.cap.target <
    256 ∧ n = 65536 * (t.buf s.cap.handle).pages.length ∧ planeBase (captureFormat s.cap.target) (f.n .tileWidth 0)
    (f.n .tileHeight 0) 3 ≤ n) ∧
  (∃ (src ch q : BitVec 16) (b : Bytes) (c : Nat) (u : UnitHdr) (s t : State), c = ch.toNat % 16384 ∧ u = unitOf b ∧
    exec (.videoUnit src ch q b) s = .next t) ∧
  (∃ (e : Env) (k : Fin 6) (v : Bytes) (s t : State), exec (.storePlacementWrite e k v) s = .next t) :=
  ⟨⟨.syncLoss, up, _, .inl rfl, rfl⟩,
  ⟨_, _, _, { ((cfg.wr .pageCount 4 8).setBuf 4 { pages := [0, 1, 2, 3, 4, 5, 6, 7] }) with cap := { handle := 4 } },
    _, rfl, rfl, rfl, (by decide +kernel), rfl, (by decide +kernel)⟩,
  ⟨0xE001, 5, 0, unitBytes0 4 64, _, _, frm, _, rfl, rfl, rfl⟩,
  ⟨e0, 4, leBytes 4 0x2C004E, up, _, rfl⟩⟩

/-- States and operands that meet the hypotheses of the clauses of ModulatorFrame. -/
theorem test_met_ModulatorFrame :
  (∃ (c : Instr) (s t : State), familyOf c = .modulator ∧ exec c s = .next t) ∧
  (∃ (l : Fin 512) (s t : State), exec (.burstCompute l) s = .next t) ∧
  (∃ (c : Instr) (s t : State), mayBeginSlate c = true ∧ exec c s = .next t) ∧
  (∃ (s t : State), exec .modulatorStopEffect s = .next t) :=
  ⟨⟨.teTimeout 0, up, _, rfl, rfl⟩,
  ⟨0, up, _, burst_idle⟩,
  ⟨.commitEffect, up, _, rfl, rfl⟩,
  ⟨up, _, rfl⟩⟩

/-- States and operands that meet the hypotheses of the clauses of ManagementAndStoreFrame. -/
theorem test_met_ManagementAndStoreFrame :
  (∃ (c : Instr) (s t : State), (familyOf c = .management ∨ familyOf c = .transfers ∨ familyOf c = .store) ∧ (∀ n, c
    = .spiFetch n → s.mgmt.resetDue = false) ∧ exec c s = .next t) ∧
  (∃ (src ch q : BitVec 16) (p : Bytes) (x : Xfer) (s t : State), x = s.xfer ch.toNat ∧ x.kind ≠ 5 ∧ exec
    (.bulkPacketReceived src ch q p) s = .next t) ∧
  (∃ (src ch q : BitVec 16) (p f : Bytes) (s t : State), (s.xfer ch.toNat).kind = 5 ∧ f = (s.xfer ch.toNat).file ++
    p.drop 4 ∧ exec (.bulkPacketReceived src ch q p) s = .next t) ∧
  (∃ (k : Fin 8) (s t : State), exec (.shaleBlock k) s = .next t) ∧
  (∃ (s t : State), exec .nvmLineDone s = .next t) ∧
  (∃ (k : Nat) (s t : State), k = s.freeSlot 65536 s.secure.bbNext ∧ exec .blackboxRecordWrite s = .next t) :=
  ⟨⟨.spiStatus, up, _, .inl rfl, (fun _ h => nomatch h), rfl⟩,
  ⟨0xE001, 2, 0, [0, 0, 0, 0, 7, 8], _, xin, _, rfl, (by decide +kernel), rfl⟩,
  ⟨0xE001, 2, 0, [0, 0, 0, 0, 7, 8], _, xin.setXfer 2 { kind := 5, length := 100, peer := 0xE001 }, _,
    (by decide +kernel), rfl, rfl⟩,
  ⟨2, State.reset, _, rfl⟩,
  ⟨up, _, rfl⟩,
  ⟨_, up, _, rfl, rfl⟩⟩

/-- States and operands that meet the hypotheses of the clauses of PowerAndStartupFrame. -/
theorem test_met_PowerAndStartupFrame :
  (∃ (c : Instr) (s t : State), (familyOf c = .power ∨ familyOf c = .housekeeping ∨ familyOf c = .startup) ∧ exec c s
    = .next t) :=
  ⟨.wakeBallEdge true, up, _, .inl rfl, rfl⟩

/-- The kind of row a session may send: a body one byte too long. -/
def longBody : Bytes := List.replicate 4077 0

/-- A payload one byte too long. -/
def longPayload : Bytes := List.replicate 4097 0

theorem test_body_too_long : WellFormed (.openSession e0 longBody) = false ∧ WellFormed (.commit e0 longBody) = false ∧
    WellFormed (.planEnter e0 longBody) = false ∧ WellFormed (.openSession e0 (longBody.drop 1)) = true := by decide +kernel

theorem test_payload_too_long : WellFormed (.helloReceived 0 longPayload) = false ∧
    WellFormed (.videoUnit 0 0 0 longPayload) = false ∧ WellFormed (.helloReceived 0 (longPayload.drop 1)) = true := by
  decide +kernel

theorem test_message_out_of_width : WellFormed (.write e0 { msg 0 0 [] with offset := 4294967296 }) = false ∧
    WellFormed (.write e0 { msg 0 0 [] with total := 4294967296 }) = false ∧
    WellFormed (.read e0 (msg 0 0 longBody)) = false ∧
    WellFormed (.write e0 { msg 0 0 [] with offset := 4294967295, total := 4294967295 }) = true := by decide +kernel

theorem test_trims_out_of_range :
    WellFormed (.calPhase2Measured 0 { deskew := -41, swing := 0, impedance := 0 }) = false ∧
    WellFormed (.calPhase2Measured 0 { deskew := 41, swing := 0, impedance := 0 }) = false ∧
    WellFormed (.calPhase2Measured 0 { deskew := 0, swing := 64, impedance := 0 }) = false ∧
    WellFormed (.calPhase2Measured 0 { deskew := 0, swing := 0, impedance := 32 }) = false ∧
    WellFormed (.calPhase2Measured 0 { deskew := -40, swing := 63, impedance := 31 }) = true := by decide +kernel

theorem test_counts_of_other_lengths : WellFormed (.sensorConversion (List.replicate 31 0)) = false ∧
    WellFormed (.sensorConversion (List.replicate 32 0)) = true ∧
    WellFormed (.slowRound (List.replicate 367 0)) = false ∧ WellFormed (.slowRound (List.replicate 368 65536)) = false ∧
    WellFormed (.slowRound (List.replicate 368 65535)) = true := by decide +kernel

theorem test_boundary_of_two_lengths : WellFormed (.jtagSamplePreload [true] []) = false ∧
    WellFormed (.jtagSamplePreload (List.replicate 1473 true) (List.replicate 1474 false)) = false ∧
    WellFormed (.jtagSamplePreload (List.replicate 1473 true) [false]) = true := by decide +kernel

/-- The table of commands gives no row any bits. -/
theorem test_no_word_spells_a_command (n w : Nat) : decodeTableWord n w = none := rfl

/-- R133: the size of a 4:2:0 image of 1,920 by 1,080 at depth 10 and target 4 (worked example of the coding chapter). -/
theorem test_frame_bytes_of_420 : frameBytesOf 0x040A03 1920 1080 = 1559520 := by decide +kernel

/-- R145: the FLAT block of a sky (worked example). -/
theorem test_flat_block : encodeBlock (List.replicate 16 512) 10 3 = 0x800 ∧
    decodeBlock 0x800 10 3 = List.replicate 16 512 := by decide +kernel

/-- R141, R145: the DPCM block of a gradient (worked example). -/
theorem test_dpcm_block :
    encodeBlock [40, 44, 49, 53, 58, 62, 67, 71, 42, 46, 51, 55, 60, 64, 69, 73] 8 4 = 0x06BB6B8A69268A05 ∧
    decodeBlock 0x06BB6B8A69268A05 8 4 = [40, 44, 50, 54, 58, 62, 68, 72, 42, 46, 52, 56, 60, 64, 70, 74] := by
  decide +kernel

/-- R142, R145: the TWO-LEVEL block of an edge (worked example). -/
theorem test_two_level_block :
    encodeBlock [16, 18, 17, 233, 235, 236, 17, 16, 16, 17, 234, 235, 236, 18, 16, 17] 8 4 = 0x70E3AC46 ∧
    decodeBlock 0x70E3AC46 8 4 = [17, 17, 17, 235, 235, 235, 17, 17, 17, 17, 235, 235, 235, 17, 17, 17] := by
  decide +kernel

/-- R143, R145: the TRUNC block of noise (worked example). -/
theorem test_trunc_block :
    encodeBlock [12, 200, 87, 150, 33, 240, 99, 5, 180, 64, 222, 18, 131, 77, 250, 140] 8 4 = 0x00027506543E62C3 ∧
    decodeBlock 0x00027506543E62C3 8 4 =
      [16, 208, 80, 144, 48, 240, 112, 16, 176, 80, 208, 16, 144, 80, 240, 144] := by decide +kernel

/-- R150: pages 48 and 71 of the default placement lie in banks 171 and 194 (worked example). -/
theorem test_pages_lie_in_banks : up.pageBank 48 = 171 ∧ up.pageBank 71 = 194 := by decide +kernel

/-- The three views of Table 8.1. -/
def views3 (grouped : Nat) : State :=
  (((up.wr .viewCount 0 3).wr .refreshesPerView 0 16).wrv .slotMap 0 [2, 0, 1, 0, 0, 0, 0, 0]).wr .slotPattern 0 grouped

/-- Table 8.1: the owners of slots under both patterns. -/
theorem test_slot_owners : [0, 1, 2, 3, 16, 47].map (views3 0).geo.slotView = [2, 0, 1, 2, 0, 1] ∧
    [0, 1, 2, 3, 16, 47].map (views3 1).geo.slotView = [2, 2, 2, 2, 0, 1] := by decide +kernel

/-- The four-view camera tile of the worked example of the modulator's chapter. -/
def camera : State :=
  ((((((((up.wr .tileWidth 0 1024).wr .tileHeight 0 768).wr .primaryCount 0 4).wr .laneCount 0 512).wr .outputsPerLane 0
    192).wr .viewCount 0 4).wr .refreshesPerView 0 32).wr .scanRatio 0 32).wr .planeCount 0 12 |>.wr .runAhead 0 4

/-- Table 10.7: the horizon is 154,208.3 ns, the effective dither depth 5, and plane 0 lights for 55.1 ns. -/
theorem test_camera_timing : camera.horizon / 4294967296 = 154208 ∧ camera.geo.m = 5 ∧
    camera.geo.tau / 4294967296 = 4069 := by decide +kernel

/-- Table 9.5: the drift gain of lamp 0, the output rounding and Table 9.10's log codes. -/
theorem test_compensation_of_one_pixel :
    driftGain (fun k => if k = 12 then 33096 else 33030) 109305 = 33052 ∧ driveOf 104741 = 26185 ∧
    driveOf 41906 = 10477 ∧ driveOf 46556 = 11639 ∧ logCode 600 = 98 ∧ logCode 10477 = 164 := by decide +kernel

/-- Table 13.3: the header and the tokens of a short stream. -/
def shortStream : Bytes := [0x53, 0x48, 1, 0, 13, 0, 0, 0, 2, 0x41, 0x42, 0x43, 0x86, 2, 0, 0, 0x58]

/-- Table 13.3: the stream decodes to ABCABCABCABCX. -/
theorem test_short_stream : (Coder.decode {} shortStream 100 100).out.reverse =
    [0x41, 0x42, 0x43, 0x41, 0x42, 0x43, 0x41, 0x42, 0x43, 0x41, 0x42, 0x43, 0x58] := by decide +kernel

/-- R328: the hash of FIPS 180's message abc begins as its example states. -/
theorem test_sha256_abc : (sha256 [0x61, 0x62, 0x63]).take 4 = [0xBA, 0x78, 0x16, 0xBF] := by decide +kernel

/-- FIPS 186: the base point is a point of the curve, and its double is not its opposite. -/
theorem test_base_point : isPoint (beBytes 32 g256.1 ++ beBytes 32 g256.2) = true ∧
    isPoint (beBytes 32 g256.1 ++ beBytes 32 (g256.2 + 1)) = false := by decide +kernel

/-- R107, Table 5.1: Owner of context 5 at byte 516 of its record, and Window at byte 518, in the context store. -/
theorem test_context_record : ctx5.quarryByte (ctx5.storeAddr 2 + 1024 * 5 + 517) = 0xE0 ∧
    ctx5.quarryByte (ctx5.storeAddr 2 + 1024 * 5 + 518) = 3 := by decide +kernel

/-- The command at the front of the queue runs, and the rest waits. -/
theorem test_step_takes_the_front : ∃ t, step { up with pending := [.wakeBallEdge true, .powerOnReset] } = .next t ∧
    t.pending = [.powerOnReset] ∧ t.aon.ball = true ∧ t.aon.ballEdge = false :=
  ⟨_, rfl, by decide +kernel⟩

end Sys2Proof.Tests
end

section
/-! PROOF. Values, packets and stored bytes come back as they went in. -/

namespace Sys2Proof.Machine

/-! Numbers as bytes (R7). -/

@[simp] theorem leBytes_length (k n : Nat) : (leBytes k n).length = k := by
  induction k generalizing n with
  | zero => rfl
  | succ k ih => simp [leBytes, ih]

/-- R7: the number that `k` bytes hold is the number that was put into them, modulo `256 ^ k`. -/
theorem leNat_leBytes (k n : Nat) : leNat (leBytes k n) = n % 256 ^ k := by
  induction k generalizing n with
  | zero => exact (Nat.mod_one n).symm
  | succ k ih =>
    calc leNat (leBytes (k + 1) n) = n % 256 + 256 * (n / 256 % 256 ^ k) := by
          simp only [leBytes, leNat, ih, BitVec.toNat_ofNat, Nat.reducePow]
      _ = n % 256 ^ (k + 1) := by rw [Nat.pow_succ', Nat.mod_mul]

/-! The values of entries (R266). -/

/-- Every entry has elements of at least one byte. -/
theorem Ent.elt_pos (x : Ent) : 0 < x.info.elt := by
  unfold Ent.info
  cases x <;> decide

theorem EntInfo.encode_cons (i : EntInfo) (n : Nat) (v : Val) :
    i.encode (n :: v) = leBytes i.elt n ++ i.encode v := rfl

theorem EntInfo.encode_length (i : EntInfo) (v : Val) : (i.encode v).length = v.length * i.elt := by
  induction v with
  | nil => simp [EntInfo.encode]
  | cons n v ih => rw [encode_cons, List.length_append, ih, leBytes_length, List.length_cons]; ring

theorem cut_encode (i : EntInfo) {v : Val} (h : ∀ n ∈ v, n < 256 ^ i.elt) : cut i.elt v.length (i.encode v) = v := by
  induction v with
  | nil => rfl
  | cons n v ih =>
    obtain ⟨hn, hv⟩ := List.forall_mem_cons.1 h
    have htake : (i.encode (n :: v)).take i.elt = leBytes i.elt n := by
      rw [EntInfo.encode_cons]; exact List.take_left' (leBytes_length ..)
    have hdrop : (i.encode (n :: v)).drop i.elt = i.encode v := by
      rw [EntInfo.encode_cons]; exact List.drop_left' (leBytes_length ..)
    rw [List.length_cons, cut, htake, hdrop, leNat_leBytes, Nat.mod_eq_of_lt hn, ih hv]

theorem EntInfo.decode_encode {i : EntInfo} (hi : 0 < i.elt) {v : Val} (h : ∀ n ∈ v, n < 256 ^ i.elt) :
    i.decode (i.encode v) = v := by
  simp [EntInfo.decode, EntInfo.encode_length, Nat.mul_div_cancel _ hi, cut_encode i h]

/-! The fields of a byte string. -/

theorem field_append_right {l : Bytes} (r : Bytes) {a : Nat} (n : Nat) (h : l.length ≤ a) :
    field (l ++ r) a n = field r (a - l.length) n := by
  rw [field, List.drop_append, List.drop_eq_nil_of_le h, List.nil_append, field]

theorem field_leBytes_append (k n : Nat) (r : Bytes) : field (leBytes k n ++ r) 0 k = n % 256 ^ k := by
  rw [field, List.drop_zero, List.take_left' (leBytes_length k n), leNat_leBytes]

theorem field_leBytes (k n : Nat) : field (leBytes k n) 0 k = n % 256 ^ k := by
  simpa using field_leBytes_append k n []

/-! The check words of a packet (R58) fit their fields. -/

theorem crc16Step_lt {c : Nat} (h : c < 2 ^ 16) (b : Byte) : crc16Step c b < 2 ^ 16 := by
  have hb : b.toNat * 256 < 2 ^ 16 := by have := b.isLt; omega
  refine List.foldlRecOn (motive := (· < 2 ^ 16)) _ _ (Nat.xor_lt_two_pow h hb) fun c _ _ _ => ?_
  have hc : c * 2 % 65536 < 2 ^ 16 := Nat.mod_lt _ (by decide)
  split
  · exact Nat.xor_lt_two_pow hc (by decide)
  · exact hc

theorem crc16_lt (b : Bytes) : crc16 b < 2 ^ 16 :=
  List.foldlRecOn (motive := (· < 2 ^ 16)) _ _ (by decide) fun _ h x _ => crc16Step_lt h x

theorem crc32Step_lt {c : Nat} (h : c < 2 ^ 32) (b : Byte) : crc32Step c b < 2 ^ 32 := by
  have hb : b.toNat < 2 ^ 32 := by have := b.isLt; omega
  refine List.foldlRecOn (motive := (· < 2 ^ 32)) _ _ (Nat.xor_lt_two_pow h hb) fun c h _ _ => ?_
  have hc : c / 2 < 2 ^ 32 := Nat.lt_of_le_of_lt (Nat.div_le_self c 2) h
  split
  · exact Nat.xor_lt_two_pow hc (by decide)
  · exact hc

theorem crc32_lt (b : Bytes) : crc32 b < 2 ^ 32 :=
  Nat.xor_lt_two_pow
    (List.foldlRecOn (motive := (· < 2 ^ 32)) _ _ (by decide) fun _ h x _ => crc32Step_lt h x) (by decide)

/-! The bytes of a packet (R58, Table 3.1). -/

/-- The fields of a packet fit the widths that Table 3.1 gives them. -/
structure Packet.Fits (p : Packet) : Prop where
  cls : p.cls < 4
  hop : p.hop < 256
  dest : p.dest < 65536
  source : p.source < 65536
  channel : p.channel < 65536
  seq : p.seq < 65536
  length : p.payload.length < 65536

/-- Byte 0 of a packet: Version, Class and DestMode. -/
def Packet.byte0 (p : Packet) : Nat := 1 + 16 * (p.cls % 4) + 64 * modeCode p.mode

theorem Packet.byte0_lt (p : Packet) : p.byte0 < 256 := by
  have : modeCode p.mode < 4 := by cases p.mode <;> decide
  unfold Packet.byte0; omega

theorem modeOf_modeCode (m : DestMode) : modeOf (modeCode m) = m := by cases m <;> rfl

theorem Packet.head_length (p : Packet) : p.head.length = 14 := by simp [Packet.head]

theorem Packet.bytes_length (p : Packet) : p.bytes.length = 20 + p.payload.length := by
  simp [Packet.bytes, Packet.head_length]; omega

/-- The fields of the header lie one after another, in the order of Table 3.1. -/
theorem Packet.Fits.field_bytes {p : Packet} (h : p.Fits) :
    field p.bytes 0 1 = p.byte0 ∧ field p.bytes 1 1 = p.hop ∧ field p.bytes 2 2 = p.dest ∧
    field p.bytes 4 2 = p.source ∧ field p.bytes 6 2 = p.channel ∧ field p.bytes 8 2 = p.seq ∧
    field p.bytes 10 2 = p.payload.length := by
  obtain ⟨-, hop, dest, source, channel, seq, length⟩ := h
  have byte0 : (1 + 16 * (p.cls % 4) + 64 * modeCode p.mode) % 256 = p.byte0 := Nat.mod_eq_of_lt p.byte0_lt
  simp [Packet.bytes, Packet.head, field_append_right, field_leBytes_append, Nat.mod_eq_of_lt, byte0, hop, dest,
    source, channel, seq, length]

theorem Packet.bytes_take_head (p : Packet) : p.bytes.take 14 = p.head := by
  simp only [Packet.bytes, List.append_assoc]
  exact List.take_left' p.head_length

theorem Packet.bytes_payload (p : Packet) : (p.bytes.drop 16).take p.payload.length = p.payload := by
  have h : (p.head ++ leBytes 2 (crc16 p.head)).length = 16 := by simp [Packet.head_length]
  rw [Packet.bytes, List.append_assoc, List.drop_left' h, List.take_left' rfl]

theorem Packet.field_headerCheck (p : Packet) : field p.bytes 14 2 = crc16 p.head := by
  rw [Packet.bytes, List.append_assoc, List.append_assoc, field_append_right _ _ p.head_length.le, p.head_length,
    field_leBytes_append]
  exact Nat.mod_eq_of_lt (crc16_lt _)

theorem Packet.field_packetCheck (p : Packet) : field p.bytes (16 + p.payload.length) 4 = crc32 p.payload := by
  have h : (p.head ++ leBytes 2 (crc16 p.head) ++ p.payload).length = 16 + p.payload.length := by
    simp [Packet.head_length]; omega
  rw [Packet.bytes, field_append_right _ _ h.le, h, Nat.sub_self, field_leBytes]
  exact Nat.mod_eq_of_lt (crc32_lt _)

/-- R58: a receiver reads from a packet's bytes what was sent. -/
theorem Packet.Fits.ofBytes_bytes {p : Packet} (h : p.Fits) : Packet.ofBytes p.bytes = p := by
  obtain ⟨h0, h1, h2, h4, h6, h8, h10⟩ := h.field_bytes
  have hcls : p.byte0 / 16 % 4 = p.cls := by have := h.cls; unfold Packet.byte0; omega
  have hmode : p.byte0 / 64 = modeCode p.mode := by unfold Packet.byte0; omega
  simp only [Packet.ofBytes, h0, h1, h2, h4, h6, h8, h10, hcls, hmode, modeOf_modeCode, Packet.bytes_payload]

/-- No control message has its Channel among the sessions' (Table 3.5). -/
theorem controlForm_of_lt {c : Nat} (h : c < 256) : controlForm c = none := by
  unfold controlForm
  iterate 6 rw [if_neg (by omega)]

/-- R59, R60: the checks of a receiver find no fault in a packet within its class's length; a packet of class 0 is
link-local, and a Channel of class 1 is a session's. -/
theorem Packet.Fits.packetFault_bytes {p : Packet} (h : p.Fits)
    (hlen : p.payload.length ≤ if p.cls = 0 then 64 else 4096)
    (htime : p.cls = 0 → p.mode = .linkLocal) (hmgmt : p.cls = 1 → p.channel < 256) :
    packetFault p.bytes = none := by
  obtain ⟨h0, -, -, -, -, -, h10⟩ := h.field_bytes
  have hversion : p.byte0 % 16 = 1 := by unfold Packet.byte0; omega
  have hshort : ¬ p.bytes.length < 16 := by rw [p.bytes_length]; omega
  have hheader : ¬ (crc16 p.head ≠ crc16 p.head ∨ p.byte0 % 16 ≠ 1) := by simp [hversion]
  have hpacket : ¬ (p.bytes.length ≠ 20 + p.payload.length ∨ crc32 p.payload ≠ crc32 p.payload
      ∨ (if p.cls = 0 then 64 else 4096) < p.payload.length) := by
    simp only [p.bytes_length, ne_eq, not_true_eq_false, false_or]; omega
  have hlink : ¬ (p.cls = 0 ∧ p.mode ≠ .linkLocal) := fun ⟨h0, hm⟩ => hm (htime h0)
  simp only [packetFault, h.ofBytes_bytes, h0, h10, p.field_headerCheck, p.bytes_take_head, p.field_packetCheck]
  rw [if_neg hshort, if_neg hheader, if_neg hpacket, if_neg hlink]
  split
  case isTrue h1 => rw [controlForm_of_lt (hmgmt h1)]
  case isFalse => rfl

/-! Bytes in the Quarry (R149) and two accesses to a word (R160). -/

theorem SMap.bytes_write (m : SMap Byte) (a : Nat) (b : Bytes) : SMap.bytes (SMap.write m a b) a b.length = b := by
  induction b generalizing m a with
  | nil => rfl
  | cons x t ih =>
    have hx : SMap.get (SMap.write m a (x :: t)) a 0 = x := by
      rw [Memory.get_write, if_pos ⟨le_rfl, by simp⟩, Nat.sub_self, List.getD_cons_zero]
    rw [List.length_cons, SMap.bytes, hx, SMap.write, ih]

theorem SMap.get_write_outside (m : SMap Byte) {a : Nat} {b : Bytes} {x : Nat} (h : x < a ∨ a + b.length ≤ x) :
    SMap.get (SMap.write m a b) x 0 = SMap.get m x 0 := by
  rw [Memory.get_write, if_neg (by omega)]

/-- A write leaves the length of a word as it is. -/
theorem PortAccess.after_length {w : Bytes} {a : PortAccess} (h : a.lanes.length = w.length) :
    (a.after w).length = w.length := by
  unfold PortAccess.after
  split
  · simp [mergeLanes, h]
  · rfl

/-- A byte of a word after an access: the access's own where it writes and enables the lane. -/
theorem PortAccess.after_getD {w : Bytes} {a : PortAccess} {k : Nat} (hk : k < w.length)
    (h : a.lanes.length = w.length) :
    (a.after w).getD k 0 =
      if a.writes = true ∧ (a.lanes.getD k none).isSome = true then (a.lanes.getD k none).getD 0 else w.getD k 0 := by
  have hl : k < a.lanes.length := h ▸ hk
  cases hw : a.writes with
  | false => simp [PortAccess.after, hw]
  | true =>
    cases ho : a.lanes[k] <;>
      simp [PortAccess.after, hw, mergeLanes, hk, hl, ho]

/-- R160: after the accesses of both ports a lane holds port B's byte where B writes it, else port A's where A does. -/
theorem sameWordCycle_lanes {w : Bytes} {x y : PortAccess} {k : Nat} (hk : k < w.length)
    (hx : x.lanes.length = w.length) (hy : y.lanes.length = w.length) :
    (sameWordCycle w x y).2.2[k]? = some (
      if y.writes = true ∧ (y.lanes.getD k none).isSome = true then (y.lanes.getD k none).getD 0
      else if x.writes = true ∧ (x.lanes.getD k none).isSome = true then (x.lanes.getD k none).getD 0
      else w.getD k 0) := by
  have hlen : (x.after w).length = w.length := PortAccess.after_length hx
  have hyA : y.lanes.length = (x.after w).length := hy.trans hlen.symm
  have hkA : k < (x.after w).length := hlen.symm ▸ hk
  have hkB : k < (y.after (x.after w)).length := (PortAccess.after_length hyA).symm ▸ hkA
  calc (y.after (x.after w))[k]? = some ((y.after (x.after w)).getD k 0) := by
        rw [List.getElem?_eq_getElem hkB, List.getD_eq_getElem _ _ hkB]
    _ = _ := by rw [PortAccess.after_getD hkA hyA, PortAccess.after_getD hk hx]

/-- R160: where both ports write, a read of port A in the cycle of port B's write finds the word after port A's. -/
theorem sameWordCycle_between {w : Bytes} {x y : PortAccess} (hx : x.writes = true) (hy : y.writes = true) :
    (sameWordCycle w x y).2.1 = x.after w := by
  simp [sameWordCycle, hx, hy]

/-- Settles O55: a number comes back from its bytes, the fields of a packet lie where a receiver looks for them, and a
byte of a memory or of a word is the one written last. -/
theorem bytesComeBack : Obligations.BytesComeBack := by
  unfold Obligations.BytesComeBack
  refine ⟨fun x v hv => ⟨EntInfo.encode_length .., EntInfo.decode_encode x.elt_pos hv⟩,
    fun p hop hdest hsource hchannel hseq hlen hcls => ?_,
    fun a b s => ⟨SMap.bytes_write .., fun _ => SMap.get_write_outside _, fun hwf => Memory.wf_write hwf a b,
      fun w x y k hk hx hy => ⟨rfl, sameWordCycle_lanes hk hx hy, sameWordCycle_between⟩⟩⟩
  have hfits : p.Fits := ⟨by omega, hop, hdest, hsource, hchannel, hseq, by omega⟩
  have hlimit : p.payload.length ≤ if p.cls = 0 then 64 else 4096 := by split <;> omega
  have htime (h0 : p.cls = 0) : p.mode = .linkLocal := by
    obtain h | h | h | h := hcls
    · omega
    · omega
    · omega
    · exact h.2.1
  have hfault : packetFault p.bytes = none := hfits.packetFault_bytes hlimit htime (by omega)
  simp only [hfault, hfits.ofBytes_bytes, and_self]

end Sys2Proof.Machine
end

section
/-! PROOF. The counters of the ports and lanes (R54). -/

namespace Sys2Proof.Machine

/-- Tables 2.9 and 2.10: the counters among the entries of a port and of a lane. -/
def linkCounters : List Ent :=
  [.trainFailures, .rateFallbacks, .linkDowns, .badPackets, .sleepNaks, .invalidHeaders, .blockLockLosses, .bipErrors,
    .adaptReverts]

/-- R54: what the tables say of every one of the counters. -/
theorem linkCounter_info : ∀ x ∈ linkCounters, x.info.ty = .u32 ∧ x.info.elt = 4 ∧ x.info.acc = .rw ∧
    x.info.cls = .immediate ∧ x.info.lo = 0 ∧ x.info.index < 0x3030 ∧ x.guarded = false := by
  unfold Ent.info
  decide

/-- R54, R278, R279: a counter is written in every state, takes 0 alone, and a write has no effect beyond its value. -/
theorem linkCounter_write {x : Ent} (hx : x ∈ linkCounters) (s : State) (e : Env) (i n : Nat) :
    s.stateCheck x i = none ∧ s.valueOk x i [n] = decide (n = 0) ∧ writeEff e x i = plainEff x i := by
  have hcounter : ∀ y ∈ linkCounters, y.isCounter = true := by unfold Ent.isCounter Ent.info; decide
  have hc := hcounter x hx
  simp only [linkCounters, List.mem_cons, List.not_mem_nil, or_false] at hx
  rcases hx with rfl | rfl | rfl | rfl | rfl | rfl | rfl | rfl | rfl <;>
    exact ⟨rfl, by simp [State.valueOk, hc], rfl⟩

theorem entryCheck_linkCounter {x : Ent} (hx : x ∈ linkCounters) (s : State) (i n : Nat) :
    s.entryCheck x i [n] = if n = 0 then none else some .range := by
  obtain ⟨hty, -, -, -, hlo, -, -⟩ := linkCounter_info x hx
  obtain ⟨hstate, hvalue, -⟩ := linkCounter_write hx s spiEnv i n
  have hspec : x ≠ .jobSpec := by rintro rfl; exact absurd hx (by decide)
  have hrange : rangeOk x [0] = true := by simp [rangeOk, hty, hlo, Ty.scalar]
  unfold State.entryCheck
  simp only [hstate, hspec, false_and, if_false, hvalue, Bool.and_eq_true, decide_eq_true_eq]
  by_cases hn : n = 0
  · subst hn; simp [hrange]
  · simp [hn]

/-- R54, R279: a write of a counter clears it or is refused. -/
theorem plainEff_linkCounter {x : Ent} (hx : x ∈ linkCounters) (s : State) (i n : Nat) :
    plainEff x i [n] s = if n = 0 then (s.wr x i 0, ans .ok) else (s, ans .range) := by
  obtain ⟨-, -, -, -, -, hindex, -⟩ := linkCounter_info x hx
  have hroute : x ≠ .routeTable := by rintro rfl; exact absurd hx (by decide)
  have hkeep : ¬ (0x3030 ≤ x.info.index ∧ x.info.index < 0x3034) := by omega
  unfold plainEff
  rw [entryCheck_linkCounter hx]
  split
  · rename_i h; split at h
    · cases h
    · rename_i hn; cases h; rw [if_neg hn]
  · rename_i h; split at h
    · rename_i hn; subst hn; simp [hkeep, writtenForm, hroute, State.wr]
    · cases h

/-- Bytes spell 0 exactly when each of them is 0. -/
theorem leNat_eq_zero_iff (b : Bytes) : leNat b = 0 ↔ b = List.replicate b.length 0 := by
  induction b with
  | nil => simp [leNat]
  | cons x t ih =>
    have hx : x.toNat = 0 ↔ x = 0 := ⟨fun h => BitVec.eq_of_toNat_eq h, fun h => by simp [h]⟩
    simp only [leNat, List.length_cons, List.replicate_succ, List.cons.injEq, ← ih, ← hx]
    omega

theorem decode_linkCounter {x : Ent} (hx : x ∈ linkCounters) {b : Bytes} (hb : b.length = 4) :
    x.info.decode b = [leNat b] := by
  obtain ⟨-, helt, -⟩ := linkCounter_info x hx
  simp [EntInfo.decode, helt, hb, cut, List.take_of_length_le (Nat.le_of_eq hb)]

/-- R265: what a search finds is an entry whose row holds the index and subindex. -/
theorem Ent.find_inst {n k : Nat} {x : Ent} {i : Nat} (h : Ent.find n k = some (x, i)) : x.info.inst n k = some i := by
  obtain ⟨y, -, hy⟩ := List.exists_of_findSome?_eq_some h
  obtain ⟨j, hj, he⟩ := Option.map_eq_some_iff.1 hy
  cases he
  exact hj

/-- R270: no counter lies in the restricted range. -/
theorem Ent.find_linkCounter_lt {x : Ent} (hx : x ∈ linkCounters) {n k i : Nat} (h : Ent.find n k = some (x, i)) :
    n < 0xF000 := by
  have hplace : ∀ y ∈ linkCounters, y.info.bySub = false ∧ y.info.index + y.info.count < 0xF000 := by
    unfold Ent.info; decide
  obtain ⟨hby, hlt⟩ := hplace x hx
  have hi := Ent.find_inst h
  simp only [EntInfo.inst, hby, Bool.false_eq_true, if_false] at hi
  split at hi
  · omega
  · cases hi

/-- R278 to R280: a whole value of the right length for an immediate entry that is read and written, while no segment is
open, has the entry's own effect. -/
theorem writeBodyOf_immediate {s : State} {e : Env} {m : EntryMsg} {x : Ent} {i : Nat} (hindex : m.index.toNat < 0xF000)
    (hfind : Ent.find m.index.toNat m.sub.toNat = some (x, i)) (hguard : x.guarded = false) (hacc : x.info.acc = .rw)
    (hcls : x.info.cls = .immediate) (hseg : Machine.EntryMsg.isSegment m = false)
    (hopen : (s.session (sessionOf e)).seg = none) (hlen : m.body.length = x.info.elt) :
    writeBodyOf e false m s = writeEff e x i (x.info.decode m.body) s := by
  unfold writeBodyOf State.writeSegments State.writeWhole
  simp [Nat.not_le.2 hindex, hfind, hguard, hacc, hcls, hseg, hopen, hlen]

/-- R273 to R279: a request of which nothing follows but its answer. -/
theorem exec_write_plain {s t : State} {e : Env} {m : EntryMsg} {st : Status} (hrun : s.runs e false false)
    (hindex : m.index.toNat < 0xF000) (hstill : s.still) (hbody : writeBodyOf e false m (s.claimSpi e) = (t, ans st))
    (hmgmt : t.mgmt = (s.claimSpi e).mgmt) (hsecure : t.secure = s.secure) :
    ∃ u, exec (.write e m) s = .next u ∧ u.answered e st ∧ ∀ x j, x.dropCounter = false → u.rd x j = t.rd x j := by
  obtain ⟨hjudge, hfree⟩ := hrun
  obtain ⟨hops, hreset, hunassign⟩ := hstill
  have hrestricted : s.restricted e false m = false := by
    simp [State.restricted, restrictedFor, Nat.not_le.2 hindex]
  have hreq : s.request (msgReq e 0x11 m) false false (writeBodyOf e false m) = t.finish (msgReq e 0x11 m) (ans st) false := by
    rw [State.request_run _ _ _ _ _ hjudge hfree]
    show (writeBodyOf e false m (s.claimSpi e)).1.finish _ (writeBodyOf e false m (s.claimSpi e)).2 false = _
    rw [hbody]
  have hidle := State.settled_idle (t.finish (msgReq e 0x11 m) (ans st) false) s
    (by simp [hsecure, hops]) (by simp [hsecure]) (by simp [hmgmt, hunassign]) (by simp [hmgmt, hreset])
  obtain ⟨a, b, hsettled⟩ := hidle
  refine ⟨(t.finish (msgReq e 0x11 m) (ans st) false).settled s, ?_, ?_, fun x j hx => ?_⟩
  · show execWrite e m s = _
    simp only [execWrite, hrestricted, State.writeMsg, Bool.false_eq_true, if_false]
    rw [hreq]
  · rw [hsettled]
    exact State.finish_answered t (msgReq e 0x11 m) st false
  · rw [hsettled]
    exact State.finish_rd t _ _ _ _ _ hx

/-- Settles O52: the counters saturate, and a write clears one or is refused. -/
theorem countersSaturateAndClear : Obligations.CountersSaturateAndClear := by
  unfold Obligations.CountersSaturateAndClear
  intro x hx
  replace hx : x ∈ linkCounters := hx
  obtain ⟨hty, helt, hacc, hcls, -, -, hguard⟩ := linkCounter_info x hx
  have hdrop : x.dropCounter = false := by
    have : ∀ y ∈ linkCounters, y.dropCounter = false := by decide
    exact this x hx
  refine ⟨hty, fun i n s _ => ?_, fun e m i s hrun hfind hseg hopen hstill => ?_⟩
  · rw [State.countBy_rd, if_pos ⟨rfl, rfl⟩]
    split <;> omega
  · have hindex := Ent.find_linkCounter_lt hx hfind
    have hbody (hlen : m.body.length = 4) : writeBodyOf e false m (s.claimSpi e)
        = if leNat m.body = 0 then ((s.claimSpi e).wr x i 0, ans .ok) else (s.claimSpi e, ans .range) := by
      rw [writeBodyOf_immediate hindex hfind hguard hacc hcls hseg (by simpa using hopen) (by rw [hlen, helt]),
        (linkCounter_write hx s e i 0).2.2, decode_linkCounter hx hlen, plainEff_linkCounter hx]
    refine ⟨fun hzero => ?_, fun hlen hne => ?_⟩
    · have hnum : leNat m.body = 0 := by rw [hzero]; rfl
      have hb := hbody (by rw [hzero]; rfl)
      rw [if_pos hnum] at hb
      obtain ⟨u, hu, hans, hrd⟩ := exec_write_plain hrun hindex hstill hb (by simp) (by simp)
      exact ⟨u, hu, by rw [hrd x i hdrop]; simp, hans⟩
    · have hnum : leNat m.body ≠ 0 := fun h => hne (by rw [(leNat_eq_zero_iff _).1 h, hlen]; rfl)
      have hb := hbody hlen
      rw [if_neg hnum] at hb
      obtain ⟨u, hu, hans, hrd⟩ := exec_write_plain hrun hindex hstill hb rfl (by simp)
      exact ⟨u, hu, by rw [hrd x i hdrop]; simp, hans⟩

end Sys2Proof.Machine
end

section
/-! PROOF. Packets that come in are checked, learned from and routed; those that go out leave in order (R59, R71, R72). -/

namespace Sys2Proof.Machine

/-- R28: taking a packet from its port changes what that port has ready, and nothing else. -/
theorem State.takeDone_eq (s : State) (n : Nat) (b : Bytes) (bad : Bool) :
    s.takeDone n b bad = s ∨ ∃ d, s.takeDone n b bad = s.setPort n { s.port n with done := d } := by
  unfold State.takeDone
  dsimp only
  split
  · split
    · exact .inr ⟨_, rfl⟩
    · exact .inl rfl
  · exact .inl rfl

@[simp] theorem State.takeDone_regs (s : State) (n : Nat) (b : Bytes) (bad : Bool) :
    (s.takeDone n b bad).regs = s.regs := by
  obtain h | ⟨d, h⟩ := s.takeDone_eq n b bad <;> rw [h]
  exact State.setPort_regs ..

@[simp] theorem State.takeDone_queue (s : State) (n m : Nat) (b : Bytes) (bad : Bool) :
    ((s.takeDone n b bad).port m).queue = (s.port m).queue := by
  obtain h | ⟨d, h⟩ := s.takeDone_eq n b bad <;> rw [h]
  rw [State.setPort_port]
  split
  · rename_i hm; subst hm; rfl
  · rfl

@[simp] theorem State.takeDone_rdv (s : State) (n : Nat) (b : Bytes) (bad : Bool) (x : Ent) (i : Nat) :
    (s.takeDone n b bad).rdv x i = s.rdv x i := by unfold State.rdv; rw [State.takeDone_regs]

@[simp] theorem State.takeDone_rd (s : State) (n : Nat) (b : Bytes) (bad : Bool) (x : Ent) (i : Nat) :
    (s.takeDone n b bad).rd x i = s.rd x i := by unfold State.rd; rw [State.takeDone_rdv]

@[simp] theorem State.takeDone_rdn (s : State) (n : Nat) (b : Bytes) (bad : Bool) (x : Ent) (i k : Nat) :
    (s.takeDone n b bad).rdn x i k = s.rdn x i k := by unfold State.rdn; rw [State.takeDone_rdv]

@[simp] theorem State.takeDone_active (s : State) (n : Nat) (b : Bytes) (bad : Bool) (m : Nat) :
    (s.takeDone n b bad).active m = s.active m := by unfold State.active; rw [State.takeDone_rd]

@[simp] theorem State.takeDone_upstream (s : State) (n : Nat) (b : Bytes) (bad : Bool) :
    (s.takeDone n b bad).upstream = s.upstream := by unfold State.upstream; rw [State.takeDone_rd]

/-- R59: the checks of a packet count in two counters. -/
theorem packetFault_counter {b : Bytes} {x : Ent} (h : packetFault b = some x) :
    x = .headerCheckErrors ∨ x = .packetCheckErrors := by
  unfold packetFault at h
  dsimp only at h
  repeat' split at h
  all_goals simp_all

section
variable {n : Fin 4} {s : State} (hport : s.alive n = true) (hnet : s.alive 4 = true) (hactive : s.active n = true)
include hport hnet hactive

/-- R28: a packet that ends bad on an ACTIVE port is counted there. -/
theorem packetReceivedEff_bad (b : Bytes) :
    packetReceivedEff n b true s = (s.takeDone n b true).count .badPackets n := by
  simp [packetReceivedEff, hport, hnet, hactive]

/-- R59: a packet with a fault is counted at that fault's counter. -/
theorem packetReceivedEff_fault {b : Bytes} {x : Ent} (hb : packetFault b = some x) :
    packetReceivedEff n b false s = (s.takeDone n b false).count x 0 := by
  simp [packetReceivedEff, hport, hnet, hactive, hb]

/-- R71: a sound unicast packet at an addressed device is routed. -/
theorem packetReceivedEff_unicast {b : Bytes} (hb : packetFault b = none) (hmode : (Packet.ofBytes b).mode = .unicast)
    (haddr : s.rd .deviceAddress 0 ≠ 0xFFFF) :
    packetReceivedEff n b false s = (s.takeDone n b false).routeUnicast n (Packet.ofBytes b) := by
  simp [packetReceivedEff, hport, hnet, hactive, hb, State.routePacket, hmode, haddr]

end

/-- R71: a packet from a host or a range beyond the devices teaches no route; one for a device with a route to another port
goes on there. -/
theorem State.routeUnicast_forward {s : State} {n r : Fin 4} {p : Packet} (hsource : 0x1000 ≤ p.source)
    (hown : p.dest ≠ s.rd .deviceAddress 0) (hdest : p.dest < 0x1000) (hhop : p.hop ≠ 0)
    (hroute : s.rdn .routeTable 0 p.dest % 8 = r) (hback : r ≠ n) : s.routeUnicast n p = s.forward p r := by
  have hhost : ¬ (0xE000 ≤ p.dest ∧ p.dest ≤ 0xEFFF) := by omega
  have hr : r.val < 4 := r.isLt
  have hne : (r : Nat) ≠ n := fun h => hback (Fin.ext h)
  simp [State.routeUnicast, Nat.not_lt.2 hsource, hown, hdest, hhop, hroute, hhost, hr, hne]

/-- R72: an ACTIVE port with room takes the packet behind the others. -/
theorem State.enqueue_room {s : State} {n : Nat} {p : Packet} (hactive : s.active n = true)
    (hroom : queueRoom (s.port n).queue p = true) :
    s.enqueue n p false = s.setPort n { s.port n with queue := (s.port n).queue ++ [p] } := by
  simp [State.enqueue, hactive, hroom]

/-- R71: what becomes of a packet for another device changes no entry but the drop counters and HopLimitDrops. -/
theorem State.routeUnicast_rdn (s : State) (n : Fin 4) (p : Packet) (k : Nat)
    (hown : p.dest ≠ s.rd .deviceAddress 0) :
    (s.routeUnicast n p).rdn .routeTable 0 k
      = (if p.source < 0x1000 ∧ s.upstream ≠ some n.val ∧ !hostRoute (s.rdn .routeTable 0 p.source) then
          s.wrn .routeTable 0 p.source (128 + n.val) else s).rdn .routeTable 0 k := by
  unfold State.routeUnicast State.forward
  extract_lets up fromUp learned r
  have hlearned : learned = if p.source < 0x1000 ∧ s.upstream ≠ some n.val ∧ !hostRoute (s.rdn .routeTable 0 p.source) then
      s.wrn .routeTable 0 p.source (128 + n.val) else s := by
    simp [learned, fromUp, up]
  have hdev : learned.rd .deviceAddress 0 = s.rd .deviceAddress 0 := by
    rw [hlearned]; split <;> simp
  rw [hdev, if_neg hown, ← hlearned]
  clear_value learned r
  cases up <;> repeat' split
  all_goals simp [Ent.dropCounter]

/-- R28, R32: what a transmitter does leaves the packets of its ports as they were. -/
theorem TxKeep.queue {s t : State} (h : TxKeep s t) (m : Nat) : (t.port m).queue = (s.port m).queue :=
  (congrArg Port.queue (h.port m) :)

theorem TxKeep.sent {s t : State} (h : TxKeep s t) (m : Nat) :
    (t.port m).sent = (s.port m).sent ∧ (t.port m).sentBad = (s.port m).sentBad :=
  ⟨(congrArg Port.sent (h.port m) :), (congrArg Port.sentBad (h.port m) :)⟩

theorem TxKeep.clearSent (s : State) (n : Nat) : TxKeep s (s.clearSent n) :=
  TxKeep.forEach _ _ (fun s l => TxKeep.setLane s n l { s.lane n l with sent := [] } rfl) s

/-- R72: the packet as it starts: its stamps, and whether it proves bad. -/
def State.starting (s : State) (p : Packet) : Packet :=
  let t := s.dispFine + (ofPs Config.txLatency.toNat).toNat
  stampPacket p t ((t : Int) + s.time.calOfs)

/-- R72: the next packet leaves the queue with its stamps taken. -/
theorem egressTransmitEff_port {s : State} {n : Nat} {p : Packet} (hport : s.alive n = true) (hactive : s.active n = true)
    (hnext : nextPacket (s.port n).queue = some p) (hfree : s.txFree n ≤ s.aon.mono) :
    ((egressTransmitEff n s).port n).queue = (s.port n).queue.erase p
      ∧ ((egressTransmitEff n s).port n).sent = some (s.starting p)
      ∧ ((egressTransmitEff n s).port n).sentBad = (packetFault (s.starting p).bytes).isSome
      ∧ (egressTransmitEff n s).mgmt = s.mgmt := by
  have hrun := TxKeep.txRun s n
  have hstart : (s.txRun n).starting p = s.starting p := by
    unfold State.starting State.dispFine; rw [hrun.rest]
  have hmgmt : (s.txRun n).mgmt = s.mgmt := by rw [hrun.rest]
  unfold egressTransmitEff
  simp -zeta only [hport, hactive, hnext, State.untilMono_due s _ hfree, Bool.and_self, Bool.not_true, Bool.false_eq_true, if_false]
  extract_lets s0 t q bad port s1 s2
  have hq : q = s.starting p := hstart
  have h2 : TxKeep s1 s2 := (TxKeep.clearSent s1 n).trans (TxKeep.stripe _ _ _)
  have hs1 : s1.port n = { port with queue := (s0.port n).queue.erase p, sent := some q, sentBad := bad } :=
    (State.setPort_port ..).trans (if_pos rfl)
  have hmgmt2 : s2.mgmt = s.mgmt := by rw [h2.rest]; exact hmgmt
  have hend : ∀ u : State, u.ports = s2.ports → u.mgmt = s2.mgmt →
      (u.port n).queue = (s.port n).queue.erase p ∧ (u.port n).sent = some (s.starting p)
        ∧ (u.port n).sentBad = (packetFault (s.starting p).bytes).isSome ∧ u.mgmt = s.mgmt := fun u hu hm => by
    have hp : u.port n = s2.port n := by unfold State.port; rw [hu]
    rw [hp, h2.queue, (h2.sent n).1, (h2.sent n).2, hs1, ← hq, hm]
    exact ⟨by rw [← hrun.queue n], by dsimp only, by dsimp only [bad], hmgmt2⟩
  split
  · exact hend { s2 with time := _ } rfl rfl
  · exact hend s2 rfl rfl

/-- Settles O4: packets are checked, routed and sent in order of class. -/
theorem packetsMoveOn : Obligations.PacketsMoveOn := by
  unfold Obligations.PacketsMoveOn
  refine ⟨⟨?bad, ?fault, ?forward, ?learn⟩, ?egress⟩
  case bad =>
    intro n b s hport hnet hactive
    refine ⟨_, rfl, ?_⟩
    rw [packetReceivedEff_bad hport hnet hactive]
    simp
  case fault =>
    intro n b x s hport hnet hactive hx
    refine ⟨_, rfl, ?_⟩
    rw [packetReceivedEff_fault hport hnet hactive hx]
    obtain rfl | rfl := packetFault_counter hx <;> simp
  case forward =>
    intro n r b s hport hnet hactive hb hmode haddr hown hdest hhop hsource hroute hback hr hroom
    refine ⟨_, rfl, ?_⟩
    rw [packetReceivedEff_unicast hport hnet hactive hb hmode haddr,
      State.routeUnicast_forward hsource (by simpa using hown) hdest hhop (by simpa using hroute) hback, State.forward,
      State.enqueue_room (by simpa using hr) (by simpa using hroom)]
    simp
  case learn =>
    intro n b s hport hnet hactive hb hmode haddr hown hlen hsource hup hroute
    refine ⟨_, rfl, ?_⟩
    have hlearns : hostRoute (s.rdn .routeTable 0 (Packet.ofBytes b).source) = false := by
      simpa [hostRoute] using hroute
    rw [packetReceivedEff_unicast hport hnet hactive hb hmode haddr, State.routeUnicast_rdn _ _ _ _ (by simpa using hown),
      if_pos (by simp [hsource, hup, hlearns])]
    simp [State.wrn, hlen]
  case egress =>
    intro n p s hport hactive hnext hfree hreset
    obtain ⟨hqueue, hsent, hbad, hmgmt⟩ := egressTransmitEff_port hport hactive hnext hfree
    have hexec : exec (.egressTransmit n) s = .next (egressTransmitEff n s) := by
      show Host.Outcome.next (egressTransmitEff n s).resetIfDue = _
      rw [State.resetIfDue_none _ (by rw [hmgmt, hreset])]
    exact ⟨_, hexec, hqueue, hsent, hbad⟩

end Sys2Proof.Machine
end

section
/-! PROOF. The bring-up of a port, and the writes that disable, enable and retrain it (R36, R40 to R42). -/

namespace Sys2Proof.Machine

/-! What the parts of the bring-up leave in a port and its lanes. -/

/-- A change of a port's four lanes, each from its own content, leaves in each what it makes of it. -/
theorem State.forEach_setLane_lane {n : Nat} {f : State → Nat → Lane}
    (hf : ∀ s k l a, k ≠ l → f (s.setLane n k a) l = f s l) (s : State) (l : Fin 4) :
    (s.forEach ports4 (fun s l => s.setLane n l (f s l))).lane n l = f s l := by
  rw [State.forEach_ports4]
  fin_cases l <;> simp [hf]

/-- R31: the scramblers are seeded, and the transmitter's counts start. -/
theorem State.seed_port (s : State) (n : Nat) :
    (s.seed n).port n = { s.port n with txBase := s.aon.mono, txCount := 0, txLane := 0, txPos := 0 } := by
  simp [State.seed]

theorem State.seed_lane (s : State) (n : Nat) (l : Fin 4) :
    (s.seed n).lane n l = { s.lane n l with txScr := scramblerSeed n l, txSlot := 0, txBip := 0 } := by
  unfold State.seed
  rw [State.forEach_setLane_lane (fun s k l a h => by simp [h])]
  rfl

@[simp] theorem State.seed_regs (s : State) (n : Nat) : (s.seed n).regs = s.regs := by simp [State.seed]

@[simp] theorem State.seed_rd (s : State) (n : Nat) (x : Ent) (i : Nat) : (s.seed n).rd x i = s.rd x i := by
  unfold State.rd State.rdv; rw [State.seed_regs]

/-- R57: a port that enters DETECT takes RateMask. -/
theorem State.enterDetect_port (s : State) (n : Nat) :
    (s.enterDetect n).port n = { s.port n with
      phase := 1, mask := s.rd .rateMask n, step := 0, fast := false, idle := .none, quiet := false, term := true,
      since := s.aon.mono, asm := none, done := [] } := by
  simp [State.enterDetect]

/-- R57: a port that enters DETECT takes EyeFloor on every lane. -/
theorem State.enterDetect_floor (s : State) (n : Nat) (l : Fin 4) :
    ((s.enterDetect n).lane n l).floor = s.rd .eyeFloor n := by
  unfold State.enterDetect
  dsimp only
  rw [State.forEach_setLane_lane (fun s k l a h => by simp [h])]
  simp

theorem State.enterDetect_rd (s : State) (n : Nat) (x : Ent) (i : Nat) :
    (s.enterDetect n).rd x i = if .portState = x ∧ n % 65536 = i % 65536 then 1 else s.rd x i := by
  simp [State.enterDetect]

/-- R36: a port in DISABLED shows it in PortState and changes no other entry but BadPackets. -/
theorem State.enterDisabled_rd (s : State) (n : Nat) (x : Ent) (i : Nat) (hx : x.dropCounter = false)
    (hbad : x ≠ .badPackets) :
    (s.enterDisabled n).rd x i = if .portState = x ∧ n % 65536 = i % 65536 then 0 else s.rd x i := by
  unfold State.enterDisabled
  rw [State.answerAsk_rd _ _ _ _ _ _ hx]
  split <;> simp [hbad.symm]

/-- R36: the electrical idle of a port in DISABLED has ended, with its termination off. -/
theorem State.enterDisabled_port (s : State) (n : Nat) :
    ((s.enterDisabled n).port n).idle = .none ∧ ((s.enterDisabled n).port n).term = false := by
  unfold State.enterDisabled
  have hcore := fun t : State => State.answerAsk_core t n (s.port n).asked .state n
  exact ⟨by rw [Port.idle_of_core (hcore _)]; simp, by rw [Port.term_of_core (hcore _)]; simp⟩

/-- R42: leaving ACTIVE leaves every port entry but PortState, LinkDowns and BadPackets as it was. -/
theorem State.linkDown_shows (s : State) (n : Nat) : (s.linkDown n).rd .portState n = 1
    ∧ (s.linkDown n).rd .linkDowns n = min (s.rd .linkDowns n + 1) 0xFFFFFFFF
    ∧ (s.linkDown n).rd .portEnable n = s.rd .portEnable n := by
  refine ⟨?_, ?_, ?_⟩ <;> simp [State.linkDown_rd, Ent.netEntry]

/-- R40: what a rate step leaves in its port. -/
theorem State.startStep_port (s : State) (n r : Nat) (fast : Bool) :
    ((s.startStep n r fast).port n).step = r ∧ ((s.startStep n r fast).port n).phase = 0
      ∧ ((s.startStep n r fast).port n).quiet = !(s.port n).mask.testBit (r - 1)
      ∧ ((s.startStep n r fast).port n).stepStart = s.aon.mono := by
  simp [State.startStep, State.seed_port]

theorem State.startStep_txScr (s : State) (n r : Nat) (fast : Bool) (l : Fin 4) :
    ((s.startStep n r fast).lane n l).txScr = scramblerSeed n l := by
  rw [State.startStep, State.seed_lane]

@[simp] theorem State.startStep_regs (s : State) (n r : Nat) (fast : Bool) : (s.startStep n r fast).regs = s.regs := by
  simp [State.startStep]

/-- R36, Table 2.4: the port is in the part of its bring-up that it enters, and shows it but for RESUME. -/
theorem State.enterPhase_port (s : State) (n ph : Nat) :
    ((s.enterPhase n ph).port n).phase = ph ∧ ((s.enterPhase n ph).port n).fast = (s.port n).fast := by
  have hfast : ((s.txRun n).port n).fast = (s.port n).fast := (congrArg Port.fast ((TxKeep.txRun s n).port n) :)
  unfold State.enterPhase
  dsimp only
  split <;> simp [hfast]

theorem State.enterPhase_portState (s : State) (n ph : Nat) :
    (s.enterPhase n ph).rd .portState n = if (s.port n).fast then s.rd .portState n else ph := by
  have hrun := TxKeep.txRun s n
  have hfast : ((s.txRun n).port n).fast = (s.port n).fast := (congrArg Port.fast (hrun.port n) :)
  unfold State.enterPhase
  simp [hfast]
  split <;> simp [hrun.rd]

/-- R40, R41: the fallback of a step is counted where the step is not the last, and no other entry shows it. -/
theorem State.fallback_rd (s : State) (n : Nat) (x : Ent) (i : Nat) (h0 : x ≠ .eventsRaised) (h1 : x ≠ .eventsCoalesced)
    (h2 : x ≠ .blackBoxCoalesced) :
    (s.fallback n).rd x i = if ((s.port n).fast = true ∨ 1 < (s.port n).step) ∧ .rateFallbacks = x ∧ n % 65536 = i % 65536
      then min (s.rd .rateFallbacks n + 1) 0xFFFFFFFF else s.rd x i := by
  unfold State.fallback
  by_cases h : (s.port n).fast = true ∨ 1 < (s.port n).step
  · simp [h, h0, h1, h2]
  · simp [h]

/-- R41: a cycle whose last step has failed. -/
theorem State.trainFail_port (s : State) (n : Nat) :
    ((s.trainFail n).port n).idle = .fail ∧ ((s.trainFail n).port n).step = 0 := by simp [State.trainFail]

theorem State.trainFail_rd (s : State) (n : Nat) (x : Ent) (i : Nat) (h0 : x ≠ .eventsRaised) (h1 : x ≠ .eventsCoalesced)
    (h2 : x ≠ .blackBoxCoalesced) :
    (s.trainFail n).rd x i = if .trainFailures = x ∧ n % 65536 = i % 65536 then min (s.rd .trainFailures n + 1) 0xFFFFFFFF
      else s.rd x i := by simp [State.trainFail, h0, h1, h2]

/-! The commands of the bring-up, in the cases that the statement speaks of. -/

/-- R40: after the electrical idle of DETECT a full bring-up starts at code 3. -/
theorem rateStepStartEff_detect {s : State} {n : Nat} (halive : s.alive n = true) (hidle : (s.port n).idle = .detect)
    (hfast : (s.port n).fast = false) (hclock : s.rcAlone = false) (hdue : (s.port n).idleSince + ms 2 ≤ s.aon.mono) :
    rateStepStartEff n s = s.startStep n 3 false := by
  simp [rateStepStartEff, halive, hidle, hfast, hclock, hdue]

/-- R41: the end of the last step is the end of the cycle. -/
theorem rateStepStartEff_last {s : State} {n : Nat} (halive : s.alive n = true) (hidle : (s.port n).idle ≠ .detect)
    (hstep : (s.port n).step = 1) (hfast : (s.port n).fast = false) (hactive : s.active n = false)
    (hclock : s.rcAlone = false) (hdue : (s.port n).stepStart + ms 26 ≤ s.aon.mono) :
    rateStepStartEff n s = s.trainFail n := by
  have hlast : s.fallback n = s := by simp [State.fallback, hfast, hstep]
  simp [rateStepStartEff, halive, hidle, hfast, hclock, hdue, hstep, hactive, hlast]

/-- R36, R31: lock of the SerDes PLL enters QUARTZ with seeded scramblers and no lane locked. -/
theorem serdesPllLockEff_quartz {s : State} {n : Nat} (halive : s.alive n = true) (hstep : (s.port n).step ≠ 0)
    (hphase : (s.port n).phase = 0) (hquiet : (s.port n).quiet = false) (hactive : s.active n = false)
    (hclock : s.rcAlone = false) :
    ((serdesPllLockEff n s).port n).phase = 2
      ∧ (serdesPllLockEff n s).rd .portState n = (if (s.port n).fast then s.rd .portState n else 2)
      ∧ ∀ l : Fin 4, ((serdesPllLockEff n s).lane n l).locked = false
        ∧ ((serdesPllLockEff n s).lane n l).txScr = scramblerSeed n l := by
  have hrun : (s.alive n && decide ((s.port n).step ≠ 0 ∧ (s.port n).phase = 0) && !(s.port n).quiet && !s.active n
      && !s.rcAlone) = true := by simp [halive, hstep, hphase, hquiet, hactive, hclock]
  unfold serdesPllLockEff
  rw [if_pos hrun]
  refine ⟨?_, ?_, fun l => ?_⟩
  · simp [State.seed_port, (State.enterPhase_port s n 2).1]
  · simp [State.enterPhase_portState]
  · dsimp only
    rw [State.forEach_setLane_lane (fun s k l a h => by simp [h])]
    exact ⟨rfl, by rw [State.seed_lane]⟩

/-- R40: at its time limit the port idles until its step ends, with the fallback counted. -/
theorem stateTimeLimitEff_due {s : State} {n : Nat} (halive : s.alive n = true) (hphase : 2 ≤ (s.port n).phase)
    (hstep : (s.port n).step ≠ 0) (hdue : (s.port n).limit ≤ s.aon.mono) :
    ((stateTimeLimitEff n s).port n).phase = 0 ∧ ((stateTimeLimitEff n s).port n).idle = .step
      ∧ (stateTimeLimitEff n s).rd .rateFallbacks n = (if (s.port n).fast ∨ 1 < (s.port n).step
          then min (s.rd .rateFallbacks n + 1) 0xFFFFFFFF else s.rd .rateFallbacks n)
      ∧ (stateTimeLimitEff n s).rd .portState n = s.rd .portState n := by
  have hrun : (s.alive n && decide (2 ≤ (s.port n).phase ∧ (s.port n).step ≠ 0)) = true := by
    simp [halive, hphase, hstep]
  unfold stateTimeLimitEff
  extract_lets p s0 told u
  rw [if_pos hrun]
  have h0 : s0 = s := State.untilMono_due s _ hdue
  have htold : told = s ∨ ∃ names, told = s.raise .linkSkew names := by
    simp only [told, h0]
    split
    · split
      · exact .inr ⟨_, rfl⟩
      · exact .inl rfl
    · exact .inl rfl
  have hsame : told.port n = s.port n ∧ told.rd .rateFallbacks n = s.rd .rateFallbacks n
      ∧ told.rd .portState n = s.rd .portState n := by
    obtain h | ⟨names, h⟩ := htold <;> rw [h] <;> simp
  obtain ⟨hp, hr, hst⟩ := hsame
  simp [u, State.fallback_rd, hp, hr, hst]

/-- R36: a write of 0 to PortEnable makes an ACTIVE port leave ACTIVE and disables another. -/
theorem portEnableEff_off {s : State} {n : Nat} (halive : s.alive n = true) (hidle : (s.port n).idle ≠ .down) :
    portEnableEff n [0] s = (if s.active n then (s.wr .portEnable n 0).linkDown n
      else (s.wr .portEnable n 0).enterDisabled n, ans .ok) := by
  have hrange : rangeOk .portEnable [0] = true := by unfold rangeOk Ent.info; decide
  have hset : s.wrv .portEnable n [0] = s.wr .portEnable n 0 := rfl
  simp [portEnableEff, hrange, hset, halive, hidle]

/-- R36: a write of 1 to PortEnable takes a port out of DISABLED. -/
theorem portEnableEff_on {s : State} {n : Nat} (halive : s.alive n = true) :
    portEnableEff n [1] s = (if s.rd .portState n = 0 then (s.wr .portEnable n 1).enterDetect n
      else s.wr .portEnable n 1, ans .ok) := by
  have hrange : rangeOk .portEnable [1] = true := by unfold rangeOk Ent.info; decide
  have hset : s.wrv .portEnable n [1] = s.wr .portEnable n 1 := rfl
  simp [portEnableEff, hrange, hset, halive]

/-- Settles O1: each step of the bring-up of a port, and the writes to PortEnable and Retrain. -/
theorem portsComeUp : Obligations.PortsComeUp := by
  unfold Obligations.PortsComeUp
  refine ⟨⟨?pulse, ?start, ?lock, ?limit, ?last, ?again⟩, ⟨?off, ?on, ?retrain, ?down⟩⟩
  case pulse =>
    intro n s halive hphase hidle
    constructor
    · show Host.Outcome.next (detectPulseEff n true s) = _
      simp [detectPulseEff, halive, hphase, hidle]
    · show Host.Outcome.next (detectPulseEff n false s) = _
      simp [detectPulseEff]
  case start =>
    intro n s halive hidle hfast hclock hdue
    refine ⟨_, rfl, ?_⟩
    rw [rateStepStartEff_detect halive hidle hfast hclock hdue]
    obtain ⟨hstep, hphase, hquiet, hstart⟩ := State.startStep_port s n 3 false
    exact ⟨hstep, hphase, hquiet, hstart, State.startStep_txScr s n 3 false, State.startStep_regs s n 3 false⟩
  case lock =>
    intro n s halive hstep hphase hquiet hactive hclock
    exact ⟨_, rfl, serdesPllLockEff_quartz halive hstep hphase hquiet hactive hclock⟩
  case limit =>
    intro n s halive hphase hstep hdue
    exact ⟨_, rfl, stateTimeLimitEff_due halive hphase hstep hdue⟩
  case last =>
    intro n s halive hidle hstep hfast hactive hclock hdue
    refine ⟨_, rfl, ?_⟩
    rw [rateStepStartEff_last halive hidle hstep hfast hactive hclock hdue]
    obtain ⟨hend, hzero⟩ := State.trainFail_port s n
    exact ⟨hend, hzero, by simp [State.trainFail_rd], by simp [State.trainFail_rd], by simp [State.trainFail_rd]⟩
  case again =>
    intro n s halive hidle hdue
    have heff : trainIdleEndEff n s = s.enterDetect n := by simp [trainIdleEndEff, halive, hidle, hdue]
    refine ⟨_, rfl, ?_⟩
    rw [heff, State.enterDetect_port]
    exact ⟨by simp [State.enterDetect_rd], rfl, rfl, State.enterDetect_floor s n⟩
  case off =>
    intro e n v s hwrite halive hv hidle
    refine ⟨_, rfl, ?_⟩
    rw [State.writeCmd_run hwrite, hv, portEnableEff_off (by simpa using halive) (by simpa using hidle)]
    refine ⟨?_, ?_, ?_, State.finish_answered _ (writeReq e .portEnable n v) .ok false⟩
    all_goals
      rw [State.finish_rd _ _ _ _ _ _ rfl]
      dsimp only
      by_cases hactive : s.active n = true
      · obtain ⟨hstate, hdowns, henable⟩ := State.linkDown_shows ((s.claimSpi e).wr .portEnable n 0) n
        simp [hactive, hstate, hdowns, henable]
      · simp [hactive, State.enterDisabled_rd, Ent.dropCounter]
  case on =>
    intro e n v s hwrite halive hv
    refine ⟨_, rfl, ?_⟩
    rw [State.writeCmd_run hwrite, hv, portEnableEff_on (by simpa using halive)]
    refine ⟨?_, ?_, State.finish_answered _ (writeReq e .portEnable n v) .ok false⟩
    all_goals
      rw [State.finish_rd _ _ _ _ _ _ rfl]
      dsimp only
      split <;> simp_all [State.enterDetect_rd]
  case retrain =>
    intro e n v s hwrite hactive hv
    have hrange : rangeOk .retrain [1] = true := by unfold rangeOk Ent.info; decide
    have heff : retrainEff n [1] (s.claimSpi e) = ((s.claimSpi e).linkDown n, ans .ok) := by
      simp [retrainEff, hrange, hactive]
    obtain ⟨hstate, hdowns, henable⟩ := State.linkDown_shows (s.claimSpi e) n
    refine ⟨_, rfl, ?_⟩
    rw [State.writeCmd_run hwrite, hv, heff]
    refine ⟨?_, ?_, ?_, ?_, State.finish_answered _ (writeReq e .retrain n v) .ok false⟩
    · rw [State.finish_rd _ _ _ _ _ _ rfl, hstate]
    · rw [State.finish_rd _ _ _ _ _ _ rfl, hdowns, State.claimSpi_rd]
    · rw [Port.idle_of_core (State.finish_core ..)]; exact (State.linkDown_port _ _).1
    · rw [State.finish_rd _ _ _ _ _ _ rfl, henable, State.claimSpi_rd]
  case down =>
    intro n s halive hidle hdue
    have heff : linkDownIdleEndEff n s = if s.rd .portEnable n = 0 then s.enterDisabled n else s.enterDetect n := by
      simp [linkDownIdleEndEff, halive, hidle, hdue]
    refine ⟨_, rfl, ?_⟩
    rw [heff]
    split
    · rename_i hoff
      obtain ⟨hnone, hterm⟩ := State.enterDisabled_port s n
      exact ⟨by simp [State.enterDisabled_rd, Ent.dropCounter], hnone, by simp [hterm, hoff]⟩
    · rename_i hon
      rw [State.enterDetect_port]
      exact ⟨by simp [State.enterDetect_rd], rfl, by simp [hon]⟩

end Sys2Proof.Machine
end

section
/-! PROOF. What a lane makes of blocks, markers and ordered sets, and what the ends of its windows change (R26 to R56). -/

namespace Sys2Proof.Machine

/-! Blocks (R26, R27, R30, R37). -/

/-- R37: a lane without lock counts a valid block, and has locked with the 64th. -/
theorem Lane.judge_good {a : Lane} (h : a.locked = false) : (a.judge true).2 = false
    ∧ (a.judge true).1.rxScr = a.rxScr ∧ (a.judge true).1.locked = decide (64 ≤ a.goodRun + 1) := by
  simp only [Lane.judge, h, Bool.false_eq_true, if_false, if_true]
  split <;> simp_all

/-- R55: the end of a window changes the lane's count of bad headers alone. -/
theorem State.berRoll_eq (s : State) (n l : Nat) :
    ∃ w t, s.berRoll n l = s.setLane n l { s.lane n l with badWin := w, berAt := t } ∨ s.berRoll n l = s := by
  unfold State.berRoll
  dsimp only
  split
  · exact ⟨0, 0, .inr rfl⟩
  · exact ⟨_, _, .inl rfl⟩

@[simp] theorem State.berRoll_rd (s : State) (n l : Nat) (x : Ent) (i : Nat) : (s.berRoll n l).rd x i = s.rd x i := by
  obtain ⟨w, t, h | h⟩ := s.berRoll_eq n l <;> rw [h]
  exact State.setLane_rd ..

@[simp] theorem State.berRoll_active (s : State) (n l m : Nat) : (s.berRoll n l).active m = s.active m := by
  unfold State.active; rw [State.berRoll_rd]

/-- R30, R37: the block's receipt so far, on a lane as the block finds it. -/
theorem State.blockLane (s : State) (n l : Nat) : (((s.txRun n).berRoll n l).lane n l).rxScr = (s.lane n l).rxScr
    ∧ (((s.txRun n).berRoll n l).lane n l).locked = (s.lane n l).locked
    ∧ (((s.txRun n).berRoll n l).lane n l).goodRun = (s.lane n l).goodRun := by
  have hlane := (TxKeep.txRun s n).lane n l
  have hscr : ((s.txRun n).lane n l).rxScr = (s.lane n l).rxScr := (congrArg Lane.rxScr hlane :)
  have hlocked : ((s.txRun n).lane n l).locked = (s.lane n l).locked := (congrArg Lane.locked hlane :)
  have hgood : ((s.txRun n).lane n l).goodRun = (s.lane n l).goodRun := (congrArg Lane.goodRun hlane :)
  obtain ⟨w, t, h | h⟩ := (s.txRun n).berRoll_eq n l <;> rw [h]
  · simp [hscr, hlocked, hgood]
  · exact ⟨hscr, hlocked, hgood⟩

/-- R27, R37: an invalid block on a port that is not ACTIVE is counted and starts the lane's run again. -/
theorem State.badBlock_unlocked {s : State} {n l : Nat} (hactive : s.active n = false) (h : (s.lane n l).locked = false) :
    s.badBlock n l (fun a => a.judge false)
      = (s.setLane n l { s.lane n l with goodRun := 0 }).count .invalidHeaders (4 * n + l) := by
  simp [State.badBlock, Lane.judge, h, hactive]

/-- R37: in QUARTZ the receipt of a block ends with the test for leaving it. -/
theorem blockReceivedEff_quartz {s : State} {n l : Fin 4} (blk : BitVec 66) (halive : s.alive n = true)
    (hphase : (s.port n).phase = 2) (h5 : s.rd .portState n ≠ 5) (h6 : s.rd .portState n ≠ 6)
    (hlocked : (s.lane n l).locked = false) :
    ∃ u : State, blockReceivedEff n l blk s = u.quartzExit n
      ∧ (u.lane n l).rxScr = (descramble (s.lane n l).rxScr (blk.extractLsb' 2 64)).2
      ∧ (if blockValid (blk.extractLsb' 0 2).toNat (descramble (s.lane n l).rxScr (blk.extractLsb' 2 64)).1 = true then
          (u.lane n l).locked = decide (64 ≤ (s.lane n l).goodRun + 1)
            ∧ u.rd .invalidHeaders (4 * n + l) = s.rd .invalidHeaders (4 * n + l)
        else (u.lane n l).locked = false ∧ (u.lane n l).goodRun = 0
          ∧ u.rd .invalidHeaders (4 * n + l) = min (s.rd .invalidHeaders (4 * n + l) + 1) 0xFFFFFFFF) := by
  obtain ⟨hscr, hlock, hrun⟩ := s.blockLane n l
  have hrd : ∀ x i, ((s.txRun n).berRoll n l).rd x i = s.rd x i := fun x i => by
    rw [State.berRoll_rd, (TxKeep.txRun s n).rd]
  have hrunning : (!(s.alive n && decide ((2 ≤ (s.port n).phase ∧ (s.port n).phase ≤ 4) ∨ s.rd .portState n = 5
      ∨ s.rd .portState n = 6))) = false := by simp [halive, hphase]
  unfold blockReceivedEff
  extract_lets st s1 a hdr raw d good r take s2 wasActive j sj sc s3 s4
  have ha : a.locked = false := by rw [← hlocked, ← hlock]
  have h1 : s1.active n = false := by simp only [State.active, s1, hrd]; simp [h5]
  have h2 : s2.active n = false := by simp only [s2, State.setLane_active, h1]
  have hlane : s2.lane n l = r.1.receive hdr raw d.1 d.2 take := by simp [s2]
  have hfree : (s2.lane n l).locked = false := by rw [hlane]; simpa [Lane.receive, r] using ha
  have hgoodRun : (s2.lane n l).goodRun = (s.lane n l).goodRun := by
    rw [hlane]; simpa [Lane.receive, r] using hrun
  have hd : d = descramble (s.lane n l).rxScr (blk.extractLsb' 2 64) := by simp only [d, a, s1, hscr, raw]
  have hscr2 : (s2.lane n l).rxScr = d.2 := by rw [hlane]; rfl
  have hrd2 : ∀ x i, s2.rd x i = s.rd x i := fun x i => by simp only [s2, State.setLane_rd, s1, hrd]
  have hwas : wasActive = false := h2
  obtain ⟨hkept, hjscr, hjlock⟩ := Lane.judge_good hfree
  have hs3 : s3 = if good then sj
      else (s2.setLane n l { s2.lane n l with goodRun := 0 }).count .invalidHeaders (4 * n + l) := by
    simp only [s3, State.badBlock_unlocked h2 hfree, show j.2 = false from hkept, Bool.false_eq_true, if_false]
  have h3 : ∀ m, s3.rd .portState m = s.rd .portState m := fun m => by
    rw [hs3]; split <;> simp [sj, hrd2]
  have h4 : s4 = s3 := by simp [s4, hwas]
  have hend : (s4.active n || decide (s4.rd .portState n = 6)) = false := by simp [h4, State.active, h3, h5, h6]
  rw [hrunning, hend]
  refine ⟨s3, by simp [h4], ?_⟩
  rw [← hd, hs3]
  show _ ∧ (if good = true then _ else _)
  split
  · have hsj : sj.lane n l = j.1 := by simp [sj]
    rw [hsj, hjscr, hscr2, hjlock, hgoodRun]
    simp [sj, hrd2]
  · simp [hscr2, hfree, hrd2]

/-! Markers (R34, R35, R56). -/

/-- A lane without its BIP errors of the second. -/
def Lane.unsummed (a : Lane) : Lane := { a with bipSec := 0 }

/-- R56: judging a lane for a second takes its BIP errors alone, and tells of them at most in an event. -/
theorem State.bipSecond_lane (s : State) (k m : Nat) (j : Fin 4) :
    (s.bipSecond k).lane m j
      = if s.alive m = true ∧ k = 4 * m + j then (s.lane m j).unsummed else s.lane m j := by
  have hk : 4 * (k / 4) + k % 4 = k := Nat.div_add_mod k 4
  have hdiv : k = 4 * m + j → k / 4 = m := by have := j.isLt; omega
  have hmod : k = 4 * m + j → k % 4 = j := by have := j.isLt; omega
  have hput : ((s.setLane (k / 4) (k % 4) { s.lane (k / 4) (k % 4) with bipSec := 0 }).lane m j)
      = if k = 4 * m + j then (s.lane m j).unsummed else s.lane m j := by
    rw [State.setLane_lane, hk]
    split
    · rename_i h; rw [hdiv h, hmod h]; rfl
    · rfl
  unfold State.bipSecond
  dsimp only
  by_cases ha : s.alive (k / 4) = true
  · rw [if_pos ha]
    have hiff : (s.alive m = true ∧ k = 4 * m + j) ↔ k = 4 * m + j :=
      ⟨And.right, fun h => ⟨by rw [← hdiv h]; exact ha, h⟩⟩
    simp only [hiff]
    split
    · rw [State.raise_lane, hput]
    · exact hput
  · rw [if_neg ha, if_neg (fun h => ha (by rw [hdiv h.2]; exact h.1))]

/-- From `s` to `t` lanes were judged for a second: ports, domains and entries other than those of events stay. -/
structure BipKeep (s t : State) : Prop where
  port : ∀ m, t.port m = s.port m
  alive : ∀ d, t.alive d = s.alive d
  rd : ∀ x i, eventEnts.contains x = false → t.rd x i = s.rd x i
  lane : ∀ m l, (t.lane m l).unsummed = (s.lane m l).unsummed

theorem BipKeep.refl (s : State) : BipKeep s s := ⟨fun _ => rfl, fun _ => rfl, fun _ _ _ => rfl, fun _ _ => rfl⟩

theorem BipKeep.trans {s t u : State} (h : BipKeep s t) (g : BipKeep t u) : BipKeep s u :=
  ⟨fun m => (g.port m).trans (h.port m), fun d => (g.alive d).trans (h.alive d),
    fun x i hx => (g.rd x i hx).trans (h.rd x i hx), fun m l => (g.lane m l).trans (h.lane m l)⟩

/-- R292, R293: the entries of events are the three that an event counts in. -/
theorem Ent.ne_of_not_eventEnt {x : Ent} (h : eventEnts.contains x = false) :
    x ≠ .eventsRaised ∧ x ≠ .eventsCoalesced ∧ x ≠ .blackBoxCoalesced := by
  refine ⟨?_, ?_, ?_⟩ <;> (rintro rfl; exact absurd h (by decide))

theorem BipKeep.bipSecond (s : State) (k : Nat) : BipKeep s (s.bipSecond k) := by
  have hset : BipKeep s (s.setLane (k / 4) (k % 4) { s.lane (k / 4) (k % 4) with bipSec := 0 }) := by
    refine ⟨fun m => by simp, fun d => by simp, fun x i _ => by simp, fun m l => ?_⟩
    rw [State.setLane_lane]
    split
    · rename_i h; unfold State.lane; rw [h]; rfl
    · rfl
  unfold State.bipSecond
  dsimp only
  split
  · split
    · refine hset.trans ⟨fun m => by simp, fun d => by simp, fun x i hx => ?_, fun m l => by simp⟩
      obtain ⟨h0, h1, h2⟩ := Ent.ne_of_not_eventEnt hx
      exact State.raise_rd _ _ _ _ _ h0 h1 h2
    · exact hset
  · exact BipKeep.refl s

theorem BipKeep.forEach (l : List Nat) (s : State) : BipKeep s (s.forEach l State.bipSecond) := by
  induction l generalizing s with
  | nil => exact BipKeep.refl s
  | cons k l ih => exact (BipKeep.bipSecond s k).trans (ih _)

/-- R56: the bookkeeping of the second is in no port, domain, entry or lane. -/
theorem BipKeep.setAon (s : State) (a : Aon) : BipKeep s { s with aon := a } :=
  ⟨fun _ => rfl, fun _ => rfl, fun _ _ _ => rfl, fun _ _ => rfl⟩

theorem BipKeep.bipRoll (s : State) : BipKeep s s.bipRoll := by
  unfold State.bipRoll State.bipJudge
  dsimp only
  split
  · exact BipKeep.refl s
  · exact (BipKeep.forEach _ s).trans (BipKeep.setAon _ _)

/-- R56: the lanes of a list have no BIP errors of the second once they are judged. -/
theorem State.forEach_bipSecond_lane (l : List Nat) (s : State) {m : Nat} (j : Fin 4) (ha : s.alive m = true)
    (hj : (s.lane m j).bipSec = 0 ∨ 4 * m + j.val ∈ l) : ((s.forEach l State.bipSecond).lane m j).bipSec = 0 := by
  induction l generalizing s with
  | nil =>
    obtain h | h := hj
    · exact h
    · exact absurd h (List.not_mem_nil)
  | cons k l ih =>
    refine ih (s.bipSecond k) (by rw [(BipKeep.bipSecond s k).alive, ha]) ?_
    rw [State.bipSecond_lane]
    by_cases hk : k = 4 * m + j
    · exact .inl (by rw [if_pos ⟨ha, hk⟩]; rfl)
    · rw [if_neg (fun h => hk h.2)]
      exact hj.imp id fun h => (List.mem_cons.1 h).resolve_left (fun h => hk h.symm)

/-- R56: lanes without more errors than their threshold raise no event. -/
theorem State.forEach_bipSecond_quiet (l : List Nat) (s : State)
    (h : ∀ k, (s.lane (k / 4) (k % 4)).bipSec ≤ s.rd .bipWarnThreshold (k / 4) ∨ k ∉ l) :
    (s.forEach l State.bipSecond).regs = s.regs ∧ (s.forEach l State.bipSecond).mgmt = s.mgmt := by
  induction l generalizing s with
  | nil => exact ⟨rfl, rfl⟩
  | cons k l ih =>
    have hk := (h k).resolve_right (fun g => g List.mem_cons_self)
    have hquiet : (s.bipSecond k).regs = s.regs ∧ (s.bipSecond k).mgmt = s.mgmt := by
      unfold State.bipSecond
      dsimp only
      split
      · simp [Nat.not_lt.2 hk]
      · exact ⟨rfl, rfl⟩
    have hrd : ∀ i, (s.bipSecond k).rd .bipWarnThreshold i = s.rd .bipWarnThreshold i := fun i =>
      (BipKeep.bipSecond s k).rd _ _ (by decide)
    obtain ⟨hr, hm⟩ := ih (s.bipSecond k) fun i => by
      rw [hrd, State.bipSecond_lane s k (i / 4) ⟨i % 4, Nat.mod_lt _ (by decide)⟩]
      refine (h i).imp (fun hi => ?_) (fun hi hn => hi (List.mem_cons_of_mem _ hn))
      split
      · exact Nat.zero_le _
      · exact hi
    exact ⟨hr.trans hquiet.1, hm.trans hquiet.2⟩

/-- R35: a marker on a port that is ACTIVE. -/
theorem alignReceivedEff_active {s : State} {n l : Fin 4} (w : BitVec 64) (arrival : Nat) (halive : s.alive n = true)
    (h5 : s.rd .portState n = 5) (hphase : (s.port n).phase ≠ 4) :
    ((alignReceivedEff n l w arrival s).lane n l).bip = 0
      ∧ ((alignReceivedEff n l w arrival s).lane n l).align = some (field (blockBytes w) 2 2, arrival)
      ∧ (alignReceivedEff n l w arrival s).rd .bipErrors (4 * n + l) = min (s.rd .bipErrors (4 * n + l)
          + popCount 8 ((s.lane n l).bip ^^^ (blockBytes w).getD 4 0).toNat) 0xFFFFFFFF := by
  have hroll := BipKeep.bipRoll s
  have hbip : (s.bipRoll.lane n l).bip = (s.lane n l).bip := (congrArg Lane.bip (hroll.lane n l) :)
  have hrun : (!(s.alive n && decide ((s.port n).phase = 4 ∨ s.rd .portState n = 5 ∨ s.rd .portState n = 6))) = false := by
    simp [halive, h5]
  unfold alignReceivedEff
  extract_lets st s1 b a diff s2 s3
  rw [hrun]
  have hdiff : diff = popCount 8 ((s.lane n l).bip ^^^ (blockBytes w).getD 4 0).toNat := by
    simp only [diff, a, s1, hbip, b]
  have hlane : (s2.lane n l).bip = 0 ∧ (s2.lane n l).align = some (field b 2 2, arrival) := by simp [s2]
  have hcount : s2.rd .bipErrors (4 * n + l) = min (s.rd .bipErrors (4 * n + l) + diff) 0xFFFFFFFF := by
    simp [s2, s1, hroll.rd .bipErrors _ (by decide)]
  have hport : s2.port n = s.port n := by simp [s2, s1, hroll.port]
  have h3 : s3.lane n l = s2.lane n l ∧ s3.rd .bipErrors (4 * n + l) = s2.rd .bipErrors (4 * n + l)
      ∧ s3.port n = s2.port n := by
    simp only [s3]
    split <;> simp
  obtain ⟨hl3, hr3, hp3⟩ := h3
  have hexit : s3.graniteExit n = s3 := by simp [State.graniteExit, hp3, hport, hphase]
  simp only [Bool.false_eq_true, if_false, hexit, hl3, hr3, hcount, hdiff]
  exact ⟨hlane.1, hlane.2, trivial⟩

/-! Ordered sets (R37 to R39). -/

/-- R36: what leaving BASALT keeps of the lanes and the entries. -/
theorem State.basaltExit_lane (s : State) (n m l : Nat) : ((s.basaltExit n).lane m l).rxPart = (s.lane m l).rxPart := by
  unfold State.basaltExit
  split
  · exact State.enterPhase_lane ..
  · rfl

theorem State.basaltExit_rd (s : State) (n : Nat) (x : Ent) (i : Nat) (hx : x ≠ .portState) :
    (s.basaltExit n).rd x i = s.rd x i := by
  unfold State.basaltExit
  split
  · exact State.enterPhase_rd _ _ _ _ _ hx
  · rfl

/-- R70: ANNOUNCE counts at most in the drop counters. -/
theorem State.announce_rdv (s : State) (x : Ent) (i : Nat) (hx : x.dropCounter = false) :
    s.announce.rdv x i = s.rdv x i := by
  unfold State.announce
  split
  · rfl
  · rw [State.originate_rdv _ _ _ _ hx]; rfl

/-- R34, R39: the far end's record and the alignment are in no transmitter. -/
theorem State.record_congr {s t : State} {n : Nat} (h : ∀ l, (t.lane n l).rxPart = (s.lane n l).rxPart) :
    t.graniteRecord n = s.graniteRecord n ∧ t.aligned n = s.aligned n := by
  have hg : ∀ l, (t.lane n l).granite = (s.lane n l).granite := fun l => (congrArg Lane.granite (h l) :)
  have ha : ∀ l, (t.lane n l).align = (s.lane n l).align := fun l => (congrArg Lane.align (h l) :)
  unfold State.graniteRecord State.aligned State.markers
  simp only [hg, ha, and_self]

/-- R39: the entries of a port that reaches ACTIVE. -/
theorem State.enterActive_rdv (s : State) (n : Nat) (x : Ent) (i : Nat) (hd : x.dropCounter = false)
    (hx : x ≠ .rxLatency) (he : eventEnts.contains x = false) :
    (s.enterActive n).rdv x i = (((s.wr .portState n 5).wr .lineRate n (s.port n).step).wrv .farCapability n
      ((s.graniteRecord n).map BitVec.toNat)).rdv x i := by
  have hrun := TxKeep.txRun s n
  have hstep : ((s.txRun n).port n).step = (s.port n).step := (congrArg Port.step (hrun.port n) :)
  obtain ⟨hraised, hcoal, hbox⟩ := Ent.ne_of_not_eventEnt he
  unfold State.enterActive
  extract_lets s1 p s2 src s3 q s4 s5
  have h2 : ∀ y j, s2.rdv y j = (((s.wr .portState n 5).wr .lineRate n (s.port n).step).wrv .farCapability n
      ((s.graniteRecord n).map BitVec.toNat)).rdv y j := fun y j => by
    simp [s2, s1, p, hstep, (State.record_congr (hrun.lane n)).1, hrun.rdv]
  have h3 : s3.rdv x i = s2.rdv x i := (State.wr_rdv _ _ _ _ _ _).trans (if_neg fun h => hx h.1.symm)
  have h5 : s5.rdv x i = s3.rdv x i := by simp [s5, s4]
  rw [State.announce_rdv _ _ _ hd, State.raise_rdv _ _ _ _ _ hraised hcoal hbox, h5, h3, h2]

theorem Port.phase_step_of_hull {p q : Port} (h : p.hull = q.hull) : p.phase = q.phase ∧ p.step = q.step :=
  ⟨(congrArg Port.phase h :), (congrArg Port.step h :)⟩

/-- R36: a port that reaches ACTIVE is in no phase and at no step of a bring-up. -/
theorem State.enterActive_port (s : State) (n : Nat) :
    ((s.enterActive n).port n).phase = 0 ∧ ((s.enterActive n).port n).step = 0 := by
  unfold State.enterActive
  extract_lets s1 p s2 src s3 q s4 s5
  have hport : ((s5.raise .linkUp [n]).announce.port n).hull = (s4.port n).hull := by
    rw [(NetKeep.announce _).port, State.raise_port]
    simp [s5]
  have hnew : (s4.port n).phase = 0 ∧ (s4.port n).step = 0 := by simp [s4]
  obtain ⟨hphase, hstep⟩ := Port.phase_step_of_hull hport
  exact ⟨hphase.trans hnew.1, hstep.trans hnew.2⟩

/-- R39: what a port that reaches ACTIVE shows. -/
theorem State.enterActive_shows (s : State) (n : Nat) : (s.enterActive n).rd .portState n = 5
    ∧ (s.enterActive n).rd .lineRate n = (s.port n).step
    ∧ (s.enterActive n).rdv .farCapability n = (s.graniteRecord n).map BitVec.toNat := by
  unfold State.rd
  simp only [State.enterActive_rdv s n .portState n rfl (by decide) (by decide),
    State.enterActive_rdv s n .lineRate n rfl (by decide) (by decide),
    State.enterActive_rdv s n .farCapability n rfl (by decide) (by decide)]
  simp

/-- R39: a Granite set moves no marker. -/
theorem State.aligned_graniteSet (s : State) (n l : Nat) (c : Bytes) :
    (s.setLane n l ((s.lane n l).graniteSet c)).aligned n = s.aligned n := by
  have ha : ∀ k, ((s.setLane n l ((s.lane n l).graniteSet c)).lane n k).align = (s.lane n k).align := fun k => by
    rw [State.setLane_lane]
    split
    · rename_i h; unfold State.lane; rw [← h]; rfl
    · rfl
  unfold State.aligned State.markers
  simp only [ha]

/-- R39: a set is taken by the receiver; the transmitter of the lane has no part in it. -/
theorem State.graniteSet_congr {s t : State} {n : Nat} (h : ∀ l, (t.lane n l).rxPart = (s.lane n l).rxPart) (l : Nat)
    (c : Bytes) (k : Nat) :
    ((t.setLane n l ((t.lane n l).graniteSet c)).lane n k).rxPart
      = ((s.setLane n l ((s.lane n l).graniteSet c)).lane n k).rxPart := by
  rw [State.setLane_lane, State.setLane_lane]
  split
  · exact (congrArg (Lane.graniteSet · c) (h l) :)
  · exact h k

/-- R37, R38: an ordered set of BASALT. -/
theorem orderedSetReceivedEff_basalt {s : State} {n l : Fin 4} (w : BitVec 64) (eye : BitVec 8) (halive : s.alive n = true)
    (hphase : (s.port n).phase = 3) (hset : field (blockBytes w) 1 1 = 2) :
    orderedSetReceivedEff n l w eye s
      = (((s.txRun n).wr .eyeMargin (4 * n + l) eye.toNat).setLane n l
          { ((s.txRun n).lane n l).basalt (field (blockBytes w) 3 1) with
            farReady := ((blockBytes w).getD 6 0).getLsbD 0
            ready := ((s.txRun n).lane n l).ready || decide (((s.txRun n).lane n l).floor ≤ eye.toNat) }).basaltExit n := by
  simp [orderedSetReceivedEff, halive, hphase, hset]

/-- R37, R39: an ordered set of GRANITE. -/
theorem orderedSetReceivedEff_granite {s : State} {n l : Fin 4} (w : BitVec 64) (eye : BitVec 8) (halive : s.alive n = true)
    (hphase : (s.port n).phase = 4) (hset : field (blockBytes w) 1 1 = 3) :
    orderedSetReceivedEff n l w eye s
      = (((s.txRun n).wr .eyeMargin (4 * n + l) eye.toNat).setLane n l
          (((s.txRun n).lane n l).graniteSet ((blockBytes w).drop 2))).graniteExit n := by
  simp [orderedSetReceivedEff, halive, hphase, hset]

/-- R37, R38: what a lane in BASALT is after a set. -/
theorem orderedSetReceivedEff_ready {s : State} {n l : Fin 4} (w : BitVec 64) (eye : BitVec 8) (halive : s.alive n = true)
    (hphase : (s.port n).phase = 3) (hset : field (blockBytes w) 1 1 = 2) :
    ((orderedSetReceivedEff n l w eye s).lane n l).rxPart = ({ (s.lane n l).basalt (field (blockBytes w) 3 1) with
        farReady := ((blockBytes w).getD 6 0).getLsbD 0
        ready := (s.lane n l).ready || decide ((s.lane n l).floor ≤ eye.toNat) } : Lane).rxPart := by
  have hlane := (TxKeep.txRun s n).lane n l
  have hready : ((s.txRun n).lane n l).ready = (s.lane n l).ready := (congrArg Lane.ready hlane :)
  have hfloor : ((s.txRun n).lane n l).floor = (s.lane n l).floor := (congrArg Lane.floor hlane :)
  have hbasalt : (((s.txRun n).lane n l).basalt (field (blockBytes w) 3 1)).rxPart
      = ((s.lane n l).basalt (field (blockBytes w) 3 1)).rxPart :=
    (congrArg (Lane.basalt · (field (blockBytes w) 3 1)) hlane :)
  rw [orderedSetReceivedEff_basalt w eye halive hphase hset, State.basaltExit_lane, State.setLane_lane, if_pos rfl,
    hready, hfloor]
  exact (congrArg (fun a : Lane => { a with
    farReady := ((blockBytes w).getD 6 0).getLsbD 0
    ready := (s.lane n l).ready || decide ((s.lane n l).floor ≤ eye.toNat) }) hbasalt :)

/-- R39: the set with which every lane has its 8 lets the port into ACTIVE. -/
theorem orderedSetReceivedEff_active {s u : State} {n l : Fin 4} (w : BitVec 64) (eye : BitVec 8)
    (halive : s.alive n = true) (hphase : (s.port n).phase = 4) (hrc : s.rcAlone = false)
    (hset : field (blockBytes w) 1 1 = 3)
    (hu : u = s.setLane n l ((s.lane n l).graniteSet ((blockBytes w).drop 2)))
    (hack : ∀ k : Fin 4, 8 ≤ (u.lane n k).ackRun) (haligned : s.aligned n = true)
    (hrecord : recordOk (u.graniteRecord n) (s.port n).step = true) :
    ∃ v : State, orderedSetReceivedEff n l w eye s = v.enterActive n ∧ (v.port n).step = (s.port n).step
      ∧ v.graniteRecord n = u.graniteRecord n := by
  have hrun := TxKeep.txRun s n
  have hstep : ((s.txRun n).port n).step = (s.port n).step := (congrArg Port.step (hrun.port n) :)
  have hph : ((s.txRun n).port n).phase = 4 := ((congrArg Port.phase (hrun.port n) :)).trans hphase
  rw [orderedSetReceivedEff_granite w eye halive hphase hset]
  generalize hv : ((s.txRun n).wr .eyeMargin (4 * n + l) eye.toNat).setLane n l
    (((s.txRun n).lane n l).graniteSet ((blockBytes w).drop 2)) = v
  have hlane : ∀ k, (v.lane n k).rxPart = (u.lane n k).rxPart := fun k => by
    rw [← hv, hu]
    have := State.graniteSet_congr (hrun.lane n) l ((blockBytes w).drop 2) k
    simpa using this
  have hvack : ports4.all (fun k => 8 ≤ (v.lane n k).ackRun) = true := by
    have hk : ∀ k : Fin 4, 8 ≤ (v.lane n k).ackRun := fun k =>
      (hack k).trans_eq (congrArg Lane.ackRun (hlane k) :).symm
    simpa [ports4] using And.intro (hk 0) ⟨hk 1, hk 2, hk 3⟩
  obtain ⟨hrec, halg⟩ := State.record_congr hlane
  have hvport : v.port n = (s.txRun n).port n := by rw [← hv]; simp
  have hvrc : v.rcAlone = false := by
    have hsame : (s.txRun n).rcAlone = s.rcAlone := by rw [hrun.rest]; rfl
    rw [← hrc, ← hsame, ← hv]
    simp [State.rcAlone]
  have hvaligned : v.aligned n = true := by rw [halg, hu, State.aligned_graniteSet, haligned]
  refine ⟨v, ?_, by rw [hvport, hstep], hrec⟩
  unfold State.graniteExit
  rw [if_pos]
  simp only [hvport, hph, hvrc, hvack, hvaligned, hrec, hstep, hrecord]
  rfl

/-! Windows (R46, R47, R55, R56). -/

/-- R55: at its end the window of a lane starts again. -/
theorem State.berRoll_ended {s : State} {n l : Nat} (h : (s.lane n l).berAt + blockSpan (s.rateOf n) 1048576 ≤ s.aon.mono) :
    ((s.berRoll n l).lane n l).badWin = 0 ∧ (s.berRoll n l).regs = s.regs ∧ (s.berRoll n l).ports = s.ports := by
  unfold State.berRoll
  dsimp only
  rw [if_neg (Nat.not_lt.2 h)]
  exact ⟨by simp, rfl, rfl⟩

/-- R56: the judging of a second, without an event where no lane exceeded its threshold. -/
theorem State.bipJudge_shows (s : State) :
    (∀ n l : Fin 4, s.alive n = true → (s.bipJudge.lane n l).bipSec = 0)
      ∧ ((∀ n l : Fin 4, (s.lane n l).bipSec ≤ s.rd .bipWarnThreshold n) →
        s.bipJudge.regs = s.regs ∧ s.bipJudge.mgmt = s.mgmt) := by
  have hmem : ∀ k, k ∈ List.range 16 ↔ k < 16 := fun k => List.mem_range
  unfold State.bipJudge
  generalize List.range 16 = r at hmem
  refine ⟨fun n l ha => ?_, fun h => State.forEach_bipSecond_quiet r s fun k => ?_⟩
  · exact State.forEach_bipSecond_lane r s l ha (.inr ((hmem _).2 (by omega)))
  · refine (Nat.lt_or_ge k 16).imp (fun hk => ?_) (fun hk hr => absurd ((hmem k).1 hr) (Nat.not_lt.2 hk))
    exact h ⟨k / 4, by omega⟩ ⟨k % 4, by omega⟩

/-- R46, R47: the end of a window of adaptation. -/
theorem adaptWindowEndEff_shows {s : State} {n l : Fin 4} (coef : Nat) (halive : s.alive n = true)
    (hactive : s.active n = true) (hend : (s.lane n l).winAt + blockSpan (s.rateOf n) 65536 ≤ s.aon.mono) :
    (if (s.lane n l).carries = true ∧ (s.lane n l).winLow = false ∧ (s.lane n l).winBip = false then
        SMap.find (adaptWindowEndEff n l coef s).aon.snaps (4 * n + l) = some coef
          ∧ (adaptWindowEndEff n l coef s).rd .snapshotValid (4 * n + l) = 1
          ∧ ((adaptWindowEndEff n l coef s).lane n l).eq
            = (if (s.lane n l).heldEq then (s.lane n l).eq else some coef)
      else (adaptWindowEndEff n l coef s).aon.snaps = s.aon.snaps ∧ (adaptWindowEndEff n l coef s).regs = s.regs)
    ∧ ((adaptWindowEndEff n l coef s).lane n l).winData = 0
    ∧ ((adaptWindowEndEff n l coef s).lane n l).floor = s.rd .eyeFloor n := by
  unfold adaptWindowEndEff
  simp only [halive, hactive, State.untilMono_due _ _ hend]
  by_cases hok : (s.lane n l).carries = true ∧ (s.lane n l).winLow = false ∧ (s.lane n l).winBip = false
  · obtain ⟨hc, hl, hb⟩ := hok
    simp [hc, hl, hb]
  · have : ((s.lane n l).carries && !(s.lane n l).winLow && !(s.lane n l).winBip) = false := by
      simpa [Bool.and_eq_false_iff, not_and_or, and_assoc] using hok
    simp [this, hok]

/-- R46, R47: an eye below the floor. -/
theorem eyeBelowFloorEff_shows {s : State} {n l : Fin 4} {eye : Nat} (halive : s.alive n = true)
    (hactive : s.active n = true) (heye : eye < (s.lane n l).floor) :
    ((eyeBelowFloorEff n l eye s).lane n l).winLow = true
    ∧ (eyeBelowFloorEff n l eye s).rd .eyeMargin (4 * n + l) = eye
    ∧ (if (s.lane n l).carries = true ∧ (s.lane n l).winBip = false then
          (eyeBelowFloorEff n l eye s).rd .adaptReverts (4 * n + l) = s.rd .adaptReverts (4 * n + l)
          ∧ ((eyeBelowFloorEff n l eye s).lane n l).eq = (s.lane n l).eq
      else (eyeBelowFloorEff n l eye s).rd .adaptReverts (4 * n + l) = min (s.rd .adaptReverts (4 * n + l) + 1) 0xFFFFFFFF
          ∧ ((eyeBelowFloorEff n l eye s).lane n l).eq = SMap.find s.aon.snaps (4 * n + l)) := by
  unfold eyeBelowFloorEff
  simp only [halive, hactive, heye]
  by_cases hok : (s.lane n l).carries = true ∧ (s.lane n l).winBip = false
  · obtain ⟨hc, hb⟩ := hok
    simp [hc, hb]
  · have : ((s.lane n l).carries && !(s.lane n l).winBip) = false := by
      simpa [Bool.and_eq_false_iff, not_and_or] using hok
    simp [this, hok]

/-- Settles O2: each receipt and each end of a window by the lemma about its effect. -/
theorem lanesReceiveBlocks : Obligations.LanesReceiveBlocks := by
  unfold Obligations.LanesReceiveBlocks
  refine ⟨?_, ⟨?_, ?_, ?_⟩, ?_, ?_, ?_, ?_⟩
  · intro n l blk s halive hphase h5 h6 hlocked
    obtain ⟨u, hu, hscr, hrest⟩ := blockReceivedEff_quartz (l := l) blk halive hphase h5 h6 hlocked
    have hlane := State.quartzExit_lane u n n l
    have hlock : ((u.quartzExit n).lane n l).locked = (u.lane n l).locked := (congrArg Lane.locked hlane :)
    have hrun : ((u.quartzExit n).lane n l).goodRun = (u.lane n l).goodRun := (congrArg Lane.goodRun hlane :)
    have hseed : ((u.quartzExit n).lane n l).rxScr = (u.lane n l).rxScr := (congrArg Lane.rxScr hlane :)
    refine ⟨_, congrArg Host.Outcome.next hu, hseed.trans hscr, ?_⟩
    rw [hlock, hrun, State.quartzExit_rd u n .invalidHeaders _ (by decide)]
    exact hrest
  · intro n l w a s halive h5 hphase
    exact ⟨_, rfl, alignReceivedEff_active w a halive h5 hphase⟩
  · intro n l w eye s halive hphase hset
    have hlane := orderedSetReceivedEff_ready w eye halive hphase hset (l := l)
    refine ⟨_, rfl, ?_, (congrArg Lane.ready hlane :), (congrArg Lane.farReady hlane :), (congrArg Lane.resp hlane :)⟩
    show (orderedSetReceivedEff n l w eye s).rd _ _ = _
    rw [orderedSetReceivedEff_basalt w eye halive hphase hset, State.basaltExit_rd _ _ _ _ (by decide)]
    simp
  · intro n l w eye u s halive hphase hrc hset hu hack haligned hrecord
    obtain ⟨v, hv, hstep, hrec⟩ := orderedSetReceivedEff_active w eye halive hphase hrc hset hu hack haligned hrecord
    obtain ⟨hstate, hrate, hcap⟩ := v.enterActive_shows n
    exact ⟨_, congrArg Host.Outcome.next hv, hstate, hrate.trans hstep, by rw [hcap, hrec], v.enterActive_port n⟩
  · intro n l s halive hactive hend
    refine ⟨_, rfl, ?_⟩
    show ((berWindowEndEff n l s).lane n l).badWin = 0 ∧ (berWindowEndEff n l s).regs = _ ∧ (berWindowEndEff n l s).ports = _
    have heff : berWindowEndEff n l s = s.berRoll n l := by
      simp [berWindowEndEff, halive, hactive, State.untilMono_due _ _ hend]
    rw [heff]
    exact State.berRoll_ended hend
  · intro s
    obtain ⟨hlanes, hquiet⟩ := (s.elapse ((s.aon.bipSecond + 1) * secondFine - s.cal).toNat).bipJudge_shows
    refine ⟨_, rfl, fun n l ha => hlanes n l ?_, fun h => ?_⟩
    · rw [State.elapse_alive, ha]
    · have := hquiet fun n l => by rw [State.elapse_lane, State.elapse_rd]; exact h n l
      rwa [State.elapse_regs, State.elapse_mgmt] at this
  · intro n l coef s halive hactive hend
    exact ⟨_, rfl, adaptWindowEndEff_shows coef halive hactive hend⟩
  · intro n l eye s halive hactive heye
    exact ⟨_, rfl, eyeBelowFloorEff_shows halive hactive heye⟩

end Sys2Proof.Machine
end

section
/-! PROOF. The frame of the commands of ports, lanes and the network: what each shared operation may change. -/

namespace Sys2Proof.Machine

/-! Frames. -/

/-- An entry of the ports or of the lanes. -/
def Ent.ofLink (x : Ent) : Bool := portEnts.contains x || laneEnts.contains x

/-- Place `i` of an entry belongs to a list of entries: the entry is in it, and where it is one of the ports or lanes the place
is of port `n`. -/
def changes (l : List Ent) (n : Fin 4) (x : Ent) (i : Nat) : Bool :=
  l.contains x && (!x.ofLink || decide (ownerOf x i = n))

/-- From `s` to `t` the entries of a list alone change, those of the ports and lanes at port `n` alone; `q` and `m` tell whether
the Quarry and the MRAM may change. -/
structure FrameBy (l : List Ent) (n : Fin 4) (q m : Bool) (s t : State) : Prop where
  rdv : ∀ x i, changes l n x i = false → t.rdv x i = s.rdv x i
  quarry : q = false → t.quarry = s.quarry
  mram : m = false → t.secure.mram = s.secure.mram
  modl : t.modl = s.modl

section
variable {l l' : List Ent} {n : Fin 4} {q m : Bool} {s t u : State}

theorem changes_mono (h : l' ⊆ l) {x : Ent} {i : Nat} (hx : changes l n x i = false) : changes l' n x i = false := by
  simp only [changes, Bool.and_eq_false_iff, List.contains_eq_mem, decide_eq_false_iff_not] at hx ⊢
  exact hx.imp (fun g hm => g (h hm)) id

/-- What touches no entry, no memory and no modulator. -/
theorem FrameBy.quiet (hr : t.regs = s.regs := by rfl) (hq : t.quarry = s.quarry := by rfl)
    (hm : t.secure.mram = s.secure.mram := by rfl) (hd : t.modl = s.modl := by rfl) : FrameBy l n q m s t :=
  ⟨fun x i _ => by unfold State.rdv; rw [hr], fun _ => hq, fun _ => hm, hd⟩

theorem FrameBy.refl (s : State) : FrameBy l n q m s s := .quiet

theorem FrameBy.trans (h : FrameBy l n q m s t) (g : FrameBy l n q m t u) : FrameBy l n q m s u :=
  ⟨fun x i hx => (g.rdv x i hx).trans (h.rdv x i hx), fun hq => (g.quarry hq).trans (h.quarry hq),
    fun hm => (g.mram hm).trans (h.mram hm), g.modl.trans h.modl⟩

theorem FrameBy.mono (h : FrameBy l' n q m s t) (hl : l' ⊆ l := by decide) : FrameBy l n q m s t :=
  ⟨fun x i hx => h.rdv x i (changes_mono hl hx), h.quarry, h.mram, h.modl⟩

/-- One more operation, with a list of its own. -/
theorem FrameBy.then (h : FrameBy l n q m s t) (g : FrameBy l' n q m t u) (hl : l' ⊆ l := by decide) :
    FrameBy l n q m s u := h.trans (g.mono hl)

theorem FrameBy.ite {c : Prop} [Decidable c] (h : FrameBy l n q m s t) (g : FrameBy l n q m s u) :
    FrameBy l n q m s (if c then t else u) := by
  split
  · exact h
  · exact g

theorem FrameBy.iteFst {α : Type} {c : Prop} [Decidable c] {a b : State × α} (h : FrameBy l n q m s a.1)
    (g : FrameBy l n q m s b.1) : FrameBy l n q m s (if c then a else b).1 := by
  split
  · exact h
  · exact g

theorem FrameBy.forEach {α : Type} {f : State → α → State} (a : List α)
    (hf : ∀ s, ∀ k ∈ a, FrameBy l n q m s (f s k)) (s : State) :
    FrameBy l n q m s (s.forEach a f) := by
  induction a generalizing s with
  | nil => exact .refl s
  | cons k a ih =>
    exact (hf s k List.mem_cons_self).trans (ih (fun s j hj => hf s j (List.mem_cons_of_mem _ hj)) (f s k))

theorem FrameBy.wrvAt (s : State) (x : Ent) (i : Nat) (v : Val) (hx : changes l n x i = true) :
    FrameBy l n q m s (s.wrv x i v) := by
  refine ⟨fun y j hy => ?_, fun _ => by simp, fun _ => by simp, by simp⟩
  rw [State.wrv_rdv, if_neg]
  rintro ⟨rfl, hj⟩
  have : changes l n x j = changes l n x i := by unfold changes ownerOf; rw [hj]
  rw [this, hx] at hy
  cases hy

/-- A write of an entry that no port has. -/
theorem FrameBy.wrv (s : State) (x : Ent) (i : Nat) (v : Val) (hx : x.ofLink = false := by decide) :
    FrameBy [x] n q m s (s.wrv x i v) :=
  .wrvAt s x i v (by simp [changes, hx])

/-- A write of the port's own entry. -/
theorem FrameBy.wrvPort (s : State) (x : Ent) (v : Val) (hx : laneEnts.contains x = false := by decide) :
    FrameBy [x] n q m s (s.wrv x n v) :=
  .wrvAt s x n v (by
    have hlane : x ∉ laneEnts := by simpa using hx
    have hn : n.val % 65536 = n.val := Nat.mod_eq_of_lt (by omega)
    simp [changes, ownerOf, hlane, hn])

/-- A write of an entry of one of the port's lanes. -/
theorem FrameBy.wrvLane (s : State) (x : Ent) {k : Nat} (v : Val) (hk : k < 4) (hx : laneEnts.contains x = true := by decide) :
    FrameBy [x] n q m s (s.wrv x (4 * n + k) v) :=
  .wrvAt s x (4 * n + k) v (by
    have hlane : x ∈ laneEnts := by simpa using hx
    have hn : (4 * n.val + k) % 65536 / 4 = n.val := by omega
    simp [changes, ownerOf, hlane, hn])

/-- A counter, or another scalar, that no port has. -/
theorem FrameBy.count (s : State) (x : Ent) (i : Nat) (hx : x.ofLink = false := by decide) :
    FrameBy [x] n q m s (s.count x i) :=
  .wrv s x i _ hx

theorem FrameBy.wr (s : State) (x : Ent) (i k : Nat) (hx : x.ofLink = false := by decide) :
    FrameBy [x] n q m s (s.wr x i k) :=
  .wrv s x i _ hx

theorem FrameBy.countPort (s : State) (x : Ent) (hx : laneEnts.contains x = false := by decide) :
    FrameBy [x] n q m s (s.count x n) := .wrvPort s x _ hx

theorem FrameBy.wrPort (s : State) (x : Ent) (k : Nat) (hx : laneEnts.contains x = false := by decide) :
    FrameBy [x] n q m s (s.wr x n k) := .wrvPort s x _ hx

theorem FrameBy.countByLane (s : State) (x : Ent) {k : Nat} (j : Nat) (hk : k < 4)
    (hx : laneEnts.contains x = true := by decide) :
    FrameBy [x] n q m s (s.countBy x (4 * n + k) j) := .wrvLane s x _ hk hx

theorem FrameBy.wrLane (s : State) (x : Ent) {k : Nat} (j : Nat) (hk : k < 4)
    (hx : laneEnts.contains x = true := by decide) :
    FrameBy [x] n q m s (s.wr x (4 * n + k) j) := .wrvLane s x _ hk hx

theorem FrameBy.setPort (s : State) (k : Nat) (p : Port) : FrameBy l n q m s (s.setPort k p) := .quiet

theorem FrameBy.setAon (s : State) (a : Aon) : FrameBy l n q m s { s with aon := a } := .quiet

theorem FrameBy.setLane (s : State) (k j : Nat) (a : Lane) : FrameBy l n q m s (s.setLane k j a) := .quiet

theorem FrameBy.setLanes (s : State) (k : Nat) (f : State → Nat → Lane) :
    FrameBy l n q m s (s.forEach ports4 (fun s j => s.setLane k j (f s j))) := .forEach _ (fun _ _ _ => .quiet) s

/-- The transmitters of lanes are in no frame. -/
theorem TxKeep.frameBy (h : TxKeep s t) : FrameBy l n q m s t :=
  .quiet (by rw [h.rest]) (by rw [h.rest]) (by rw [h.rest]) (by rw [h.rest])

theorem FrameBy.elapse (s : State) (d : Nat) :
    FrameBy l n q m s (s.elapse d) := .quiet (by simp) (by simp) (by simp) (by simp)

theorem FrameBy.untilMono (s : State) (d : Nat) : FrameBy l n q m s (s.untilMono d) :=
  .quiet (by simp) (by simp) (by simp) (by simp)

theorem FrameBy.untilDisp (s : State) (d : Nat) : FrameBy l n q m s (s.untilDisp d) :=
  .quiet (by simp) (by simp) (by simp) (by simp)

/-! Events, packets and replies (R72, R271, R292). -/

theorem FrameBy.raise (s : State) (e : Event) (names : List Nat) : FrameBy eventEnts n q m s (s.raise e names) := by
  refine ⟨fun x i hx => ?_, fun _ => by simp, fun _ => by simp, by simp⟩
  have hfree : ∀ y ∈ eventEnts, y.ofLink = false := by decide
  have hout : x ∉ eventEnts := fun hmem => by
    simp [changes, hfree x hmem, hmem] at hx
  refine State.raise_rdv _ _ _ _ _ ?_ ?_ ?_ <;> (rintro rfl; exact hout (by decide))

theorem FrameBy.dropPacket (s : State) (p : Packet) : FrameBy sendEnts n q m s (s.dropPacket p) := by
  unfold State.dropPacket
  exact .ite (.mono (.count ..)) (.ite (.mono (.count ..)) (.ite (.mono (.count ..)) (.refl s)))

theorem FrameBy.enqueue (s : State) (k : Nat) (p : Packet) (front : Bool) :
    FrameBy sendEnts n q m s (s.enqueue k p front) := by
  unfold State.enqueue
  exact .ite (.setPort ..) (.dropPacket ..)

theorem FrameBy.originate (s : State) (p : Packet) : FrameBy replyEnts n q m s (s.originate p) := by
  have hdrop : FrameBy replyEnts n q m s (s.count .noRouteDrops 0) := .mono (.count ..)
  unfold State.originate
  extract_lets r up
  have hup : FrameBy replyEnts n q m s up := by
    simp only [up]
    split
    · exact .mono (.enqueue ..)
    · exact hdrop
  exact .ite hup (.ite (.ite (.mono (.enqueue ..)) hup) hdrop)

theorem FrameBy.sendLocal (s : State) (k cls chan : Nat) (b : Bytes) (front : Bool) :
    FrameBy sendEnts n q m s (s.sendLocal k cls chan b front) := .trans .quiet (.enqueue ..)

theorem FrameBy.helloAll (s : State) : FrameBy sendEnts n q m s s.helloAll :=
  .forEach _ (fun s _ _ => .ite (.sendLocal ..) (.refl s)) s

theorem FrameBy.announce (s : State) : FrameBy replyEnts n q m s s.announce := by
  unfold State.announce
  exact .ite (.refl s) (.trans .quiet (.originate ..))

theorem FrameBy.sendReply (s : State) (r : Req) (a : Reply) : FrameBy replyEnts n q m s (s.sendReply r a) := by
  unfold State.sendReply
  extract_lets _ s1 b
  have h1 : FrameBy replyEnts n q m s s1 := .quiet
  split
  · exact h1.trans .quiet
  · split
    · exact h1.then (.enqueue ..)
    · exact h1.then (.originate ..)

theorem FrameBy.complete (s : State) (r : Req) (a : Reply) : FrameBy replyEnts n q m s (s.complete r a) := by
  unfold State.complete
  extract_lets s1 k x
  have h1 : FrameBy replyEnts n q m s s1 := .ite .quiet (.refl s)
  exact .ite (.ite (h1.trans .quiet) h1) (.ite (h1.trans (.trans .quiet (.sendReply ..))) h1)

theorem FrameBy.answerAsk (s : State) (k : Nat) (a : Option SleepAsk) (st : Status) :
    FrameBy replyEnts n q m s (s.answerAsk k a st) := by
  unfold State.answerAsk
  split
  · exact .complete ..
  · exact .refl s

theorem FrameBy.finish (s : State) (r : Req) (a : Ans) (b : Bool) : FrameBy replyEnts n q m s (s.finish r a b) := by
  unfold State.finish
  extract_lets k x
  split
  · exact .quiet
  · exact .ite .quiet (.trans .quiet (.sendReply ..))

/-- R273 to R277: what a request may change beside its execution. -/
theorem FrameBy.arrive {run : State → State} (hl : requestEnts ⊆ l) (s : State) (r : Req) (o b : Bool)
    (hrun : FrameBy l n q m s (run s)) : FrameBy l n q m s (s.arrive r o b run) := by
  have hcount : FrameBy requestEnts n q m s (s.count .sessionRefusals 0) := .mono (.count ..)
  unfold State.arrive
  split
  · exact .refl s
  · exact .refl s
  · exact hcount.mono hl
  · exact .quiet
  · exact .mono (.then (.ite hcount (.refl s)) (.sendReply ..)) hl
  · split
    · exact .mono (.then (.mono (.count ..)) (.sendReply ..)) hl
    · exact .refl s
  · exact hrun

theorem FrameBy.park (s : State) (r : Req) : FrameBy l n q m s (s.park r) := by
  have hclaim : FrameBy l n q m s (s.claimSpi r.env) := .ite .quiet (.refl s)
  have hbegin : FrameBy l n q m s (s.beginsReq r) := .ite hclaim .quiet
  exact hbegin.trans .quiet

theorem FrameBy.takeIn (s : State) (e : Env) (b : Bytes) : FrameBy requestEnts n q m s (s.takeIn e b) := by
  unfold State.takeIn
  exact .arrive (List.Subset.refl _) s _ _ _ (.park ..)

theorem FrameBy.request {body : State → State × Ans} (hl : requestEnts ⊆ l) (s : State) (r : Req) (o b : Bool)
    (hbody : ∀ s, FrameBy l n q m s (body s).1) : FrameBy l n q m s (s.request r o b body) := by
  refine .arrive hl s r o b (.ite ?_ (.park ..))
  have hclaim : FrameBy l n q m s (s.claimSpi r.env) := .ite .quiet (.refl s)
  exact hclaim.trans ((hbody _).then (.finish ..) (List.Subset.trans (by decide) hl))

theorem FrameBy.dropSegment (s : State) (k c : Nat) :
    FrameBy (eventEnts ++ [.segmentFailures]) n q m s (s.dropSegment k c) := by
  unfold State.dropSegment
  split
  · exact .refl s
  · exact .then (.trans .quiet (.mono (.count ..))) (.raise ..)

theorem FrameBy.refused (s : State) (e : Env) (x : Ent) (st : Status) : FrameBy eventEnts n q m s (s.refused e x st).1 := by
  unfold State.refused State.tokenRefused
  exact .ite (.trans (.ite .quiet (.refl s)) (.raise ..)) (.refl s)

/-- R278, R282: a write of an entry with an effect of its own. -/
theorem FrameBy.writeCmd {eff : Val → State → State × Ans} (hl : writeEnts ⊆ l) (s : State) (e : Env) (x : Ent) (i : Nat)
    (b : Bytes) (heff : ∀ v s, FrameBy l n q m s (eff v s).1) : FrameBy l n q m s (s.writeCmd e x i b eff) := by
  refine .request (List.Subset.trans (by decide) hl) s _ _ _ fun s => ?_
  have hsub : eventEnts ⊆ l := List.Subset.trans (by decide) hl
  unfold State.writeBody
  split
  · exact .then (.ite (.mono (.dropSegment ..) (List.Subset.trans (by decide) hl)) (.refl s)) (.refused ..) hsub
  · split
    · exact .mono (.refused ..) hsub
    · exact heff _ s

/-! The choice of the upstream port and the leaving of ACTIVE (R42, R64 to R72). -/

/-- What a new choice of the upstream port may change, but for the child ports. -/
def pathEnts : List Ent := eventEnts ++ replyEnts ++ [.isUpstream, .lockLosses, .meanPathDelay, .rootAddress, .rootDistance,
  .routeTable, .timeState, .upstreamChanges, .upstreamPort]

/-- What the leaving of ACTIVE may change in the network. -/
def leaveEnts : List Ent := upstreamEnts ++ eventEnts ++ replyEnts ++ [.lineRate, .rxLatency]

/-- What the loss of a link may change. -/
def downEnts : List Ent := leaveEnts ++ [.badPackets, .linkDowns, .portState]

theorem FrameBy.toHoldover (s : State) : FrameBy (eventEnts ++ [.timeState, .lockLosses]) n q m s s.toHoldover := by
  unfold State.toHoldover
  exact .ite (.then (.then (.then .quiet (.wr ..)) (.count ..)) (.raise ..)) (.refl s)

theorem FrameBy.newPath (s : State) (b : Bool) : FrameBy [.meanPathDelay] n q m s (s.newPath b) :=
  .trans .quiet (.wr ..)

theorem FrameBy.clearLearned (s : State) (k : Nat) : FrameBy [.routeTable] n q m s (s.clearLearned k) := .wrv ..

theorem FrameBy.setUpstream (s : State) (up : Option Nat) : FrameBy pathEnts n q m s (s.setUpstream up) := by
  unfold State.setUpstream
  extract_lets from_ oldDist dist root s1 s2 s3 s4 s5 s6 s7
  have h1 : FrameBy pathEnts n q m s s1 := .then (.then (.mono (.wr ..)) (.wr ..)) (.wr ..)
  have h2 : FrameBy pathEnts n q m s s2 := h1.trans (.forEach _ (fun _ _ _ => .mono (.wr ..)) s1)
  have h3 : FrameBy pathEnts n q m s s3 := .then (.then h2 (.count ..)) (.raise ..)
  have h4 : FrameBy pathEnts n q m s s4 := by
    simp only [s4]
    split
    · exact h3.then (.clearLearned ..)
    · exact h3
  have h5 : FrameBy pathEnts n q m s s5 := .ite h2 (.then (.then h4 (.newPath ..)) (.toHoldover ..))
  have h6 : FrameBy pathEnts n q m s s6 := .ite (.then (.then h5 (.raise ..)) (.toHoldover ..)) h5
  have h7 : FrameBy pathEnts n q m s s7 := .ite (h6.then (.helloAll ..)) h6
  exact .ite h7 (h7.then (.announce ..))

theorem FrameBy.reselect (s : State) (moved : Option Nat) : FrameBy pathEnts n q m s (s.reselect moved) := by
  unfold State.reselect
  refine .ite (.setUpstream ..) ?_
  split
  · exact .ite (.setUpstream ..) (.setUpstream ..)
  · exact .setUpstream ..

theorem FrameBy.emptyQueues (s : State) (k : Nat) : FrameBy sendEnts n q m s (s.emptyQueues k) :=
  .trans (.setPort ..) (.forEach _ (fun _ _ _ => .dropPacket ..) _)

theorem FrameBy.netLeave (s : State) : FrameBy leaveEnts n q m s (s.netLeave n) := by
  unfold State.netLeave
  extract_lets up s1 s2 src s3 s4
  have h1 : FrameBy leaveEnts n q m s s1 := .then (.mono (.wrPort ..)) (.wrPort ..)
  have h3 : FrameBy leaveEnts n q m s s3 := .trans (h1.then (.emptyQueues ..)) (.setPort ..)
  have h4 : FrameBy leaveEnts n q m s s4 := .then (.then (.then h3 (.clearLearned ..)) (.wr _ .childPorts ..)) (.reselect ..)
  exact .ite (h4.then (.announce ..)) h4

theorem FrameBy.linkDown (s : State) : FrameBy downEnts n q m s (s.linkDown n) := by
  unfold State.linkDown
  extract_lets p s1 s2 src s3 s4
  have h1 : FrameBy downEnts n q m s s1 := .then (.mono (.countPort ..)) (.raise ..)
  have h2 : FrameBy downEnts n q m s s2 := .ite (h1.then (.countPort ..)) h1
  have h3 : FrameBy downEnts n q m s s3 := .trans (h2.then (.wrPort ..)) (.setPort ..)
  have h4 : FrameBy downEnts n q m s s4 := h3.trans (.setLanes ..)
  exact .then (.then h4 (.netLeave ..)) (.answerAsk ..)

/-! The bring-up of a port (R36 to R41, R53). -/

theorem FrameBy.enterDetect (s : State) : FrameBy [.portState] n q m s (s.enterDetect n) :=
  .trans (.trans (.wrPort ..) (.setPort ..)) (.setLanes ..)

/-- What the entry of a port into DISABLED may change. -/
def disableEnts : List Ent := replyEnts ++ [.badPackets, .portState]

theorem FrameBy.enterDisabled (s : State) : FrameBy disableEnts n q m s (s.enterDisabled n) := by
  unfold State.enterDisabled
  extract_lets p s1 s2
  have h1 : FrameBy disableEnts n q m s s1 := .ite (.mono (.countPort ..)) (.refl s)
  have h2 : FrameBy disableEnts n q m s s2 := .trans (h1.then (.wrPort ..)) (.setPort ..)
  exact h2.then (.answerAsk ..)

theorem FrameBy.txRun (s : State) (k : Nat) : FrameBy l n q m s (s.txRun k) := (TxKeep.txRun s k).frameBy

theorem FrameBy.seed (s : State) (k : Nat) : FrameBy l n q m s (s.seed k) := .trans (.setPort ..) (.setLanes ..)

theorem FrameBy.startStep (s : State) (k r : Nat) (fast : Bool) : FrameBy l n q m s (s.startStep k r fast) :=
  .trans (.setPort ..) (.seed ..)

theorem FrameBy.enterPhase (s : State) (ph : Nat) : FrameBy [.portState] n q m s (s.enterPhase n ph) := by
  unfold State.enterPhase
  extract_lets s1 src s2 s3
  have h3 : FrameBy [.portState] n q m s s3 := .trans (.trans (.txRun s n) (.setPort ..)) (.setLanes ..)
  exact .ite h3 (h3.trans (.wrPort ..))

/-- What a fallback to the next rate may change. -/
def fallbackEnts : List Ent := eventEnts ++ [.rateFallbacks]

theorem FrameBy.fallback (s : State) : FrameBy fallbackEnts n q m s (s.fallback n) := by
  unfold State.fallback
  exact .ite (.then (.mono (.countPort ..)) (.raise ..)) (.refl s)

theorem FrameBy.trainFail (s : State) : FrameBy (eventEnts ++ [.trainFailures]) n q m s (s.trainFail n) :=
  .trans (.then (.mono (.countPort ..)) (.raise ..)) (.setPort ..)

/-- What the entry of a port into ACTIVE may change. -/
def activeEnts : List Ent := eventEnts ++ replyEnts ++ [.farCapability, .lineRate, .portState, .rxLatency]

theorem FrameBy.enterActive (s : State) :
    FrameBy activeEnts n q m s (s.enterActive n) := by
  unfold State.enterActive
  extract_lets s1 p s2 src s3 src' s4 s5
  have h2 : FrameBy activeEnts n q m s s2 :=
    .then (.then (.then (.txRun s n) (.wrPort ..)) (.wrPort ..)) (.wrvPort ..)
  have h3 : FrameBy activeEnts n q m s s3 :=
    .then (.trans h2 .quiet) (.wrPort ..)
  exact .then (.then (.trans (.trans h3 (.setPort ..)) (.setLanes ..)) (.raise ..)) (.announce ..)

end

end Sys2Proof.Machine
end

section
/-! PROOF. The frames of the commands of ports and lanes (R26 to R57). -/

namespace Sys2Proof.Machine

section
variable {l : List Ent} {n : Fin 4} {q m : Bool}

/-! The commands of ports and their bring-up (R36 to R42). -/

/-- What a write of PortEnable may change. -/
def enableEnts : List Ent := upstreamEnts ++ writeEnts ++ [.badPackets, .lineRate, .linkDowns, .portEnable, .portState,
  .rxLatency]

theorem portEnableEff_frameBy (v : Val) (s : State) :
    FrameBy enableEnts n q m s
      (portEnableEff n v s).1 := by
  unfold portEnableEff
  extract_lets s1
  have h1 : FrameBy enableEnts
      n q m s s1 := .mono (.wrvPort ..)
  exact .iteFst (.refl s) (.iteFst h1 (.iteFst
    (.ite (h1.then (.linkDown ..)) (.ite h1 (h1.then (.enterDisabled ..)))) (.ite (h1.then (.enterDetect ..)) h1)))

theorem retrainEff_frameBy (v : Val) (s : State) :
    FrameBy (upstreamEnts ++ writeEnts ++ [.badPackets, .lineRate, .linkDowns, .portState, .rxLatency]) n q m s
      (retrainEff n v s).1 := by
  unfold retrainEff
  exact .iteFst (.refl s) (.ite (.mono (.linkDown ..)) (.refl s))

theorem detectPulseEff_frameBy (b : Bool) (s : State) : FrameBy l n q m s (detectPulseEff n b s) := by
  unfold detectPulseEff
  exact .ite (.setPort ..) (.refl s)

/-- What the start of a rate step may change. -/
def stepEnts : List Ent := eventEnts ++ [.portState, .rateFallbacks, .trainFailures]

theorem rateStepStartEff_frameBy (s : State) :
    FrameBy stepEnts n q m s (rateStepStartEff n s) := by
  unfold rateStepStartEff
  extract_lets p s1 s2 s3
  have h1 : FrameBy stepEnts n q m s s1 := .untilMono ..
  have h2 : FrameBy stepEnts n q m s s2 := .untilMono ..
  have h3 : FrameBy stepEnts n q m s s3 := .ite h2 (h2.then (.fallback ..))
  exact .ite (.refl s) (.ite (.ite h1 (.ite (h1.trans (.startStep ..)) (h1.trans (.startStep ..)))) (.ite (.refl s)
    (.ite (h3.then (.enterDetect ..)) (.ite (h3.trans (.startStep ..)) (.ite (h3.then (.trainFail ..))
      (h3.trans (.startStep ..)))))))

theorem serdesPllLockEff_frameBy (s : State) : FrameBy [.portState] n q m s (serdesPllLockEff n s) := by
  unfold serdesPllLockEff
  exact .ite (.trans (.trans (.enterPhase ..) (.seed ..)) (.setLanes ..)) (.refl s)

theorem stateTimeLimitEff_frameBy (s : State) : FrameBy fallbackEnts n q m s (stateTimeLimitEff n s) := by
  unfold stateTimeLimitEff
  extract_lets p s1 s2 s3
  have h1 : FrameBy fallbackEnts n q m s s1 := .untilMono ..
  have h2 : FrameBy fallbackEnts n q m s s2 := by
    simp only [s2]
    split
    · exact .ite (h1.then (.raise ..)) h1
    · exact h1
  exact .ite (.trans (h2.trans (.fallback ..)) (.setPort ..)) (.refl s)

theorem trainIdleEndEff_frameBy (s : State) : FrameBy [.portState] n q m s (trainIdleEndEff n s) := by
  unfold trainIdleEndEff
  exact .ite (.trans (.untilMono ..) (.enterDetect ..)) (.refl s)

theorem linkDownIdleEndEff_frameBy (s : State) :
    FrameBy disableEnts n q m s (linkDownIdleEndEff n s) := by
  unfold linkDownIdleEndEff
  extract_lets s1
  have h1 : FrameBy disableEnts n q m s s1 := .untilMono ..
  exact .ite (.ite (h1.trans (.enterDisabled ..)) (h1.then (.enterDetect ..))) (.refl s)

/-! The commands of lanes (R26 to R39, R46, R47, R55, R56). -/

/-- What a received block may change. -/
def blockEnts : List Ent := upstreamEnts ++ eventEnts ++ replyEnts ++ [.badPackets, .blockLockLosses, .invalidHeaders,
  .lineRate, .linkDowns, .portState, .rxLatency]

theorem FrameBy.berRoll (s : State) (k j : Nat) : FrameBy l n q m s (s.berRoll k j) := by
  unfold State.berRoll
  exact .ite (.refl s) .quiet

theorem FrameBy.badBlock (s : State) {k : Nat} (hk : k < 4) (f : Lane → Lane × Bool) :
    FrameBy blockEnts n q m s (s.badBlock n k f) := by
  unfold State.badBlock
  extract_lets r src s1 s2
  have h1 : FrameBy blockEnts n q m s s1 := .then .quiet (.countByLane _ .invalidHeaders 1 hk)
  have h2 : FrameBy blockEnts n q m s s2 := .ite (h1.then (.countByLane _ .blockLockLosses 1 hk)) h1
  exact .ite (.ite (.then (h2.then (.raise ..)) (.linkDown ..)) (.ite (h2.then (.linkDown ..)) h2)) h2

theorem FrameBy.sequenceBlock (s : State) {k : Nat} (hk : k < 4) (hdr : Nat) (w : BitVec 64) :
    FrameBy blockEnts n q m s (s.sequenceBlock n k hdr w) := by
  unfold State.sequenceBlock
  extract_lets p b inPacket s1 close
  have h1 : FrameBy blockEnts n q m s s1 := .ite .quiet (.refl s)
  refine .ite ?_ (.ite (h1.trans (.setPort ..)) (.ite ?_ (h1.trans (.setPort ..))))
  · split
    · exact h1.trans (.setPort ..)
    · exact h1.trans (.badBlock _ hk _)
  · split
    · exact h1.trans (.setPort ..)
    · exact h1

theorem FrameBy.unstripe (k : Nat) (s : State) : FrameBy blockEnts n q m s (State.unstripe k n s) := by
  induction k generalizing s with
  | zero => exact .refl s
  | succ k ih =>
    unfold State.unstripe
    extract_lets p j
    have hj : j < 4 := Nat.mod_lt _ (by decide)
    split
    · exact .refl s
    · extract_lets s1
      have h1 : FrameBy blockEnts n q m s s1 := .quiet
      exact .ite (h1.trans (ih _)) (.trans (.trans (h1.trans (.setPort ..)) (.sequenceBlock _ hj ..)) (ih _))

theorem FrameBy.quartzExit (s : State) : FrameBy [.portState] n q m s (s.quartzExit n) := by
  unfold State.quartzExit
  exact .ite (.enterPhase ..) (.refl s)

theorem FrameBy.basaltExit (s : State) : FrameBy [.portState] n q m s (s.basaltExit n) := by
  unfold State.basaltExit
  exact .ite (.enterPhase ..) (.refl s)

theorem FrameBy.graniteExit (s : State) :
    FrameBy activeEnts n q m s (s.graniteExit n) := by
  unfold State.graniteExit
  exact .ite (.enterActive ..) (.refl s)

theorem blockReceivedEff_frameBy (k : Fin 4) (blk : BitVec 66) (s : State) :
    FrameBy blockEnts n q m s (blockReceivedEff n k blk s) := by
  unfold blockReceivedEff
  extract_lets st s1 a hdr raw d good r take s2 wasActive j sj sc s3 s4
  have h2 : FrameBy blockEnts n q m s s2 := .trans (.trans (.txRun s n) (.berRoll _ n k)) (.setLane ..)
  have hj : FrameBy blockEnts n q m s sj := h2.trans (.setLane ..)
  have hc : FrameBy blockEnts n q m s sc := hj.then (.countByLane _ .blockLockLosses 1 k.isLt)
  have h3 : FrameBy blockEnts n q m s s3 :=
    .ite (.ite (.ite (hc.then (.linkDown ..)) hc) hj) (h2.trans (.badBlock _ k.isLt _))
  have h4 : FrameBy blockEnts n q m s s4 := .ite (h3.then (.linkDown ..)) h3
  exact .ite (.refl s) (.ite (h4.trans (.unstripe ..)) (h4.then (.quartzExit ..)))

theorem FrameBy.bipSecond (s : State) (k : Nat) : FrameBy eventEnts n q m s (s.bipSecond k) := by
  unfold State.bipSecond
  exact .ite (.ite (.trans .quiet (.raise ..)) .quiet) (.refl s)

theorem FrameBy.bipJudge (s : State) : FrameBy eventEnts n q m s s.bipJudge :=
  .trans (.forEach _ (fun s k _ => .bipSecond s k) s) (.setAon ..)

theorem FrameBy.bipRoll (s : State) : FrameBy eventEnts n q m s s.bipRoll := by
  unfold State.bipRoll
  exact .ite (.refl s) (.bipJudge s)

/-- What a marker may change. -/
def alignEnts : List Ent := eventEnts ++ replyEnts ++ [.bipErrors, .farCapability, .lineRate, .portState, .rxLatency, .skew]

theorem alignReceivedEff_frameBy (k : Fin 4) (w : BitVec 64) (arrival : Nat) (s : State) :
    FrameBy alignEnts n q m s
      (alignReceivedEff n k w arrival s) := by
  unfold alignReceivedEff
  extract_lets st s1 b a diff s2 s3
  have h2 : FrameBy alignEnts n q m s s2 :=
    .then (.trans (.mono (.bipRoll s)) (.setLane ..)) (.countByLane _ .bipErrors diff k.isLt)
  have h3 : FrameBy alignEnts n q m s s3 := by
    simp only [s3]
    split
    · refine h2.trans (.forEach _ (fun s i hi => .mono (.wrLane s .skew _ ?_)) s2)
      revert i; decide
    · exact h2
  exact .ite (.refl s) (h3.then (.graniteExit ..))

/-- What an ordered set may change. -/
def setEnts : List Ent := eventEnts ++ replyEnts ++ [.eyeMargin, .farCapability, .lineRate, .portState, .rxLatency]

theorem orderedSetReceivedEff_frameBy (k : Fin 4) (w : BitVec 64) (eye : BitVec 8) (s : State) :
    FrameBy setEnts n q m s
      (orderedSetReceivedEff n k w eye s) := by
  unfold orderedSetReceivedEff
  extract_lets ph s1 b a s2
  have h2 : FrameBy setEnts n q m s s2 :=
    .then (.txRun s n) (.wrLane _ .eyeMargin _ k.isLt)
  exact .ite (.refl s) (.ite (.then (h2.trans (.setLane ..)) (.quartzExit ..))
    (.ite (.then (h2.trans (.setLane ..)) (.basaltExit ..)) (.ite (.then (h2.trans (.setLane ..)) (.graniteExit ..)) h2)))

theorem berWindowEndEff_frameBy (k : Nat) (s : State) : FrameBy l n q m s (berWindowEndEff n k s) := by
  unfold berWindowEndEff
  exact .ite (.trans (.untilMono ..) (.berRoll ..)) (.refl s)

theorem bipSecondEndEff_frameBy (s : State) : FrameBy eventEnts n q m s (bipSecondEndEff s) :=
  .trans (.elapse ..) (.bipJudge ..)

theorem adaptWindowEndEff_frameBy (k : Fin 4) (coef : Nat) (s : State) :
    FrameBy [.snapshotValid] n q m s (adaptWindowEndEff n k coef s) := by
  unfold adaptWindowEndEff
  extract_lets s1 a ok src s2
  have h1 : FrameBy [.snapshotValid] n q m s s1 := .untilMono ..
  have h2 : FrameBy [.snapshotValid] n q m s s2 :=
    .ite (.trans (h1.trans (.setAon ..)) (.wrLane _ .snapshotValid 1 k.isLt)) h1
  exact .ite (.refl s) (h2.trans (.setLane ..))

/-- What an eye below the floor may change. -/
def eyeEnts : List Ent := eventEnts ++ [.adaptReverts, .eyeMargin]

theorem eyeBelowFloorEff_frameBy (k : Fin 4) (eye : Nat) (s : State) :
    FrameBy eyeEnts n q m s (eyeBelowFloorEff n k eye s) := by
  unfold eyeBelowFloorEff
  extract_lets a s1 src s2
  have h1 : FrameBy eyeEnts n q m s s1 :=
    .trans (.mono (.wrLane s .eyeMargin eye k.isLt)) (.setLane ..)
  have h2 : FrameBy eyeEnts n q m s s2 := h1.trans (.setLane ..)
  exact .ite (.refl s) (.ite h1 (.then (h2.then (.countByLane _ .adaptReverts 1 k.isLt)) (.raise ..)))

/-! Link sleep (R49 to R53). -/

theorem FrameBy.fillBlocks (k j : Nat) (s : State) : FrameBy l n q m s (State.fillBlocks k j s) :=
  (TxKeep.fillBlocks k j s).frameBy

theorem FrameBy.stripe (s : State) (k : Nat) (bl : List (Nat × BitVec 64)) : FrameBy l n q m s (s.stripe k bl) :=
  (TxKeep.stripe s k bl).frameBy

theorem FrameBy.sendOrdered (s : State) (k id : Nat) : FrameBy l n q m s (s.sendOrdered k id) := by
  unfold State.sendOrdered
  exact .trans (.trans (.trans (.trans (.txRun s k) (.fillBlocks ..)) (.setLanes ..)) (.stripe ..)) (.setPort ..)

/-- What the end of traffic for sleep may change. -/
def stopEnts : List Ent := leaveEnts ++ [.portState]

theorem FrameBy.askSleep (s : State) (k : Nat) (a : SleepAsk) : FrameBy l n q m s (s.askSleep k a) :=
  .trans (.sendOrdered ..) (.setPort ..)

theorem FrameBy.netSleeps (s : State) : FrameBy stopEnts n q m s (s.netSleeps n) := by
  unfold State.netSleeps
  exact .trans (.then (.trans (.mono (.wrPort ..)) (.setPort ..)) (.netLeave ..)) (.setPort ..)

theorem FrameBy.enterSleep (s : State) : FrameBy stopEnts n q m s (s.enterSleep n) :=
  .trans (.trans (.txRun s n) (.fillBlocks ..)) (.netSleeps ..)

/-- What the entry into LINK_SLEEP may change. -/
def sleepEnts : List Ent := eventEnts ++ replyEnts ++ [.badPackets, .portState]

theorem FrameBy.linkSleep (s : State) : FrameBy sleepEnts n q m s (s.linkSleep n) := by
  unfold State.linkSleep
  extract_lets p s1 s2
  have h1 : FrameBy sleepEnts n q m s s1 := .ite (.mono (.countPort ..)) (.refl s)
  have h2 : FrameBy sleepEnts n q m s s2 := .trans (h1.then (.wrPort ..)) (.setPort ..)
  exact .then (h2.then (.raise ..)) (.answerAsk ..)

theorem sleepRequestEff_frameBy (e : Env) (v : Val) (s : State) : FrameBy l n q m s (sleepRequestEff e n v s).1 := by
  unfold sleepRequestEff
  exact .iteFst (.refl s) (.iteFst (.refl s) (.iteFst (.refl s) (.iteFst (.refl s) (.askSleep ..))))

theorem sleepReqReceivedEff_frameBy (s : State) :
    FrameBy (upstreamEnts ++ eventEnts ++ replyEnts ++ [.lineRate, .portState, .rxLatency, .sleepNaks]) n q m s
      (sleepReqReceivedEff n s) := by
  unfold sleepReqReceivedEff
  exact .ite (.refl s) (.ite (.mono (.enterSleep ..)) (.ite (.trans (.mono (.countPort ..)) (.sendOrdered ..))
    (.then (.sendOrdered ..) (.enterSleep ..))))

theorem sleepAckReceivedEff_frameBy (s : State) :
    FrameBy (upstreamEnts ++ eventEnts ++ replyEnts ++ [.lineRate, .portState, .rxLatency]) n q m s
      (sleepAckReceivedEff n s) := by
  unfold sleepAckReceivedEff
  exact .ite (.mono (.enterSleep ..)) (.refl s)

theorem sleepNakReceivedEff_frameBy (s : State) : FrameBy replyEnts n q m s (sleepNakReceivedEff n s) := by
  unfold sleepNakReceivedEff
  refine .ite (.refl s) ?_
  split
  · exact .refl s
  · exact .trans (.setPort ..) (.answerAsk ..)

theorem sleepReqTimeoutEff_frameBy (s : State) :
    FrameBy (upstreamEnts ++ eventEnts ++ replyEnts ++ [.badPackets, .lineRate, .portState, .rxLatency]) n q m s
      (sleepReqTimeoutEff n s) := by
  unfold sleepReqTimeoutEff
  exact .ite (.then (.then (.untilMono ..) (.netSleeps ..)) (.linkSleep ..)) (.refl s)

theorem sleepEntryDoneEff_frameBy (s : State) :
    FrameBy sleepEnts n q m s (sleepEntryDoneEff n s) := by
  unfold sleepEntryDoneEff
  exact .ite (.linkSleep ..) (.refl s)

theorem wakeBeaconQualifiedEff_frameBy (k : Nat) (s : State) : FrameBy l n q m s (wakeBeaconQualifiedEff k s) := by
  unfold wakeBeaconQualifiedEff
  exact .ite .quiet (.refl s)

/-- What the resume of a port may change. -/
def resumeEnts : List Ent := eventEnts ++ [.portState]

theorem portResumeEff_frameBy (s : State) : FrameBy resumeEnts n q m s (portResumeEff n s) := by
  unfold portResumeEff
  extract_lets remote src s1 began s2 src' s3 s4 src'' s5 s6
  have h1 : FrameBy resumeEnts n q m s s1 := .quiet
  have h2 : FrameBy resumeEnts n q m s s2 := .ite h1 (h1.trans (.elapse ..))
  have h3 : FrameBy resumeEnts n q m s s3 := .ite h2 (h2.trans (.setPort ..))
  have h6 : FrameBy resumeEnts n q m s s6 :=
    .trans (.trans (h3.then (.wrPort ..)) (.setPort ..)) (.setLanes ..)
  exact .ite (h6.then (.raise ..)) (.refl s)

end

end Sys2Proof.Machine
end

section
/-! PROOF. The frames of the commands of the network (R58 to R81). -/

namespace Sys2Proof.Machine

section
variable {l : List Ent} {n : Fin 4} {q m : Bool}

/-! Packets (R58 to R73). -/

/-- What the delivery of a packet may change. -/
def deliverEnts : List Ent := requestEnts ++ [.deliveryDrops, .timeMessageErrors]

/-- What a packet that survived R59 may change. -/
def routeEnts : List Ent := deliverEnts ++ [.hopLimitDrops, .routeTable]

theorem FrameBy.deliverRequest (s : State) (a : Fin 4) (p : Packet) :
    FrameBy deliverEnts n q m s (s.deliverRequest a p) := by
  unfold State.deliverRequest
  exact .ite (.mono (.count ..)) (.ite (.mono (.count ..)) (.ite (.refl s) (.mono (.takeIn ..))))

theorem FrameBy.deliver (s : State) (a : Fin 4) (p : Packet) : FrameBy deliverEnts n q m s (s.deliver a p) := by
  have hdrop : FrameBy deliverEnts n q m s (s.count .deliveryDrops 0) := .mono (.count ..)
  unfold State.deliver
  exact .ite (.ite (.refl s) (.mono (.count ..))) (.ite (.ite (.deliverRequest ..) (.ite .quiet (.refl s)))
    (.ite (.ite (.refl s) hdrop) (.ite (.refl s) hdrop)))

theorem FrameBy.forward (s : State) (p : Packet) (k : Nat) : FrameBy sendEnts n q m s (s.forward p k) := .enqueue ..

theorem FrameBy.routeUnicast (s : State) (a : Fin 4) (p : Packet) : FrameBy routeEnts n q m s (s.routeUnicast a p) := by
  unfold State.routeUnicast
  extract_lets up fromUp s1 r
  have h1 : FrameBy routeEnts n q m s s1 := .ite (.mono (.wrv ..)) (.refl s)
  have hlost : FrameBy routeEnts n q m s (s1.count .noRouteDrops 0) := h1.then (.count ..)
  have hup : ∀ k, FrameBy routeEnts n q m s (s1.forward p k) := fun _ => h1.then (.forward ..)
  clear_value fromUp up
  refine .ite (h1.then (.deliver ..)) (.ite (h1.then (.count ..)) (.ite ?_ (.ite (hup _) (.ite ?_ hlost))))
  · split
    · exact .ite hlost (hup _)
    · exact hlost
  · split
    · exact hup _
    · exact hlost

theorem FrameBy.routeFlood (s : State) (a : Fin 4) (p : Packet) : FrameBy routeEnts n q m s (s.routeFlood a p) := by
  unfold State.routeFlood
  extract_lets member s1
  have h1 : FrameBy routeEnts n q m s s1 := .ite (.mono (.deliver ..)) (.refl s)
  exact .ite (.mono (.count ..)) (.ite h1 (.ite (h1.trans (.forEach _ (fun _ _ _ => .mono (.forward ..)) _))
    (.ite (h1.then (.count ..)) h1)))

theorem FrameBy.routePacket (s : State) (a : Fin 4) (p : Packet) : FrameBy routeEnts n q m s (s.routePacket a p) := by
  unfold State.routePacket
  exact .ite (.mono (.deliver ..)) (.ite (.mono (.count ..)) (.ite (.routeFlood ..) (.routeUnicast ..)))

theorem FrameBy.takeDone (s : State) (k : Nat) (b : Bytes) (bad : Bool) : FrameBy l n q m s (s.takeDone k b bad) := by
  unfold State.takeDone
  dsimp only
  split
  · exact .ite (.setPort ..) (.refl s)
  · exact .refl s

/-- What a received packet may change. -/
def packetEnts : List Ent := requestEnts ++ [.badPackets, .deliveryDrops, .headerCheckErrors, .hopLimitDrops,
  .packetCheckErrors, .routeTable, .timeMessageErrors]

theorem packetReceivedEff_frameBy (b : Bytes) (bad : Bool) (s : State) :
    FrameBy packetEnts n q m s (packetReceivedEff n b bad s) := by
  unfold packetReceivedEff
  extract_lets s1
  have h1 : FrameBy packetEnts n q m s s1 := .takeDone ..
  refine .ite (.refl s) (.ite (h1.then (.countPort ..)) ?_)
  split
  · rename_i x hx
    obtain rfl | rfl := packetFault_counter hx
    · exact h1.then (.count ..)
    · exact h1.then (.count ..)
  · exact h1.then (.routePacket ..)

theorem egressTransmitEff_frameBy (k : Nat) (s : State) : FrameBy l n q m s (egressTransmitEff k s) := by
  unfold egressTransmitEff
  refine .ite (.refl s) ?_
  split
  · exact .refl s
  · extract_lets s1 a p bad port s2 s3
    have h1 : FrameBy l n q m s s1 := .trans (.untilMono ..) (.txRun ..)
    have h3 : FrameBy l n q m s s3 := .trans (.trans (h1.trans (.setPort ..)) (.setLanes ..)) (.stripe ..)
    exact .ite (h3.trans .quiet) h3

/-! Enumeration (R64 to R70). -/

theorem helloTimerEff_frameBy (s : State) : FrameBy sendEnts n q m s (helloTimerEff s) := by
  unfold helloTimerEff
  extract_lets a
  refine .ite (.refl s) ?_
  split
  · exact .refl s
  · exact .trans (.untilMono ..) (.forEach _ (fun s _ _ => .ite (.trans (.setPort ..) (.sendLocal ..)) (.refl s)) _)

/-- What a HELLO may change. -/
def helloEnts : List Ent := upstreamEnts ++ eventEnts ++ replyEnts ++ [.headerCheckErrors]

theorem helloReceivedEff_frameBy (k : Nat) (b : Bytes) (s : State) :
    FrameBy helloEnts n q m s (helloReceivedEff k b s) := by
  unfold helloReceivedEff
  extract_lets h p own up change s1 lower better src s2 s3 s4
  have h2 : FrameBy helloEnts n q m s s2 := .trans (.setPort ..) (.setPort ..)
  have h3 : FrameBy helloEnts n q m s s3 := .ite (h2.then (.raise ..)) h2
  have h4 : FrameBy helloEnts n q m s s4 :=
    .then (h3.then (.wr _ .childPorts ..)) (.reselect ..)
  exact .ite (.refl s) (.ite (.mono (.count ..)) (.ite (h4.then (.announce ..)) h4))

theorem helloTimeoutEff_frameBy (k : Nat) (s : State) : FrameBy pathEnts n q m s (helloTimeoutEff k s) := by
  unfold helloTimeoutEff
  exact .ite (.then (.then (.trans (.untilMono ..) (.setPort ..)) (.raise ..)) (.reselect ..)) (.refl s)

/-- What an ASSIGN may change. -/
def assignEnts : List Ent := pathEnts ++ [.assignRefusals, .assigner, .deviceAddress, .headerCheckErrors]

theorem assignReceivedEff_frameBy (k : Nat) (b : Bytes) (s : State) :
    FrameBy assignEnts n q m s (assignReceivedEff k b s) := by
  unfold assignReceivedEff
  extract_lets a own up dist s1 s2 s3
  have h1 : FrameBy assignEnts n q m s s1 :=
    .then (.then (.mono (.wr ..)) (.wr ..)) (.reselect ..)
  have h2 : FrameBy assignEnts n q m s s2 :=
    h1.then (.raise ..)
  have h3 : FrameBy assignEnts n q m s s3 :=
    .ite (h2.then (.helloAll ..)) h2
  exact .ite (.refl s) (.ite (.mono (.count ..)) (.ite (.ite (h3.then (.announce ..)) h3) (.ite (.refl s)
    (.then (.mono (.count ..)) (.raise ..)))))

theorem relayAssignReceivedEff_frameBy (src : Nat) (b : Bytes) (s : State) :
    FrameBy (replyEnts ++ [.headerCheckErrors]) n q m s (relayAssignReceivedEff src b s) := by
  unfold relayAssignReceivedEff
  exact .ite (.refl s) (.ite (.mono (.count ..)) (.ite (.mono (.sendLocal ..)) (.mono (.count ..))))

/-- What an Unassign may change beside its request. -/
def unassignEnts : List Ent := pathEnts ++ [.deviceAddress]

theorem FrameBy.unassign (s : State) : FrameBy unassignEnts n q m s s.unassign := by
  unfold State.unassign
  extract_lets dist up s1
  have h1 : FrameBy unassignEnts n q m s s1 := .then (.then (.mono (.wr ..)) (.wrv _ .routeTable ..)) (.reselect ..)
  exact .ite (h1.then (.helloAll ..)) h1

theorem FrameBy.unassignIfDue (s : State) : FrameBy unassignEnts n q m s s.unassignIfDue := by
  unfold State.unassignIfDue
  exact .ite (.trans .quiet (.unassign ..)) (.refl s)

theorem unassignEff_frameBy (v : Val) (s : State) : FrameBy l n q m s (unassignEff v s).1 := by
  unfold unassignEff
  exact .iteFst (.refl s) (.iteFst .quiet (.refl s))

/-! Sweeps (R76, R77). -/

theorem FrameBy.sweepReturn (s : State) (w : Sweep) : FrameBy sendEnts n q m s (s.sweepReturn w) := by
  unfold State.sweepReturn
  extract_lets s1
  have h1 : FrameBy sendEnts n q m s s1 := .quiet
  split
  · exact h1.trans (.sendLocal ..)
  · exact h1

/-- What a SWEEP that is acted on may change. -/
def runEnts : List Ent := sendEnts ++ [.hopLimitDrops]

theorem FrameBy.runSweep (s : State) (b : Bytes) (p : Packet) (ret : Nat) :
    FrameBy runEnts n q m s (s.runSweep b p ret) := by
  unfold State.runSweep State.forwardSweep
  extract_lets w s1
  have h1 : FrameBy runEnts n q m s s1 :=
    .ite (.forEach _ (fun _ _ _ => .mono (.forward ..)) _) (.ite (.mono (.count ..)) (.refl s))
  exact .ite (.refl s) (.ite (h1.then (.sweepReturn ..)) (h1.trans .quiet))

/-- What a SWEEP may change. -/
def sweepEnts : List Ent := sendEnts ++ [.headerCheckErrors, .hopLimitDrops, .lateSweepReturns]

theorem sweepReceivedEff_frameBy (k : Nat) (b : Bytes) (s : State) :
    FrameBy sweepEnts n q m s (sweepReceivedEff k b s) := by
  unfold sweepReceivedEff State.meetSweep
  extract_lets ret msg s1
  have h1 : FrameBy sweepEnts n q m s s1 := .quiet
  exact .ite (.refl s) (.ite (.mono (.count ..)) (.ite h1 (.ite (h1.then (.count ..)) (.ite
    (.ite (h1.then (.runSweep ..)) (h1.trans .quiet)) (h1.trans .quiet)))))

theorem sweepReturnReceivedEff_frameBy (k : Nat) (b : Bytes) (s : State) :
    FrameBy (sendEnts ++ [.headerCheckErrors, .lateSweepReturns]) n q m s (sweepReturnReceivedEff k b s) := by
  unfold sweepReturnReceivedEff
  refine .ite (.refl s) (.ite (.mono (.count ..)) ?_)
  split
  · exact .mono (.count ..)
  · exact .ite (.ite (.mono (.sweepReturn ..)) .quiet) (.refl s)

theorem sweepReturnTimeEff_frameBy (src sq : Nat) (s : State) : FrameBy sendEnts n q m s (sweepReturnTimeEff src sq s) := by
  unfold sweepReturnTimeEff
  refine .ite (.refl s) ?_
  split
  · exact .refl s
  · exact .trans (.untilDisp ..) (.sweepReturn ..)

end

end Sys2Proof.Machine
end

section
/-! PROOF. The frames of the commands of bulk transfers (R74, R306 to R310). -/

namespace Sys2Proof.Machine

section
variable {l : List Ent} {n : Fin 4} {q m : Bool}

/-! Bulk transfers and the write path (R74, R306, R314 to R318). -/

/-- What the failing of a job of the write path may change, its answers and its events included. -/
def pathFailEnts : List Ent := lineEnts ++ eventEnts ++ replyEnts

/-- What the end of a transfer may change. -/
def xferEndEnts : List Ent := eventEnts ++ [.transferState, .transferStatus]

theorem FrameBy.setXfer (s : State) (k : Nat) (x : Xfer) : FrameBy l n q m s (s.setXfer k x) := .quiet

theorem FrameBy.setOps (s : State) (a : List NvmOp) : FrameBy l n q m s (s.setOps a) := .quiet

theorem FrameBy.pushOp (s : State) (o : NvmOp) : FrameBy l n q m s (s.pushOp o) := .quiet

theorem FrameBy.mramWrite (s : State) (a : Nat) (b : Bytes) : FrameBy l n q true s (s.mramWrite a b) :=
  ⟨fun _ _ _ => rfl, fun _ => rfl, nofun, rfl⟩

theorem FrameBy.quarryWrite (s : State) (a : Nat) (b : Bytes) : FrameBy l n true m s (s.quarryWrite a b) :=
  ⟨fun _ _ _ => rfl, nofun, fun _ => rfl, rfl⟩

theorem FrameBy.bufWrite (b : Bytes) (h o : Nat) (s : State) : FrameBy l n true m s (State.bufWrite s h o b) := by
  induction b generalizing s o with
  | nil => exact .refl s
  | cons b t ih =>
    have hbyte : FrameBy l n true m s { s with quarry := SMap.set s.quarry 0 (s.bufAddr h o) b } :=
      ⟨fun _ _ _ => rfl, nofun, fun _ => rfl, rfl⟩
    exact hbyte.trans (ih ..)

theorem FrameBy.tableWrite (s : State) (o : Nat) (b : Bytes) : FrameBy l n q m s (s.tableWrite o b) := by
  unfold State.tableWrite State.putTableBytes State.setTables
  exact .ite (.refl s) .quiet

theorem FrameBy.rangeWrite (s : State) (kind h o : Nat) (b : Bytes) : FrameBy l n true m s (s.rangeWrite kind h o b) := by
  unfold State.rangeWrite
  split
  · exact .quarryWrite ..
  · exact .quarryWrite ..
  · exact .tableWrite ..
  · exact .bufWrite ..
  · exact .refl s

theorem FrameBy.mramScan (s : State) (a k : Nat) : FrameBy [.nvmCorrected] n q true s (s.mramScan a k) := by
  unfold State.mramScan
  extract_lets j s1
  have h1 : FrameBy [.nvmCorrected] n q true s s1 := .trans .quiet (.wr _ .nvmCorrected ..)
  split
  · exact .ite h1 (h1.trans (.mramWrite ..))
  · exact h1

theorem FrameBy.stalled (s : State) : FrameBy [.bankConflictStalls, .sameWordConflicts] n q m s s.stalled := by
  unfold State.stalled
  exact .then (.trans .quiet (.forEach _ (fun _ _ _ => .mono (.wr _ .bankConflictStalls ..)) _))
    (.wr _ .sameWordConflicts ..)

theorem FrameBy.sendAck (s : State) (k : Nat) : FrameBy replyEnts n q m s (s.sendAck k) :=
  .trans (.setXfer ..) (.originate ..)

theorem FrameBy.dropOps (s : State) (p : NvmOp → Bool) : FrameBy l n q true s (s.dropOps p) := by
  unfold State.dropOps
  refine .trans (.setOps ..) (.forEach _ (fun s o _ => ?_) _)
  split
  · exact .mramWrite ..
  · exact .refl s

theorem FrameBy.endXfer (s : State) (k st : Nat) (x : Status) :
    FrameBy [.transferState, .transferStatus] n q true s (s.endXfer k st x) := by
  unfold State.endXfer
  extract_lets s1 s2
  have h1 : FrameBy [.transferState, .transferStatus] n q true s s1 := .then (.mono (.wr ..)) (.wr ..)
  have h2 : FrameBy [.transferState, .transferStatus] n q true s s2 := h1.trans (.dropOps ..)
  exact h2.trans .quiet

theorem FrameBy.doneXfer (s : State) (k : Nat) : FrameBy xferEndEnts n q true s (s.doneXfer k) :=
  .then (.mono (.endXfer ..)) (.raise ..)

theorem FrameBy.failXfer (s : State) (k : Nat) (st : Status) : FrameBy xferEndEnts n q true s (s.failXfer k st) :=
  .then (.mono (.endXfer ..)) (.raise ..)

theorem FrameBy.countDecode (s : State) (st : Status) : FrameBy [.decodeErrors] n q m s (s.countDecode st) := by
  unfold State.countDecode
  exact .ite (.count ..) (.refl s)

theorem FrameBy.completeFor (s : State) (w : Waiter) (r : Reply) : FrameBy replyEnts n q m s (s.completeFor w r) := by
  unfold State.completeFor
  exact .ite (.ite .quiet (.refl s)) (.complete ..)

theorem FrameBy.answer (s : State) (w : Option Waiter) (st : Status) : FrameBy replyEnts n q m s (s.answer w st) := by
  unfold State.answer
  split
  · exact .refl s
  · exact .completeFor ..

theorem FrameBy.storeReply (s : State) (r : StoreRun) (a : Reply) : FrameBy replyEnts n q m s (s.storeReply r a) := by
  unfold State.storeReply
  exact .ite (.refl s) (.complete ..)

theorem FrameBy.storeFail (s : State) (st : Status) : FrameBy pathFailEnts n q m s (s.storeFail st) := by
  unfold State.storeFail
  split
  · exact .refl s
  · extract_lets area src s1 s2
    have h2 : FrameBy pathFailEnts n q m s s2 := .then (.then (t := s1) .quiet (.count _ .storeFailures 0)) (.raise ..)
    exact h2.then (.storeReply ..)

theorem FrameBy.storeNext (s : State) : FrameBy pathFailEnts n q m s s.storeNext := by
  unfold State.storeNext
  split
  · exact .refl s
  · split
    · exact .then .quiet (.storeReply ..)
    · exact .ite (.storeFail ..) (.pushOp ..)
    · exact .ite (.storeFail ..) (.pushOp ..)
    · split
      · exact .storeFail ..
      · exact .quiet

theorem FrameBy.storeRun (k : Nat) (s : State) : FrameBy pathFailEnts n q m s (State.storeRun k s) := by
  induction k generalizing s with
  | zero => exact .refl s
  | succ k ih =>
    unfold State.storeRun
    exact .ite (.trans (.storeNext s) (ih _)) (.storeNext s)

theorem FrameBy.opFail (s : State) (o : NvmOp) (st : Status) : FrameBy pathFailEnts n q true s (s.opFail o st) := by
  have hstore : FrameBy pathFailEnts n q true s (State.storeRun 300 (s.storeFail st)) :=
    .trans (.storeFail ..) (.storeRun ..)
  have hxfer : FrameBy pathFailEnts n q true s (s.failXfer (o.names.headD 0) st) := .mono (.failXfer ..)
  unfold State.opFail
  split
  · exact .mono (.answer ..)
  · exact hxfer
  · exact .mono (.answer ..)
  · exact .ite hstore hxfer
  · exact hstore

theorem FrameBy.hold (s : State) : FrameBy [.nvmHolds] n q m s s.hold := by
  unfold State.hold
  exact .ite (.trans .quiet (.count ..)) .quiet

theorem FrameBy.nvmKick (k : Nat) (s : State) : FrameBy pathFailEnts n q true s (State.nvmKick k s) := by
  induction k generalizing s with
  | zero => exact .refl s
  | succ k ih =>
    unfold State.nvmKick
    refine .ite (.refl s) (.ite ?_ ?_)
    · extract_lets s1
      have h1 : FrameBy pathFailEnts n q true s s1 := .quiet
      split
      · exact h1
      · exact .ite h1 (.ite (.trans (h1.trans (.setOps ..)) (ih _)) (h1.trans (.setOps ..)))
    · split
      · exact .trans (.trans (.setOps ..) (.opFail ..)) (ih _)
      · split
        · exact .refl s
        · exact .ite (.refl s) (.mono (.hold s))

/-! Mehild files (R309, R310). -/

/-- What the staging of a file's values may change. -/
def stageEnts : List Ent := eventEnts ++ [.stagingOwner]

/-- What the data of a transfer may change. -/
def takeEnts : List Ent := xferEndEnts ++ replyEnts ++ [.bytesDone, .decodeErrors, .failedSection, .stagingOwner]

theorem FrameBy.setStaged (s : State) (a : List (Nat × Val)) : FrameBy l n q m s (s.setStaged a) := by
  unfold State.setStaged
  exact .ite .quiet .quiet

theorem FrameBy.stage (s : State) (k : Nat) (x : Ent) (i : Nat) (v : Val) :
    FrameBy stageEnts n q m s (s.stage k x i v).1 := by
  unfold State.stage
  split
  · exact .refl s
  · exact .iteFst (.refl s) (.trans (.setStaged ..) (.mono (.wr ..)))

theorem FrameBy.stageWrite (s : State) (e : Env) (x : Ent) (i : Nat) (v : Val) :
    FrameBy stageEnts n q m s (s.stageWrite e x i v).1 := by
  unfold State.stageWrite
  extract_lets refusal r
  clear_value refusal
  split
  · exact .mono (.refused ..)
  · exact .iteFst (.stage ..) (.then (.stage ..) (.refused ..))

theorem FrameBy.stageAt (s : State) (k index sub : Nat) (b : Bytes) :
    FrameBy stageEnts n q m s (s.stageAt k index sub b).1 := by
  unfold State.stageAt
  split
  · exact .refl s
  · exact .iteFst (.refl s) (.iteFst (.refl s) (.iteFst (.refl s) (.iteFst (.mono (.refused ..))
      (.iteFst (.mono (.refused ..)) (.stageWrite ..)))))

theorem FrameBy.stageFile (s : State) (k : Nat) (file : Bytes) : FrameBy stageEnts n q m s (s.stageFile k file).1 := by
  unfold State.stageFile
  extract_lets r
  have hr : FrameBy stageEnts n q m s r.1 := by
    refine List.foldlRecOn (motive := fun a : State × Option (Nat × Status) => FrameBy stageEnts n q m s a.1) _ _
      (.refl s) ?_
    intro a ha i _
    dsimp only
    split
    · exact ha
    · refine .iteFst ha ?_
      split
      · exact ha
      · exact .iteFst (ha.trans (.stageAt ..)) (ha.trans (.stageAt ..))
  split
  · exact hr
  · dsimp only
    split
    · exact .mono (.refused ..)
    · exact .refl s

theorem FrameBy.failSection (s : State) (k : Nat) (st : Status) : FrameBy takeEnts n q true s (s.failSection k st) :=
  .then (.mono (.wr _ .failedSection ..)) (.failXfer ..)

theorem FrameBy.beginSlot (s : State) (k : Nat) : FrameBy l n q m s (s.beginSlot k) := by
  unfold State.beginSlot
  exact .ite .quiet .quiet

theorem FrameBy.feedLines (s : State) (k base : Nat) (b : Bytes) (last : Bool) :
    FrameBy l n q m s (s.feedLines k base b last) := .quiet

theorem FrameBy.fileGood (s : State) (k : Nat) : FrameBy takeEnts n q true s (s.fileGood k) := by
  unfold State.fileGood
  extract_lets x d
  refine .ite ?_ ?_
  · split
    · exact .failSection ..
    · exact .ite (.failSection ..) (.trans (.trans (.trans (.setXfer ..) (.beginSlot ..)) (.pushOp ..)) (.feedLines ..))
  · have h1 : FrameBy takeEnts n q true s (s.stageFile x.session x.file).1 := .mono (.stageFile ..)
    split
    · rename_i u hu
      rw [hu] at h1
      exact h1.then (.doneXfer ..)
    · rename_i u i st hu
      rw [hu] at h1
      exact .then (h1.then (.wr _ .failedSection ..)) (.failXfer ..)

theorem FrameBy.storePart (s : State) (k : Nat) (d : Sect) (b : Bytes) : FrameBy l n true m s (s.storePart k d b).1 := by
  unfold State.storePart
  exact .iteFst (.refl s) (.iteFst (.trans (.setXfer ..) (.rangeWrite ..)) (.trans (.setXfer ..) (.rangeWrite ..)))

theorem FrameBy.fileRun (k j : Nat) (s : State) : FrameBy takeEnts n true true s (State.fileRun k j s) := by
  induction k generalizing s with
  | zero => exact .refl s
  | succ k ih =>
    have hfail : ∀ st, FrameBy takeEnts n true true s (s.failXfer j st) := fun _ => .mono (.failXfer ..)
    unfold State.fileRun
    extract_lets x c d from_ stop s1 b r
    have h1 : FrameBy takeEnts n true true s s1 := .setXfer ..
    have hr : FrameBy takeEnts n true true s r.1 := .iteFst (h1.trans (.storePart ..)) (h1.trans (.setXfer ..))
    refine .ite (.refl s) (.ite (.ite (hfail _) (.ite (.refl s) (.ite (hfail _) (.ite (hfail _) (.ite (.refl s) ?_)))))
      (.ite (.ite (.fileGood ..) (.refl s)) (.ite (.refl s) ?_)))
    · split
      · exact hfail _
      · exact .trans (.setXfer ..) (ih _)
    · split
      · exact .trans (hr.then (.countDecode ..)) (.failSection ..)
      · refine .ite hr ?_
        split
        · exact .trans (.ite (hr.then (.countDecode ..)) hr) (.failSection ..)
        · exact .trans (hr.trans (.setXfer ..)) (ih _)

/-! The commands of bulk transfers. -/

theorem FrameBy.takeData (s : State) (k o : Nat) (b : Bytes) : FrameBy takeEnts n true true s (s.takeData k o b) := by
  unfold State.takeData
  extract_lets x done s1 x1 last s2 x2 s3 first file s4 slot
  have h1 : FrameBy takeEnts n true true s s1 := .trans (.setXfer ..) (.mono (.wr _ .bytesDone ..))
  have h2 : FrameBy takeEnts n true true s s2 := .ite (h1.then (.sendAck ..)) h1
  have h3 : FrameBy takeEnts n true true s s3 := h2.trans (.rangeWrite ..)
  have h4 : FrameBy takeEnts n true true s s4 := h2.trans (.setXfer ..)
  refine .ite (h2.trans (.setXfer ..)) (.ite (.ite (h3.then (.doneXfer ..)) h3) (.ite (h4.trans (.fileRun ..))
    (.ite (.trans (.ite (h4.trans (.beginSlot ..)) h4) (.feedLines ..)) ?_)))
  split
  · exact h4.trans (.feedLines ..)
  · exact h4

/-- What a packet of bulk data may change. -/
def bulkEnts : List Ent := lineEnts ++ eventEnts ++ replyEnts ++ [.bankConflictStalls, .bytesDone, .decodeErrors,
  .failedSection, .sameWordConflicts, .stagingOwner]

theorem FrameBy.bulkPacketEff (src c k : Nat) (b : Bytes) (s : State) :
    FrameBy bulkEnts n true true s (bulkPacketEff src c k b s) := by
  unfold Machine.bulkPacketEff State.discardPacket
  exact .ite (.refl s) (.ite (.ite (.refl s) (.setXfer ..)) (.ite (.then (.mono (.failXfer ..)) (.nvmKick ..))
    (.then (.mono (.takeData ..)) (.nvmKick ..))))

theorem bulkPacketReceived_frameBy (src c k : Nat) (b : Bytes) (s : State) :
    FrameBy bulkEnts n true true s (if s.on 9 then (bulkPacketEff src c k b s).stalled else s) :=
  .ite (.then (.bulkPacketEff ..) (.stalled ..)) (.refl s)

theorem bulkAckTimerEff_frameBy (k : Nat) (s : State) : FrameBy replyEnts n q m s (bulkAckTimerEff k s) := by
  unfold bulkAckTimerEff
  split
  · exact .refl s
  · exact .ite (.refl s) (.trans (.untilMono ..) (.sendAck ..))

theorem FrameBy.outScan (s : State) (x : Xfer) (o k : Nat) : FrameBy [.nvmCorrected] n q true s (s.outScan x o k) := by
  unfold State.outScan
  refine .ite ?_ (.ite (.mramScan ..) (.refl s))
  split
  · exact .mramScan ..
  · exact .refl s

theorem FrameBy.bulkSendEff (k : Nat) (s : State) :
    FrameBy (xferEndEnts ++ replyEnts ++ [.nvmCorrected]) n q true s (bulkSendEff k s) := by
  unfold Machine.bulkSendEff
  exact .ite (.refl s) (.ite (.mono (.failXfer ..)) (.ite (.refl s)
    (.then (.trans (.mono (.outScan ..)) (.setXfer ..)) (.originate ..))))

theorem bulkSend_frameBy (k : Nat) (s : State) :
    FrameBy (eventEnts ++ replyEnts ++ [.bankConflictStalls, .nvmCorrected, .sameWordConflicts, .transferState,
      .transferStatus]) n q true s (if s.on 9 then (bulkSendEff k s).stalled else s) :=
  .ite (.then (.mono (.bulkSendEff ..)) (.stalled ..)) (.refl s)

/-- What an ACK of bulk data may change. -/
def ackEnts : List Ent := eventEnts ++ [.bytesDone, .transferState, .transferStatus]

theorem bulkAckEff_frameBy (src k : Nat) (b : Bytes) (s : State) :
    FrameBy ackEnts n q true s (bulkAckEff src k b s) := by
  unfold bulkAckEff
  extract_lets x c total gap s1 s2
  have h2 : FrameBy ackEnts n q true s s2 :=
    .trans (.setXfer ..) (.mono (.wr _ .bytesDone ..))
  exact .ite (.refl s) (.ite (h2.then (.doneXfer ..)) h2)

end

end Sys2Proof.Machine
end

section
/-! PROOF. The frame of the commands of ports, lanes and the network, command by command. -/

namespace Sys2Proof.Machine

/-! The frames of the commands. -/

/-- The commands of ports, lanes and the network name no context, handle or job. -/
theorem ownOf_link {c : Instr} (h : familyOf c = .links ∨ familyOf c = .network) (x : Ent) :
    ownOf c x = if x.ofLink then portOf c else none := by
  have hc : ctxOf c = none ∧ handleOf c = none ∧ jobOf c = none := by
    cases c <;> simp_all [familyOf, ctxOf, handleOf, jobOf]
  obtain ⟨hctx, hhandle, hjob⟩ := hc
  simp [ownOf, Ent.ofLink, hctx, hhandle, hjob]

/-- A command of ports, lanes and the network may change the entries of its list, those of the ports and lanes at the port that
it names. -/
theorem mayChange_of_changes {c : Instr} {l : List Ent} {n : Fin 4} {s : State}
    (hfam : familyOf c = .links ∨ familyOf c = .network) (hl : frameEnts c = some l)
    (hport : portOf c = some n.val ∨ ∀ x ∈ l, x.ofLink = false) {x : Ent} {i : Nat} (h : changes l n x i = true) :
    mayChange c s x i = true := by
  simp only [changes, Bool.and_eq_true, Bool.or_eq_true, Bool.not_eq_true', decide_eq_true_eq] at h
  obtain ⟨hx, howner⟩ := h
  have hmem : x ∈ l := by simpa using hx
  unfold mayChange
  rw [hl, ownOf_link hfam]
  by_cases hlink : x.ofLink = true
  · have hn : ownerOf x i = n := howner.resolve_left (by simp [hlink])
    have hp : portOf c = some n.val := hport.resolve_right fun hfree => by
      rw [hfree x hmem] at hlink
      cases hlink
    simp [hlink, hp, hn, hmem]
  · simp [hlink, hmem]

theorem Framed.of_exec {c : Instr} {l : List Ent} {n : Fin 4} {s t u : State}
    (hfam : familyOf c = .links ∨ familyOf c = .network) (hexec : exec c s = .next t) (hl : frameEnts c = some l)
    (hport : portOf c = some n.val ∨ ∀ x ∈ l, x.ofLink = false) (hu : exec c s = .next u)
    (h : FrameBy l n (storesQuarry c) (storesMram c) s u) : Framed c s t := by
  obtain rfl : u = t := Host.Outcome.next.inj (hu.symm.trans hexec)
  refine ⟨fun x i hx => h.rdv x i (Bool.eq_false_iff.2 fun hc => ?_), h.quarry, h.mram, fun _ => h.modl⟩
  rw [mayChange_of_changes hfam hl hport hc] at hx
  cases hx

/-- The management core's state stays from `s` to `t`. -/
structure MgmtKeep (s t : State) : Prop where
  mgmt : t.mgmt = s.mgmt

theorem MgmtKeep.refl (s : State) : MgmtKeep s s := ⟨rfl⟩

theorem MgmtKeep.trans {s t u : State} (h : MgmtKeep s t) (g : MgmtKeep t u) : MgmtKeep s u := ⟨g.mgmt.trans h.mgmt⟩

theorem MgmtKeep.ite {c : Prop} [Decidable c] {s t u : State} (h : MgmtKeep s t) (g : MgmtKeep s u) :
    MgmtKeep s (if c then t else u) := by
  split
  · exact h
  · exact g

theorem MgmtKeep.untilMono (s : State) (d : Nat) : MgmtKeep s (s.untilMono d) := ⟨State.untilMono_mgmt ..⟩

theorem MgmtKeep.setPort (s : State) (k : Nat) (p : Port) : MgmtKeep s (s.setPort k p) := ⟨rfl⟩

theorem MgmtKeep.setTime (s : State) (x : TimeUnit) : MgmtKeep s { s with time := x } := ⟨rfl⟩

theorem TxKeep.mgmtKeep {s t : State} (h : TxKeep s t) : MgmtKeep s t := ⟨by rw [h.rest]⟩

/-- R291: what leaves a port has no part in the management core's state. -/
theorem egressTransmitEff_mgmtKeep (k : Nat) (s : State) : MgmtKeep s (egressTransmitEff k s) := by
  unfold egressTransmitEff
  refine .ite (.refl s) ?_
  split
  · exact .refl s
  · extract_lets s1 a p bad port s2 s3
    have h1 : MgmtKeep s s1 := .trans (.untilMono ..) (TxKeep.txRun _ k).mgmtKeep
    have h2 : MgmtKeep s s2 := h1.trans (.setPort ..)
    have hsend : TxKeep s2 s3 := (TxKeep.clearSent s2 k).trans (TxKeep.stripe _ k _)
    have h3 : MgmtKeep s s3 := h2.trans hsend.mgmtKeep
    exact .ite (h3.trans (.setTime ..)) h3

/-- The frames of the commands of ports and lanes. -/
theorem linkFrame {c : Instr} {s t : State} (hfam : familyOf c = .links)
    (hreset : ∀ n, c = .egressTransmit n → s.mgmt.resetDue = false) (hexec : exec c s = .next t) : Framed c s t := by
  cases c
  case portEnableWrite e n v =>
    exact .of_exec (.inl rfl) hexec rfl (.inl rfl) rfl (.writeCmd (by decide) s e .portEnable n v portEnableEff_frameBy)
  case detectPulse n b => exact .of_exec (n := n) (.inl rfl) hexec rfl (.inl rfl) rfl (detectPulseEff_frameBy b s)
  case rateStepStart n => exact .of_exec (.inl rfl) hexec rfl (.inl rfl) rfl (rateStepStartEff_frameBy (n := n) s)
  case serdesPllLock n => exact .of_exec (.inl rfl) hexec rfl (.inl rfl) rfl (serdesPllLockEff_frameBy (n := n) s)
  case stateTimeLimit n => exact .of_exec (.inl rfl) hexec rfl (.inl rfl) rfl (stateTimeLimitEff_frameBy (n := n) s)
  case trainIdleEnd n => exact .of_exec (.inl rfl) hexec rfl (.inl rfl) rfl (trainIdleEndEff_frameBy (n := n) s)
  case blockReceived n k b => exact .of_exec (.inl rfl) hexec rfl (.inl rfl) rfl (blockReceivedEff_frameBy (n := n) k b s)
  case alignReceived n k w a =>
    exact .of_exec (.inl rfl) hexec rfl (.inl rfl) rfl (alignReceivedEff_frameBy (n := n) k w a s)
  case orderedSetReceived n k w y =>
    exact .of_exec (.inl rfl) hexec rfl (.inl rfl) rfl (orderedSetReceivedEff_frameBy (n := n) k w y s)
  case linkDownIdleEnd n => exact .of_exec (.inl rfl) hexec rfl (.inl rfl) rfl (linkDownIdleEndEff_frameBy (n := n) s)
  case retrain e n v =>
    exact .of_exec (.inl rfl) hexec rfl (.inl rfl) rfl (.writeCmd (by decide) s e .retrain n v retrainEff_frameBy)
  case packetReceived n b bad =>
    exact .of_exec (.inl rfl) hexec rfl (.inl rfl) rfl (packetReceivedEff_frameBy (n := n) b bad s)
  case egressTransmit n =>
    have hdue : (egressTransmitEff n s).mgmt.resetDue = false := by
      rw [(egressTransmitEff_mgmtKeep n s).mgmt]; exact hreset n rfl
    refine .of_exec (n := n) (u := egressTransmitEff n s) (.inl rfl) hexec rfl (.inl rfl) ?_ (egressTransmitEff_frameBy n s)
    show Host.Outcome.next (egressTransmitEff n s).resetIfDue = _
    rw [State.resetIfDue_none _ hdue]
  case berWindowEnd n k => exact .of_exec (.inl rfl) hexec rfl (.inl rfl) rfl (berWindowEndEff_frameBy (n := n) k s)
  case bipSecondEnd => exact .of_exec (n := 0) (.inl rfl) hexec rfl (.inr (by decide)) rfl (bipSecondEndEff_frameBy s)
  case adaptWindowEnd n k w => exact .of_exec (.inl rfl) hexec rfl (.inl rfl) rfl (adaptWindowEndEff_frameBy (n := n) k w s)
  case eyeBelowFloor n k y =>
    exact .of_exec (.inl rfl) hexec rfl (.inl rfl) rfl (eyeBelowFloorEff_frameBy (n := n) k y.toNat s)
  case sleepRequest e n v =>
    exact .of_exec (.inl rfl) hexec rfl (.inl rfl) rfl
      (.writeCmd (List.Subset.refl _) s e .sleepRequest n v (sleepRequestEff_frameBy e))
  case sleepReqReceived n => exact .of_exec (.inl rfl) hexec rfl (.inl rfl) rfl (sleepReqReceivedEff_frameBy (n := n) s)
  case sleepAckReceived n => exact .of_exec (.inl rfl) hexec rfl (.inl rfl) rfl (sleepAckReceivedEff_frameBy (n := n) s)
  case sleepNakReceived n => exact .of_exec (.inl rfl) hexec rfl (.inl rfl) rfl (sleepNakReceivedEff_frameBy (n := n) s)
  case sleepReqTimeout n => exact .of_exec (.inl rfl) hexec rfl (.inl rfl) rfl (sleepReqTimeoutEff_frameBy (n := n) s)
  case sleepEntryDone n => exact .of_exec (.inl rfl) hexec rfl (.inl rfl) rfl (sleepEntryDoneEff_frameBy (n := n) s)
  case wakeBeaconQualified n =>
    exact .of_exec (n := n) (.inl rfl) hexec rfl (.inl rfl) rfl (wakeBeaconQualifiedEff_frameBy n s)
  case portResume n => exact .of_exec (.inl rfl) hexec rfl (.inl rfl) rfl (portResumeEff_frameBy (n := n) s)
  all_goals exact nomatch hfam

/-- The frames of the commands of the network. -/
theorem networkFrame {c : Instr} {s t : State} (hfam : familyOf c = .network) (hexec : exec c s = .next t) :
    Framed c s t := by
  cases c
  case helloTimer => exact .of_exec (n := 0) (.inr rfl) hexec rfl (.inr (by decide)) rfl (helloTimerEff_frameBy s)
  case helloReceived n b => exact .of_exec (n := n) (.inr rfl) hexec rfl (.inl rfl) rfl (helloReceivedEff_frameBy n b s)
  case helloTimeout n => exact .of_exec (n := n) (.inr rfl) hexec rfl (.inl rfl) rfl (helloTimeoutEff_frameBy n s)
  case assignReceived n b =>
    exact .of_exec (n := n) (.inr rfl) hexec rfl (.inl rfl) rfl (.mono (assignReceivedEff_frameBy n b s))
  case relayAssignReceived a b =>
    exact .of_exec (n := 0) (.inr rfl) hexec rfl (.inr (by decide)) rfl (relayAssignReceivedEff_frameBy a.toNat b s)
  case unassign e v =>
    exact .of_exec (n := 0) (.inr rfl) hexec rfl (.inr (by decide)) rfl
      (.then (.writeCmd (by decide) s e .unassign 0 v unassignEff_frameBy) (.unassignIfDue ..))
  case sweepReceived n b => exact .of_exec (n := n) (.inr rfl) hexec rfl (.inl rfl) rfl (sweepReceivedEff_frameBy n b s)
  case sweepReturnReceived n b =>
    exact .of_exec (n := n) (.inr rfl) hexec rfl (.inl rfl) rfl (sweepReturnReceivedEff_frameBy n b s)
  case sweepReturnTime a b =>
    exact .of_exec (n := 0) (.inr rfl) hexec rfl (.inr (by decide)) rfl (sweepReturnTimeEff_frameBy a.toNat b.toNat s)
  case bulkPacketReceived a ch sq b =>
    exact .of_exec (n := 0) (.inr rfl) hexec rfl (.inr (by decide)) rfl
      (bulkPacketReceived_frameBy a.toNat ch.toNat sq.toNat b s)
  case bulkAckTimer k => exact .of_exec (n := 0) (.inr rfl) hexec rfl (.inr (by decide)) rfl (bulkAckTimerEff_frameBy k s)
  case bulkAckReceived a k b =>
    exact .of_exec (n := 0) (.inr rfl) hexec rfl (.inr (by decide)) rfl (bulkAckEff_frameBy a.toNat k b s)
  case bulkSend k => exact .of_exec (n := 0) (.inr rfl) hexec rfl (.inr (by decide)) rfl (bulkSend_frameBy k s)
  all_goals exact nomatch hfam

/-- Settles O56: each command's effect by its frame. -/
theorem linkAndNetworkFrame : Obligations.LinkAndNetworkFrame := by
  unfold Obligations.LinkAndNetworkFrame
  intro c s t hfam hreset hexec
  obtain hlinks | hnetwork := hfam
  · exact linkFrame hlinks hreset hexec
  · exact networkFrame hnetwork hexec

end Sys2Proof.Machine
end

section
/-! PROOF. The idle step: one tick of the clock that counts, then the core's next item (R77, R82, R95, R277). -/

namespace Sys2Proof.Machine

/-- Log 3: a tick of a clock touches neither the entries nor the Quarry, the core or the queue. -/
theorem State.idleTick_keeps (s : State) : s.idleTick.regs = s.regs ∧ s.idleTick.quarry = s.quarry
    ∧ s.idleTick.mgmt = s.mgmt ∧ s.idleTick.pending = s.pending ∧ ∀ d, s.idleTick.on d = s.on d := by
  unfold State.idleTick
  split
  · exact ⟨rfl, rfl, rfl, rfl, fun _ => rfl⟩
  · exact ⟨rfl, rfl, rfl, rfl, fun _ => rfl⟩

/-- R82: a tick of the TIME clock adds Increment to display time, which has 96 bits. -/
theorem State.idleTick_timeRuns {s : State} (h : s.timeRuns = true) :
    s.idleTick.dispFine = (s.dispFine + s.rd .increment 0) % 2 ^ 96 ∧ s.idleTick.aon.ticks = s.aon.ticks := by
  have hlatch : s.aon.latch = none := by
    simp only [State.timeRuns, Bool.and_eq_true, Option.isNone_iff_eq_none] at h
    exact h.2
  simp [State.idleTick, h, State.timeTicks, State.dispFine, hlatch, BitVec.toNat_add]

/-- R95: while the TIME clock does not count, the slow clock does. -/
theorem State.idleTick_slow {s : State} (h : s.timeRuns = false) :
    s.idleTick.aon.ticks = s.aon.ticks + 1 ∧ s.idleTick.time = s.time := by
  simp [State.idleTick, h, State.slowTicks]

theorem step_idle {s : State} (h : s.pending = []) : step s = coreStep s.idleTick := by
  unfold step; rw [h]

/-- R77, R277: a core that is not ON, that a request holds or that nothing waits for does nothing. -/
theorem coreStep_rests {s : State}
    (h : s.on 9 = false ∨ s.mgmt.core.isSome = true ∨ (s.mgmt.inbox = [] ∧ s.freeSweep = none)) :
    coreStep s = .next s := by
  unfold coreStep
  obtain hoff | hcore | ⟨hinbox, hsweep⟩ := h
  · simp [hoff]
  · simp [Option.isNone_eq_false_iff.2 hcore]
  · simp [hinbox, hsweep]

/-- R77: a free core acts first on a SWEEP whose requests are complete. -/
theorem coreStep_sweep {s t : State} (hon : s.on 9 = true) (hcore : s.mgmt.core = none) (hsweep : s.freeSweep = some t) :
    coreStep s = .next t := by simp [coreStep, hon, hcore, hsweep]

/-- R277: a free core executes the oldest item that waits. -/
theorem coreStep_item {s : State} {m : Msg} {q : List Msg} (hon : s.on 9 = true) (hcore : s.mgmt.core = none)
    (hinbox : s.mgmt.inbox = m :: q) (hsweep : s.freeSweep = none) : coreStep s = coreItem m q s := by
  simp [coreStep, hon, hcore, hinbox, hsweep]

/-- Settles O49: the tick, then what the core does after it. -/
theorem anEmptyQueueTicks : Obligations.AnEmptyQueueTicks := by
  unfold Obligations.AnEmptyQueueTicks
  refine ⟨?rests, ?sweep, ?item⟩
  case rests =>
    intro s hempty hrests
    obtain ⟨hregs, hquarry, hmgmt, hpending, hon⟩ := s.idleTick_keeps
    have hstep : step s = .next s.idleTick := by
      rw [step_idle hempty, coreStep_rests (by rwa [hon, hmgmt])]
    exact ⟨_, hstep, hregs, hquarry, hpending.trans hempty, State.idleTick_timeRuns, State.idleTick_slow⟩
  case sweep =>
    intro s t hempty hon9 hcore hsweep
    obtain ⟨-, -, hmgmt, -, hon⟩ := s.idleTick_keeps
    rw [step_idle hempty, coreStep_sweep (by rwa [hon]) (by rwa [hmgmt]) hsweep]
  case item =>
    intro m q s hempty hon9 hcore hinbox hsweep
    obtain ⟨-, -, hmgmt, -, hon⟩ := s.idleTick_keeps
    rw [step_idle hempty, coreStep_item (by rwa [hon]) (by rwa [hmgmt]) (by rwa [hmgmt]) hsweep]

end Sys2Proof.Machine
end

section
/-! PROOF. A port that hears no HELLO: it offers no path, and its loss is told once (R65, R292, R293). -/

namespace Sys2Proof.Machine

/-! Events (R292, R293): an event that finds room is queued, and no change of path takes it from the queue. -/

theorem State.bbPut_mgmt (s : State) (kind : Nat) (r : EventRec) : (s.bbPut kind r).mgmt = s.mgmt := by
  obtain ⟨q, c, regs, revs, h, -⟩ := State.bbPut_form s kind r
  rw [h]

theorem State.queueEvent_events (s : State) (r : EventRec) : (s.queueEvent r).mgmt.events
    = if s.on 9 = true ∧ s.mgmt.events.length < 256 then s.mgmt.events ++ [r] else s.mgmt.events := by
  simp only [State.queueEvent, Bool.and_eq_true, decide_eq_true_eq]
  split
  · rfl
  · simp

theorem State.raise_events (s : State) (e : Event) (names : List Nat) : (s.raise e names).mgmt.events
    = if s.on 9 = true ∧ s.mgmt.events.length < 256 then s.mgmt.events ++ [s.record e names] else s.mgmt.events := by
  have hqueue := State.queueEvent_events (s.count .eventsRaised 0) (s.record e names)
  simp only [State.count_on, State.count_mgmt] at hqueue
  unfold State.raise
  dsimp only
  split
  · rw [State.bbPut_mgmt, hqueue]
  · exact hqueue

/-- From `s` to `t` the event queue loses nothing. -/
structure EventsGrow (s t : State) : Prop where
  events : s.mgmt.events ⊆ t.mgmt.events

section
variable {s t u : State}

theorem EventsGrow.refl (s : State) : EventsGrow s s := ⟨List.Subset.refl _⟩

theorem EventsGrow.trans (h : EventsGrow s t) (g : EventsGrow t u) : EventsGrow s u := ⟨List.Subset.trans h.events g.events⟩

theorem EventsGrow.ite {c : Prop} [Decidable c] (h : EventsGrow s t) (g : EventsGrow s u) :
    EventsGrow s (if c then t else u) := by
  split
  · exact h
  · exact g

/-- What does not touch the management core keeps its event queue. -/
theorem EventsGrow.quiet (h : t.mgmt = s.mgmt := by simp) : EventsGrow s t := ⟨by rw [h]; exact List.Subset.refl _⟩

theorem EventsGrow.forEach {α : Type} {f : State → α → State} (hf : ∀ s a, EventsGrow s (f s a)) (l : List α) (s : State) :
    EventsGrow s (s.forEach l f) := by
  induction l generalizing s with
  | nil => exact .refl s
  | cons a l ih => exact (hf s a).trans (ih (f s a))

theorem EventsGrow.raise (s : State) (e : Event) (names : List Nat) : EventsGrow s (s.raise e names) := by
  refine ⟨?_⟩
  rw [State.raise_events]
  split
  · exact List.subset_append_left _ _
  · exact List.Subset.refl _

theorem EventsGrow.sendLocal (s : State) (n cls chan : Nat) (b : Bytes) (front : Bool) :
    EventsGrow s (s.sendLocal n cls chan b front) := .quiet (by simp [State.sendLocal, State.useSeq])

theorem EventsGrow.helloAll (s : State) : EventsGrow s s.helloAll :=
  .forEach (fun s _ => .ite (.sendLocal s ..) (.refl s)) _ s

theorem EventsGrow.announce (s : State) : EventsGrow s s.announce := by
  unfold State.announce
  exact .ite (.refl s) (.quiet (by simp [State.useSeq]))

theorem EventsGrow.toHoldover (s : State) : EventsGrow s s.toHoldover := by
  unfold State.toHoldover
  exact .ite (.trans (.quiet (by simp)) (.raise ..)) (.refl s)

theorem EventsGrow.setUpstream (s : State) (up : Option Nat) : EventsGrow s (s.setUpstream up) := by
  unfold State.setUpstream
  extract_lets from_ oldDist dist root s1 s2 s3 s4 s5 s6 s7
  have h2 : EventsGrow s s2 := .trans (.quiet (by simp [s1])) (.forEach (fun _ _ => .quiet) _ s1)
  have h3 : EventsGrow s s3 := .trans (h2.trans .quiet) (.raise ..)
  have h4 : EventsGrow s s4 := by
    refine h3.trans ?_
    cases up with
    | none => exact .refl s3
    | some n => exact .quiet (by simp [s4, State.clearLearned])
  have h5 : EventsGrow s s5 := .ite h2 ((h4.trans (.quiet (by simp [State.newPath]))).trans (.toHoldover _))
  have h6 : EventsGrow s s6 := .ite ((h5.trans (.raise ..)).trans (.toHoldover _)) h5
  have h7 : EventsGrow s s7 := .ite (h6.trans (.helloAll _)) h6
  exact .ite h7 (h7.trans (.announce _))

/-- R67: what a new choice of the upstream tells of comes after what was told before. -/
theorem EventsGrow.reselect (s : State) (moved : Option Nat) : EventsGrow s (s.reselect moved) := by
  unfold State.reselect
  refine .ite (.setUpstream ..) ?_
  split
  · exact .ite (.setUpstream ..) (.setUpstream ..)
  · exact .setUpstream ..

end

/-! A port without HELLO (R65, R66). -/

/-- R66: a port whose last HELLO is lost offers no path. -/
theorem State.offers_unheard {s : State} {n : Nat} (h : (s.port n).heard = false) : s.offers n = false := by
  unfold State.offers
  split
  · simp [h]
  · rfl

/-- R66: a port that had no HELLO offers no path. -/
theorem State.offers_none {s : State} {n : Nat} (h : (s.port n).hello = none) : s.offers n = false := by
  unfold State.offers
  rw [h]

/-- R65: the port as it waits for its next HELLO. -/
def State.unheard (s : State) (n : Nat) : State :=
  s.setPort n { s.port n with heard := false, nbr := none, better := 0 }

/-- R65: a loss that was told of is not told of again. -/
theorem helloTimeoutEff_unheard {n : Nat} {s : State} (h : (s.port n).heard = false) : helloTimeoutEff n s = s := by
  simp [helloTimeoutEff, h]

section
variable {n : Nat} {s : State} (halive : s.alive 4 = true) (hactive : s.active n = true)
    (hheard : (s.port n).heard = true) (hdue : ((s.port n).hello.map Hello.since).getD 0 + ms 3 ≤ s.aon.mono)
include halive hactive hheard hdue

/-- R65: 3 ms after its last HELLO a port waits for the next one; the loss is told, and the upstream chosen again. -/
theorem helloTimeoutEff_due : helloTimeoutEff n s = ((s.unheard n).raise .netHelloTimeout [n]).reselect none := by
  simp only [helloTimeoutEff, halive, hactive, hheard, State.untilMono_due s _ hdue, Bool.and_self, if_true, State.unheard]

theorem helloTimeoutEff_keeps : NetKeep (s.unheard n) (helloTimeoutEff n s) := by
  rw [helloTimeoutEff_due halive hactive hheard hdue]
  exact (NetKeep.raise ..).trans (NetKeep.reselect ..)

theorem helloTimeoutEff_heard : ((helloTimeoutEff n s).port n).heard = false := by
  rw [Port.heard_of_hull ((helloTimeoutEff_keeps halive hactive hheard hdue).port n)]
  simp [State.unheard]

/-- R292, R293: an event queue with room takes the loss. -/
theorem helloTimeoutEff_told (hon : s.on 9 = true) (hroom : s.mgmt.events.length < 256) :
    s.record .netHelloTimeout [n] ∈ (helloTimeoutEff n s).mgmt.events := by
  rw [helloTimeoutEff_due halive hactive hheard hdue]
  refine (EventsGrow.reselect ((s.unheard n).raise .netHelloTimeout [n]) none).events ?_
  rw [State.raise_events, if_pos ⟨hon, hroom⟩]
  exact List.mem_append_right _ (List.mem_singleton.2 rfl)

end

/-- Settles O53: the loss is told, and what it leaves in the port keeps it from being told again. -/
theorem helloLossIsToldOnce : Obligations.HelloLossIsToldOnce := by
  unfold Obligations.HelloLossIsToldOnce
  refine ⟨?once, ?offers⟩
  case once =>
    intro n s halive hactive hheard hdue hon hroom
    have hlost := helloTimeoutEff_heard halive hactive hheard hdue
    have hstate : (helloTimeoutEff n s).rd .portState n = 5 :=
      ((helloTimeoutEff_keeps halive hactive hheard hdue).rd .portState n rfl).trans (of_decide_eq_true hactive)
    exact ⟨_, rfl, State.offers_unheard hlost, hstate, helloTimeoutEff_told halive hactive hheard hdue hon hroom,
      congrArg Host.Outcome.next (helloTimeoutEff_unheard hlost)⟩
  case offers =>
    intro n s h
    obtain hnone | hunheard := h
    · exact State.offers_none hnone
    · exact State.offers_unheard hunheard

end Sys2Proof.Machine
end

section
/-! PROOF. HELLO goes out and comes in; addresses are assigned, relayed and given back (R64 to R66, R69, R70). -/

namespace Sys2Proof.Machine

/-! A link-local packet of the device's own (R58, R72). -/

/-- R58: the link-local packet that the device sends next on port n. -/
def State.localPacket (s : State) (n cls chan : Nat) (payload : Bytes) : Packet :=
  { cls := cls, mode := .linkLocal, hop := Config.originHop.toNat, dest := 0, source := s.rd .deviceAddress 0
    channel := chan, seq := s.nextSeq n chan, payload := payload }

/-- R72: a packet for another port leaves a port as it was. -/
theorem State.enqueue_port_ne (s : State) {m n : Nat} (h : m ≠ n) (p : Packet) (front : Bool) :
    (s.enqueue m p front).port n = s.port n := by
  unfold State.enqueue
  dsimp only
  split
  · rw [State.setPort_port, if_neg h]
  · exact State.dropPacket_port ..

theorem State.sendLocal_port_ne (s : State) {m n : Nat} (h : m ≠ n) (cls chan : Nat) (payload : Bytes) (front : Bool) :
    (s.sendLocal m cls chan payload front).port n = s.port n := by
  rw [State.sendLocal, State.enqueue_port_ne _ h, State.useSeq, State.setPort_port, if_neg h]

/-- R71, R72: no entry but the counters of dropped packets shows that a packet was sent. -/
theorem State.sendLocal_rd (s : State) (n cls chan : Nat) (payload : Bytes) (front : Bool) {x : Ent} (i : Nat)
    (hx : x.dropCounter = false) : (s.sendLocal n cls chan payload front).rd x i = s.rd x i := by
  rw [State.sendLocal, State.enqueue_rd _ _ _ _ _ _ hx]
  rfl

theorem State.sendLocal_aon (s : State) (n cls chan : Nat) (payload : Bytes) (front : Bool) :
    (s.sendLocal n cls chan payload front).aon = s.aon := State.enqueue_aon ..

/-- R64, R72: an ACTIVE port with room takes a packet, ahead of the others where it is a HELLO. -/
theorem State.enqueue_joins {s : State} {n : Nat} {p : Packet} (front : Bool) (hactive : s.active n = true)
    (hroom : queueRoom (s.port n).queue p = true) : s.enqueue n p front
      = s.setPort n { s.port n with queue := if front then p :: (s.port n).queue else (s.port n).queue ++ [p] } := by
  simp [State.enqueue, hactive, hroom]

theorem State.sendLocal_room {s : State} {n cls chan : Nat} {payload : Bytes} (front : Bool) (hactive : s.active n = true)
    (hroom : queueRoom (s.port n).queue (s.localPacket n cls chan payload) = true) :
    ((s.sendLocal n cls chan payload front).port n).queue
        = (if front then s.localPacket n cls chan payload :: (s.port n).queue
          else (s.port n).queue ++ [s.localPacket n cls chan payload])
      ∧ (s.sendLocal n cls chan payload front).regs = s.regs := by
  have hqueue : ((s.useSeq n chan).port n).queue = (s.port n).queue := by simp [State.useSeq]
  have hsend : s.sendLocal n cls chan payload front
      = (s.useSeq n chan).enqueue n (s.localPacket n cls chan payload) front := rfl
  rw [hsend, State.enqueue_joins (s := s.useSeq n chan) front hactive (by rwa [hqueue]), State.setPort_port, if_pos rfl, hqueue]
  exact ⟨rfl, rfl⟩

/-! HELLO goes out (R64). -/

/-- R64: a port on which a HELLO is due sends one. -/
def State.helloIfDue (s : State) (n : Nat) : State :=
  if (s.port n).helloAt + ms 1 ≤ s.aon.mono then
    let k := (s.aon.mono - (s.port n).helloAt) / ms 1
    (s.setPort n { s.port n with helloAt := (s.port n).helloAt + k * ms 1 }).sendLocal n 1 0xFF01 (s.helloPayload n) true
  else s

/-- R64: the HELLO that port n sends next. -/
def State.helloPacket (s : State) (n : Nat) : Packet := s.localPacket n 1 0xFF01 (s.helloPayload n)

/-- From `s` to `t` nothing changes that a HELLO of port n depends on. -/
structure HelloKeep (n : Nat) (s t : State) : Prop where
  rd : ∀ x i, x.dropCounter = false → t.rd x i = s.rd x i
  port : t.port n = s.port n
  aon : t.aon = s.aon

section
variable {n : Nat} {s t u : State}

theorem HelloKeep.refl (s : State) : HelloKeep n s s := ⟨fun _ _ _ => rfl, rfl, rfl⟩

theorem HelloKeep.trans (h : HelloKeep n s t) (g : HelloKeep n t u) : HelloKeep n s u :=
  ⟨fun x i hx => (g.rd x i hx).trans (h.rd x i hx), g.port.trans h.port, g.aon.trans h.aon⟩

theorem HelloKeep.active (h : HelloKeep n s t) (m : Nat) : t.active m = s.active m := by
  unfold State.active
  rw [h.rd .portState m rfl]

theorem HelloKeep.helloPacket (h : HelloKeep n s t) : t.helloPacket n = s.helloPacket n := by
  unfold State.helloPacket State.localPacket State.helloPayload State.nextSeq State.upstream
  rw [h.port, h.rd .deviceAddress 0 rfl, h.rd .rootDistance 0 rfl, h.rd .upstreamPort 0 rfl, h.rd .rootAddress 0 rfl]

/-- R64: a HELLO on one port leaves that of another as it would be. -/
theorem HelloKeep.helloIfDue (s : State) {m n : Nat} (h : m ≠ n) : HelloKeep n s (s.helloIfDue m) := by
  unfold State.helloIfDue
  dsimp only
  split
  · refine ⟨fun x i hx => ?_, ?_, ?_⟩
    · rw [State.sendLocal_rd _ _ _ _ _ _ _ hx, State.setPort_rd]
    · rw [State.sendLocal_port_ne _ h, State.setPort_port, if_neg h]
    · rw [State.sendLocal_aon, State.setPort_aon]
  · exact .refl s

theorem HelloKeep.forEach {l : List Nat} (hn : n ∉ l) (s : State) : HelloKeep n s (s.forEach l State.helloIfDue) := by
  induction l generalizing s with
  | nil => exact .refl s
  | cons m l ih =>
    have hne : m ≠ n := (List.ne_of_not_mem_cons hn).symm
    exact (HelloKeep.helloIfDue s hne).trans (ih (List.not_mem_of_not_mem_cons hn) _)

theorem State.helloIfDue_queue (hactive : s.active n = true) (hdue : (s.port n).helloAt + ms 1 ≤ s.aon.mono)
    (hroom : queueRoom (s.port n).queue (s.helloPacket n) = true) :
    ((s.helloIfDue n).port n).queue = s.helloPacket n :: (s.port n).queue := by
  unfold State.helloIfDue
  rw [if_pos hdue]
  extract_lets k
  generalize hv : s.setPort n { s.port n with helloAt := (s.port n).helloAt + k * ms 1 } = v
  have hqueue : (v.port n).queue = (s.port n).queue := by simp [← hv]
  have hpacket : v.localPacket n 1 0xFF01 (s.helloPayload n) = s.helloPacket n := by
    simp [← hv, State.helloPacket, State.localPacket, State.nextSeq]
  have hsend := (State.sendLocal_room (s := v) (payload := s.helloPayload n) true (by simpa [← hv] using hactive)
    (by rwa [hqueue, hpacket])).1
  rwa [hqueue, hpacket, if_pos rfl] at hsend

/-- R64: each port of a list without repeats sends its own HELLO. -/
theorem State.forEach_helloIfDue_queue {l : List Nat} (hnodup : l.Nodup) (hn : n ∈ l) (hactive : s.active n = true)
    (hdue : (s.port n).helloAt + ms 1 ≤ s.aon.mono) (hroom : queueRoom (s.port n).queue (s.helloPacket n) = true) :
    ((s.forEach l State.helloIfDue).port n).queue = s.helloPacket n :: (s.port n).queue := by
  induction l generalizing s with
  | nil => cases hn
  | cons m l ih =>
    obtain ⟨hm, hl⟩ := List.nodup_cons.1 hnodup
    show (((s.helloIfDue m).forEach l State.helloIfDue).port n).queue = _
    by_cases hmn : m = n
    · subst hmn
      rw [(HelloKeep.forEach hm (s.helloIfDue m)).port, State.helloIfDue_queue hactive hdue hroom]
    · have hkeep := HelloKeep.helloIfDue s hmn
      have hin : n ∈ l := (List.mem_cons.1 hn).resolve_left (Ne.symm hmn)
      rw [ih hl hin (by rwa [hkeep.active]) (by rwa [hkeep.port, hkeep.aon]) (by rwa [hkeep.port, hkeep.helloPacket]),
        hkeep.port, hkeep.helloPacket]

end

/-- R64: when every HELLO is due no time passes, and each ACTIVE port sends its own. -/
theorem helloTimerEff_due {s : State} (halive : s.alive 4 = true)
    (hdue : ∀ n : Fin 4, s.active n = true → (s.port n).helloAt + ms 1 ≤ s.aon.mono) :
    helloTimerEff s = s.forEach (ports4.filter s.active) State.helloIfDue := by
  have hports : ∀ m ∈ ports4.filter s.active, (s.port m).helloAt + ms 1 ≤ s.aon.mono := by
    intro m hm
    obtain ⟨hm4, hactive⟩ := List.mem_filter.1 hm
    have hlt : m < 4 := by simp only [ports4, List.mem_cons, List.not_mem_nil, or_false] at hm4; omega
    exact hdue ⟨m, hlt⟩ hactive
  unfold helloTimerEff
  rw [if_neg (by simp [halive])]
  split
  · rename_i hnone
    have hempty : ports4.filter s.active = [] := by simpa using hnone
    rw [hempty]
    rfl
  · rename_i due hmin
    obtain ⟨m, hm, rfl⟩ := List.mem_map.1 (List.min?_mem hmin)
    rw [State.untilMono_due s _ (hports m hm)]
    rfl

/-! HELLO comes in (R66). -/

/-- R66: a HELLO received becomes its port's path offer, and what follows it keeps the offer and the device's address. -/
theorem helloReceivedEff_offer {n : Nat} {b : Bytes} {s : State} (halive : s.alive 4 = true) (hactive : s.active n = true)
    (hlen : b.length = 8) :
    ((helloReceivedEff n b s).port n).hello = some (helloOf b s.aon.mono)
      ∧ ((helloReceivedEff n b s).port n).heard = true
      ∧ (helloReceivedEff n b s).rd .deviceAddress 0 = s.rd .deviceAddress 0 := by
  unfold helloReceivedEff
  rw [if_neg (by simp [halive, hactive]), if_neg (by simp [hlen])]
  extract_lets h p own up change s1 lower better src s2 s3 s4
  have h3 : NetKeep s2 s3 := by
    simp only [s3]
    split
    · exact NetKeep.raise ..
    · exact NetKeep.refl s2
  have h4 : NetKeep s2 s4 := (h3.trans (NetKeep.setChildren s3)).trans (NetKeep.reselect ..)
  have hend : NetKeep s2 (if change && s4.upstream = up then s4.announce else s4) := by
    split
    · exact h4.trans (NetKeep.announce s4)
    · exact h4
  rw [Port.hello_of_hull (hend.port n), Port.heard_of_hull (hend.port n), hend.rd .deviceAddress 0 rfl]
  simp [s2, src, s1, h]

/-! ASSIGN (R69, R70). -/

/-- R69: an ASSIGN to a device without an address sets it and its assigner; what follows writes neither. -/
theorem assignReceivedEff_accepted {n : Nat} {b : Bytes} {s : State} (halive : s.alive 4 = true)
    (hactive : s.active n = true) (hlen : b.length = 4) (haddr : field b 0 2 < 0x1000)
    (hown : s.rd .deviceAddress 0 = 0xFFFF) :
    NetKeep ((s.wr .deviceAddress 0 (field b 0 2)).wr .assigner 0 (field b 2 2)) (assignReceivedEff n b s) := by
  unfold assignReceivedEff
  rw [if_neg (by simp [halive, hactive]), if_neg (by simp [hlen])]
  extract_lets a own up dist s1 s2 s3
  have h2 : NetKeep ((s.wr .deviceAddress 0 a).wr .assigner 0 (field b 2 2)) s2 :=
    (NetKeep.reselect ..).trans (NetKeep.raise ..)
  have h3 : NetKeep ((s.wr .deviceAddress 0 a).wr .assigner 0 (field b 2 2)) s3 := by
    simp only [s3]
    split
    · exact h2.trans (NetKeep.helloAll s2)
    · exact h2
  rw [if_pos ⟨haddr, hown⟩]
  split
  · exact h3.trans (NetKeep.announce s3)
  · exact h3

/-- R69: an ASSIGN of another address is refused and told. -/
theorem assignReceivedEff_refused {n : Nat} {b : Bytes} {s : State} (halive : s.alive 4 = true)
    (hactive : s.active n = true) (hlen : b.length = 4) (hown : s.rd .deviceAddress 0 ≠ 0xFFFF)
    (hother : field b 0 2 ≠ s.rd .deviceAddress 0) :
    assignReceivedEff n b s = (s.count .assignRefusals 0).raise .netAssignRefused [n] := by
  simp [assignReceivedEff, halive, hactive, hlen, hown, hother]

/-! Unassign (R69). -/

/-- What the loss of the path may change beside the path itself. -/
def lostPathEnts : List Ent := eventEnts ++ replyEnts ++ [.lockLosses, .meanPathDelay, .timeState, .upstreamChanges]

/-- R66: a device without an upstream shows the distance 255, and its routes stay. -/
theorem State.setUpstream_none (s : State) : (s.setUpstream none).rd .rootDistance 0 = 255
    ∧ (s.setUpstream none).rdv .routeTable 0 = s.rdv .routeTable 0 := by
  unfold State.setUpstream
  extract_lets from_ oldDist dist root s1 s2 s3 s4 s5 s6 s7
  have h5 : FrameBy lostPathEnts 0 false false s2 s5 :=
    .ite (.refl s2) (.then (.then (.then (.mono (.count ..)) (.raise ..)) (.newPath ..)) (.toHoldover ..))
  have h6 : FrameBy lostPathEnts 0 false false s2 s6 := .ite (.then (.then h5 (.raise ..)) (.toHoldover ..)) h5
  have h7 : FrameBy lostPathEnts 0 false false s2 s7 := .ite (h6.then (.helloAll ..)) h6
  have hend : FrameBy lostPathEnts 0 false false s2 (if from_ = none then s7 else s7.announce) :=
    .ite h7 (h7.then (.announce ..))
  have hdist := hend.rdv .rootDistance 0 (by decide)
  have hroutes := hend.rdv .routeTable 0 (by decide)
  refine ⟨?_, hroutes.trans (by simp [s2, s1])⟩
  rw [State.rd, hdist]
  simp [s2, s1, dist]

/-- R69: a device that gives its address back forgets its routes and its path, and no reply. -/
theorem State.unassign_shows (s : State) : s.unassign.rd .deviceAddress 0 = 0xFFFF
    ∧ s.unassign.rdv .routeTable 0 = List.replicate 4096 7 ∧ s.unassign.rd .rootDistance 0 = 255
    ∧ s.unassign.rd .assigner 0 = s.rd .assigner 0 ∧ s.unassign.mgmt.rep = s.mgmt.rep := by
  unfold State.unassign
  extract_lets dist up s1
  have hpath : s1 = ((s.wr .deviceAddress 0 0xFFFF).toDefault .routeTable 0).setUpstream none := by
    simp [s1, State.reselect]
  obtain ⟨hdist, hroutes⟩ := State.setUpstream_none ((s.wr .deviceAddress 0 0xFFFF).toDefault .routeTable 0)
  rw [← hpath] at hdist hroutes
  have hkeep : NetKeep ((s.wr .deviceAddress 0 0xFFFF).toDefault .routeTable 0) s1 := hpath ▸ NetKeep.setUpstream _ none
  have hend : NetKeep s1 (if s1.upstream = up ∧ s1.rd .rootDistance 0 = dist then s1.helloAll else s1) := by
    split
    · exact NetKeep.helloAll s1
    · exact NetKeep.refl s1
  have hframe : FrameBy sendEnts 0 false false s1
      (if s1.upstream = up ∧ s1.rd .rootDistance 0 = dist then s1.helloAll else s1) := .ite (.helloAll s1) (.refl s1)
  have hall := hkeep.trans hend
  refine ⟨?_, ?_, ?_, ?_, ?_⟩
  · rw [hall.rd .deviceAddress 0 rfl]; simp
  · rw [hframe.rdv .routeTable 0 (by decide), hroutes, State.toDefault_rdv, if_pos ⟨rfl, rfl⟩]
    unfold Ent.dflt
    rfl
  · rw [State.rd, hframe.rdv .rootDistance 0 (by decide)]; exact hdist
  · rw [hall.rd .assigner 0 rfl]; simp
  · rw [hall.mgmt]; simp

/-- R69: a write of Unassign that may run is answered, and takes effect after its reply. -/
theorem exec_unassign {e : Env} {s : State} (h : s.mayWrite e .unassign 0 [1]) : ∃ u : State,
    exec (.unassign e [1]) s = .next u.unassign ∧ u.rd .assigner 0 = s.rd .assigner 0 ∧ u.answered e .ok := by
  have hdecode : Ent.unassign.info.decode [1] = [1] := by unfold Ent.info; decide
  have hrange : rangeOk .unassign [1] = true := by unfold rangeOk Ent.info; decide
  have heff : unassignEff [1] (s.claimSpi e)
      = ({ s.claimSpi e with mgmt := { (s.claimSpi e).mgmt with unassignDue := true } }, ans .ok) := by
    simp [unassignEff, hrange]
  have hwrite := State.writeCmd_run h unassignEff
  rw [hdecode, heff] at hwrite
  generalize hdue : { s.claimSpi e with mgmt := { (s.claimSpi e).mgmt with unassignDue := true } } = v at hwrite
  have hv : v.mgmt.unassignDue = true ∧ v.rd .assigner 0 = s.rd .assigner 0 := by simp [← hdue]
  refine ⟨{ v.finish (writeReq e .unassign 0 [1]) (ans .ok) false with
    mgmt := { (v.finish (writeReq e .unassign 0 [1]) (ans .ok) false).mgmt with unassignDue := false } }, ?_, ?_, ?_⟩
  · show Host.Outcome.next (s.writeCmd e .unassign 0 [1] unassignEff).unassignIfDue = _
    rw [hwrite, State.unassignIfDue, if_pos (by simpa using hv.1)]
  · exact (State.finish_rd v _ _ _ .assigner 0 rfl).trans hv.2
  · exact State.finish_answered v (writeReq e .unassign 0 [1]) .ok false

/-! RELAY_ASSIGN (R70). -/

/-- R70: a RELAY_ASSIGN of a host to a device with an address goes to its port, or is counted. -/
theorem relayAssignReceivedEff_host {src : Nat} {b : Bytes} {s : State} (halive : s.alive 4 = true)
    (hown : s.rd .deviceAddress 0 ≠ 0xFFFF) (hlo : 0xE000 ≤ src) (hhi : src ≤ 0xEFFF) (hlen : b.length = 4) :
    relayAssignReceivedEff src b s = if s.active (field b 0 1 % 4) then
      s.sendLocal (field b 0 1 % 4) 1 0xFF02 (leBytes 2 (field b 2 2) ++ leBytes 2 src) false
      else s.count .noRouteDrops 0 := by
  simp [relayAssignReceivedEff, halive, hown, hlo, hhi, hlen]

/-- Settles O5: each command by the lemma about its effect. -/
theorem pathsAndAddresses : Obligations.PathsAndAddresses := by
  unfold Obligations.PathsAndAddresses
  refine ⟨⟨?timer, ?hello, ?timeout⟩, ?assign, ?refused, ?unassign, ?dropped, ?relay⟩
  case timer =>
    intro s halive hdue
    refine ⟨_, rfl, ?_⟩
    rintro n p hactive rfl hroom
    have hin : n.val ∈ ports4.filter s.active := List.mem_filter.2 ⟨by simp [ports4]; omega, hactive⟩
    rw [helloTimerEff_due halive hdue]
    exact State.forEach_helloIfDue_queue (List.Nodup.filter _ (by decide)) hin hactive (hdue n hactive) hroom
  case hello =>
    intro n b s halive hactive hlen
    exact ⟨_, rfl, helloReceivedEff_offer halive hactive hlen⟩
  case timeout =>
    intro n s halive hactive hheard hdue
    have hlost := helloTimeoutEff_heard halive hactive hheard hdue
    exact ⟨_, rfl, hlost, State.offers_unheard hlost⟩
  case assign =>
    intro n b s halive hactive hlen haddr hown
    have hkeep := assignReceivedEff_accepted halive hactive hlen haddr hown
    refine ⟨_, rfl, ?_⟩
    rw [hkeep.rd .deviceAddress 0 rfl, hkeep.rd .assigner 0 rfl, hkeep.rd .assignRefusals 0 rfl]
    simp
  case refused =>
    intro n b s halive hactive hlen hown hother
    refine ⟨_, rfl, ?_⟩
    rw [assignReceivedEff_refused halive hactive hlen hown hother]
    simp
  case unassign =>
    intro e s hwrite
    obtain ⟨u, hexec, hassigner, hanswered⟩ := exec_unassign hwrite
    obtain ⟨hdev, hroutes, hdist, hsame, hrep⟩ := u.unassign_shows
    refine ⟨_, hexec, hdev, hroutes, hdist, hsame.trans hassigner, ?_⟩
    unfold State.answered at hanswered ⊢
    rwa [hrep]
  case dropped =>
    intro src b s halive hown hlo hhi hlen hdown
    refine ⟨_, rfl, ?_⟩
    rw [relayAssignReceivedEff_host halive hown hlo hhi hlen, hdown]
    simp
  case relay =>
    rintro src b s p halive hown hlo hhi hlen hactive rfl hroom
    refine ⟨_, rfl, ?_⟩
    rw [relayAssignReceivedEff_host halive hown hlo hhi hlen, if_pos hactive]
    exact State.sendLocal_room false hactive hroom

end Sys2Proof.Machine
end

section
/-! PROOF. A SWEEP that repeats a running one is discarded, whatever holds the core (R77). -/

namespace Sys2Proof.Machine

/-- R77: a SWEEP with the tag of one that has begun does not wait. -/
theorem sweepReceivedEff_repeated {n : Nat} {b : Bytes} {s : State} (htag : sweepTag b ∈ s.sweepTags) :
    (sweepReceivedEff n b s).mgmt.inbox = s.mgmt.inbox := by
  unfold sweepReceivedEff
  extract_lets ret m s1
  have hrepeated : s1.sweepTags.contains (sweepTag b) = true := List.contains_iff_mem.2 htag
  rw [if_pos hrepeated]
  split
  · rfl
  · split
    · simp
    · rfl

/-- R77: a device whose port 1 leads upstream, with a sweep of tag (0, 0) running and a request that holds the core. -/
def sweepingState : State :=
  (({ power := { doms := [(4, { st := .on })] }, sweeps := [{}], mgmt := { core := some spiEnv } } : State).wr
    .portState 1 5).wr .upstreamPort 0 1

theorem sweepingState_shows : sweepingState.alive 4 = true ∧ sweepingState.active 1 = true
    ∧ sweepingState.upstream = some 1 ∧ sweepingState.coreFree = false ∧ sweepingState.mgmt.inbox = []
    ∧ (0, 0) ∈ sweepingState.sweepTags := by
  simp [sweepingState, State.alive, State.domain, State.active, State.upstream, State.coreFree, State.sweepTags, SMap.get]

/-- Refutes O6: while a request holds the core, the third clause lets every SWEEP wait in the inbox; one that repeats the
tag of a running sweep is discarded there as elsewhere (R77). -/
theorem not_sweepsGatherMaps : ¬ Obligations.SweepsGatherMaps := by
  unfold Obligations.SweepsGatherMaps
  rintro ⟨-, -, hwaits, -⟩
  obtain ⟨halive, hactive, hup, hcore, hinbox, htag⟩ := sweepingState_shows
  obtain ⟨t, hexec, -, -, hlast⟩ := hwaits 1 (List.replicate 1560 0) sweepingState halive hactive hup
    List.length_replicate hcore
  have hzero : sweepTag (List.replicate 1560 0) = (0, 0) := rfl
  have hkept : (sweepReceivedEff 1 (List.replicate 1560 0) sweepingState).mgmt.inbox = [] :=
    (sweepReceivedEff_repeated (hzero ▸ htag)).trans hinbox
  have ht : sweepReceivedEff 1 (List.replicate 1560 0) sweepingState = t := Host.Outcome.next.inj hexec
  rw [← ht, hkept, hinbox] at hlast
  cases hlast

end Sys2Proof.Machine
end

section
/-! PROOF. Bulk packets are stored and acknowledged, or discarded; outgoing ones follow their credit (R74, R306). -/

namespace Sys2Proof.Machine

/-! The accesses of a command to the Quarry (R151, R159, R160). -/

theorem State.forEach_countBy_form (x : Ent) (f : Nat → Nat) (l : List Nat) (s : State) :
    ∃ regs revs, s.forEach l (fun s q => s.countBy x q (f q)) = { s with regs := regs, revs := revs } := by
  induction l generalizing s with
  | nil => exact ⟨s.regs, s.revs, rfl⟩
  | cons q l ih =>
    obtain ⟨regs, revs, h⟩ := ih (s.countBy x q (f q))
    refine ⟨regs, revs, h.trans ?_⟩
    rw [State.countBy, State.wr, State.wrv_form]

/-- R159, R160: the count of stalls touches nothing but entries. -/
theorem State.stalled_form (s : State) :
    ∃ regs revs, s.stalled = { s with draws := s.draws + 1, regs := regs, revs := revs } := by
  unfold State.stalled
  extract_lets k s1
  obtain ⟨regs, revs, h⟩ := State.forEach_countBy_form .bankConflictStalls (fun q => (Config.bankStalls k q).toNat)
    ([0, 1, 2, 3].filter (fun q => s1.alive (20 + q))) s1
  rw [h, State.countBy, State.wr, State.wrv_form]
  exact ⟨_, _, rfl⟩

theorem State.stalled_keeps (s : State) : s.stalled.ports = s.ports ∧ s.stalled.xfers = s.xfers
    ∧ s.stalled.quarry = s.quarry := by
  obtain ⟨regs, revs, h⟩ := s.stalled_form
  rw [h]
  exact ⟨rfl, rfl, rfl⟩

@[simp] theorem State.stalled_port (s : State) (n : Nat) : s.stalled.port n = s.port n := by
  unfold State.port; rw [s.stalled_keeps.1]

@[simp] theorem State.stalled_xfer (s : State) (t : Nat) : s.stalled.xfer t = s.xfer t := by
  unfold State.xfer; rw [s.stalled_keeps.2.1]

@[simp] theorem State.stalled_quarry (s : State) : s.stalled.quarry = s.quarry := s.stalled_keeps.2.2

theorem State.stalled_rdv (s : State) {x : Ent} (i : Nat) (hb : x ≠ .bankConflictStalls) (hw : x ≠ .sameWordConflicts) :
    s.stalled.rdv x i = s.rdv x i :=
  (FrameBy.stalled (n := 0) (q := false) (m := false) s).rdv x i (by simp [changes, hb, hw])

@[simp] theorem State.stalled_rd (s : State) {x : Ent} (i : Nat) (hb : x ≠ .bankConflictStalls)
    (hw : x ≠ .sameWordConflicts) : s.stalled.rd x i = s.rd x i := by
  unfold State.rd; rw [s.stalled_rdv i hb hw]

/-- R151: bytes written into a buffer change the Quarry alone. -/
theorem State.bufWrite_form (b : Bytes) (h o : Nat) (s : State) : ∃ y, s.bufWrite h o b = { s with quarry := y } := by
  induction b generalizing s o with
  | nil => exact ⟨s.quarry, rfl⟩
  | cons x b ih =>
    obtain ⟨y, hy⟩ := ih (o + 1) { s with quarry := SMap.set s.quarry 0 (s.bufAddr h o) x }
    exact ⟨y, hy⟩

/-- R151: the place of a buffer's bytes rests on its pages and the placement of the frame store. -/
theorem State.bufAddr_congr {s u : State} (hbufs : u.bufs = s.bufs)
    (hplace : u.rd .frameStorePlace 0 = s.rd .frameStorePlace 0) (h o : Nat) : u.bufAddr h o = s.bufAddr h o := by
  have hplaces : placeEnt 5 = .frameStorePlace := rfl
  simp only [State.bufAddr, State.pageAddr, State.pageBank, State.storeBase, State.storeBanks, State.buf, hplaces, hbufs,
    hplace]

theorem State.bufWrite_congr {s u : State} (hbufs : u.bufs = s.bufs)
    (hplace : u.rd .frameStorePlace 0 = s.rd .frameStorePlace 0) (hquarry : u.quarry = s.quarry) (b : Bytes) (h o : Nat) :
    (u.bufWrite h o b).quarry = (s.bufWrite h o b).quarry := by
  induction b generalizing s u o with
  | nil => exact hquarry
  | cons x b ih =>
    have hbyte : SMap.set u.quarry 0 (u.bufAddr h o) x = SMap.set s.quarry 0 (s.bufAddr h o) x := by
      rw [hquarry, State.bufAddr_congr hbufs hplace]
    exact ih (s := { s with quarry := SMap.set s.quarry 0 (s.bufAddr h o) x })
      (u := { u with quarry := SMap.set u.quarry 0 (u.bufAddr h o) x }) hbufs hplace hbyte (o + 1)

/-! The end of a transfer (R308). -/

/-- R314: the jobs given up leave the write path, and a line in progress is written. -/
theorem State.dropOps_form (s : State) (p : NvmOp → Bool) : ∃ m, s.dropOps p
    = { s with secure := { s.secure with ops := s.secure.ops.filter (fun o => !p o), mram := m } } := by
  have hlines : ∀ (gone : List NvmOp) (u : State), ∃ m, gone.foldl (fun s o =>
      match o.started, o.lines with | true, l :: _ => s.mramWrite l.addr l.data | _, _ => s) u
        = { u with secure := { u.secure with mram := m } } := by
    intro gone
    induction gone with
    | nil => exact fun u => ⟨u.secure.mram, rfl⟩
    | cons o gone ih =>
      intro u
      rw [List.foldl_cons]
      split
      · obtain ⟨m, hm⟩ := ih (u.mramWrite _ _)
        exact ⟨m, hm⟩
      · exact ih u
  obtain ⟨m, hm⟩ := hlines (s.secure.ops.filter p) (s.setOps (s.secure.ops.filter (fun o => !p o)))
  exact ⟨m, hm⟩

theorem State.endXfer_form (s : State) (t st : Nat) (status : Status) : ∃ x, (s.secure.ops = [] → x.ops = [])
    ∧ s.endXfer t st status = { (s.wr .transferState t st).wr .transferStatus t status.value with secure := x } := by
  obtain ⟨m, hm⟩ := ((s.wr .transferState t st).wr .transferStatus t status.value).dropOps_form
    (fun o => (o.kind = .slot || o.kind = .archive) && o.names = [t])
  refine ⟨_, ?_, by unfold State.endXfer; dsimp only; rw [hm]⟩
  intro h
  simp [h]

/-- R308: a complete transfer shows it, and no job begins with it. -/
theorem State.doneXfer_shows (s : State) (t : Nat) : (∀ j, (s.doneXfer t).xfer j = s.xfer j)
    ∧ (s.doneXfer t).quarry = s.quarry ∧ (s.doneXfer t).rd .transferState t = 2
    ∧ (s.doneXfer t).rd .bytesDone t = s.rd .bytesDone t ∧ (s.secure.ops = [] → (s.doneXfer t).secure.ops = []) := by
  obtain ⟨x, hidle, hend⟩ := s.endXfer_form t 2 .ok
  unfold State.doneXfer
  rw [hend]
  refine ⟨fun j => by simp [State.xfer], by simp, by simp, by simp, fun h => ?_⟩
  rw [State.raise_secure_ops]
  exact hidle h

/-! A packet in sequence (R74, R306). -/

/-- From `s` to `u` an ACK of transfer t may have left. -/
structure AckKeep (t : Nat) (s u : State) : Prop where
  xfer : ∃ g, u.xfer t = { s.xfer t with gap := g }
  rd : ∀ x i, x.dropCounter = false → u.rd x i = s.rd x i
  bufs : u.bufs = s.bufs
  quarry : u.quarry = s.quarry
  ops : u.secure.ops = s.secure.ops

theorem AckKeep.refl (t : Nat) (s : State) : AckKeep t s s := ⟨⟨_, rfl⟩, fun _ _ _ => rfl, rfl, rfl, rfl⟩

theorem AckKeep.sendAck (t : Nat) (s : State) : AckKeep t s (s.sendAck t) := by
  unfold State.sendAck
  exact ⟨⟨none, by simp⟩, fun x i hx => by simp [hx], by simp, by simp, by simp⟩

/-- R74: the state with a packet's data counted and its Sequence passed. -/
def State.counted (s : State) (t : Nat) (b : Bytes) : State :=
  (s.setXfer t { s.xfer t with next := ((s.xfer t).next + 1) % 65536, since := s.aon.mono }).wr .bytesDone t
    (s.rd .bytesDone t + b.length)

/-- R74, R306: the data of an uncoded transfer into a buffer is written there, behind at most an ACK; the packet that
completes the length ends the transfer. -/
theorem State.takeData_buffer {s : State} {t : Nat} (o : Nat) (b : Bytes) (hcoded : (s.xfer t).coded = false)
    (hkind : (s.xfer t).kind = 4) : ∃ u, AckKeep t (s.counted t b) u ∧ s.takeData t o b =
      if (s.xfer t).length ≤ s.rd .bytesDone t + b.length then
        (u.bufWrite (s.xfer t).handle ((s.xfer t).offset + o) b).doneXfer t
      else u.bufWrite (s.xfer t).handle ((s.xfer t).offset + o) b := by
  unfold State.takeData
  extract_lets x done s1 x1 last s2 x2 s3 first file s4 slot
  have hack : AckKeep t (s.counted t b) s2 := by
    show AckKeep t s1 s2
    simp only [s2]
    split
    · exact .sendAck t s1
    · exact .refl t s1
  have hx1 : x1 = { x with next := (x.next + 1) % 65536, since := s.aon.mono } := by simp [x1, s1]
  obtain ⟨g, hg⟩ := hack.xfer
  have hx2 : x2 = { x1 with gap := g } := hg
  have hlast : last = decide ((s.xfer t).length ≤ s.rd .bytesDone t + b.length) := by simp [last, hx1, x, done]
  have hfields : x2.coded = false ∧ x2.kind = 4 ∧ x2.handle = (s.xfer t).handle ∧ x2.offset = (s.xfer t).offset := by
    rw [hx2, hx1]; exact ⟨hcoded, hkind, rfl, rfl⟩
  obtain ⟨hc, hk, hh, ho⟩ := hfields
  refine ⟨s2, hack, ?_⟩
  have hs3 : s3 = s2.bufWrite (s.xfer t).handle ((s.xfer t).offset + o) b := by
    simp only [s3, hk, hh, ho]; rfl
  simp [hc, hk, hlast, hs3]

/-- R74, R306: an ACK has no part in where the data goes, nor in what is counted. -/
theorem AckKeep.stored {s u : State} {t : Nat} {b : Bytes} (hack : AckKeep t (s.counted t b) u) (h o : Nat) :
    (u.bufWrite h o b).quarry = (s.bufWrite h o b).quarry
      ∧ (u.bufWrite h o b).rd .bytesDone t = s.rd .bytesDone t + b.length
      ∧ ((u.bufWrite h o b).xfer t).next = ((s.xfer t).next + 1) % 65536
      ∧ (u.bufWrite h o b).rd .transferState t = s.rd .transferState t
      ∧ (u.bufWrite h o b).secure.ops = s.secure.ops := by
  obtain ⟨g, hxfer⟩ := hack.xfer
  obtain ⟨y, hwrite⟩ := State.bufWrite_form b h o u
  have hnext : (u.xfer t).next = ((s.xfer t).next + 1) % 65536 := by rw [hxfer]; simp [State.counted]
  have hdone : u.rd .bytesDone t = s.rd .bytesDone t + b.length :=
    (hack.rd .bytesDone t rfl).trans (by simp [State.counted])
  have hstate : u.rd .transferState t = s.rd .transferState t :=
    (hack.rd .transferState t rfl).trans (by simp [State.counted])
  have hops : u.secure.ops = s.secure.ops := hack.ops.trans (by simp [State.counted])
  have hplace : u.rd .frameStorePlace 0 = s.rd .frameStorePlace 0 :=
    (hack.rd .frameStorePlace 0 rfl).trans (by simp [State.counted])
  refine ⟨State.bufWrite_congr (hack.bufs.trans (by simp [State.counted])) hplace
    (hack.quarry.trans (by simp [State.counted])) b h o, ?_⟩
  rw [hwrite]
  exact ⟨hdone, hnext, hstate, hops⟩

/-- R74, R306: what a stored packet leaves. -/
theorem State.takeData_shows {s : State} {t : Nat} (o : Nat) (b : Bytes) (hcoded : (s.xfer t).coded = false)
    (hkind : (s.xfer t).kind = 4) (hstate : s.rd .transferState t = 1) (hops : s.secure.ops = []) :
    (s.takeData t o b).quarry = (s.bufWrite (s.xfer t).handle ((s.xfer t).offset + o) b).quarry
      ∧ (s.takeData t o b).rd .bytesDone t = s.rd .bytesDone t + b.length
      ∧ ((s.takeData t o b).xfer t).next = ((s.xfer t).next + 1) % 65536
      ∧ (s.takeData t o b).rd .transferState t
        = (if (s.xfer t).length ≤ s.rd .bytesDone t + b.length then 2 else 1)
      ∧ (s.takeData t o b).secure.ops = [] := by
  obtain ⟨u, hack, htake⟩ := s.takeData_buffer o b hcoded hkind
  obtain ⟨hquarry, hdone, hnext, hopen, hidle⟩ := hack.stored (s.xfer t).handle ((s.xfer t).offset + o)
  rw [htake]
  split
  · obtain ⟨hxfers, hsame, hended, hbytes, hnone⟩ :=
      (u.bufWrite (s.xfer t).handle ((s.xfer t).offset + o) b).doneXfer_shows t
    rw [hsame, hended, hbytes, hxfers, hnone (hidle.trans hops)]
    exact ⟨hquarry, hdone, hnext, rfl, rfl⟩
  · exact ⟨hquarry, hdone, hnext, hopen.trans hstate, hidle.trans hops⟩

/-- R315: with no job in the write path a kick of it changes no entry, no transfer and not the Quarry. -/
theorem State.nvmKick_idle_shows (n : Nat) {s : State} (h : s.secure.ops = []) : (State.nvmKick n s).quarry = s.quarry
    ∧ (∀ t, (State.nvmKick n s).xfer t = s.xfer t) ∧ ∀ x i, (State.nvmKick n s).rd x i = s.rd x i := by
  obtain ⟨a, b, hkick⟩ := State.nvmKick_idle n s h
  rw [hkick]
  exact ⟨rfl, fun _ => rfl, fun _ _ => rfl⟩

/-! The cases of a packet (R74). -/

/-- R74: a packet of an open incoming transfer passes the first checks. -/
theorem bulkPacketEff_own {source chan seq : Nat} (p : Bytes) {s : State} (hon : s.on 9 = true) (hchan : chan ≤ 15)
    (hstate : s.rd .transferState chan = 1) (hin : (s.xfer chan).out = false) (hpeer : (s.xfer chan).peer = source)
    (hseq : seq ≠ 0xFFFF) : bulkPacketEff source chan seq p s =
      if p.length < 4 || decide (seq ≠ (s.xfer chan).next)
          || decide ((s.xfer chan).length < field p 0 4 + (p.drop 4).length)
          || (((s.xfer chan).coded || 5 ≤ (s.xfer chan).kind) && decide (field p 0 4 ≠ s.rd .bytesDone chan)) then
        s.discardPacket chan
      else if !s.targetOn (s.xfer chan) || ((s.xfer chan).coded && !s.alive 8) then
        State.nvmKick 300 (s.failXfer chan .state)
      else State.nvmKick 300 (s.takeData chan (field p 0 4) (p.drop 4)) := by
  have hfirst : (!s.on 9 || decide (15 < chan) || decide (s.rd .transferState chan ≠ 1) || (s.xfer chan).out
      || decide ((s.xfer chan).peer ≠ source) || decide (seq = 0xFFFF ∧ (s.xfer chan).next ≠ 0xFFFF)) = false := by
    simp [hon, Nat.not_lt.2 hchan, hstate, hin, hpeer, hseq]
  unfold bulkPacketEff
  dsimp only
  rw [hfirst]
  rfl

theorem execBulkPacketReceived_on {src ch sq : BitVec 16} {p : Bytes} {s : State} (hon : s.on 9 = true) :
    exec (.bulkPacketReceived src ch sq p) s = .next (bulkPacketEff src.toNat ch.toNat sq.toNat p s).stalled := by
  show Host.Outcome.next _ = _
  rw [if_pos hon]

/-- R74: the first packet out of sequence starts the ACK's timer. -/
theorem State.discardPacket_first {s : State} {t : Nat} (hgap : (s.xfer t).gap = none) :
    s.discardPacket t = s.setXfer t { s.xfer t with gap := some s.aon.mono } := by
  simp [State.discardPacket, hgap]

/-! ACKs and packets that leave (R71, R72, R74, R306). -/

/-- R71, R72: a packet of the device's own for another device joins the queue of its route's port. -/
theorem State.originate_room {s : State} {r : Fin 4} {p : Packet} (hdest : p.dest < 0x1000)
    (hroute : s.rdn .routeTable 0 p.dest % 8 = r) (hactive : s.active r = true)
    (hroom : queueRoom (s.port r).queue p = true) :
    s.originate p = s.setPort r { s.port r with queue := (s.port r).queue ++ [p] } := by
  have hhost : ¬ (0xE000 ≤ p.dest ∧ p.dest ≤ 0xEFFF) := by omega
  have hr : r.val < 4 := r.isLt
  rw [← State.enqueue_room hactive hroom]
  simp [State.originate, hhost, hdest, hroute, hr]

/-- R74: the ACK of transfer t. -/
def State.ackPacket (s : State) (t : Nat) : Packet :=
  { cls := 3, mode := .unicast, hop := Config.originHop.toNat, dest := (s.xfer t).peer, source := s.rd .deviceAddress 0
    channel := t, seq := 0xFFFF, payload := leBytes 2 (s.xfer t).next ++ leBytes 2 32 ++ [0, 0, 0, 0] }

theorem State.sendAck_eq (s : State) (t : Nat) :
    s.sendAck t = (s.setXfer t { s.xfer t with gap := none }).originate (s.ackPacket t) := rfl

/-- R74: 100 us after a discarded packet its ACK leaves. -/
theorem bulkAckTimerEff_due {t g : Nat} {s : State} (hon : s.on 9 = true) (hstate : s.rd .transferState t = 1)
    (hgap : (s.xfer t).gap = some g) (hdue : g + us 100 ≤ s.aon.mono) : bulkAckTimerEff t s = s.sendAck t := by
  simp [bulkAckTimerEff, hon, hstate, hgap, State.untilMono_due s _ hdue]

/-- R306: the next packet of an outgoing transfer from a buffer. -/
def State.bulkPacket (s : State) (t : Nat) : Packet :=
  let x := s.xfer t
  { cls := 3, mode := .unicast, hop := Config.originHop.toNat, dest := x.peer, source := s.rd .deviceAddress 0, channel := t
    seq := x.next, payload := leBytes 4 (4092 * x.next)
      ++ s.rangeRead 4 x.handle (x.offset + 4092 * x.next) (min 4092 (x.length - 4092 * x.next)) }

/-- R306: within the credit the next packet leaves. -/
theorem bulkSendEff_sends {t : Nat} {s : State} (hon : s.on 9 = true) (hstate : s.rd .transferState t = 1)
    (hout : (s.xfer t).out = true) (hkind : (s.xfer t).kind = 4) (htarget : s.targetOn (s.xfer t) = true)
    (hcredit : (s.xfer t).next < (s.xfer t).acked + (s.xfer t).credit)
    (hleft : 4092 * (s.xfer t).next < (s.xfer t).length) : bulkSendEff t s
      = (s.setXfer t { s.xfer t with next := (s.xfer t).next + 1 }).originate (s.bulkPacket t) := by
  simp [bulkSendEff, hon, hstate, hout, htarget, Nat.not_le.2 hcredit, Nat.not_le.2 hleft, State.outBytes, State.outScan,
    hkind, State.bulkPacket]

/-- R74: what an ACK of packets that were sent leaves. -/
theorem bulkAckEff_shows {source t : Nat} {p : Bytes} {s : State} (hon : s.on 9 = true)
    (hstate : s.rd .transferState t = 1) (hout : (s.xfer t).out = true) (hpeer : (s.xfer t).peer = source)
    (hlen : p.length = 8) (hsent : field p 0 2 ≤ (s.xfer t).next) (hacked : (s.xfer t).acked ≤ field p 0 2) :
    ((bulkAckEff source t p s).xfer t).acked = field p 0 2
      ∧ ((bulkAckEff source t p s).xfer t).credit = field p 2 2
      ∧ (bulkAckEff source t p s).rd .bytesDone t = min (s.xfer t).length (4092 * field p 0 2)
      ∧ (bulkAckEff source t p s).rd .transferState t
        = (if ceilDiv (s.xfer t).length 4092 ≤ field p 0 2 then 2 else 1)
      ∧ (field p 0 2 = (s.xfer t).acked → ((bulkAckEff source t p s).xfer t).next = field p 0 2) := by
  unfold bulkAckEff
  extract_lets x n total gap s1 s2
  rw [if_neg (by simp [x, n, hon, hstate, hout, hpeer, hlen, Nat.not_lt.2 hsent, Nat.not_lt.2 hacked])]
  have hx : s2.xfer t = { x with acked := n, credit := field p 2 2, next := if gap then n else x.next
                                 since := s.aon.mono } := by simp [s2, s1]
  have hdone : s2.rd .bytesDone t = min x.length (4092 * n) := by simp [s2]
  have hopen : s2.rd .transferState t = 1 := by simp [s2, s1, hstate]
  have hback : n = x.acked → (if gap then n else x.next) = n := fun h => by simp [gap, h]
  split
  · obtain ⟨hxfers, -, hended, hbytes, -⟩ := s2.doneXfer_shows t
    rw [hxfers, hended, hbytes, hx]
    exact ⟨rfl, rfl, hdone, rfl, hback⟩
  · rw [hx]
    exact ⟨rfl, rfl, hdone, hopen, hback⟩

/-- Settles O31: each packet and each ACK by the lemma about its effect. -/
theorem bulkPacketsPass : Obligations.BulkPacketsPass := by
  unfold Obligations.BulkPacketsPass
  refine ⟨⟨?stored, ?discarded, ?timer⟩, ?send, ?ack⟩
  case stored =>
    intro src ch sq p s hon hch hstate hin hpeer hnext hseq hlen hfits hcoded hkind htarget hops
    have heff : bulkPacketEff src.toNat ch.toNat sq.toNat p s
        = State.nvmKick 300 (s.takeData ch.toNat (field p 0 4) (p.drop 4)) := by
      rw [bulkPacketEff_own p hon hch hstate hin hpeer hseq]
      simp [-List.length_drop, Nat.not_lt.2 hlen, hnext, Nat.not_lt.2 hfits, hcoded, hkind, htarget]
    obtain ⟨hquarry, hdone, hstep, hended, hidle⟩ :=
      State.takeData_shows (field p 0 4) (p.drop 4) hcoded hkind hstate hops
    obtain ⟨hkick, hxfer, hrd⟩ := State.nvmKick_idle_shows 300 hidle
    refine ⟨_, execBulkPacketReceived_on hon, ?_⟩
    rw [heff, State.stalled_quarry, State.stalled_xfer, State.stalled_rd (x := .bytesDone) _ _ nofun nofun,
      State.stalled_rd (x := .transferState) _ _ nofun nofun, hkick, hxfer, hrd, hrd, hnext]
    exact ⟨hquarry, hdone, hstep, hended⟩
  case discarded =>
    intro src ch sq p s hon hch hstate hin hpeer hnext hseq hgap
    have heff : bulkPacketEff src.toNat ch.toNat sq.toNat p s
        = s.setXfer ch.toNat { s.xfer ch.toNat with gap := some s.aon.mono } := by
      rw [bulkPacketEff_own p hon hch hstate hin hpeer hseq, if_pos (by simp [hnext]), State.discardPacket_first hgap]
    refine ⟨_, execBulkPacketReceived_on hon, ?_⟩
    rw [heff]
    exact ⟨by simp, by simp, fun y j hb hw => State.stalled_rdv _ j hb hw⟩
  case timer =>
    rintro k r g a s hon hstate hgap hdue hpeer hroute rfl hroom hactive
    refine ⟨_, rfl, ?_⟩
    rw [bulkAckTimerEff_due hon hstate hgap hdue, State.sendAck_eq,
      State.originate_room (s := s.setXfer k _) (p := s.ackPacket k) hpeer hroute hactive hroom]
    simp [State.ackPacket]
  case send =>
    rintro k r a s hon hstate hout hkind htarget hcredit hleft hpeer hroute rfl hroom hactive
    refine ⟨(bulkSendEff k s).stalled, ?_, ?_⟩
    · show Host.Outcome.next _ = _
      rw [if_pos hon]
    · rw [bulkSendEff_sends hon hstate hout hkind htarget hcredit hleft,
        State.originate_room (s := s.setXfer k _) (p := s.bulkPacket k) hpeer hroute hactive hroom]
      simp [State.bulkPacket, hstate]
  case ack =>
    intro k src p s hon hstate hout hpeer hlen hsent hacked
    exact ⟨_, rfl, bulkAckEff_shows hon hstate hout hpeer hlen hsent hacked⟩

end Sys2Proof.Machine
end

section
/-! PROOF. Time transfer: SYNC and the delay exchange go out and come in, and the servo follows them (R83, R85 to R90). -/

namespace Sys2Proof.Machine

/-! What the time unit's operations may change. -/

/-- What the leaving of LOCKED may change. -/
def holdoverEnts : List Ent := eventEnts ++ [.timeState, .lockLosses]

section
variable {l : List Ent} {n : Fin 4} {q m : Bool}

theorem FrameBy.setTime (s : State) (x : TimeUnit) : FrameBy l n q m s { s with time := x } := .quiet

theorem FrameBy.tryLock (s : State) : FrameBy holdoverEnts n q m s s.tryLock := by
  unfold State.tryLock
  exact .ite (.then (.then (.setTime ..) (.wr ..)) (.raise ..)) (.refl s)

theorem FrameBy.unlockCheck (s : State) (theta : Int) : FrameBy holdoverEnts n q m s (s.unlockCheck theta) := by
  unfold State.unlockCheck
  extract_lets k src s1
  have h1 : FrameBy holdoverEnts n q m s s1 := .setTime ..
  exact .ite (h1.trans (.toHoldover ..)) h1

end

/-! What of the time unit the servo rests on. -/

/-- The time unit without what the calendar and the time states hold. -/
def TimeUnit.steering (a : TimeUnit) : TimeUnit :=
  { a with calOfs := 0, bound := 0, boundAt := 0, overCount := 0, blocked := false, upState := 0, upBound := 0, syncAt := 0 }

theorem TimeUnit.steering_calendar (a : TimeUnit) (ofs : Int) (st bound at_ : Nat) :
    { a with calOfs := ofs, upState := st, upBound := bound, syncAt := at_ }.steering = a.steering := rfl

/-- What the calendar and the time states may change among the entries. -/
def syncStateEnts : List Ent := holdoverEnts ++ [.calendarValid, .taiUtcOffset]

/-- From `s` to `t` the calendar and the time states alone change. -/
structure SteerKeep (s t : State) : Prop where
  frame : FrameBy syncStateEnts 0 false false s t
  time : t.time.steering = s.time.steering

section
variable {s t u : State}

theorem SteerKeep.refl (s : State) : SteerKeep s s := ⟨.refl s, rfl⟩

theorem SteerKeep.trans (h : SteerKeep s t) (g : SteerKeep t u) : SteerKeep s u :=
  ⟨h.frame.trans g.frame, g.time.trans h.time⟩

theorem SteerKeep.ite {c : Prop} [Decidable c] (h : SteerKeep s t) (g : SteerKeep s u) :
    SteerKeep s (if c then t else u) := by
  split
  · exact h
  · exact g

theorem SteerKeep.setTime (s : State) (x : TimeUnit) (hx : x.steering = s.time.steering := by rfl) :
    SteerKeep s { s with time := x } := ⟨.setTime .., hx⟩

theorem SteerKeep.wr (s : State) (x : Ent) (i k : Nat) (hx : [x] ⊆ syncStateEnts := by decide) :
    SteerKeep s (s.wr x i k) := by
  have hlink : x.ofLink = false := by
    have hfree : ∀ y ∈ syncStateEnts, y.ofLink = false := by decide
    exact hfree x (hx List.mem_cons_self)
  exact ⟨.mono (.wr s x i k hlink) hx, by rw [State.wr_time]⟩

theorem SteerKeep.raise (s : State) (e : Event) (names : List Nat) : SteerKeep s (s.raise e names) :=
  ⟨.mono (.raise ..), by rw [State.raise_time]⟩

theorem SteerKeep.toHoldover (s : State) : SteerKeep s s.toHoldover := by
  refine ⟨.mono (.toHoldover s), ?_⟩
  unfold State.toHoldover
  split
  · simp [TimeUnit.steering]
  · rfl

theorem SteerKeep.tryLock (s : State) : SteerKeep s s.tryLock := by
  unfold State.tryLock
  exact .ite (.trans (.trans (.setTime ..) (.wr ..)) (.raise ..)) (.refl s)

theorem SteerKeep.unlockCheck (s : State) (theta : Int) : SteerKeep s (s.unlockCheck theta) := by
  unfold State.unlockCheck
  extract_lets k src s1
  have h1 : SteerKeep s s1 := .setTime ..
  exact .ite (h1.trans (.toHoldover ..)) h1

/-- An entry that neither the calendar nor a time state shows. -/
theorem SteerKeep.rd (h : SteerKeep s t) (x : Ent) (i : Nat) (hx : syncStateEnts.contains x = false := by decide) :
    t.rd x i = s.rd x i := by
  unfold State.rd
  rw [h.frame.rdv x i (by rw [changes, hx, Bool.false_and])]

theorem SteerKeep.disp (h : SteerKeep s t) : t.time.disp = s.time.disp := (congrArg TimeUnit.disp h.time :)

theorem SteerKeep.integ (h : SteerKeep s t) : t.time.integ = s.time.integ := (congrArg TimeUnit.integ h.time :)

theorem SteerKeep.lockCount (h : SteerKeep s t) : t.time.lockCount = s.time.lockCount :=
  (congrArg TimeUnit.lockCount h.time :)

theorem SteerKeep.exch (h : SteerKeep s t) : t.time.exch = s.time.exch := (congrArg TimeUnit.exch h.time :)

theorem SteerKeep.exchPort (h : SteerKeep s t) : t.time.exchPort = s.time.exchPort :=
  (congrArg TimeUnit.exchPort h.time :)

theorem SteerKeep.running (h : SteerKeep s t) : t.running = s.running := by
  unfold State.running; rw [h.rd .modulatorRun 0]

/-- R88, R89: the offset of a SYNC rests on neither the calendar nor the time state. -/
theorem SteerKeep.theta (h : SteerKeep s t) (n origin rx : Nat) : t.theta n origin rx = s.theta n origin rx := by
  simp only [State.theta, h.exch, h.rd .rxLatency n, h.rd .portAsymmetry n]

end

/-! The servo (R89, R90). -/

/-- R90: display time jumps, and with it the pattern counters of the views alone. -/
theorem State.forEach_views {α : Type} (f : State → α → State) (hf : ∀ s a, ∃ v, f s a = { s with views := v }) (l : List α)
    (s : State) : ∃ v, s.forEach l f = { s with views := v } := by
  induction l generalizing s with
  | nil => exact ⟨s.views, rfl⟩
  | cons a l ih =>
    obtain ⟨v, hv⟩ := hf s a
    obtain ⟨w, hw⟩ := ih (f s a)
    exact ⟨w, hw.trans (by rw [hv])⟩

theorem State.restartPatterns_form (s : State) (t : Nat) : ∃ v, s.restartPatterns t = { s with views := v } :=
  State.forEach_views _ (fun _ _ => ⟨_, rfl⟩) _ s

theorem State.jumpPatterns_form (s : State) (t : Nat) : ∃ v, s.jumpPatterns t = { s with views := v } := by
  have hsettle : ∃ v, s.settlePatterns s.geo s.now = { s with views := v } := by
    refine State.forEach_views _ (fun s k => ?_) _ s
    dsimp only
    split
    · exact ⟨_, rfl⟩
    · exact ⟨s.views, rfl⟩
  obtain ⟨v, hv⟩ := hsettle
  obtain ⟨w, hw⟩ := (s.settlePatterns s.geo s.now).restartPatterns_form t
  exact ⟨w, by rw [State.jumpPatterns, hw, hv]⟩

/-- R89: an offset within 1 µs is not clamped. -/
theorem clampInt_of_natAbs_le {th : Int} (h : th.natAbs ≤ 1000000) : clampInt (-1000000) 1000000 th = th := by
  unfold clampInt
  rw [if_neg (by omega), if_neg (by omega)]

/-- R89: within 1 µs, or while the modulator runs, the servo slews on the clamped offset. -/
theorem State.runServo_slews {s : State} {th : Int} (h : th.natAbs ≤ 1000000 ∨ s.running = true) :
    ∃ u, SteerKeep (s.wr .lastOffset 0 (uns 32 (clampInt (-2147483648) 2147483647 th))) u
      ∧ s.runServo th = u.slew (clampInt (-1000000) 1000000 th) := by
  unfold State.runServo
  extract_lets s1 s2 s3
  have h2 : SteerKeep s1 s2 := .unlockCheck ..
  have h3 : SteerKeep s1 s3 := .ite h2 (h2.trans (.raise ..))
  split
  · rename_i hbig
    have hrun : s2.running = true := by
      rw [h2.running, State.wr_running _ _ _ _ (by decide)]
      exact h.resolve_left (Nat.not_le.2 hbig)
    rw [hrun]
    exact ⟨_, h3.trans (.setTime ..), rfl⟩
  · rename_i hsmall
    exact ⟨_, h2.trans (.setTime ..), congrArg (State.slew _) (clampInt_of_natAbs_le (Nat.not_lt.1 hsmall)).symm⟩

/-- R90: a stopped modulator lets display time step. -/
theorem State.runServo_steps {s : State} {th : Int} (hbig : 1000000 < th.natAbs) (hstop : s.running = false) :
    ∃ u, SteerKeep (s.wr .lastOffset 0 (uns 32 (clampInt (-2147483648) 2147483647 th))) u
      ∧ s.runServo th = u.timeStep th := by
  unfold State.runServo
  extract_lets s1 s2
  have h2 : SteerKeep s1 s2 := .unlockCheck ..
  have hrun : s2.running = false := by rw [h2.running, State.wr_running _ _ _ _ (by decide), hstop]
  rw [if_pos hbig, hrun]
  exact ⟨s2, h2, rfl⟩

/-- R90: what a step leaves. -/
theorem State.timeStep_shows (s : State) (th : Int) :
    (s.timeStep th).time.disp = BitVec.ofInt 96 ((s.time.disp.toNat : Int) - ofPs th)
      ∧ (s.timeStep th).time.integ = 0 ∧ (s.timeStep th).time.lockCount = 0
      ∧ (s.timeStep th).rd .increment 0 = s.rd .increment 0
      ∧ (s.timeStep th).rd .steps 0 = min (s.rd .steps 0 + 1) 0xFFFFFFFF := by
  unfold State.timeStep
  extract_lets d s1
  obtain ⟨v, hv⟩ := s.jumpPatterns_form (d.toNat / 4294967296)
  have h1 : s1 = { s with views := v } := hv
  rw [h1]
  simp [d]

/-! SYNC goes out (R87). -/

/-- R87: the SYNC that port n sends next. -/
def State.syncPacket (s : State) (n : Nat) : Packet := s.localPacket n 0 1 s.syncPayload

/-- R87: a port sends SYNC. -/
def State.sendSync (s : State) (n : Nat) : State := s.sendLocal n 0 1 s.syncPayload false

/-- R72: a packet that finds room changes its port's record alone. -/
theorem State.sendLocal_room_form {s : State} {n cls chan : Nat} {payload : Bytes} (front : Bool)
    (hactive : s.active n = true) (hroom : queueRoom (s.port n).queue (s.localPacket n cls chan payload) = true) :
    ∃ ports, s.sendLocal n cls chan payload front = { s with ports := ports } := by
  have hqueue : ((s.useSeq n chan).port n).queue = (s.port n).queue := by simp [State.useSeq]
  have hsend : s.sendLocal n cls chan payload front
      = (s.useSeq n chan).enqueue n (s.localPacket n cls chan payload) front := rfl
  rw [hsend, State.enqueue_joins (s := s.useSeq n chan) front hactive (by rwa [hqueue])]
  exact ⟨_, rfl⟩

/-- R87: a SYNC on one port leaves that of another as it would be. -/
theorem State.syncPacket_sendSync {s : State} {m n : Nat} (h : m ≠ n) (hactive : s.active m = true)
    (hroom : queueRoom (s.port m).queue (s.syncPacket m) = true) : (s.sendSync m).syncPacket n = s.syncPacket n := by
  have hport : (s.sendSync m).port n = s.port n := State.sendLocal_port_ne _ h _ _ _ _
  obtain ⟨ports, hform⟩ := State.sendLocal_room_form false hactive hroom
  have hpayload : (s.sendSync m).syncPayload = s.syncPayload := by rw [State.sendSync, hform]; rfl
  have haddr : (s.sendSync m).rd .deviceAddress 0 = s.rd .deviceAddress 0 := by rw [State.sendSync, hform]; rfl
  simp only [State.syncPacket, State.localPacket, State.nextSeq, hport, hpayload, haddr]

/-- R87: each port of a list without repeats sends its own SYNC. -/
theorem State.forEach_sendSync {l : List Nat} (hnodup : l.Nodup) {s : State}
    (hroom : ∀ n ∈ l, s.active n = true ∧ queueRoom (s.port n).queue (s.syncPacket n) = true) :
    (s.forEach l State.sendSync).regs = s.regs
      ∧ ∀ n, ((s.forEach l State.sendSync).port n).queue
        = (s.port n).queue ++ (if n ∈ l then [s.syncPacket n] else []) := by
  induction l generalizing s with
  | nil => exact ⟨rfl, fun n => by simp [State.forEach]⟩
  | cons m l ih =>
    obtain ⟨hm, hl⟩ := List.nodup_cons.1 hnodup
    obtain ⟨hactive, hfree⟩ := hroom m List.mem_cons_self
    obtain ⟨hqueue, hregs⟩ := State.sendLocal_room false hactive hfree
    have hrest : ∀ n ∈ l, (s.sendSync m).active n = true
        ∧ queueRoom ((s.sendSync m).port n).queue ((s.sendSync m).syncPacket n) = true := fun n hn => by
      have hne : m ≠ n := fun h => hm (h ▸ hn)
      obtain ⟨hon, hplace⟩ := hroom n (List.mem_cons_of_mem _ hn)
      rw [State.syncPacket_sendSync hne hactive hfree, State.sendSync, State.sendLocal_port_ne _ hne]
      refine ⟨?_, hplace⟩
      rw [← hon]
      unfold State.active State.rd State.rdv
      rw [hregs]
    obtain ⟨hend, hsent⟩ := ih hl hrest
    refine ⟨hend.trans hregs, fun n => (hsent n).trans ?_⟩
    by_cases hmn : m = n
    · subst hmn
      rw [if_neg hm, if_pos List.mem_cons_self, List.append_nil]
      exact hqueue
    · rw [State.syncPacket_sendSync hmn hactive hfree, State.sendSync, State.sendLocal_port_ne _ hmn]
      simp [Ne.symm hmn]

/-- R87: when SYNC is due no time passes, and each child port sends its own. -/
theorem syncSendEff_due {s : State} (halive : s.alive 5 = true) (haddr : s.rd .deviceAddress 0 ≠ 0xFFFF)
    (hdue : s.time.syncSent + us (s.rd .syncInterval 0) ≤ s.aon.mono) :
    syncSendEff s = ({ s with time := { s.time with syncSent := s.aon.mono } } : State).forEach
      (ports4.filter s.isChild) State.sendSync := by
  simp only [syncSendEff, halive, haddr, State.untilMono_due s _ hdue, ne_eq, not_false_eq_true, decide_true, Bool.and_self,
    if_true]
  rfl

/-! SYNC comes in (R83, R85, R89). -/

/-- R83, R85: what a SYNC from upstream sets before the servo runs. -/
def State.synced (s : State) (b : Bytes) : State :=
  let s := if field b 22 1 = 0 then s.toHoldover else s
  let s := { s with time := { s.time with
    calOfs := (calNs (b.drop 12) * 4294967296 : Int) - stampOf b
    upState := field b 22 1, upBound := field b 24 4, syncAt := s.aon.mono } }
  (s.wr .calendarValid 0 (field b 30 1 % 2)).wr .taiUtcOffset 0 (field b 28 2)

theorem SteerKeep.synced (s : State) (b : Bytes) : SteerKeep s (s.synced b) := by
  unfold State.synced
  extract_lets s1 src s2
  have h1 : SteerKeep s s1 := .ite (.toHoldover s) (.refl s)
  have h2 : SteerKeep s1 s2 := .setTime s1 _ (TimeUnit.steering_calendar ..)
  exact .trans (.trans (h1.trans h2) (.wr ..)) (.wr ..)

/-- R83: the calendar that a SYNC sets. -/
theorem State.synced_calendar (s : State) (b : Bytes) :
    (s.synced b).time.calOfs = (calNs (b.drop 12) * 4294967296 : Int) - stampOf b
      ∧ (s.synced b).time.syncAt = s.aon.mono ∧ (s.synced b).rd .calendarValid 0 = field b 30 1 % 2
      ∧ (s.synced b).rd .taiUtcOffset 0 = field b 28 2 := by
  unfold State.synced
  extract_lets s1 src s2
  have hmono : s1.aon.mono = s.aon.mono := by
    simp only [s1]
    split
    · exact (NetKeep.toHoldover s).mono
    · rfl
  simp [s2, hmono]

section
variable {n : Nat} {b : Bytes} {rx : Nat} {s : State} (halive : s.alive 5 = true) (hactive : s.active n = true)
    (hup : s.upstream = some n) (hlen : b.length = 48)
include halive hactive hup hlen

/-- R88: before the first exchange a SYNC sets the calendar alone. -/
theorem syncReceivedEff_first (hexch : s.time.exchPort = 0) : syncReceivedEff n b rx s = s.synced b := by
  have hzero : (s.synced b).time.exchPort = 0 := (SteerKeep.synced s b).exchPort.trans hexch
  unfold syncReceivedEff
  rw [if_neg (by simp [halive, hactive]), if_neg (by simp [hup, hlen])]
  exact if_pos hzero

/-- R89: after a completed exchange the servo runs on the offset of the SYNC. -/
theorem syncReceivedEff_servo (hexch : s.time.exchPort ≠ 0) :
    syncReceivedEff n b rx s = ((s.synced b).runServo (s.theta n (stampOf b) rx)).tryLock := by
  have hsome : (s.synced b).time.exchPort ≠ 0 := by rwa [(SteerKeep.synced s b).exchPort]
  unfold syncReceivedEff
  rw [if_neg (by simp [halive, hactive]), if_neg (by simp [hup, hlen]), ← (SteerKeep.synced s b).theta]
  exact if_neg hsome

/-- R89: what a SYNC leaves on which the servo slews. -/
theorem syncReceivedEff_slews {th x p i tau ival : Int} (hexch : s.time.exchPort ≠ 0) (hth : th = s.theta n (stampOf b) rx)
    (hslew : th.natAbs ≤ 1000000 ∨ s.running = true) (hx : x = clampInt (-1000000) 1000000 th)
    (htau : tau = (s.rd .servoTau 0 : Int) * 1000000000) (hival : ival = (s.rd .syncInterval 0 : Int) * 1000000)
    (hp : p = (x * 2 ^ 40).tdiv tau) (hi : i = s.time.integ + (p * ival).tdiv (4 * tau)) :
    (syncReceivedEff n b rx s).time.disp = s.time.disp ∧ (syncReceivedEff n b rx s).time.integ = i
      ∧ (syncReceivedEff n b rx s).rd .increment 0
        = (3435973837 - (3435973837 * clampInt (-109951163) 109951163 (p + i)).tdiv (2 ^ 40)).toNat
      ∧ (syncReceivedEff n b rx s).time.lockCount
        = (if x.natAbs ≤ s.rd .lockThreshold 0 then s.time.lockCount + 1 else 0)
      ∧ (syncReceivedEff n b rx s).rd .lastOffset 0 = uns 32 (clampInt (-2147483648) 2147483647 th)
      ∧ (syncReceivedEff n b rx s).rd .steps 0 = s.rd .steps 0 := by
  have hsync := SteerKeep.synced s b
  obtain ⟨u, hu, hrun⟩ := State.runServo_slews (s := s.synced b) (th := th) (by rwa [hsync.running])
  have hlock := SteerKeep.tryLock (u.slew x)
  rw [syncReceivedEff_servo halive hactive hup hlen hexch, ← hth, hrun, ← hx, hlock.disp, hlock.integ, hlock.lockCount,
    hlock.rd .increment 0, hlock.rd .lastOffset 0, hlock.rd .steps 0]
  have hread : ∀ y, syncStateEnts.contains y = false → y ≠ .lastOffset → u.rd y 0 = s.rd y 0 := fun y hy hne => by
    rw [hu.rd y 0 hy, State.wr_rd, if_neg (fun h => hne h.1.symm), hsync.rd y 0 hy]
  have hinteg : u.time.integ = s.time.integ := by rw [hu.integ, State.wr_time, hsync.integ]
  have hcount : u.time.lockCount = s.time.lockCount := by rw [hu.lockCount, State.wr_time, hsync.lockCount]
  have hdisp : u.time.disp = s.time.disp := by rw [hu.disp, State.wr_time, hsync.disp]
  have hofs : u.rd .lastOffset 0 = uns 32 (clampInt (-2147483648) 2147483647 th) := by rw [hu.rd .lastOffset 0]; simp
  have hservo : servo x ((u.rd .servoTau 0 : Int) * 1000000000) ((u.rd .syncInterval 0 : Int) * 1000000) u.time.integ
      = (clampInt (-109951163) 109951163 (p + i), i) := by
    rw [hread .servoTau (by decide) (by decide), hread .syncInterval (by decide) (by decide), hinteg, ← htau, ← hival]
    simp only [servo, hi, hp]
    norm_num
  have hslewed : u.slew x = ({ u with time := { u.time with
      integ := i, lockCount := if x.natAbs ≤ s.rd .lockThreshold 0 then s.time.lockCount + 1 else 0 } } : State).wr
        .increment 0 (incrementOf (clampInt (-109951163) 109951163 (p + i))) := by
    simp only [State.slew, hservo, hread .lockThreshold (by decide) (by decide), hcount]
  rw [hslewed]
  refine ⟨?_, ?_, ?_, ?_, ?_, ?_⟩
  · rw [State.wr_time]; exact hdisp
  · rw [State.wr_time]
  · simp [incrementOf]
  · rw [State.wr_time]
  · rw [State.wr_rd, if_neg (by simp)]; exact hofs
  · rw [State.wr_rd, if_neg (by simp)]; exact hread .steps (by decide) (by decide)

/-- R90: what a SYNC leaves by which display time steps. -/
theorem syncReceivedEff_steps {th : Int} (hexch : s.time.exchPort ≠ 0) (hth : th = s.theta n (stampOf b) rx)
    (hbig : 1000000 < th.natAbs) (hstop : s.running = false) :
    (syncReceivedEff n b rx s).time.disp = BitVec.ofInt 96 ((s.time.disp.toNat : Int) - ofPs th)
      ∧ (syncReceivedEff n b rx s).time.integ = 0 ∧ (syncReceivedEff n b rx s).time.lockCount = 0
      ∧ (syncReceivedEff n b rx s).rd .increment 0 = s.rd .increment 0
      ∧ (syncReceivedEff n b rx s).rd .steps 0 = min (s.rd .steps 0 + 1) 0xFFFFFFFF := by
  have hsync := SteerKeep.synced s b
  obtain ⟨u, hu, hrun⟩ := State.runServo_steps (s := s.synced b) hbig (by rwa [hsync.running])
  have hlock := SteerKeep.tryLock (u.timeStep th)
  obtain ⟨hdisp, hinteg, hcount, hincrement, hsteps⟩ := u.timeStep_shows th
  have hread : ∀ y, syncStateEnts.contains y = false → y ≠ .lastOffset → u.rd y 0 = s.rd y 0 := fun y hy hne => by
    rw [hu.rd y 0 hy, State.wr_rd, if_neg (fun h => hne h.1.symm), hsync.rd y 0 hy]
  have hbefore : u.time.disp = s.time.disp := by rw [hu.disp, State.wr_time, hsync.disp]
  rw [syncReceivedEff_servo halive hactive hup hlen hexch, ← hth, hrun, hlock.disp, hlock.integ, hlock.lockCount,
    hlock.rd .increment 0, hlock.rd .steps 0, hdisp, hinteg, hcount, hincrement, hsteps, hbefore,
    hread .increment (by decide) (by decide), hread .steps (by decide) (by decide)]
  exact ⟨rfl, rfl, rfl, rfl, rfl⟩

end

/-! The delay exchange (R87, R88). -/

/-- R88: the exchange that is due sends DELAY_REQ on the upstream port. -/
theorem delayExchangeTimerEff_due {u : Nat} {s : State} (halive : s.alive 5 = true) (hactive : s.active u = true)
    (hup : s.upstream = some u) (hdue : s.time.exchAt ≤ s.aon.mono) : delayExchangeTimerEff s
      = ({ s with time := { s.time with exchAt := s.aon.mono + s.exchGap, exchLeft := s.time.exchLeft - 1 } } : State).sendLocal
          u 0 2 (List.replicate 16 0) false := by
  simp [delayExchangeTimerEff, hup, halive, hactive, State.untilMono_due s _ hdue]

/-- R87: a child's DELAY_REQ is answered. -/
theorem delayReqReceivedEff_child {n sq rx : Nat} {b : Bytes} {s : State} (halive : s.alive 5 = true)
    (hactive : s.active n = true) (hchild : s.isChild n = true) (hlen : b.length = 16)
    (haddr : s.rd .deviceAddress 0 ≠ 0xFFFF) : delayReqReceivedEff n sq b rx s
      = s.sendLocal n 0 3 (stamp12 (s.atBalls n rx) ++ List.replicate 12 0 ++ leBytes 2 sq ++ List.replicate 6 0) false := by
  simp [delayReqReceivedEff, halive, hactive, hchild, hlen, haddr]

/-- R88: an answer to the outstanding request within 20 µs completes the exchange. -/
theorem delayRespReceivedEff_completes {n rx t1 m : Nat} {b : Bytes} {s : State} (halive : s.alive 5 = true)
    (hactive : s.active n = true) (hup : s.upstream = some n) (hlen : b.length = 32)
    (hreqs : s.time.reqs = [(field b 24 2, t1, m)]) (htime : (s.atBalls n rx : Int) - t1 ≤ us 20) :
    (delayRespReceivedEff n b rx s).time.reqs = []
      ∧ (delayRespReceivedEff n b rx s).time.exchPort = s.time.exchPort + 1
      ∧ (delayRespReceivedEff n b rx s).time.exch.head?
        = some ((s.atBalls n rx : Int) - t1 - ((stampOf (b.drop 12) : Int) - stampOf b))
      ∧ (delayRespReceivedEff n b rx s).rd .meanPathDelay 0
        = min (delayRespReceivedEff n b rx s).time.mean.toNat 0xFFFFFFFF := by
  have hus : (us 20 : Int) ≤ us 100 := by simp [us]
  have hfind : s.time.reqs.find? (fun q => q.1 = field b 24 2) = some (field b 24 2, t1, m) := by simp [hreqs]
  unfold delayRespReceivedEff
  rw [if_neg (by simp [halive, hactive]), if_neg (by simp [hup, hlen]), hfind]
  dsimp only
  rw [if_neg (by omega), if_neg (by omega)]
  simp [hreqs]

/-- Settles O7: each command by the lemma about its effect. -/
theorem timeTransfer : Obligations.TimeTransfer := by
  unfold Obligations.TimeTransfer
  refine ⟨?send, ?first, ?slews, ?steps, ?other, ?exchange, ?request, ?response⟩
  case send =>
    intro p s halive haddr hdue hp hroom
    obtain rfl : p = s.syncPacket := funext hp
    have hchild : ∀ n, n ∈ ports4.filter s.isChild ↔ n < 4 ∧ s.isChild n = true := fun n => by
      simp only [ports4, List.mem_filter, List.mem_cons, List.not_mem_nil, or_false]
      exact and_congr_left' (by omega)
    obtain ⟨hregs, hqueue⟩ := State.forEach_sendSync (s := { s with time := { s.time with syncSent := s.aon.mono } })
      (l := ports4.filter s.isChild) (List.Nodup.filter _ (by decide)) (fun n hn => hroom n ((hchild n).1 hn).1 ((hchild n).1 hn).2)
    refine ⟨_, rfl, ?_⟩
    rw [syncSendEff_due halive haddr hdue]
    refine ⟨hregs, fun n hn => (hqueue n).trans ?_⟩
    simp only [hchild, hn, true_and]
    rfl
  case first =>
    intro n b rx s halive hactive hup hlen hexch
    have hkeep := SteerKeep.synced s b
    obtain ⟨hcal, hat, hvalid, htai⟩ := s.synced_calendar b
    refine ⟨_, rfl, ?_⟩
    rw [syncReceivedEff_first halive hactive hup hlen hexch]
    exact ⟨hcal, hat, hvalid, htai, hkeep.disp, hkeep.rd .increment 0⟩
  case slews =>
    intro n b rx th x p i tau ival s halive hactive hup hlen hexch hth hslew hx htau hival hp hi
    exact ⟨_, rfl, syncReceivedEff_slews halive hactive hup hlen hexch hth hslew hx htau hival hp hi⟩
  case steps =>
    intro n b rx th s halive hactive hup hlen hexch hth hbig hstop
    exact ⟨_, rfl, syncReceivedEff_steps halive hactive hup hlen hexch hth hbig hstop⟩
  case other =>
    intro n b rx s halive hactive hup
    show Host.Outcome.next (syncReceivedEff n b rx.toNat s) = _
    simp [syncReceivedEff, halive, hactive, hup]
  case exchange =>
    rintro u p s halive hactive hup hdue rfl hroom
    refine ⟨_, rfl, ?_⟩
    rw [delayExchangeTimerEff_due halive hactive hup hdue]
    generalize hv : ({ s with time := { s.time with
      exchAt := s.aon.mono + s.exchGap, exchLeft := s.time.exchLeft - 1 } } : State) = v
    have hon : v.active u = true := by rw [← hv]; exact hactive
    have hfree : queueRoom (v.port u).queue (v.localPacket u 0 2 (List.replicate 16 0)) = true := by rw [← hv]; exact hroom
    obtain ⟨hqueue, -⟩ := State.sendLocal_room false hon hfree
    obtain ⟨ports, hform⟩ := State.sendLocal_room_form false hon hfree
    refine ⟨hqueue.trans (by rw [← hv]; rfl), ?_⟩
    rw [hform, ← hv]
    exact ⟨rfl, rfl⟩
  case request =>
    rintro n sq b rx p s halive hactive hchild hlen haddr rfl hroom
    refine ⟨_, rfl, ?_⟩
    rw [delayReqReceivedEff_child halive hactive hchild hlen haddr]
    exact State.sendLocal_room false hactive hroom
  case response =>
    intro n b rx t1 m s halive hactive hup hlen hreqs htime
    exact ⟨_, rfl, delayRespReceivedEff_completes halive hactive hup hlen hreqs htime⟩

end Sys2Proof.Machine
end

section
/-! PROOF. The time states, the slow window, and display time after a sleep (R85, R86, R88, R94 to R96). -/

namespace Sys2Proof.Machine

/-- R85, R86: what the leaving of LOCKED leaves. -/
theorem State.toHoldover_locked {s : State} (h : s.rd .timeState 0 = 2) : s.toHoldover.rd .timeState 0 = 1
    ∧ s.toHoldover.rd .lockLosses 0 = min (s.rd .lockLosses 0 + 1) 0xFFFFFFFF
    ∧ s.toHoldover.time.bound = s.time.upBound + 150 ∧ s.toHoldover.time.disp = s.time.disp
    ∧ s.toHoldover.time.calOfs = s.time.calOfs := by
  unfold State.toHoldover
  rw [if_pos h]
  simp

/-- R85: a LOCKED unit that had no SYNC for its time leaves LOCKED. -/
theorem syncLossEff_due {s : State} (halive : s.alive 5 = true) (hlocked : s.rd .timeState 0 = 2)
    (hdue : s.time.syncAt + us (8 * s.rd .syncInterval 0) ≤ s.aon.mono) : syncLossEff s = s.toHoldover := by
  simp [syncLossEff, halive, hlocked, State.untilMono_due s _ hdue]

/-- R85, R86: a bound above HoldoverLimit ends HOLDOVER. -/
theorem holdoverLimitEff_over {s : State} (halive : s.alive 5 = true) (hstate : s.rd .timeState 0 = 1)
    (hover : s.rd .holdoverLimit 0 * 1000000000 < s.bound) :
    holdoverLimitEff s = (s.wr .timeState 0 0).raise .timeFree [] := by
  have hlimit : s.overLimit = true := decide_eq_true hover
  simp [holdoverLimitEff, halive, hstate, hlimit]

/-- R94: the end of a slow window. -/
theorem slowWindowEndEff_runs {s : State} (period : Nat) (hruns : s.timeRuns = true) :
    slowWindowEndEff period s = ({ s with
      time := { s.time with oscWin := s.aon.slow }
      aon := { s.aon with switched := s.aon.winSwitch, winSwitch := false } } : State).wr .slowPeriod 0 period := by
  rw [slowWindowEndEff, if_pos hruns]

/-- R96: the bound that the sleep's end sets. -/
def State.sleptBound (s : State) (l : TimeLatch) : Nat :=
  sleepBound l.bound ((s.slowTicks 1).aon.ticks * l.period) ((s.slowTicks 1).sleepRate l)

/-- R95, R96: the state that the sleep's end finds, with display time, the calendar and the bound of the time slept. -/
def State.awoken (s : State) (l : TimeLatch) : State :=
  let bound := s.sleptBound l
  let s := s.slowTicks 1
  let disp := BitVec.ofNat 96 (l.disp.toNat + s.aon.ticks * l.period)
  { s with
    time := { s.time with disp := disp, calOfs := l.calOfs, bound := bound, boundAt := disp.toNat / 4294967296 }
    aon := { s.aon with latch := none } }

/-- R95, R96: what the sleep's end shows of the time slept, and the time state that the bound allows. -/
def State.afterSleep (s : State) (l : TimeLatch) (bound : Nat) : State :=
  let s := s.wr .sleepTicks 0 s.aon.ticks
  let s := if s.rd .timeState 0 = 2 then s.count .lockLosses 0 else s
  let s := { s with aon := { s.aon with ticks := 0 } }
  if l.state = 0 then s.wr .timeState 0 0
  else if s.rd .holdoverLimit 0 * 1000000000 < bound then (s.wr .timeState 0 0).raise .timeFree []
  else (s.wr .timeState 0 1).raise .timeHoldover []

/-- R95, R96: SleepTicks shows the time slept, a LOCKED that the sleep ended is counted, and the state follows the bound. -/
theorem State.afterSleep_shows (s : State) (l : TimeLatch) (bound : Nat) : (s.afterSleep l bound).time = s.time
    ∧ (s.afterSleep l bound).aon.latch = s.aon.latch ∧ (s.afterSleep l bound).aon.ticks = 0
    ∧ (s.afterSleep l bound).rd .sleepTicks 0 = s.aon.ticks
    ∧ (s.afterSleep l bound).rd .lockLosses 0
      = (if s.rd .timeState 0 = 2 then min (s.rd .lockLosses 0 + 1) 0xFFFFFFFF else s.rd .lockLosses 0)
    ∧ (s.afterSleep l bound).rd .timeState 0
      = (if l.state = 0 ∨ s.rd .holdoverLimit 0 * 1000000000 < bound then 0 else 1) := by
  unfold State.afterSleep
  by_cases hlocked : s.rd .timeState 0 = 2 <;> by_cases hfree : l.state = 0
    <;> by_cases hover : s.rd .holdoverLimit 0 * 1000000000 < bound <;> simp [hlocked, hfree, hover]

/-- R95, R96: on the first slow edge after D5 is back the sleep is accounted for. -/
theorem sleepAccountingEff_latched {s : State} {l : TimeLatch} (halive : s.alive 5 = true) (hlatch : s.aon.latch = some l) :
    sleepAccountingEff s = ((s.awoken l).restartPatterns (s.awoken l).now).afterSleep l (s.sleptBound l) := by
  unfold sleepAccountingEff
  simp -zeta only [hlatch, halive, Bool.not_true, Bool.false_eq_true, if_false]
  unfold State.afterSleep State.awoken State.sleptBound
  exact rfl

/-- Settles O8: each command by the lemma about its effect. -/
theorem timeStatesAndSleep : Obligations.TimeStatesAndSleep := by
  unfold Obligations.TimeStatesAndSleep
  refine ⟨⟨?void, ?loss, ?limit, ?window⟩, ?sleep⟩
  case void =>
    intro q l s halive hreqs hdue
    show Host.Outcome.next (delayRespTimeoutEff s) = _
    simp [delayRespTimeoutEff, hreqs, halive, State.untilMono_due s _ hdue]
  case loss =>
    intro s halive hlocked hdue
    refine ⟨_, rfl, ?_⟩
    rw [syncLossEff_due halive hlocked hdue]
    exact State.toHoldover_locked hlocked
  case limit =>
    intro s halive hstate hover
    refine ⟨_, rfl, ?_⟩
    rw [holdoverLimitEff_over halive hstate hover]
    simp
  case window =>
    intro p s hruns
    refine ⟨_, rfl, ?_⟩
    rw [slowWindowEndEff_runs p.toNat hruns]
    simp
  case sleep =>
    intro l s halive hlatch
    obtain ⟨v, hviews⟩ := (s.awoken l).restartPatterns_form (s.awoken l).now
    obtain ⟨htime, hnone, hzero, hticks, hlosses, hstate⟩ := State.afterSleep_shows
      { s.awoken l with views := v } l (s.sleptBound l)
    refine ⟨_, rfl, ?_⟩
    rw [sleepAccountingEff_latched halive hlatch, hviews, htime, hnone, hzero, hticks, hlosses, hstate]
    exact ⟨rfl, rfl, rfl, rfl, rfl, rfl, rfl, rfl⟩

end Sys2Proof.Machine
end

section
/-! PROOF. Launch entries are checked in order, queued, flushed and consumed at their instants (R96, R98 to R101, R105). -/

namespace Sys2Proof.Machine

/-! The queues of the views. -/

/-- R98: what a launch entry names: its instant and its tag. -/
def LaunchEnt.label (x : LaunchEnt) : Nat × Nat := (x.instant, x.tag)

/-- R98: the launches queued for a view, oldest first. -/
def State.labels (s : State) (v : Nat) : List (Nat × Nat) := (s.view v).queue.map LaunchEnt.label

theorem State.instants_of_labels {s : State} {v : Nat} {l : List (Nat × Nat)} (h : s.labels v = l) :
    (s.view v).queue.map LaunchEnt.instant = l.map Prod.fst := by
  rw [← h, State.labels, List.map_map]; rfl

theorem State.tags_of_labels {s : State} {v : Nat} {l : List (Nat × Nat)} (h : s.labels v = l) :
    (s.view v).queue.map LaunchEnt.tag = l.map Prod.snd := by
  rw [← h, State.labels, List.map_map]; rfl

/-- From `s` to `t` the views queue the same launches. -/
def QueueKeep (s t : State) : Prop := ∀ v, t.labels v = s.labels v

section
variable {s t u : State}

theorem QueueKeep.refl (s : State) : QueueKeep s s := fun _ => rfl

theorem QueueKeep.trans (h : QueueKeep s t) (g : QueueKeep t u) : QueueKeep s u := fun v => (g v).trans (h v)

theorem QueueKeep.ite {c : Prop} [Decidable c] (h : QueueKeep s t) (g : QueueKeep s u) :
    QueueKeep s (if c then t else u) := by
  split
  · exact h
  · exact g

theorem QueueKeep.of_views (h : t.views = s.views) : QueueKeep s t := fun v => by
  unfold State.labels State.view; rw [h]

/-- R98: a view's record is set with the launches that it queues. -/
theorem QueueKeep.setView (s : State) (v : Nat) (a : ViewSt) (ha : a.queue.map LaunchEnt.label = s.labels v) :
    QueueKeep s (s.setView v a) := fun w => by
  unfold State.labels
  rw [State.setView_view]
  split
  · rename_i h; rw [ha, h]; rfl
  · rfl

end

/-! What leaves the views as they are. -/

theorem State.forEach_keeps_views {α : Type} {f : State → α → State} (hf : ∀ s a, (f s a).views = s.views) (l : List α)
    (s : State) : (s.forEach l f).views = s.views := by
  induction l generalizing s with
  | nil => rfl
  | cons a l ih => exact (ih (f s a)).trans (hf s a)

@[simp] theorem State.setHandle_views (s : State) (h st : Nat) : (s.setHandle h st).views = s.views := by
  unfold State.setHandle
  extract_lets old s1 s2
  have h1 : s1.views = s.views := by simp [s1, State.showRetire]
  have h2 : s2.views = s.views := by simp only [s2]; split <;> simp [h1]
  split
  · rfl
  · split <;> exact h2

@[simp] theorem State.retire_views (s : State) (h : Nat) : (s.retire h).views = s.views := by
  unfold State.retire State.unallocate
  extract_lets s1
  have h1 : s1.views = (s.setHandle h 0).views := by simp only [s1]; split <;> rfl
  simp [h1]

@[simp] theorem State.leaveShowing_views (s : State) (h : Nat) : (s.leaveShowing h).views = s.views := by
  unfold State.leaveShowing
  repeat' split
  all_goals simp

@[simp] theorem State.squash_views (s : State) (g e : Nat) (v : Option Nat) : (s.squash g e v).views = s.views := by
  unfold State.squash
  simp

@[simp] theorem State.nextGen_views (s : State) : s.nextGen.2.views = s.views := by
  unfold State.nextGen
  simp

/-! A decision leaves the queues (R101). -/

theorem State.decideEntry_keeps (s : State) (v : Nat) (x : LaunchEnt) :
    (s.decideEntry v x).1.views = s.views ∧ (s.decideEntry v x).2.label = x.label := by
  unfold State.decideEntry
  split
  · refine ⟨State.forEach_keeps_views (fun s p => ?_) _ s, rfl⟩
    split
    · exact State.setHandle_views ..
    · rfl
  · exact ⟨by simp, rfl⟩

theorem State.decideList_keeps (s : State) (v t : Nat) (l : List LaunchEnt) :
    (s.decideList v t l).1.views = s.views
      ∧ (s.decideList v t l).2.map LaunchEnt.label = l.map LaunchEnt.label := by
  induction l generalizing s with
  | nil => exact ⟨rfl, rfl⟩
  | cons x l ih =>
    unfold State.decideList
    extract_lets r r2
    have hr : r.1.views = s.views ∧ r.2.label = x.label := by
      simp only [r]
      split
      · exact s.decideEntry_keeps v x
      · exact ⟨rfl, rfl⟩
    obtain ⟨hviews, hlabels⟩ := ih r.1
    exact ⟨hviews.trans hr.1, by simp [r2, hlabels, hr.2]⟩

/-- R156: the frames that launches show change no launch that a view queues. -/
theorem QueueKeep.applyDecided (s : State) (v t : Nat) : QueueKeep s (s.applyDecided v t) := by
  unfold State.applyDecided
  extract_lets a go taken old lost s1 s2
  have h1 : QueueKeep s s1 := by
    refine .setView s v _ ?_
    simp only [State.labels, List.map_map]
    refine List.map_congr_left (fun x _ => ?_)
    simp only [Function.comp]
    split <;> rfl
  exact (h1.trans (.of_views rfl)).trans (.of_views (State.forEach_keeps_views (fun s h => s.leaveShowing_views h) _ s2))

/-- R101: decisions change no launch that a view queues. -/
theorem QueueKeep.decideLaunches (s : State) (v t : Nat) : QueueKeep s (s.decideLaunches v t) := by
  unfold State.decideLaunches
  extract_lets a late r q b s1
  obtain ⟨hstands, -⟩ := s.decideList_keeps v t a.stands
  obtain ⟨hqueue, hlabels⟩ := r.1.decideList_keeps v t a.queue
  have h1 : QueueKeep s s1 := by
    have hq : QueueKeep s q.1 := .of_views (hqueue.trans hstands)
    exact hq.trans (.setView q.1 v _ (hlabels.trans (hq v).symm))
  exact .ite (h1.trans (.applyDecided _ _ _)) h1

/-! A launch is checked and queued (R96, R99). -/

theorem State.launchCheck_claimSpi (s : State) (e : Env) (v instant : Nat) (ok : Bool) :
    (s.claimSpi e).launchCheck v instant ok = s.launchCheck v instant ok := by
  unfold State.claimSpi
  split <;> rfl

/-- R99: an accepted launch joins its view's queue. -/
theorem State.launchAccept_labels (s : State) (v instant tag : Nat) :
    (s.launchAccept v instant tag).labels v = s.labels v ++ [(instant, tag)] := by
  unfold State.launchAccept
  extract_lets begun a s1 s2 s3
  have h1 : s1.labels v = s.labels v ++ [(instant, tag)] := by simp [s1, a, State.showQueue, State.labels, LaunchEnt.label]
  have h3 : QueueKeep s1 s3 := .of_views (by simp [s3, s2])
  have hend : QueueKeep s1 (if s3.running && begun then s3.decideLaunches v instant else s3) :=
    .ite (h3.trans (.decideLaunches _ _ _)) h3
  exact (hend v).trans h1

/-- A string of octets spells itself. -/
theorem valBytes_cut_one (b : Bytes) : valBytes (cut 1 b.length b) = b := by
  induction b with
  | nil => rfl
  | cons x b ih =>
    unfold valBytes at *
    simp [cut, leNat, ih]

theorem launchPush_decode {b : Bytes} (h : b.length = 16) :
    (Ent.launchPush.info.decode b).length = 16 ∧ valBytes (Ent.launchPush.info.decode b) = b := by
  have hcut : Ent.launchPush.info.decode b = cut 1 b.length b := by
    simp [EntInfo.decode, Ent.info, Nat.mod_one]
  have hval := valBytes_cut_one b
  rw [hcut]
  have hlen : (cut 1 b.length b).length = b.length := by simpa [valBytes] using congrArg List.length hval
  exact ⟨hlen.trans h, hval⟩

/-- R99: a write to LaunchPush whose launch fails a check leaves everything. -/
theorem launchPushEff_refused {v : Nat} {b : Bytes} {st : Status} {s : State} (h : b.length = 16)
    (hcheck : s.launchCheck v (field b 0 8) (decide (field b 12 4 = 0)) = some st) :
    launchPushEff v (Ent.launchPush.info.decode b) s = (s, ans st) := by
  obtain ⟨hlen, hval⟩ := launchPush_decode h
  simp [launchPushEff, State.pushLaunch, hval, hlen, hcheck]

/-- R99: a write to LaunchPush whose launch passes its checks queues it. -/
theorem launchPushEff_accepted {v : Nat} {b : Bytes} {s : State} (h : b.length = 16)
    (hcheck : s.launchCheck v (field b 0 8) (decide (field b 12 4 = 0)) = none) :
    launchPushEff v (Ent.launchPush.info.decode b) s = (s.launchAccept v (field b 0 8) (field b 8 4), ans .ok) := by
  obtain ⟨hlen, hval⟩ := launchPush_decode h
  simp [launchPushEff, State.pushLaunch, hval, hlen, hcheck]

/-! A flush and an instant (R98, R101, R105). -/

/-- R105: a flush of every entry empties the queue and counts it. -/
theorem State.flushQueue_all (s : State) (v : Nat) : ((s.flushQueue v (fun _ => true)).view v).queue = []
    ∧ (s.flushQueue v (fun _ => true)).rd .launchFlushes 0
      = min (s.rd .launchFlushes 0 + (s.view v).queue.length) 0xFFFFFFFF
    ∧ (s.flushQueue v (fun _ => true)).rd .lastLaunch v = s.rd .lastLaunch v := by
  simp [State.flushQueue, State.showQueue]

/-- R101: at its instant the oldest launch of a view is consumed. -/
theorem launchInstantEff_due {v : Nat} {x : LaunchEnt} {q : List LaunchEnt} {s : State} (hruns : s.timeRuns = true)
    (hqueue : (s.view v).queue = x :: q) (hdue : x.instant ≤ s.now) :
    (launchInstantEff v s).rd .lastLaunch v = x.instant
      ∧ (launchInstantEff v s).labels v = q.map LaunchEnt.label := by
  unfold launchInstantEff
  rw [hqueue]
  simp only [State.untilDisp_due s _ hdue, hruns, hdue, decide_true, Bool.and_self, if_true]
  generalize hshown : (if s.running then s else s.decideLaunches v x.instant).applyDecided v x.instant = w
  have hkeep : QueueKeep s w := by
    rw [← hshown]
    exact .trans (.ite (.refl s) (QueueKeep.decideLaunches s v _)) (QueueKeep.applyDecided _ _ _)
  have htail : (w.view v).queue.tail.map LaunchEnt.label = q.map LaunchEnt.label := by
    rw [List.map_tail]
    exact (congrArg List.tail (hkeep v)).trans (by rw [State.labels, hqueue]; rfl)
  exact ⟨by simp, by simpa [State.labels, State.showQueue] using htail⟩

/-- R96, R99, R100: the checks of a launch entry, in their order. -/
theorem State.launchCheck_state {s : State} {v instant : Nat} {ok : Bool}
    (htime : s.rd .timeState 0 ≠ 2 ∨ s.aon.latch.isSome = true) (hpermit : s.rd .freeRunPermit 0 ≠ 1) :
    s.launchCheck v instant ok = some .state := by
  unfold State.launchCheck
  rw [if_pos ⟨htime, hpermit⟩]

/-- R96, R99: a launch that the time lets pass comes to the checks of its value. -/
theorem State.launchCheck_timed {s : State} {v instant : Nat} {ok : Bool}
    (htime : (s.rd .timeState 0 = 2 ∧ s.aon.latch = none) ∨ s.rd .freeRunPermit 0 = 1) :
    s.launchCheck v instant ok
      = if !ok || decide (s.rd .viewCount 0 ≤ v) || !(s.geoAt instant).isBoundary instant
          || decide (instant ≤ s.lastInstant v) then some .range
        else if 8 ≤ (s.view v).queue.length then some .busy
        else if instant * 4294967296 < s.dispFine + s.horizon then some .late
        else none := by
  unfold State.launchCheck
  refine if_neg ?_
  rintro ⟨hstate, hpermit⟩
  rcases htime with ⟨hlocked, hlatch⟩ | hfree
  · rcases hstate with h | h
    · exact h hlocked
    · simp [hlatch] at h
  · exact hpermit hfree

/-- R99, R100: a launch whose value is good comes to the checks of the queue and of the horizon. -/
theorem State.launchCheck_ranged {s : State} {v instant : Nat} {ok : Bool}
    (htime : (s.rd .timeState 0 = 2 ∧ s.aon.latch = none) ∨ s.rd .freeRunPermit 0 = 1) (hok : ok = true)
    (hview : v < s.rd .viewCount 0) (hframe : (s.geoAt instant).isBoundary instant = true)
    (hlast : s.lastInstant v < instant) :
    s.launchCheck v instant ok
      = if 8 ≤ (s.view v).queue.length then some .busy
        else if instant * 4294967296 < s.dispFine + s.horizon then some .late
        else none := by
  rw [State.launchCheck_timed htime]
  exact if_neg (by simp [hok, hview, hframe, hlast])

/-- Settles O9: each command by the lemma about its effect, and the checks one after another. -/
theorem launchesAreQueued : Obligations.LaunchesAreQueued := by
  unfold Obligations.LaunchesAreQueued
  refine ⟨⟨?accepted, ?refused, ?flush, ?instant⟩, ?checks⟩
  case accepted =>
    intro e v b s hmay hlen hzero hcheck
    refine ⟨_, rfl, ?_⟩
    have haccepted := launchPushEff_accepted (s := s.claimSpi e) (v := v) hlen
      (by rw [State.launchCheck_claimSpi, hzero]; exact hcheck)
    rw [State.writeCmd_run hmay, haccepted]
    have hlabels := (s.claimSpi e).launchAccept_labels v (field b 0 8) (field b 8 4)
    rw [State.finish_view]
    refine ⟨?_, ?_, State.finish_answered _ _ _ _⟩
    · rw [State.instants_of_labels hlabels]
      simp [State.labels, LaunchEnt.label, Function.comp_def]
    · rw [State.tags_of_labels hlabels]
      simp [State.labels, LaunchEnt.label, Function.comp_def]
  case refused =>
    intro e v b st s hmay hlen hcheck
    refine ⟨_, rfl, ?_⟩
    rw [State.writeCmd_run hmay, launchPushEff_refused hlen ((State.launchCheck_claimSpi ..).trans hcheck)]
    exact ⟨by simp, State.finish_answered _ _ _ _⟩
  case flush =>
    intro e v s hmay
    obtain ⟨hempty, hcount, hlast⟩ := (s.claimSpi e).flushQueue_all v
    have hdecode : Ent.launchFlush.info.decode [1] = [1] := by simp [EntInfo.decode, Ent.info, cut, leNat]
    refine ⟨_, rfl, ?_⟩
    rw [State.writeCmd_run hmay, hdecode]
    simp only [launchFlushEff, if_true]
    rw [State.finish_view, State.finish_rd _ _ _ _ _ _ (by decide), State.finish_rd _ _ _ _ _ _ (by decide)]
    refine ⟨hempty, by simpa using hcount, by simpa using hlast, State.finish_answered _ _ _ _⟩
  case instant =>
    intro v x q s hruns hqueue hdue
    obtain ⟨hlast, hlabels⟩ := launchInstantEff_due hruns hqueue hdue
    refine ⟨_, rfl, hlast, ?_⟩
    rw [State.instants_of_labels hlabels, List.map_map]
    rfl
  case checks =>
    intro v instant ok s
    refine ⟨State.launchCheck_state, fun htime => ⟨fun hbad => ?_, fun hok hview hframe hlast => ⟨fun hfull => ?_,
      fun hroom hlate => ?_, fun hroom hearly => ?_⟩⟩⟩
    · rw [State.launchCheck_timed htime]
      exact if_pos (by rcases hbad with h | h | h | h <;> simp [h])
    · rw [State.launchCheck_ranged htime hok hview hframe hlast, if_pos hfull]
    · rw [State.launchCheck_ranged htime hok hview hframe hlast, if_neg (Nat.not_le.2 hroom), if_pos hlate]
    · rw [State.launchCheck_ranged htime hok hview hframe hlast, if_neg (Nat.not_le.2 hroom), if_neg (Nat.not_lt.2 hearly)]

end Sys2Proof.Machine
end

section
/-! PROOF. Captures of SYNCI edges and the pulses of SYNCO (R102, R104). -/

namespace Sys2Proof.Machine

/-! The record of a SYNCI input. -/

theorem State.syncI_of_syncIn {s t : State} (h : t.syncIn = s.syncIn) (i : Nat) : t.syncI i = s.syncI i := by
  unfold State.syncI; rw [h]

theorem State.setSyncI_syncI (s : State) (i : Nat) (a : SyncIn) : (s.setSyncI i a).syncI i = a := by
  simp [State.syncI, State.setSyncI]

/-- R102: an enabled edge that finds room is captured. -/
theorem synciEdgeEff_captures {i : Nat} {f : Bool} {stamp : BitVec 96} {s : State} (halive : s.alive 5 = true)
    (henabled : (s.rd .captureEnable i).testBit (if f then 1 else 0) = true) (hroom : (s.syncI i).caps.length < 16) :
    synciEdgeEff i f stamp s = (s.setSyncI i { s.syncI i with caps := (s.syncI i).caps ++ [{
      falling := f, stamp := stamp, cal := (stamp.toNat : Int) + s.time.calOfs, state := s.rd .timeState 0 }] }).wr
        .captureCount i ((s.syncI i).caps.length + 1) := by
  unfold synciEdgeEff
  rw [if_neg (by simp only [halive, henabled]; decide)]
  dsimp only
  rw [if_pos hroom, State.showCaptures, State.setSyncI_syncI, List.length_append]
  rfl

/-- R102: an enabled edge that finds 16 captures is counted. -/
theorem synciEdgeEff_overflows {i : Nat} {f : Bool} {stamp : BitVec 96} {s : State} (halive : s.alive 5 = true)
    (henabled : (s.rd .captureEnable i).testBit (if f then 1 else 0) = true) (hfull : 16 ≤ (s.syncI i).caps.length) :
    ((synciEdgeEff i f stamp s).syncI i).caps = (s.syncI i).caps
      ∧ (synciEdgeEff i f stamp s).rd .captureOverflows i = min (s.rd .captureOverflows i + 1) 0xFFFFFFFF := by
  unfold synciEdgeEff
  rw [if_neg (by simp only [halive, henabled]; decide)]
  dsimp only
  rw [if_neg (Nat.not_lt.2 hfull)]
  have hcounted : (s.count .captureOverflows i).syncI i = s.syncI i := State.syncI_of_syncIn (State.count_syncIn ..) i
  have hread : (s.count .captureOverflows i).rd .captureOverflows i = min (s.rd .captureOverflows i + 1) 0xFFFFFFFF := by
    simp
  split
  · exact ⟨congrArg SyncIn.caps hcounted, hread⟩
  · refine ⟨?_, ?_⟩
    · rw [State.syncI_of_syncIn (State.raise_syncIn ..), State.setSyncI_syncI]
    · rw [State.raise_rd _ _ _ _ _ (by decide) (by decide) (by decide)]
      exact hread

/-- R102: the oldest capture is answered and removed. -/
theorem capturePopBody_pops {i off : Nat} {c : Capt} {q : List Capt} {s : State} (hon : s.on 5 = true)
    (hcaps : (s.syncI i).caps = c :: q) :
    ∃ t r, capturePopBody i off s = (t, .now r) ∧ (t.syncI i).caps = q ∧ r.status = .ok
      ∧ r.body = ((c.bytes i).drop off).take 4076 := by
  unfold capturePopBody
  rw [if_neg (by simp [hon])]
  dsimp only
  rw [hcaps]
  refine ⟨_, _, rfl, ?_, rfl, rfl⟩
  have hsync : ((s.setSyncI i { s.syncI i with caps := q, told := false }).showCaptures i).syncI i
      = { s.syncI i with caps := q, told := false } :=
    (State.syncI_of_syncIn (State.wr_syncIn ..) i).trans (State.setSyncI_syncI ..)
  exact congrArg SyncIn.caps hsync

/-- R104: the next pulse of an output begins. -/
theorem syncoPulseEff_begins {o at_ : Nat} {vals : List Nat} {pres : Bool} {s : State} (hruns : s.timeRuns = true)
    (hidle : (SMap.get s.syncOut o {}).active = false)
    (hnext : s.pulseFrom o (SMap.get s.syncOut o {}).single s.dispFine (SMap.get s.syncOut o {}).hist
      = some (at_, vals, pres)) :
    (syncoPulseEff o true s).regs = s.regs ∧ SMap.get (syncoPulseEff o true s).syncOut o {}
      = { SMap.get s.syncOut o {} with
          active := true, level := decide (vals.getD 6 0 = 0), began := placed at_
          ends := placed (at_ + (ofPs (vals.getD 3 0)).toNat)
          single := (SMap.get s.syncOut o {}).single || (pres && decide (vals.getD 0 0 = 1)) } := by
  unfold syncoPulseEff
  simp [hruns, hidle, hnext]

/-- R104: the pulse of an output ends. -/
theorem syncoPulseEff_ends {o : Nat} {s : State} (hruns : s.timeRuns = true)
    (hactive : (SMap.get s.syncOut o {}).active = true) :
    (syncoPulseEff o false s).regs = s.regs ∧ (SMap.get (syncoPulseEff o false s).syncOut o {}).active = false := by
  unfold syncoPulseEff
  simp [hruns, hactive]

/-- Settles O10: each command by the lemma about its effect. -/
theorem syncPins : Obligations.SyncPins := by
  unfold Obligations.SyncPins
  refine ⟨?captures, ?overflows, ?pops, ?begins, ?ends⟩
  case captures =>
    intro i f stamp s halive henabled hroom
    exact congrArg Host.Outcome.next (synciEdgeEff_captures halive henabled hroom)
  case overflows =>
    intro i f stamp s halive henabled hfull
    exact ⟨_, rfl, synciEdgeEff_overflows halive henabled hfull⟩
  case pops =>
    rintro e i c q s ⟨hjudge, hfree⟩ hon hcaps
    have hclaim : ((s.claimSpi e).syncI i).caps = c :: q := by
      rw [State.syncI_of_syncIn (State.claimSpi_syncIn ..), hcaps]
    obtain ⟨t, r, hbody, hrest, hok, hbytes⟩ := capturePopBody_pops (off := 0) (s := s.claimSpi e) (by simpa using hon) hclaim
    refine ⟨_, rfl, ?_⟩
    rw [State.request_run _ _ _ _ _ hjudge hfree, reqOf_env, hbody]
    refine ⟨?_, fun hn => ⟨r, State.finish_rep _ _ _ _ hn, hok, hbytes⟩⟩
    rw [State.syncI_of_syncIn (State.finish_syncIn ..)]
    exact hrest
  case begins =>
    intro o at_ vals pres s hruns hidle hnext
    obtain ⟨hregs, hpulse⟩ := syncoPulseEff_begins hruns hidle hnext
    refine ⟨_, rfl, ?_⟩
    rw [hpulse]
    exact ⟨rfl, rfl, rfl, rfl, rfl, hregs⟩
  case ends =>
    intro o s hruns hactive _
    obtain ⟨hregs, hidle⟩ := syncoPulseEff_ends hruns hactive
    exact ⟨_, rfl, hidle, hregs⟩

end Sys2Proof.Machine
end

section
/-! PROOF. The frame of the commands of time, launches, contexts, buffers and captures: what each shared operation may
change. -/

namespace Sys2Proof.Machine

/-! Frames. -/

/-- What a frame lets change beside its entries. -/
structure Moves where
  quarry : Bool
  modl : Bool
  bufs : Bool
  cap : Bool

/-- No entry belongs to one place alone. -/
def anyPlace (_ : Ent) : Bool := false

/-- An entry of the contexts. -/
def ofCtx (x : Ent) : Bool := ctxRecordEnts.contains x || ctxCounterEnts.contains x

/-- An entry of the buffer handles. -/
def ofHandle (x : Ent) : Bool := (handleEnts.contains x && decide (x ≠ .retirePendingCount)) || decide (x = .pageCount)

/-- Place `i` of an entry belongs to a list of entries: the entry is in it, and where it is one that `k` names the place is that
of the context or the handle `n`. -/
def reaches (l : List Ent) (k : Ent → Bool) (n : Nat) (x : Ent) (i : Nat) : Bool :=
  l.contains x && (!k x || decide (ownerOf x i = n))

/-- From `s` to `t` the entries of a list alone change, those that `k` names at the place `n` alone, and the Quarry, the
modulator, the buffers' pages and the capture where `m` lets them. -/
structure VideoFrame (l : List Ent) (k : Ent → Bool) (n : Nat) (m : Moves) (s t : State) : Prop where
  rdv : ∀ x i, reaches l k n x i = false → t.rdv x i = s.rdv x i
  quarry : m.quarry = false → t.quarry = s.quarry
  mram : t.secure.mram = s.secure.mram
  modl : m.modl = false → t.modl = s.modl
  bufs : m.bufs = false → t.bufs = s.bufs
  cap : m.cap = false → t.cap = s.cap

section
variable {l l' : List Ent} {k k' : Ent → Bool} {n n' : Nat} {m : Moves} {s t u : State}

/-- What touches no entry, no memory, no modulator, no page and no capture. -/
theorem VideoFrame.quiet (hr : t.regs = s.regs := by rfl) (hq : t.quarry = s.quarry := by rfl)
    (hm : t.secure.mram = s.secure.mram := by rfl) (hd : t.modl = s.modl := by rfl) (hb : t.bufs = s.bufs := by rfl)
    (hc : t.cap = s.cap := by rfl) : VideoFrame l k n m s t :=
  ⟨fun x i _ => by unfold State.rdv; rw [hr], fun _ => hq, hm, fun _ => hd, fun _ => hb, fun _ => hc⟩

theorem VideoFrame.refl (s : State) : VideoFrame l k n m s s := .quiet

theorem VideoFrame.trans (h : VideoFrame l k n m s t) (g : VideoFrame l k n m t u) : VideoFrame l k n m s u :=
  ⟨fun x i hx => (g.rdv x i hx).trans (h.rdv x i hx), fun hq => (g.quarry hq).trans (h.quarry hq), g.mram.trans h.mram,
    fun hm => (g.modl hm).trans (h.modl hm), fun hb => (g.bufs hb).trans (h.bufs hb), fun hc => (g.cap hc).trans (h.cap hc)⟩

/-- A longer list. -/
theorem VideoFrame.mono (h : VideoFrame l' k n m s t) (hl : l' ⊆ l := by decide) : VideoFrame l k n m s t := by
  refine ⟨fun x i hx => h.rdv x i ?_, h.quarry, h.mram, h.modl, h.bufs, h.cap⟩
  simp only [reaches, Bool.and_eq_false_iff, List.contains_eq_mem, decide_eq_false_iff_not] at hx ⊢
  exact hx.imp (fun g hm => g (hl hm)) id

/-- Entries at any place, which the frame's place leaves free. -/
theorem VideoFrame.widen (h : VideoFrame l' anyPlace 0 m s t)
    (hl : l'.all (fun x => l.contains x && !k x) = true := by decide) : VideoFrame l k n m s t := by
  refine ⟨fun x i hx => h.rdv x i ?_, h.quarry, h.mram, h.modl, h.bufs, h.cap⟩
  have hout : x ∉ l' := fun hmem => by
    have hfree := List.all_eq_true.1 hl x hmem
    simp only [Bool.and_eq_true, Bool.not_eq_true'] at hfree
    simp [reaches, hfree.2] at hx
    exact hx (by simpa using hfree.1)
  simp [reaches, hout]

/-- A frame of one place is one of any. -/
theorem VideoFrame.loosen (h : VideoFrame l' k n m s t) (hl : l' ⊆ l := by decide) : VideoFrame l anyPlace 0 m s t := by
  refine .mono ⟨fun x i hx => h.rdv x i ?_, h.quarry, h.mram, h.modl, h.bufs, h.cap⟩ hl
  have hout : l'.contains x = false := by simpa [reaches, anyPlace] using hx
  rw [reaches, hout, Bool.false_and]

/-- One more operation, of entries at any place. -/
theorem VideoFrame.then (h : VideoFrame l k n m s t) (g : VideoFrame l' anyPlace 0 m t u)
    (hl : l'.all (fun x => l.contains x && !k x) = true := by decide) : VideoFrame l k n m s u := h.trans (g.widen hl)

/-- One more operation, of the frame's own place. -/
theorem VideoFrame.thenOwn (h : VideoFrame l k n m s t) (g : VideoFrame l' k n m t u) (hl : l' ⊆ l := by decide) :
    VideoFrame l k n m s u := h.trans (g.mono hl)

theorem VideoFrame.ite {c : Prop} [Decidable c] (h : VideoFrame l k n m s t) (g : VideoFrame l k n m s u) :
    VideoFrame l k n m s (if c then t else u) := by
  split
  · exact h
  · exact g

theorem VideoFrame.iteFst {α : Type} {c : Prop} [Decidable c] {a b : State × α} (h : VideoFrame l k n m s a.1)
    (g : VideoFrame l k n m s b.1) : VideoFrame l k n m s (if c then a else b).1 := by
  split
  · exact h
  · exact g

/-- The state beside an answer. -/
theorem VideoFrame.pair {α : Type} {a : α} (h : VideoFrame l k n m s t) : VideoFrame l k n m s (t, a).1 := h

theorem VideoFrame.forEach {α : Type} {f : State → α → State} (a : List α)
    (hf : ∀ s, ∀ j ∈ a, VideoFrame l k n m s (f s j)) (s : State) : VideoFrame l k n m s (s.forEach a f) := by
  induction a generalizing s with
  | nil => exact .refl s
  | cons j a ih =>
    exact (hf s j List.mem_cons_self).trans (ih (fun s i hi => hf s i (List.mem_cons_of_mem _ hi)) (f s j))

/-- A frame of ports and the network, which may change no entry of a place's own. -/
theorem VideoFrame.of_frameBy (h : FrameBy l' 0 false false s t) (hb : m.bufs = false → t.bufs = s.bufs)
    (hc : m.cap = false → t.cap = s.cap) (hl : l'.all (fun x => l.contains x && !k x) = true := by decide) :
    VideoFrame l k n m s t := by
  refine .widen (l' := l') ⟨fun x i hx => h.rdv x i ?_, fun _ => h.quarry rfl, h.mram rfl, fun _ => h.modl, hb, hc⟩ hl
  have hout : l'.contains x = false := by simpa [reaches, anyPlace] using hx
  rw [changes, hout, Bool.false_and]

theorem VideoFrame.wrvAt (s : State) (x : Ent) (i : Nat) (v : Val) (hx : reaches l k n x i = true) :
    VideoFrame l k n m s (s.wrv x i v) := by
  refine ⟨fun y j hy => ?_, fun _ => by simp, by simp, fun _ => by simp, fun _ => by simp, fun _ => by simp⟩
  rw [State.wrv_rdv, if_neg]
  rintro ⟨rfl, hj⟩
  have : reaches l k n x j = reaches l k n x i := by unfold reaches ownerOf; rw [hj]
  rw [this, hx] at hy
  cases hy

theorem VideoFrame.wrv (s : State) (x : Ent) (i : Nat) (v : Val) : VideoFrame [x] anyPlace 0 m s (s.wrv x i v) :=
  .wrvAt s x i v (by simp [reaches, anyPlace])

/-- A write at the frame's own place. -/
theorem VideoFrame.wrvOwn (s : State) (x : Ent) (i : Nat) (v : Val) (hx : laneEnts.contains x = false := by decide) :
    VideoFrame [x] k (i % 65536) m s (s.wrv x i v) :=
  .wrvAt s x i v (by
    have howner : ownerOf x i = i % 65536 := by unfold ownerOf; rw [hx]; exact Nat.div_one _
    simp [reaches, howner])

theorem VideoFrame.wr (s : State) (x : Ent) (i j : Nat) : VideoFrame [x] anyPlace 0 m s (s.wr x i j) := .wrv ..

theorem VideoFrame.count (s : State) (x : Ent) (i : Nat) : VideoFrame [x] anyPlace 0 m s (s.count x i) := .wrv ..

theorem VideoFrame.countBy (s : State) (x : Ent) (i j : Nat) : VideoFrame [x] anyPlace 0 m s (s.countBy x i j) := .wrv ..

theorem VideoFrame.wrOwn (s : State) (x : Ent) (i j : Nat) (hx : laneEnts.contains x = false := by decide) :
    VideoFrame [x] k (i % 65536) m s (s.wr x i j) := .wrvOwn s x i _ hx

theorem VideoFrame.countOwn (s : State) (x : Ent) (i : Nat) (hx : laneEnts.contains x = false := by decide) :
    VideoFrame [x] k (i % 65536) m s (s.count x i) := .wrvOwn s x i _ hx

theorem VideoFrame.raise (s : State) (e : Event) (names : List Nat) :
    VideoFrame eventEnts anyPlace 0 m s (s.raise e names) := .of_frameBy (.raise ..) (fun _ => by simp) (fun _ => by simp)

theorem VideoFrame.untilDisp (s : State) (d : Nat) : VideoFrame l k n m s (s.untilDisp d) :=
  .quiet (by simp) (by simp) (by simp) (by simp) (by simp) (by simp)

theorem VideoFrame.elapse (s : State) (d : Nat) : VideoFrame l k n m s (s.elapse d) :=
  .quiet (by simp) (by simp) (by simp) (by simp) (by simp) (by simp)

theorem VideoFrame.setView (s : State) (v : Nat) (a : ViewSt) : VideoFrame l k n m s (s.setView v a) := .quiet

theorem VideoFrame.setCtx (s : State) (c : Nat) (a : Ctx) : VideoFrame l k n m s (s.setCtx c a) := .quiet

theorem VideoFrame.setBuf (hb : m.bufs = true) (s : State) (h : Nat) (a : BufX) : VideoFrame l k n m s (s.setBuf h a) :=
  ⟨fun _ _ _ => rfl, fun _ => rfl, rfl, fun _ => rfl, (fun g => nomatch hb.symm.trans g), fun _ => rfl⟩

/-- What the count of stalls may change. -/
def stallEnts : List Ent := [.bankConflictStalls, .sameWordConflicts]

theorem VideoFrame.stalled (s : State) : VideoFrame stallEnts anyPlace 0 m s s.stalled := by
  unfold State.stalled
  extract_lets j s1
  exact .then (.trans .quiet (.forEach _ (fun s q _ => .mono (.countBy ..)) s1)) (.countBy ..)

/-! Buffers (R154 to R156). -/

/-- What the end of a buffer's showing may change. -/
def releaseEnts : List Ent := handleEnts ++ eventEnts ++ [.pageCount]

theorem VideoFrame.setHandleOwn (s : State) (h st : Nat) :
    VideoFrame handleEnts ofHandle (h % 65536) m s (s.setHandle h st) := by
  unfold State.setHandle
  extract_lets old s1 s2
  have h1 : VideoFrame handleEnts ofHandle (h % 65536) m s s1 := .then (.thenOwn (.mono (.wrOwn ..)) (.wrOwn ..)) (.wr ..)
  have h2 : VideoFrame handleEnts ofHandle (h % 65536) m s s2 := .ite (h1.thenOwn (.wrOwn ..)) h1
  exact .ite (.refl s) (.ite (h2.trans .quiet) h2)

theorem VideoFrame.setHandle (s : State) (h st : Nat) : VideoFrame handleEnts anyPlace 0 m s (s.setHandle h st) :=
  .loosen (.setHandleOwn ..)

theorem VideoFrame.makeReady (s : State) (h tag : Nat) : VideoFrame handleEnts anyPlace 0 m s (s.makeReady h tag) :=
  .then (.setHandle ..) (.wr ..)

theorem VideoFrame.unallocateOwn (hb : m.bufs = true) (s : State) (h : Nat) :
    VideoFrame [.pageCount] ofHandle (h % 65536) m s (s.unallocate h) := by
  unfold State.unallocate
  extract_lets s1
  have h1 : VideoFrame [.pageCount] ofHandle (h % 65536) m s s1 := .ite (.refl s) .quiet
  exact .thenOwn (h1.trans (.setBuf hb ..)) (.wrOwn ..)

theorem VideoFrame.retire (hb : m.bufs = true) (s : State) (h : Nat) :
    VideoFrame releaseEnts anyPlace 0 m s (s.retire h) :=
  .then (.then (.mono (.setHandle ..)) (.loosen (VideoFrame.unallocateOwn hb ..) (List.Subset.refl _))) (.raise ..)

theorem VideoFrame.leaveShowing (hb : m.bufs = true) (s : State) (h : Nat) :
    VideoFrame releaseEnts anyPlace 0 m s (s.leaveShowing h) := by
  unfold State.leaveShowing
  exact .ite (.refl s) (.ite (.mono (.setHandle ..)) (.ite (.retire hb ..) (.refl s)))

/-! Launches (R98 to R101). -/

/-- What the decision of a launch may change. -/
def decideEnts : List Ent := releaseEnts ++ [.launchMisses]

theorem VideoFrame.decideEntry (s : State) (v : Nat) (x : LaunchEnt) :
    VideoFrame decideEnts anyPlace 0 m s (s.decideEntry v x).1 := by
  unfold State.decideEntry
  split
  · exact .forEach _ (fun s p _ => .ite (.mono (.setHandle ..)) (.refl s)) s
  · exact .then (.mono (.count ..)) (.raise ..)

theorem VideoFrame.decideList (s : State) (v t : Nat) (q : List LaunchEnt) :
    VideoFrame decideEnts anyPlace 0 m s (s.decideList v t q).1 := by
  induction q generalizing s with
  | nil => exact .refl s
  | cons x q ih =>
    unfold State.decideList
    extract_lets r r2
    have h1 : VideoFrame decideEnts anyPlace 0 m s r.1 := .iteFst (.decideEntry ..) (.refl s)
    exact h1.trans (ih r.1)

theorem VideoFrame.applyDecided (hb : m.bufs = true) (s : State) (v t : Nat) :
    VideoFrame releaseEnts anyPlace 0 m s (s.applyDecided v t) := by
  unfold State.applyDecided
  extract_lets a go taken old lost s1 s2
  have h2 : VideoFrame releaseEnts anyPlace 0 m s s2 := .quiet
  exact h2.trans (.forEach _ (fun s h _ => .leaveShowing hb s h) s2)

theorem VideoFrame.decideLaunches (hb : m.bufs = true) (s : State) (v t : Nat) :
    VideoFrame decideEnts anyPlace 0 m s (s.decideLaunches v t) := by
  unfold State.decideLaunches
  extract_lets a late r q b s1
  have h1 : VideoFrame decideEnts anyPlace 0 m s s1 := .trans (.trans (.decideList ..) (.decideList ..)) (.setView ..)
  exact .ite (h1.then (.applyDecided hb ..)) h1

theorem VideoFrame.flushQueue (s : State) (v : Nat) (drop : LaunchEnt → Bool) :
    VideoFrame [.queueDepth, .launchFlushes] anyPlace 0 m s (s.flushQueue v drop) :=
  .then (.then (.setView ..) (.wr _ .queueDepth ..)) (.countBy ..)

theorem VideoFrame.nextGen (hd : m.modl = true) (s : State) : VideoFrame [.generation] anyPlace 0 m s s.nextGen.2 := by
  have hmove : VideoFrame [.generation] anyPlace 0 m s { s with modl := { s.modl with gen := s.modl.gen + 1 } } :=
    ⟨fun _ _ _ => rfl, fun _ => rfl, rfl, (fun g => nomatch hd.symm.trans g), fun _ => rfl, fun _ => rfl⟩
  exact hmove.trans (.wr ..)

theorem VideoFrame.squash (hd : m.modl = true) (s : State) (g e : Nat) (v : Option Nat) :
    VideoFrame [.squashedEntries] anyPlace 0 m s (s.squash g e v) := by
  unfold State.squash
  extract_lets now cutLed lanes j
  have hmove : VideoFrame [.squashedEntries] anyPlace 0 m s { s with modl := { s.modl with lanes := lanes } } :=
    ⟨fun _ _ _ => rfl, fun _ => rfl, rfl, (fun g => nomatch hd.symm.trans g), fun _ => rfl, fun _ => rfl⟩
  exact hmove.trans (.countBy ..)

/-- What a launch that is queued may change. -/
def pushEnts : List Ent := decideEnts ++ [.generation, .queueDepth, .squashedEntries]

theorem VideoFrame.launchAccept (hb : m.bufs = true) (hd : m.modl = true) (s : State) (v instant tag : Nat) :
    VideoFrame pushEnts anyPlace 0 m s (s.launchAccept v instant tag) := by
  unfold State.launchAccept
  extract_lets begun a s1 s2 s3
  have h1 : VideoFrame pushEnts anyPlace 0 m s s1 := .then (.setView ..) (.wr _ .queueDepth ..)
  have h3 : VideoFrame pushEnts anyPlace 0 m s s3 := .then (h1.then (.nextGen hd ..)) (.squash hd ..)
  exact .ite (h3.then (.decideLaunches hb ..)) h3

theorem VideoFrame.pushLaunch (hb : m.bufs = true) (hd : m.modl = true) (s : State) (v instant tag : Nat) (ok : Bool) :
    VideoFrame pushEnts anyPlace 0 m s (s.pushLaunch v instant tag ok).1 := by
  unfold State.pushLaunch
  split
  · exact .refl s
  · exact .launchAccept hb hd ..

/-- What a launch's instant may change. -/
def instantEnts : List Ent := decideEnts ++ [.lastLaunch, .queueDepth]

theorem launchInstantEff_frame (hb : m.bufs = true) (v : Nat) (s : State) :
    VideoFrame instantEnts anyPlace 0 m s (launchInstantEff v s) := by
  unfold launchInstantEff
  split
  · exact .ite (.refl s) (.mono (.applyDecided hb ..))
  · rename_i x _ _
    extract_lets s1 s2 a wait
    have h1 : VideoFrame instantEnts anyPlace 0 m s s1 := .untilDisp ..
    have hd : VideoFrame instantEnts anyPlace 0 m s (if s1.running then s1 else s1.decideLaunches v x.instant) :=
      .ite h1 (h1.then (.decideLaunches hb ..))
    have h2 : VideoFrame instantEnts anyPlace 0 m s s2 := hd.then (.applyDecided hb ..)
    exact .ite (.then (.then (h2.trans (.setView ..)) (.wr _ .queueDepth ..)) (.wr ..)) h1

end
end Sys2Proof.Machine
end

section
/-! PROOF. The frame of the commands of time, launches, contexts, buffers and captures: contexts, video units and captures
(R107 to R128, R142, R182). -/

namespace Sys2Proof.Machine

section
variable {l : List Ent} {k : Ent → Bool} {n : Nat} {m : Moves}

/-! Contexts (R107 to R111, R119 to R124). -/

theorem VideoFrame.showCtxCounts (s : State) :
    VideoFrame [.openCount, .boundCount, .parkedCount] anyPlace 0 m s s.showCtxCounts :=
  .then (.then (.mono (.wr ..)) (.wr ..)) (.wr ..)

theorem VideoFrame.setCtxState (s : State) (c st : Nat) :
    VideoFrame ctxStateEnts ofCtx (c % 65536) m s (s.setCtxState c st) :=
  .then (.trans (.mono (.wrOwn ..)) (.setCtx ..)) (.showCtxCounts ..)

/-- What the parking of a context may change. -/
def parkEnts : List Ent := ctxStateEnts ++ handleEnts ++ eventEnts ++ [.framesIncomplete]

theorem VideoFrame.abandon (s : State) (c : Nat) : VideoFrame parkEnts ofCtx (c % 65536) m s (s.abandon c) := by
  unfold State.abandon
  extract_lets b s1 a s2
  have h1 : VideoFrame parkEnts ofCtx (c % 65536) m s s1 := .mono (.setCtxState ..)
  have h2 : VideoFrame parkEnts ofCtx (c % 65536) m s s2 := .trans (h1.then (.setHandle ..)) (.setCtx ..)
  exact .ite h1 (.then (h2.thenOwn (.countOwn ..)) (.raise ..))

theorem VideoFrame.parkCtx (s : State) (c cause : Nat) : VideoFrame parkEnts ofCtx (c % 65536) m s (s.parkCtx c cause) := by
  unfold State.parkCtx
  extract_lets s1
  have h1 : VideoFrame parkEnts ofCtx (c % 65536) m s s1 := .ite (.abandon ..) (.refl s)
  exact .then (h1.thenOwn (.setCtxState ..)) (.raise ..)

theorem VideoFrame.clearRecord (s : State) (c : Nat) :
    VideoFrame (ctxRecordEnts ++ ctxStateEnts) ofCtx (c % 65536) m s (s.clearRecord c) := by
  refine .then (.trans (.mono (.forEach (l := ctxRecordEnts) _ (fun s x hx => ?_) s)) (.setCtx ..)) (.showCtxCounts ..)
  have hlane : ∀ y ∈ ctxRecordEnts, laneEnts.contains y = false := by decide
  exact .mono (.wrvOwn s x c _ (hlane x hx)) (List.cons_subset.2 ⟨hx, List.nil_subset _⟩)

/-- What the end of a context may change. -/
def evictEnts : List Ent := parkEnts ++ ctxRecordEnts

theorem VideoFrame.evict (s : State) (c cause : Nat) : VideoFrame evictEnts ofCtx (c % 65536) m s (s.evict c cause) := by
  unfold State.evict
  extract_lets s1
  have h1 : VideoFrame evictEnts ofCtx (c % 65536) m s s1 := .ite (.mono (.abandon ..)) (.refl s)
  exact .then (.trans (h1.thenOwn (.clearRecord ..)) (.setCtx ..)) (.raise ..)

theorem bindEff_frame (c : Nat) (s : State) : VideoFrame evictEnts ofCtx (c % 65536) m s (bindEff c s).1 := by
  unfold bindEff
  extract_lets st s1 a s2 s3
  refine .iteFst (.refl s) (.iteFst (.refl s) ?_)
  split
  · exact .refl s
  · have h1 : VideoFrame evictEnts ofCtx (c % 65536) m s s1 := .ite (.refl s) (.mono (.wrOwn ..))
    have h3 : VideoFrame evictEnts ofCtx (c % 65536) m s s3 :=
      .thenOwn (.thenOwn (h1.trans (.setCtx ..)) (.wrOwn ..)) (.wrOwn ..)
    exact .pair (.then (h3.thenOwn (.setCtxState ..)) (.raise ..))

theorem parkEff_frame (c : Nat) (s : State) : VideoFrame evictEnts ofCtx (c % 65536) m s (parkEff c s).1 := by
  unfold parkEff
  exact .iteFst (.pair (.mono (.parkCtx ..))) (.refl s)

theorem releaseEff_frame (c : Nat) (s : State) : VideoFrame evictEnts ofCtx (c % 65536) m s (releaseEff c s).1 := by
  unfold releaseEff
  exact .iteFst (.refl s) (.pair (.evict ..))

theorem ctxCommandEff_frame (c : Nat) (v : Val) (s : State) :
    VideoFrame evictEnts ofCtx (c % 65536) m s (ctxCommandEff c v s).1 := by
  unfold ctxCommandEff
  exact .iteFst (bindEff_frame ..) (.iteFst (parkEff_frame ..) (.iteFst (releaseEff_frame ..) (.refl s)))

/-- What a write of a binding field may change. -/
def bindingEnts (f : CtxField) : List Ent := [fieldEnt f] ++ [.frameBytes, .unitCount]

theorem fieldEnt_lane (f : CtxField) : laneEnts.contains (fieldEnt f) = false := by
  cases f <;> decide

theorem ctxFieldEff_frame (c : Nat) (f : CtxField) (v : Val) (s : State) :
    VideoFrame (bindingEnts f) ofCtx (c % 65536) m s (ctxFieldEff c f v s).1 := by
  have hfield : VideoFrame (bindingEnts f) ofCtx (c % 65536) m s (s.wrv (fieldEnt f) c v) :=
    .mono (.wrvOwn _ _ _ _ (fieldEnt_lane f)) (by simp [bindingEnts])
  unfold ctxFieldEff
  exact .iteFst (.refl s) (.iteFst (.refl s) (.pair (.thenOwn (hfield.thenOwn (.wrOwn ..) (by simp [bindingEnts]))
    (.wrOwn ..) (by simp [bindingEnts]))))

theorem parkTimeoutEff_frame (c : Nat) (s : State) : VideoFrame parkEnts ofCtx (c % 65536) m s (parkTimeoutEff c s) := by
  unfold parkTimeoutEff
  extract_lets st t s1
  have h1 : VideoFrame parkEnts ofCtx (c % 65536) m s s1 := .untilDisp ..
  exact .ite (.ite (h1.trans (.parkCtx ..)) h1) (.refl s)

theorem evictTimeoutEff_frame (c : Nat) (s : State) :
    VideoFrame evictEnts ofCtx (c % 65536) m s (evictTimeoutEff c s) := by
  unfold evictTimeoutEff
  extract_lets st t s1
  have h1 : VideoFrame evictEnts ofCtx (c % 65536) m s s1 := .untilDisp ..
  exact .ite (.ite (h1.trans (.evict ..)) h1) (.refl s)

/-! Video units (R112 to R123). -/

/-- What the start of a frame may change. -/
def startEnts : List Ent := parkEnts ++ [.assemblingFrame, .flags, .unitsReceived, .noBufferDrops, .lastWriter]

theorem VideoFrame.resume {s t : State} {c : Nat} (h : s.resume c = some t) : VideoFrame startEnts anyPlace 0 m s t := by
  unfold State.resume at h
  split at h
  · cases h
  · obtain rfl := Option.some.inj h
    exact .then (.then (.trans (.mono (.wr ..)) (.setCtx ..)) (.loosen (.setCtxState ..) (List.Subset.refl _))) (.raise ..)

theorem VideoFrame.startFrame (s : State) (c frame launch : Nat) :
    VideoFrame startEnts anyPlace 0 m s (s.startFrame c frame launch) := by
  unfold State.startFrame
  extract_lets slot s1 s2 a s3
  have h1 : VideoFrame startEnts anyPlace 0 m s s1 := .then (.loosen (.setCtxState ..)) (.wr ..)
  have h3 : VideoFrame startEnts anyPlace 0 m s s3 := .trans (.then (h1.then (.wr ..)) (.wr ..)) (.setCtx ..)
  generalize slot = found
  cases found with
  | none => exact .then (h3.then (.count ..)) (.raise ..)
  | some i => exact .trans (.then (h3.then (.setHandle ..)) (.wr ..)) (.setCtx ..)

/-- What a frame's completion may change. -/
def completeEnts : List Ent := startEnts ++ pushEnts ++ [.newestFrame, .framesCompleted, .launchRefusals]

section
variable (hb : m.bufs = true) (hd : m.modl = true)
include hb hd

theorem VideoFrame.streamLaunch (s : State) (c tag launch : Nat) :
    VideoFrame completeEnts anyPlace 0 m s (s.streamLaunch c tag launch) := by
  unfold State.streamLaunch
  extract_lets v push
  have hpush : ∀ t, VideoFrame completeEnts anyPlace 0 m s (push t) := fun t => by
    have h1 : VideoFrame completeEnts anyPlace 0 m s (s.pushLaunch v t tag true).1 := .mono (.pushLaunch hb hd ..)
    simp only [push]
    split
    · exact h1
    · exact .then (h1.then (.count ..)) (.raise ..)
  split
  · exact .ite (.refl s) (hpush _)
  · exact hpush _
  · exact .refl s

theorem VideoFrame.completeFrame (s : State) (c : Nat) :
    VideoFrame completeEnts anyPlace 0 m s (s.completeFrame c) := by
  unfold State.completeFrame
  extract_lets tag a s1 s2 s3
  have h1 : VideoFrame completeEnts anyPlace 0 m s s1 := .then (.mono (.makeReady ..)) (.wr ..)
  have h2 : VideoFrame completeEnts anyPlace 0 m s s2 := .then (h1.then (.wr ..)) (.count ..)
  have h3 : VideoFrame completeEnts anyPlace 0 m s s3 :=
    .trans (h2.then (.loosen (.setCtxState ..) (List.Subset.refl _))) (.streamLaunch hb hd ..)
  exact .ite (h3.then (.loosen (.parkCtx ..) (List.Subset.refl _))) h3

end

/-! Captures (R142, R144, R182). -/

/-- What the codec's decisions may change. -/
def codecEnts : List Ent := eventEnts ++ [.concealedBlocks, .lastRejection, .rejectedRows, .shiftFaultRows]

theorem VideoFrame.decidePacket (s : State) (x : Shown) (p y : Nat) :
    VideoFrame codecEnts anyPlace 0 m s (s.decidePacket x p y) := by
  unfold State.decidePacket
  extract_lets cause f j first f2 s1 s2 s3 s4 s5
  have h1 : VideoFrame codecEnts anyPlace 0 m s s1 := .quiet
  have h2 : VideoFrame codecEnts anyPlace 0 m s s2 := h1.then (.count ..)
  have h3 : VideoFrame codecEnts anyPlace 0 m s s3 := .ite (h2.then (.count ..)) h2
  have h5 : VideoFrame codecEnts anyPlace 0 m s s5 := .then (h3.then (.countBy ..)) (.wrv ..)
  exact .ite (.refl s) (.ite h1 (.ite h5 (h5.then (.raise ..))))

theorem VideoFrame.readPacket (s : State) (x : Shown) (p y : Nat) :
    VideoFrame codecEnts anyPlace 0 m s (s.readPacket x p y) := by
  unfold State.readPacket
  extract_lets s1
  have h1 : VideoFrame codecEnts anyPlace 0 m s s1 := .decidePacket ..
  exact .ite (.refl s) (.ite (h1.trans (.decidePacket ..)) h1)

theorem VideoFrame.readPixel (s : State) (f : Look) (shown : SMap Shown) (v px py : Nat) :
    VideoFrame codecEnts anyPlace 0 m s (s.readPixel f shown v px py) := by
  unfold State.readPixel
  refine .ite (.refl s) (.forEach _ (fun s j _ => ?_) s)
  split
  · exact .refl s
  · exact .forEach _ (fun s q _ => .readPacket ..) s

theorem VideoFrame.bufWrite (hq : m.quarry = true) (s : State) (h o : Nat) (b : Bytes) :
    VideoFrame l k n m s (s.bufWrite h o b) := by
  obtain ⟨y, hy⟩ := s.bufWrite_form b h o
  rw [hy]
  exact ⟨fun _ _ _ => rfl, (fun g => nomatch hq.symm.trans g), rfl, fun _ => rfl, fun _ => rfl, fun _ => rfl⟩

theorem VideoFrame.captureImage (hq : m.quarry = true) (s : State) (t : Nat) :
    VideoFrame codecEnts anyPlace 0 m s (s.captureImage t) := by
  unfold State.captureImage
  extract_lets c f shown j w h s1 fmt px
  have h1 : VideoFrame codecEnts anyPlace 0 m s s1 := .forEach _ (fun s i _ => .readPixel ..) s
  exact h1.trans (.forEach _ (fun s p _ => .bufWrite hq ..) s1)

theorem VideoFrame.consumeDue (hb : m.bufs = true) (v g j : Nat) (s : State) :
    VideoFrame instantEnts anyPlace 0 m s (s.consumeDue v g j) := by
  induction j generalizing s with
  | zero => exact .refl s
  | succ j ih =>
    unfold State.consumeDue
    split
    · exact .refl s
    · exact .ite ((launchInstantEff_frame hb v s).trans (ih _)) (.refl s)

/-- What the end of a capture may change. -/
def abortEnts : List Ent := handleEnts ++ eventEnts ++ [.captureState]

theorem VideoFrame.abortCapture (s : State) (cause : Nat) :
    VideoFrame abortEnts anyPlace 0 m s (s.abortCapture cause) := by
  unfold State.abortCapture
  exact .ite (.refl s) (.then (.then (.mono (.setHandle ..)) (.wr ..)) (.raise ..))

/-- What a capture's boundary may change. -/
def boundaryEnts : List Ent := abortEnts ++ instantEnts ++ codecEnts

theorem captureBoundaryEff_frame (hq : m.quarry = true) (hb : m.bufs = true) (s : State) :
    VideoFrame boundaryEnts anyPlace 0 m s (captureBoundaryEff s) := by
  unfold captureBoundaryEff
  extract_lets g s1
  have h1 : VideoFrame boundaryEnts anyPlace 0 m s s1 := .untilDisp ..
  refine .ite (.refl s) (.ite h1 (.ite (h1.then (.abortCapture ..)) (.ite ?_ ?_)))
  · split
    · exact h1
    · extract_lets t s2
      have h2 : VideoFrame boundaryEnts anyPlace 0 m s s2 := .then (h1.trans (.elapse ..)) (.decideLaunches hb ..)
      exact .then (h2.then (.captureImage hq ..)) (.wr ..)
  · exact .then (.then (h1.then (.consumeDue hb ..)) (.captureImage hq ..)) (.wr ..)

theorem captureDoneEff_frame (s : State) :
    VideoFrame (abortEnts ++ [.captureNumber]) anyPlace 0 m s (captureDoneEff s) := by
  unfold captureDoneEff
  exact .ite (.then (.then (.then (.mono (.count ..)) (.makeReady ..)) (.wr ..)) (.raise ..)) (.refl s)

theorem captureAbortEff_frame (v : Val) (s : State) : VideoFrame abortEnts anyPlace 0 m s (captureAbortEff v s).1 := by
  unfold captureAbortEff
  exact .iteFst (.abortCapture ..) (.iteFst (.refl s) (.refl s))

theorem captureArmEff_frame (hc : m.cap = true) (v : Val) (s : State) :
    VideoFrame (abortEnts ++ [.lastWriter]) anyPlace 0 m s (captureArmEff v s).1 := by
  unfold captureArmEff
  extract_lets t h s1
  split
  · exact .refl s
  · have h1 : VideoFrame (abortEnts ++ [.lastWriter]) anyPlace 0 m s s1 := .then (.mono (.setHandle ..)) (.wr ..)
    have hcap : VideoFrame (abortEnts ++ [.lastWriter]) anyPlace 0 m s1 { s1 with
        cap := { since := t, view := s1.rd .captureView 0, handle := h, target := s1.rd .captureTarget 0 } } :=
      ⟨fun _ _ _ => rfl, fun _ => rfl, rfl, fun _ => rfl, fun _ => rfl, (fun g => nomatch hc.symm.trans g)⟩
    exact .then (h1.trans hcap) (.wr ..)

end
end Sys2Proof.Machine
end

section
/-! PROOF. The frame of the commands of time, launches, contexts, buffers and captures: video units, placements and requests
(R20, R112 to R120, R153, R154, R271 to R278). -/

namespace Sys2Proof.Machine

section
variable {l : List Ent} {k : Ent → Bool} {n : Nat} {m : Moves}

/-! Video units (R112 to R118). -/

/-- What a video unit may change, but for the stall counters. -/
def unitEnts : List Ent := completeEnts ++ [.discards, .duplicateUnits, .foreignDrops, .formatDrops, .lastUnitTime, .owner,
  .sequenceGaps, .staleUnits, .unadmittedDrops]

/-- R114: before the checks of a unit of a bound context its Sequence is noted. -/
def State.noteSequence (s : State) (c seq : Nat) : State :=
  let a := s.ctx c
  let s := if (s.rd .flags c).testBit 1 && decide (seq ≠ a.expSeq) then s.count .sequenceGaps c else s
  (s.setCtx c { s.ctx c with expSeq := (seq + 1) % 65536 }).wr .flags c (s.rd .flags c ||| 2)

/-- R112: a unit that passes its checks gives its context an owner and its time. -/
def State.noteOwner (s : State) (c src : Nat) : State :=
  let s := if s.rd .owner c = 0xFFFF then s.wr .owner c src else s
  s.wr .lastUnitTime c s.now

theorem VideoFrame.noteSequence (s : State) (c seq : Nat) :
    VideoFrame [.flags, .sequenceGaps] anyPlace 0 m s (s.noteSequence c seq) := by
  unfold State.noteSequence
  extract_lets a s1
  have h1 : VideoFrame [.flags, .sequenceGaps] anyPlace 0 m s s1 := .ite (.mono (.count ..)) (.refl s)
  exact .then (h1.trans (.setCtx ..)) (.wr ..)

theorem VideoFrame.noteOwner (s : State) (c src : Nat) :
    VideoFrame [.lastUnitTime, .owner] anyPlace 0 m s (s.noteOwner c src) := by
  unfold State.noteOwner
  extract_lets s1
  have h1 : VideoFrame [.lastUnitTime, .owner] anyPlace 0 m s s1 := .ite (.mono (.wr ..)) (.refl s)
  exact h1.then (.wr ..)

theorem State.boundUnit_eq (s : State) (c src seq : Nat) (u : UnitHdr) :
    s.boundUnit c src seq u
      = if !(s.noteSequence c seq).unitOk c u then (s.noteSequence c seq).count .formatDrops c
        else if (((s.noteSequence c seq).noteOwner c src).rd .flags c).testBit 0
            && decide (sgn 32 (u.frame + 4294967296 - ((s.noteSequence c seq).noteOwner c src).rd .newestFrame c) ≤ 0) then
          ((s.noteSequence c seq).noteOwner c src).count .staleUnits c
        else ((s.noteSequence c seq).noteOwner c src).takeUnit c u := rfl

/-- R117, R119: a unit of another frame ends the one being assembled, and a BOUND context starts its frame. -/
def State.openFrame (s : State) (c : Nat) (u : UnitHdr) : State :=
  let s := if s.rd .ctxState c = 3 ∧ u.frame ≠ s.rd .assemblingFrame c then s.abandon c else s
  if s.rd .ctxState c = 2 then s.startFrame c u.frame u.launch else s

theorem VideoFrame.openFrame (s : State) (c : Nat) (u : UnitHdr) :
    VideoFrame startEnts anyPlace 0 m s (s.openFrame c u) := by
  unfold State.openFrame
  extract_lets s1
  have h1 : VideoFrame startEnts anyPlace 0 m s s1 := .ite (.loosen (.abandon ..)) (.refl s)
  exact .ite (h1.trans (.startFrame ..)) h1

/-- R118: what follows the writing of a unit. -/
def State.noteUnit (s : State) (c amap : Nat) : State :=
  let s := s.setCtx c { s.ctx c with amap := amap }
  let s := s.wr .unitsReceived c (s.rd .unitsReceived c + 1)
  if s.rd .unitsReceived c = s.rd .unitCount c then s.completeFrame c else s

theorem VideoFrame.noteUnit (hb : m.bufs = true) (hd : m.modl = true) (s : State) (c amap : Nat) :
    VideoFrame completeEnts anyPlace 0 m s (s.noteUnit c amap) := by
  unfold State.noteUnit
  extract_lets a s1 s2
  have h2 : VideoFrame completeEnts anyPlace 0 m s s2 := .then (.setCtx ..) (.wr ..)
  exact .ite (h2.trans (.completeFrame hb hd ..)) h2

/-- R114: a unit of the frame that is open is written where it is new and names the frame's launch. -/
def State.storeUnit (s : State) (c : Nat) (u : UnitHdr) : State :=
  let a := s.ctx c
  if a.asmBuf = 0xFFFF then s
  else if a.amap.testBit u.unit then s.count .duplicateUnits c
  else if u.launch ≠ a.asmLaunch then s.count .formatDrops c
  else
    let s := if u.last then s.wr .flags c (s.rd .flags c ||| 4) else s
    (s.bufWrite a.asmBuf (u.unit * s.rd .unitBytes c) u.data).noteUnit c (a.amap ||| 2 ^ u.unit)

theorem State.takeUnit_eq (s : State) (c : Nat) (u : UnitHdr) :
    s.takeUnit c u
      = if s.rd .ctxState c = 3 ∧ sgn 32 (u.frame + 4294967296 - s.rd .assemblingFrame c) < 0 then s.count .staleUnits c
        else (s.openFrame c u).storeUnit c u := rfl

section
variable (hq : m.quarry = true) (hb : m.bufs = true) (hd : m.modl = true)
include hq hb hd

theorem VideoFrame.storeUnit (s : State) (c : Nat) (u : UnitHdr) :
    VideoFrame unitEnts anyPlace 0 m s (s.storeUnit c u) := by
  unfold State.storeUnit
  extract_lets a s1
  have h1 : VideoFrame unitEnts anyPlace 0 m s s1 := .ite (.mono (.wr ..)) (.refl s)
  exact .ite (.refl s) (.ite (.mono (.count ..)) (.ite (.mono (.count ..))
    (.then (h1.trans (.bufWrite hq ..)) (.noteUnit hb hd ..))))

theorem VideoFrame.takeUnit (s : State) (c : Nat) (u : UnitHdr) :
    VideoFrame unitEnts anyPlace 0 m s (s.takeUnit c u) := by
  rw [State.takeUnit_eq]
  exact .ite (.mono (.count ..)) (.trans (.mono (.openFrame ..)) (.storeUnit hq hb hd ..))

theorem VideoFrame.boundUnit (s : State) (c src seq : Nat) (u : UnitHdr) :
    VideoFrame unitEnts anyPlace 0 m s (s.boundUnit c src seq u) := by
  rw [State.boundUnit_eq]
  have h1 : VideoFrame unitEnts anyPlace 0 m s (s.noteSequence c seq) := .mono (.noteSequence ..)
  have h2 : VideoFrame unitEnts anyPlace 0 m s ((s.noteSequence c seq).noteOwner c src) := h1.then (.noteOwner ..)
  exact .ite (h1.then (.count ..)) (.ite (h2.then (.count ..)) (h2.trans (.takeUnit hq hb hd ..)))

theorem videoUnitEff_frame (src chan seq : Nat) (b : Bytes) (s : State) :
    VideoFrame unitEnts anyPlace 0 m s (videoUnitEff src chan seq b s) := by
  unfold videoUnitEff
  extract_lets c u st
  refine .ite (.refl s) (.ite (.ite ?_ (.mono (.count ..))) (.ite (.mono (.count ..)) (.ite (.mono (.count ..))
    (.ite (.ite (.mono (.count ..)) ?_) (.boundUnit hq hb hd ..)))))
  · exact .then (.then (.mono (.wr ..)) (.loosen (.setCtxState ..) (List.Subset.refl _))) (.raise ..)
  · split
    · exact .mono (.count ..)
    · rename_i t ht
      exact .trans (.mono (.resume ht)) (.boundUnit hq hb hd ..)

end

/-! Buffers and placements (R20, R152 to R154). -/

/-- What Allocate and Free may change. -/
def handleCommandEnts : List Ent := releaseEnts ++ [.earlyFrees]

theorem handleCommandEff_frame (hb : m.bufs = true) (h : Nat) (v : Val) (s : State) :
    VideoFrame handleCommandEnts ofHandle (h % 65536) m s (handleCommandEff h v s).1 := by
  have halloc : VideoFrame handleCommandEnts ofHandle (h % 65536) m s (allocateEff h s).1 := by
    unfold allocateEff
    extract_lets j free
    refine .iteFst (.refl s) (.iteFst (.refl s) (.iteFst (.refl s) (.iteFst (.refl s) (.pair ?_))))
    exact .thenOwn (.trans .quiet (.setBuf hb ..)) (.wrOwn ..)
  have hfree : VideoFrame handleCommandEnts ofHandle (h % 65536) m s (freeEff h s).1 := by
    unfold freeEff
    extract_lets st
    refine .iteFst (.refl s) (.iteFst (.refl s) (.iteFst (.refl s) (.iteFst (.pair ?_) (.pair ?_))))
    · exact .then (.then (.mono (.setHandleOwn ..)) (.count ..)) (.raise ..)
    · exact .thenOwn (.mono (.setHandleOwn ..)) (.unallocateOwn hb ..)
  unfold handleCommandEff
  exact .iteFst halloc (.iteFst hfree (.refl s))

theorem VideoFrame.coefLost (s : State) (cause : Nat) :
    VideoFrame (eventEnts ++ [.coefValid]) anyPlace 0 m s (s.coefLost cause) := by
  unfold State.coefLost
  extract_lets s1
  have h1 : VideoFrame (eventEnts ++ [.coefValid]) anyPlace 0 m s s1 := .then (.mono (.wr ..)) (.raise ..)
  exact .ite h1 (h1.trans .quiet)

/-- What a reset of the context store may change. -/
def contextEnts : List Ent := ctxCounterEnts ++ ctxRecordEnts ++ ctxStateEnts ++ [.contextStoreResets]

theorem VideoFrame.resetContexts (s : State) : VideoFrame contextEnts anyPlace 0 m s s.resetContexts := by
  refine .then (.forEach _ (fun s c _ => ?_) s) (.count ..)
  have hcounters : VideoFrame contextEnts anyPlace 0 m s (s.forEach ctxCounterEnts (fun s e => s.toDefault e c)) :=
    .forEach _ (fun s x hx => .mono (.wrv ..) (List.cons_subset.2
      ⟨(by decide : ctxCounterEnts ⊆ contextEnts) hx, List.nil_subset _⟩)) s
  exact hcounters.then (.loosen (.clearRecord ..) (List.Subset.refl _))

theorem State.setTables_form (s : State) (b : Bytes) :
    ∃ p t d, s.setTables b = { s with tablePad := p, tables := t, defects := d } := ⟨_, _, _, rfl⟩

theorem VideoFrame.putTableBytes (s : State) (b : Bytes) : VideoFrame l k n m s (s.putTableBytes b) := by
  obtain ⟨p, t, d, h⟩ := s.setTables_form ((Config.tableLayout (s.storeSize 3)).symm (Vector.ofFn (fun i => b.getD i.val 0))).toList
  rw [State.putTableBytes, h]
  exact .quiet

/-- What the clearing of the buffer table may change. -/
def bufferEnts : List Ent := handleEnts ++ [.pageCount, .lastWriter]

theorem VideoFrame.clearBuffers (hb : m.bufs = true) (s : State) :
    VideoFrame bufferEnts anyPlace 0 m s s.clearBuffers := by
  have hretire : ∀ s h, VideoFrame bufferEnts anyPlace 0 m s ((s.setHandle h 0).unallocate h) := fun s h =>
    .then (.mono (.setHandle ..)) (.loosen (.unallocateOwn hb ..) (List.Subset.refl _))
  exact .trans (.forEach _ (fun s h _ => hretire s h) s) (.forEach _ (fun s h _ => .mono (.wrv ..)) _)

/-- What the clearing of a store may change. -/
def clearEnts : List Ent := contextEnts ++ bufferEnts ++ eventEnts ++ [.coefValid]

/-- R20: what a placement write clears beside the store's bytes. -/
def State.clearTables (s : State) (j : Nat) : State :=
  match j with
  | 0 => s.coefLost 0xFE
  | 2 => s.resetContexts
  | 3 => ({ s with power := { s.power with tableLost := tableDomains } }).putTableBytes []
  | 5 => s.clearBuffers
  | _ => s

theorem State.clearStore_eq (s : State) (j : Nat) : s.clearStore j
    = ({ s with quarry := SMap.clear s.quarry (s.storeAddr j) (s.storeSize j) } : State).clearTables j := rfl

theorem VideoFrame.clearTables (hb : m.bufs = true) (s : State) (j : Nat) :
    VideoFrame clearEnts anyPlace 0 m s (s.clearTables j) := by
  unfold State.clearTables
  split
  · exact .mono (.coefLost ..)
  · exact .mono (.resetContexts ..)
  · exact .trans .quiet (.putTableBytes ..)
  · exact .mono (.clearBuffers hb ..)
  · exact .refl s

theorem VideoFrame.notePages (s t : State) : VideoFrame l k n m t (s.notePages t) := .quiet

/-- What a write of a placement may change. -/
def placementEnts (j : Nat) : List Ent := [placeEnt j] ++ clearEnts

theorem storePlacementEff_frame (hq : m.quarry = true) (hb : m.bufs = true) (j : Nat) (v : Val) (s : State) :
    VideoFrame (placementEnts j) anyPlace 0 m s (storePlacementEff j v s).1 := by
  unfold storePlacementEff
  extract_lets w
  refine .iteFst (.refl s) (.iteFst (.refl s) (.iteFst (.refl s) (.pair (.trans ?_ (.notePages ..)))))
  have hplace : VideoFrame (placementEnts j) anyPlace 0 m s (s.wr (placeEnt j) 0 w) :=
    .mono (.wr ..) (List.subset_append_left ..)
  rw [State.clearStore_eq]
  generalize s.wr (placeEnt j) 0 w = x at hplace
  have hclear : VideoFrame (placementEnts j) anyPlace 0 m x
      { x with quarry := SMap.clear x.quarry (x.storeAddr j) (x.storeSize j) } :=
    ⟨fun _ _ _ => rfl, (fun g => nomatch hq.symm.trans g), rfl, fun _ => rfl, fun _ => rfl, fun _ => rfl⟩
  exact (hplace.trans hclear).trans (.mono (.clearTables hb ..) (List.subset_append_right ..))

/-! Requests (R271 to R278). -/

variable {q mr : Bool} {p : Fin 4}

/-- R273 to R277: what arrives is executed, or counts, or waits. -/
theorem State.arrive_cases (s : State) (r : Req) (o b : Bool) (run : State → State) :
    FrameBy requestEnts p q mr s (s.arrive r o b run) ∨ s.arrive r o b run = run s := by
  by_cases hrun : s.judge r.env o b = .run
  · exact .inr (by simp [State.arrive, hrun])
  · have hother : s.arrive r o b run = s.arrive r o b id := by
      unfold State.arrive
      cases hj : s.judge r.env o b
      case run => exact absurd hj hrun
      all_goals rfl
    exact .inl (hother ▸ .arrive (List.Subset.refl _) s r o b (.refl s))

/-- R277: a request is executed and answered, or touches nothing of its own. -/
theorem State.request_cases (s : State) (r : Req) (o b : Bool) (body : State → State × Ans) :
    FrameBy requestEnts p q mr s (s.request r o b body)
      ∨ s.request r o b body = (body (s.claimSpi r.env)).1.finish r (body (s.claimSpi r.env)).2 b := by
  rcases s.arrive_cases (p := p) (q := q) (mr := mr) r o b
    (fun s => if s.coreFree then (s.claimSpi r.env).execute r b body else s.park r) with h | h
  · exact .inl h
  · unfold State.request
    rw [h]
    split
    · exact .inr rfl
    · exact .inl (.park ..)

/-- R278: a write does its entry's own effect and is answered, or touches nothing of its own. -/
theorem State.writeCmd_cases (s : State) (e : Env) (x : Ent) (i : Nat) (b : Bytes) (eff : Val → State → State × Ans) :
    FrameBy writeEnts p q mr s (s.writeCmd e x i b eff)
      ∨ s.writeCmd e x i b eff = (eff (x.info.decode b) (s.claimSpi e)).1.finish (writeReq e x i b)
        (eff (x.info.decode b) (s.claimSpi e)).2 false := by
  have hclaim : FrameBy writeEnts p q mr s (s.claimSpi e) := .ite .quiet (.refl s)
  have hbody : FrameBy writeEnts p q mr (s.claimSpi e) (State.writeBody e x i b eff (s.claimSpi e)).1
      ∨ State.writeBody e x i b eff (s.claimSpi e) = eff (x.info.decode b) (s.claimSpi e) := by
    unfold State.writeBody
    split
    · exact .inl (.then (.ite (.mono (.dropSegment ..)) (.refl _)) (.refused ..))
    · split
      · exact .inl (.mono (.refused ..))
      · exact .inr rfl
  rcases s.request_cases (p := p) (q := q) (mr := mr) (writeReq e x i b) false false (State.writeBody e x i b eff) with h | h
  · exact .inl (h.mono)
  · rcases hbody with hbody | hbody
    · exact .inl (by
        unfold State.writeCmd
        rw [h]
        exact (hclaim.trans hbody).then (.finish ..))
    · exact .inr (by
        unfold State.writeCmd
        rw [h, writeReq_env, hbody])

theorem VideoFrame.claimSpi (s : State) (e : Env) : VideoFrame l k n m s (s.claimSpi e) :=
  .quiet (by simp) (by simp) (by simp) (by simp) (by simp) (by simp)

theorem VideoFrame.finish (s : State) (r : Req) (a : Ans) (b : Bool) :
    VideoFrame replyEnts anyPlace 0 m s (s.finish r a b) := .of_frameBy (.finish ..) (fun _ => by simp) (fun _ => by simp)

/-- R278: the frame of a write, from that of its entry's own effect. -/
theorem VideoFrame.writeCmd (hb : m.bufs = true) (hc : m.cap = true) {s : State} {e : Env} {x : Ent} {i : Nat} {b : Bytes}
    {eff : Val → State → State × Ans} (heff : ∀ v s, VideoFrame l k n m s (eff v s).1)
    (hl : writeEnts.all (fun x => l.contains x && !k x) = true := by decide) :
    VideoFrame l k n m s (s.writeCmd e x i b eff) := by
  rcases s.writeCmd_cases (p := 0) (q := false) (mr := false) e x i b eff with h | h
  · exact .of_frameBy h (fun g => nomatch hb.symm.trans g) (fun g => nomatch hc.symm.trans g) hl
  · have hreply : replyEnts.all (fun x => l.contains x && !k x) = true :=
      List.all_eq_true.2 fun y hy => List.all_eq_true.1 hl y ((by decide : replyEnts ⊆ writeEnts) hy)
    rw [h]
    exact (VideoFrame.claimSpi s e).trans ((heff ..).then (.finish ..) hreply)

end
end Sys2Proof.Machine
end

section
/-! PROOF. The frames of the commands of time, launches, contexts, buffers and captures (R82 to R128, R152 to R155, R182). -/

namespace Sys2Proof.Machine

/-! The commands of time (R85 to R96). -/

section
variable {l : List Ent} {n : Fin 4} {q m : Bool}

theorem syncSendEff_frameBy (s : State) : FrameBy sendEnts n q m s (syncSendEff s) := by
  unfold syncSendEff
  extract_lets s1 src s2
  have h1 : FrameBy sendEnts n q m s s1 := .untilMono ..
  clear_value s1
  have h2 : FrameBy sendEnts n q m s s2 := h1.trans (.setTime ..)
  exact .ite (h2.trans (.forEach _ (fun s j _ => .sendLocal ..) s2)) (.refl s)

/-- What the servo may change. -/
def servoEnts : List Ent := holdoverEnts ++ [.increment, .lastOffset, .steps]

theorem FrameBy.slew (s : State) (theta : Int) : FrameBy servoEnts n q m s (s.slew theta) :=
  .then (.setTime ..) (.wr _ .increment ..)

theorem FrameBy.timeStep (s : State) (theta : Int) : FrameBy servoEnts n q m s (s.timeStep theta) := by
  unfold State.timeStep
  extract_lets d s1 src
  obtain ⟨v, hv⟩ := s.jumpPatterns_form (d.toNat / 4294967296)
  have h1 : FrameBy servoEnts n q m s s1 := by
    rw [show s1 = { s with views := v } from hv]
    exact .quiet
  clear hv
  clear_value s1 d
  exact .then (.then (h1.trans (.setTime ..)) (.count ..)) (.raise ..)

theorem FrameBy.runServo (s : State) (theta : Int) : FrameBy servoEnts n q m s (s.runServo theta) := by
  unfold State.runServo
  extract_lets s1 s2 s3
  have h2 : FrameBy servoEnts n q m s s2 := .then (.mono (.wr _ .lastOffset ..)) (.unlockCheck ..)
  have h3 : FrameBy servoEnts n q m s s3 := .ite h2 (h2.then (.raise ..))
  exact .ite (.ite (h2.trans (.timeStep ..)) (.trans (h3.trans (.setTime ..)) (.slew ..)))
    (.trans (h2.trans (.setTime ..)) (.slew ..))

/-- What a SYNC may change. -/
def syncEnts : List Ent := servoEnts ++ [.calendarValid, .taiUtcOffset, .timeMessageErrors]

theorem syncReceivedEff_frameBy (j : Nat) (b : Bytes) (rx : Nat) (s : State) :
    FrameBy syncEnts n q m s (syncReceivedEff j b rx s) := by
  unfold syncReceivedEff
  extract_lets origin s1 src s2 s3
  have h1 : FrameBy syncEnts n q m s s1 := .ite (.mono (.toHoldover s)) (.refl s)
  have h3 : FrameBy syncEnts n q m s s3 := .then (.then (h1.trans (.setTime ..)) (.wr _ .calendarValid ..)) (.wr _ .taiUtcOffset ..)
  exact .ite (.refl s) (.ite (.mono (.count ..)) (.ite h3 (.then (h3.then (.runServo ..)) (.tryLock ..))))

theorem delayExchangeTimerEff_frameBy (s : State) : FrameBy sendEnts n q m s (delayExchangeTimerEff s) := by
  unfold delayExchangeTimerEff
  split
  · exact .ite (.trans (.trans (.untilMono ..) (.setTime ..)) (.sendLocal ..)) (.refl s)
  · exact .refl s

theorem delayReqReceivedEff_frameBy (j sq : Nat) (b : Bytes) (rx : Nat) (s : State) :
    FrameBy (sendEnts ++ [.timeMessageErrors]) n q m s (delayReqReceivedEff j sq b rx s) := by
  unfold delayReqReceivedEff
  exact .ite (.refl s) (.ite (.mono (.count ..)) (.ite (.refl s) (.mono (.sendLocal ..))))

/-- What the answer of an exchange may change. -/
def exchangeEnts : List Ent := [.meanPathDelay, .timeMessageErrors]

theorem delayRespReceivedEff_frameBy (j : Nat) (b : Bytes) (rx : Nat) (s : State) :
    FrameBy exchangeEnts n q m s (delayRespReceivedEff j b rx s) := by
  have hcount : FrameBy exchangeEnts n q m s (s.count .timeMessageErrors 0) := .mono (.count ..)
  unfold delayRespReceivedEff
  refine .ite (.refl s) (.ite hcount ?_)
  split
  · exact hcount
  · extract_lets t41 t32 src s1 src' s2
    have h1 : FrameBy exchangeEnts n q m s s1 := .setTime ..
    exact .ite (h1.then (.count ..)) (.ite h1 (.then (h1.trans (.setTime ..)) (.wr _ .meanPathDelay ..)))

theorem delayRespTimeoutEff_frameBy (s : State) : FrameBy l n q m s (delayRespTimeoutEff s) := by
  unfold delayRespTimeoutEff
  split
  · exact .refl s
  · exact .ite (.trans (.untilMono ..) (.setTime ..)) (.refl s)

theorem syncLossEff_frameBy (s : State) : FrameBy holdoverEnts n q m s (syncLossEff s) := by
  unfold syncLossEff
  exact .ite (.trans (.untilMono ..) (.mono (.toHoldover ..))) (.refl s)

/-- What the end of HOLDOVER may change. -/
def freeEnts : List Ent := eventEnts ++ [.timeState]

theorem holdoverLimitEff_frameBy (s : State) : FrameBy freeEnts n q m s (holdoverLimitEff s) := by
  unfold holdoverLimitEff
  extract_lets s1
  have h1 : FrameBy freeEnts n q m s s1 := .ite (.refl s) (.untilDisp ..)
  exact .ite (.ite (.then (h1.then (.wr _ .timeState ..)) (.raise ..)) h1) (.refl s)

theorem slowWindowEndEff_frameBy (period : Nat) (s : State) :
    FrameBy [.slowPeriod] n q m s (slowWindowEndEff period s) := by
  unfold slowWindowEndEff
  exact .ite (.trans .quiet (.wr ..)) (.refl s)

/-- What the accounting of a sleep may change. -/
def sleepAccountEnts : List Ent := holdoverEnts ++ [.sleepTicks]

theorem FrameBy.afterSleep (s : State) (x : TimeLatch) (bound : Nat) :
    FrameBy sleepAccountEnts n q m s (s.afterSleep x bound) := by
  unfold State.afterSleep
  extract_lets s1 s2 src s3
  have h1 : FrameBy sleepAccountEnts n q m s s1 := .mono (.wr ..)
  have h2 : FrameBy sleepAccountEnts n q m s s2 := .ite (h1.then (.count ..)) h1
  have h3 : FrameBy sleepAccountEnts n q m s s3 := h2.trans (.setAon ..)
  exact .ite (h3.then (.wr ..)) (.ite (.then (h3.then (.wr ..)) (.raise ..)) (.then (h3.then (.wr ..)) (.raise ..)))

theorem FrameBy.awoken (s : State) (x : TimeLatch) : FrameBy l n q m s (s.awoken x) := by
  unfold State.awoken
  extract_lets bound t disp src src'
  have h1 : FrameBy l n q m s t := .quiet
  clear_value bound t disp
  exact h1.trans .quiet

theorem sleepAccountingEff_frameBy (s : State) : FrameBy sleepAccountEnts n q m s (sleepAccountingEff s) := by
  cases hlatch : s.aon.latch with
  | none => rw [show sleepAccountingEff s = s by simp [sleepAccountingEff, hlatch]]; exact .refl s
  | some x =>
    cases halive : s.alive 5 with
    | false => rw [show sleepAccountingEff s = s by simp [sleepAccountingEff, hlatch, halive]]; exact .refl s
    | true =>
      obtain ⟨v, hv⟩ := (s.awoken x).restartPatterns_form (s.awoken x).now
      rw [sleepAccountingEff_latched halive hlatch, hv]
      have hawoken : FrameBy sleepAccountEnts n q m s (s.awoken x) := .awoken s x
      generalize s.awoken x = w at hawoken
      exact hawoken.trans (.trans .quiet (.afterSleep ..))

end

/-! Launches, captures of edges, and pulses (R98 to R104). -/

section
variable {l : List Ent} {k : Ent → Bool} {n : Nat} {m : Moves}

theorem launchPushEff_frame (hb : m.bufs = true) (hd : m.modl = true) (v : Nat) (x : Val) (s : State) :
    VideoFrame (pushEnts ++ writeEnts) anyPlace 0 m s (launchPushEff v x s).1 := by
  unfold launchPushEff
  exact .pair (.mono (.pushLaunch hb hd ..))

theorem launchFlushEff_frame (v : Nat) (x : Val) (s : State) :
    VideoFrame ([.queueDepth, .launchFlushes] ++ writeEnts) anyPlace 0 m s (launchFlushEff v x s).1 := by
  unfold launchFlushEff
  exact .iteFst (.pair (.mono (.flushQueue ..))) (.iteFst (.refl s) (.refl s))

theorem VideoFrame.setSyncI (s : State) (i : Nat) (a : SyncIn) : VideoFrame l k n m s (s.setSyncI i a) := .quiet

theorem synciEdgeEff_frame (i : Nat) (f : Bool) (stamp : BitVec 96) (s : State) :
    VideoFrame (eventEnts ++ [.captureCount, .captureOverflows]) anyPlace 0 m s (synciEdgeEff i f stamp s) := by
  unfold synciEdgeEff
  extract_lets a c s1
  have h1 : VideoFrame (eventEnts ++ [.captureCount, .captureOverflows]) anyPlace 0 m s s1 := .mono (.count ..)
  exact .ite (.refl s) (.ite (.then (.setSyncI ..) (.wr _ .captureCount ..))
    (.ite h1 (.then (h1.trans (.setSyncI ..)) (.raise ..))))

theorem capturePopBody_frame (i off : Nat) (s : State) :
    VideoFrame [.captureCount] anyPlace 0 m s (capturePopBody i off s).1 := by
  unfold capturePopBody
  refine .iteFst (.refl s) ?_
  dsimp only
  split
  · exact .refl s
  · exact .pair (.trans (.trans (.setSyncI ..) (.wr _ .captureCount ..)) .quiet)

theorem VideoFrame.capturePop (hb : m.bufs = true) (hc : m.cap = true) (e : Env) (i : Nat) (s : State) :
    VideoFrame (requestEnts ++ [.captureCount]) anyPlace 0 m s
      (s.request (reqOf e 0x10 .capturePop i) false true (capturePopBody i 0)) := by
  rcases s.request_cases (p := 0) (q := false) (mr := false) (reqOf e 0x10 .capturePop i) false true
    (capturePopBody i 0) with h | h
  · exact .of_frameBy h (fun g => nomatch hb.symm.trans g) (fun g => nomatch hc.symm.trans g)
  · rw [h]
    exact (VideoFrame.claimSpi s e).trans (.then (.mono (capturePopBody_frame ..)) (.finish ..))

theorem VideoFrame.setSyncOut (s : State) (x : SMap SyncOut) : VideoFrame l k n m s { s with syncOut := x } := .quiet

theorem syncoPulseEff_frame (o : Nat) (b : Bool) (s : State) : VideoFrame l k n m s (syncoPulseEff o b s) := by
  unfold syncoPulseEff
  extract_lets a
  refine .ite (.refl s) (.ite (.ite (.refl s) ?_) (.ite (.trans (.elapse ..) (.setSyncOut ..)) (.refl s)))
  split
  · exact .refl s
  · exact .trans (.elapse ..) (.setSyncOut ..)

end

/-! The frame that a command promises. -/

/-- What a frame lets a command change. -/
def Moves.of (c : Instr) : Moves :=
  { quarry := storesQuarry c, modl := movesModulator c, bufs := true, cap := true }

theorem Framed.of_videoFrame {c : Instr} {l l' : List Ent} {k : Ent → Bool} {n : Nat} {s t u : State}
    (hexec : exec c s = .next t) (hl : frameEnts c = some l) (hu : exec c s = .next u)
    (hown : ∀ x ∈ l', ∀ j, ownOf c x = some j → k x = true ∧ j = n) (h : VideoFrame l' k n (.of c) s u)
    (hsub : l' ⊆ l := by decide) : Framed c s t := by
  obtain rfl : u = t := Host.Outcome.next.inj (hu.symm.trans hexec)
  refine ⟨fun x i hx => h.rdv x i (Bool.eq_false_iff.2 fun hreach => ?_), h.quarry, fun _ => h.mram, h.modl⟩
  simp only [reaches, Bool.and_eq_true, Bool.or_eq_true, Bool.not_eq_true', decide_eq_true_eq, List.contains_eq_mem] at hreach
  obtain ⟨hmem, howner⟩ := hreach
  have hchange : mayChange c s x i = true := by
    unfold mayChange
    rw [hl]
    have hin : x ∈ l := hsub hmem
    cases hplace : ownOf c x with
    | none => simp [hin]
    | some j =>
      obtain ⟨hk, rfl⟩ := hown x hmem j hplace
      have hj : ownerOf x i = j := howner.resolve_left (by simp [hk])
      simp [hin, hj]
  rw [hchange] at hx
  cases hx

end Sys2Proof.Machine
end

section
/-! PROOF. The frame of every command of time, launches, contexts, buffers and captures (R82 to R128, R152 to R155, R182). -/

namespace Sys2Proof.Machine

/-- An entry that a command may change at one place alone, beside the ports, is one of a context or a handle. -/
theorem ownOf_cases {c : Instr} {x : Ent} {j : Nat} (hjob : jobOf c = none) (hx : x.ofLink = false)
    (h : ownOf c x = some j) : (ofCtx x = true ∧ ctxOf c = some j) ∨ (ofHandle x = true ∧ handleOf c = some j) := by
  unfold ownOf at h
  rw [show (portEnts.contains x || laneEnts.contains x) = false from hx, if_neg Bool.false_ne_true] at h
  split at h
  · exact .inl ⟨‹_›, h⟩
  · split at h
    · exact .inr ⟨‹_›, h⟩
    · split at h
      · rw [hjob] at h; cases h
      · cases h

section
variable {c : Instr} {l l' : List Ent} {n : Nat} {s t u : State}

/-- A command that names no context and no handle. -/
theorem Framed.of_free (hexec : exec c s = .next t) (hl : frameEnts c = some l) (hu : exec c s = .next u)
    (h : VideoFrame l' anyPlace 0 (.of c) s u) (hsub : l' ⊆ l := by decide) (hctx : ctxOf c = none := by rfl)
    (hhandle : handleOf c = none := by rfl) (hjob : jobOf c = none := by rfl)
    (hlink : ∀ x ∈ l', x.ofLink = false := by decide) : Framed c s t := by
  refine .of_videoFrame hexec hl hu (fun x hx j hj => ?_) h hsub
  rcases ownOf_cases hjob (hlink x hx) hj with ⟨-, hplace⟩ | ⟨-, hplace⟩
  · rw [hctx] at hplace; cases hplace
  · rw [hhandle] at hplace; cases hplace

/-- A command that names a context. -/
theorem Framed.of_ctx (hexec : exec c s = .next t) (hl : frameEnts c = some l) (hctx : ctxOf c = some (n % 65536))
    (hu : exec c s = .next u) (h : VideoFrame l' ofCtx (n % 65536) (.of c) s u) (hsub : l' ⊆ l := by decide)
    (hhandle : handleOf c = none := by rfl) (hjob : jobOf c = none := by rfl)
    (hlink : ∀ x ∈ l', x.ofLink = false := by decide) : Framed c s t := by
  refine .of_videoFrame hexec hl hu (fun x hx j hj => ?_) h hsub
  rcases ownOf_cases hjob (hlink x hx) hj with ⟨hk, hplace⟩ | ⟨-, hplace⟩
  · exact ⟨hk, Option.some.inj (hplace.symm.trans hctx)⟩
  · rw [hhandle] at hplace; cases hplace

/-- A command that names a handle. -/
theorem Framed.of_handle (hexec : exec c s = .next t) (hl : frameEnts c = some l) (hhandle : handleOf c = some (n % 65536))
    (hu : exec c s = .next u) (h : VideoFrame l' ofHandle (n % 65536) (.of c) s u) (hsub : l' ⊆ l := by decide)
    (hctx : ctxOf c = none := by rfl) (hjob : jobOf c = none := by rfl)
    (hlink : ∀ x ∈ l', x.ofLink = false := by decide) : Framed c s t := by
  refine .of_videoFrame hexec hl hu (fun x hx j hj => ?_) h hsub
  rcases ownOf_cases hjob (hlink x hx) hj with ⟨-, hplace⟩ | ⟨hk, hplace⟩
  · rw [hctx] at hplace; cases hplace
  · exact ⟨hk, Option.some.inj (hplace.symm.trans hhandle)⟩

/-- A command of time. -/
theorem Framed.of_time (hexec : exec c s = .next t) (hl : frameEnts c = some l) (hu : exec c s = .next u)
    (h : FrameBy l' 0 false false s u) (hsub : l' ⊆ l := by decide) (hctx : ctxOf c = none := by rfl)
    (hhandle : handleOf c = none := by rfl) (hjob : jobOf c = none := by rfl)
    (hlink : ∀ x ∈ l', x.ofLink = false := by decide) : Framed c s t :=
  .of_free hexec hl hu (.of_frameBy h (fun g => nomatch g) (fun g => nomatch g) (by simp [anyPlace])) hsub hctx hhandle
    hjob hlink

end

/-- A context's or a handle's number as the place of its entries. -/
theorem place_eq {j : Nat} (i : Fin j) (hj : j ≤ 65536 := by decide) : some i.val = some (i.val % 65536) := by
  rw [Nat.mod_eq_of_lt (Nat.lt_of_lt_of_le i.isLt hj)]

/-- The frames of the commands of time. -/
theorem timeFrame {c : Instr} {s t : State} (hfam : familyOf c = .time) (hexec : exec c s = .next t) : Framed c s t := by
  cases c
  case syncSend => exact .of_time hexec rfl rfl (syncSendEff_frameBy s)
  case syncReceived n b rx => exact .of_time hexec rfl rfl (syncReceivedEff_frameBy n b rx.toNat s)
  case delayExchangeTimer => exact .of_time hexec rfl rfl (delayExchangeTimerEff_frameBy s)
  case delayReqReceived n sq b rx => exact .of_time hexec rfl rfl (delayReqReceivedEff_frameBy n sq.toNat b rx.toNat s)
  case delayRespReceived n b rx => exact .of_time hexec rfl rfl (delayRespReceivedEff_frameBy n b rx.toNat s)
  case delayRespTimeout => exact .of_time (l' := []) hexec rfl rfl (delayRespTimeoutEff_frameBy s)
  case syncLoss => exact .of_time hexec rfl rfl (syncLossEff_frameBy s)
  case holdoverLimit => exact .of_time hexec rfl rfl (holdoverLimitEff_frameBy s)
  case slowWindowEnd p => exact .of_time hexec rfl rfl (slowWindowEndEff_frameBy p.toNat s)
  case sleepAccounting => exact .of_time hexec rfl rfl (sleepAccountingEff_frameBy s)
  all_goals exact nomatch hfam

/-! Lists that an operand enters. -/

theorem writeEnts_within (l : List Ent) (k : Ent → Bool) (hk : writeEnts.all (fun x => !k x) = true := by decide) :
    writeEnts.all (fun x => (l ++ writeEnts).contains x && !k x) = true :=
  List.all_eq_true.2 fun x hx => by
    have hfree := List.all_eq_true.1 hk x hx
    simpa [hx] using hfree

theorem binding_sub (f : CtxField) :
    bindingEnts f ++ writeEnts ⊆ writeEnts ++ [fieldEnt f] ++ [.frameBytes, .unitCount] := by
  cases f <;> decide

theorem binding_link (f : CtxField) : ∀ x ∈ bindingEnts f ++ writeEnts, x.ofLink = false := by
  cases f <;> decide

theorem placement_sub (j : Fin 6) : placementEnts j ++ writeEnts ⊆ handleEnts ++ writeEnts ++ [placeEnt j] ++ ctxCounterEnts
    ++ ctxRecordEnts ++ [.boundCount, .coefValid, .contextStoreResets, .lastWriter, .openCount, .pageCount, .parkedCount] := by
  revert j
  decide

theorem placement_link (j : Fin 6) : ∀ x ∈ placementEnts j ++ writeEnts, x.ofLink = false := by
  revert j
  decide

/-- The frames of the commands of launches, contexts, buffers and captures. -/
theorem videoFrame {c : Instr} {s t : State} (hfam : familyOf c = .video) (hexec : exec c s = .next t) : Framed c s t := by
  cases c
  case launchPush e v b => exact .of_free hexec rfl rfl (.writeCmd rfl rfl (launchPushEff_frame rfl rfl v))
  case launchFlush e v b => exact .of_free hexec rfl rfl (.writeCmd rfl rfl (launchFlushEff_frame v))
  case launchInstant v => exact .of_free hexec rfl rfl (launchInstantEff_frame rfl v s)
  case synciEdge i f stamp => exact .of_free hexec rfl rfl (synciEdgeEff_frame i f stamp s)
  case capturePop e i => exact .of_free hexec rfl rfl (.capturePop rfl rfl e i s)
  case syncoPulse o b => exact .of_free (l' := []) hexec rfl rfl (syncoPulseEff_frame o b s)
  case videoUnit src ch q b =>
    exact .of_free (l' := unitEnts ++ stallEnts) hexec rfl rfl
      (.ite (.then (.mono (videoUnitEff_frame rfl rfl rfl ..)) (.stalled ..)) (.refl s))
  case contextFieldWrite e c f v =>
    exact .of_ctx (l' := bindingEnts f ++ writeEnts) hexec rfl (place_eq c) rfl
      (.writeCmd rfl rfl (fun v s => .mono (ctxFieldEff_frame ..) (List.subset_append_left ..)) (writeEnts_within _ _))
      (binding_sub f) rfl rfl (binding_link f)
  case bindContext e c =>
    exact .of_ctx (l' := evictEnts ++ writeEnts) hexec rfl (place_eq c) rfl
      (.writeCmd rfl rfl (fun v s => .mono (ctxCommandEff_frame ..)))
  case park e c =>
    exact .of_ctx (l' := evictEnts ++ writeEnts) hexec rfl (place_eq c) rfl
      (.writeCmd rfl rfl (fun v s => .mono (ctxCommandEff_frame ..)))
  case release e c =>
    exact .of_ctx (l' := evictEnts ++ writeEnts) hexec rfl (place_eq c) rfl
      (.writeCmd rfl rfl (fun v s => .mono (ctxCommandEff_frame ..)))
  case parkTimeout c => exact .of_ctx hexec rfl (place_eq c) rfl (parkTimeoutEff_frame c s)
  case evictTimeout c => exact .of_ctx hexec rfl (place_eq c) rfl (evictTimeoutEff_frame c s)
  case allocate e h =>
    exact .of_handle (l' := handleCommandEnts ++ writeEnts) hexec rfl (place_eq h) rfl
      (.writeCmd rfl rfl (fun v s => .mono (handleCommandEff_frame rfl ..)))
  case free e h =>
    exact .of_handle (l' := handleCommandEnts ++ writeEnts) hexec rfl (place_eq h) rfl
      (.writeCmd rfl rfl (fun v s => .mono (handleCommandEff_frame rfl ..)))
  case storePlacementWrite e j v =>
    exact .of_free (l' := placementEnts j ++ writeEnts) hexec rfl rfl
      (.writeCmd rfl rfl (fun v s => .mono (storePlacementEff_frame rfl rfl ..) (List.subset_append_left ..)) (writeEnts_within _ _))
      (placement_sub j) rfl rfl rfl (placement_link j)
  case captureArm e v =>
    exact .of_free (l' := abortEnts ++ [.lastWriter] ++ writeEnts) hexec rfl rfl
      (.writeCmd rfl rfl (fun v s => .mono (captureArmEff_frame rfl ..)))
  case captureBoundary =>
    exact .of_free (l' := boundaryEnts ++ stallEnts) hexec rfl rfl
      (.ite (.then (.mono (captureBoundaryEff_frame rfl rfl ..)) (.stalled ..)) (.refl s))
  case captureDone => exact .of_free hexec rfl rfl (captureDoneEff_frame s)
  case captureAbort e v =>
    exact .of_free (l' := abortEnts ++ writeEnts) hexec rfl rfl
      (.writeCmd rfl rfl (fun v s => .mono (captureAbortEff_frame ..)))
  all_goals exact nomatch hfam

end Sys2Proof.Machine
end

section
/-! PROOF. Where the commands of buffers, captures and video units store to the Quarry (R20, R114, R151, R182). -/

namespace Sys2Proof.Machine

/-- An entry that a frame does not name. -/
theorem VideoFrame.keepsRdv {l : List Ent} {k : Ent → Bool} {n : Nat} {m : Moves} {s t : State}
    (h : VideoFrame l k n m s t) (x : Ent) (i : Nat) (hx : l.contains x = false := by decide) : t.rdv x i = s.rdv x i :=
  h.rdv x i (by rw [reaches, hx, Bool.false_and])

theorem VideoFrame.keepsRd {l : List Ent} {k : Ent → Bool} {n : Nat} {m : Moves} {s t : State}
    (h : VideoFrame l k n m s t) (x : Ent) (i : Nat) (hx : l.contains x = false := by decide) : t.rd x i = s.rd x i :=
  congrArg (fun v => v.headD 0) (h.keepsRdv x i hx)

/-! Placements (R20). -/

theorem State.store_congr {s t : State} {j : Nat} (h : t.rd (placeEnt j) 0 = s.rd (placeEnt j) 0) :
    t.storeAddr j = s.storeAddr j ∧ t.storeSize j = s.storeSize j := by
  simp only [State.storeAddr, State.storeSize, State.storeBase, State.storeBanks, h, and_self]

theorem placeEnt_not_cleared (j : Nat) : clearEnts.contains (placeEnt j) = false := by
  unfold placeEnt
  split <;> decide

theorem placeEnt_not_counted (j : Nat) : (placeEnt j).dropCounter = false := by
  unfold placeEnt
  split <;> rfl

/-- R20: a placement write clears the store where it then stands. -/
theorem storePlacementEff_outside (j : Nat) (v : Val) (s : State) (a : Nat)
    (ha : a < (storePlacementEff j v s).1.storeAddr j
      ∨ (storePlacementEff j v s).1.storeAddr j + (storePlacementEff j v s).1.storeSize j ≤ a) :
    SMap.get (storePlacementEff j v s).1.quarry a 0 = SMap.get s.quarry a 0 := by
  have hsame : ∀ (r : State × Ans), r.1.quarry = s.quarry → SMap.get r.1.quarry a 0 = SMap.get s.quarry a 0 :=
    fun r hr => by rw [hr]
  unfold storePlacementEff at ha ⊢
  dsimp only at ha ⊢
  generalize v.headD 0 = w at ha ⊢
  split
  · exact hsame _ rfl
  · split
    · exact hsame _ rfl
    · split
      · exact hsame _ rfl
      · rename_i hstop hok hmoved
        rw [if_neg hstop, if_neg hok, if_neg hmoved] at ha
        rw [State.clearStore_eq] at ha ⊢
        have hx : (s.wr (placeEnt j) 0 w).quarry = s.quarry := State.wr_quarry ..
        generalize s.wr (placeEnt j) 0 w = x at ha hx ⊢
        have hclear : VideoFrame clearEnts anyPlace 0 ⟨false, false, true, false⟩
            { x with quarry := SMap.clear x.quarry (x.storeAddr j) (x.storeSize j) } _ := .clearTables rfl _ j
        have hplace : _ = x.rd (placeEnt j) 0 := hclear.keepsRd _ 0 (placeEnt_not_cleared j)
        have hquarry := hclear.quarry rfl
        generalize State.clearTables _ j = y at ha hplace hquarry ⊢
        have hstore : (s.notePages y).storeAddr j = x.storeAddr j ∧ (s.notePages y).storeSize j = x.storeSize j :=
          State.store_congr hplace
        dsimp only at ha ⊢
        rw [hstore.1, hstore.2] at ha
        show SMap.get y.quarry a 0 = _
        rw [hquarry, Memory.get_clear, if_neg (by omega), hx]

/-- R20: the bytes outside the placed store stay. -/
theorem storePlacementWrite_outside {e : Env} {j : Fin 6} {v : Bytes} {s t : State}
    (hexec : exec (.storePlacementWrite e j v) s = .next t) (a : Nat)
    (ha : a < t.storeAddr j ∨ t.storeAddr j + t.storeSize j ≤ a) : SMap.get t.quarry a 0 = SMap.get s.quarry a 0 := by
  obtain rfl : s.writeCmd e (placeEnt j) 0 v (storePlacementEff j) = t := Host.Outcome.next.inj hexec
  rcases s.writeCmd_cases (p := 0) (q := false) (mr := false) e (placeEnt j) 0 v (storePlacementEff j) with h | h
  · rw [h.quarry rfl]
  · rw [h] at ha ⊢
    obtain ⟨haddr, hsize⟩ := State.store_congr (j := j) (State.finish_rd
      (storePlacementEff j ((placeEnt j).info.decode v) (s.claimSpi e)).1 (writeReq e (placeEnt j) 0 v)
      (storePlacementEff j ((placeEnt j).info.decode v) (s.claimSpi e)).2 false (placeEnt j) 0 (placeEnt_not_counted j))
    rw [haddr, hsize] at ha
    rw [State.finish_quarry, storePlacementEff_outside j _ _ a ha, State.claimSpi_quarry]

/-! Buffers (R151). -/

/-- R151: a write into a buffer leaves every other byte. -/
theorem State.bufWrite_outside (b : Bytes) (h o : Nat) (s : State) {a : Nat}
    (ha : ∀ j < b.length, a ≠ s.bufAddr h (o + j)) : SMap.get (s.bufWrite h o b).quarry a 0 = SMap.get s.quarry a 0 := by
  induction b generalizing s o with
  | nil => rfl
  | cons x b ih =>
    refine (ih (o + 1) _ (fun j hj => ?_)).trans (SMap.get_set_ne _ _ _ (Ne.symm (ha 0 (Nat.succ_pos _))) _)
    have hnext := ha (j + 1) (Nat.succ_lt_succ hj)
    rwa [show o + (j + 1) = o + 1 + j by omega] at hnext

theorem VideoFrame.bufAddr {l : List Ent} {m : Moves} {s t : State} (h : VideoFrame l anyPlace 0 m s t)
    (hb : m.bufs = false := by rfl) (hl : l.contains .frameStorePlace = false := by decide) (i o : Nat) :
    t.bufAddr i o = s.bufAddr i o := State.bufAddr_congr (h.bufs hb) (h.keepsRd .frameStorePlace 0 hl) i o

/-! The image of a capture (R132 to R135, R182). -/

theorem encodePacket_length (w h d b : Nat) (f : Nat → Nat → Nat) (y : Nat) :
    (encodePacket w h d b f y).length = packetBytes w b := by
  have hbody : ∀ l : List Nat, (l.flatMap (fun bx => leBytes (2 * b) (encodeBlock (blockSamples w h f bx y) d b))).length
      = l.length * (2 * b) := fun l => by
    simp [List.length_flatMap]
  have hpad : ceilDiv w 8 * (2 * b) = 2 * b * ceilDiv w 8 := Nat.mul_comm ..
  have hround : ∀ j : Nat, j ≤ 4 * ceilDiv j 4 := fun j => by unfold ceilDiv; omega
  have hfits := hround (2 * b * ceilDiv w 8)
  unfold encodePacket
  simp only [List.length_append, List.length_replicate, leBytes_length, hbody, List.length_range, hpad]
  unfold packetBytes
  omega

theorem encodePlane_length (w h b p : Nat) (f : Nat → Nat → Nat) (hb : b < 256) :
    (encodePlane w h 12 b f).length = planeBytes (captureFormat b) w h p := by
  have hform : captureFormat b % 16 = 0 := by unfold captureFormat; omega
  have hdepth : captureFormat b / 256 % 256 = 12 := by unfold captureFormat; omega
  have htarget : captureFormat b / 65536 % 256 = b := by unfold captureFormat; omega
  have hwidth : planeW 0 w p = w := if_neg (by omega)
  have hheight : planeH 0 h p = h := if_neg (by omega)
  simp only [planeBytes, hform, hdepth, htarget, hwidth, hheight]
  unfold encodePlane
  split
  · simp [List.length_flatMap, packRow]
  · simp [List.length_flatMap, encodePacket_length]

theorem planeBase_succ (fmt w h p : Nat) : planeBase fmt w h (p + 1) = planeBase fmt w h p + planeBytes fmt w h p := by
  simp [planeBase, List.range_succ]

/-- R132: the planes lie one after another. -/
theorem planeBase_mono (fmt w h : Nat) {p q : Nat} (hpq : p ≤ q) : planeBase fmt w h p ≤ planeBase fmt w h q := by
  induction hpq with
  | refl => exact Nat.le_refl _
  | step _ ih => exact ih.trans (by rw [planeBase_succ]; exact Nat.le_add_right ..)

/-- R132, R182: the planes of a capture, written one after another, leave what lies outside the image. -/
theorem State.planes_outside {w h b i : Nat} (hb : b < 256) (px : Nat → Nat → Nat → Nat) {l : List Nat}
    (hl : ∀ p ∈ l, p < 3) {s : State} {a : Nat}
    (ha : ∀ o < planeBase (captureFormat b) w h 3, a ≠ s.bufAddr i o) :
    SMap.get (s.forEach l (fun s p => s.bufWrite i (planeBase (captureFormat b) w h p) (encodePlane w h 12 b (px p)))).quarry
      a 0 = SMap.get s.quarry a 0 := by
  induction l generalizing s with
  | nil => rfl
  | cons p l ih =>
    obtain ⟨hp, hrest⟩ := List.forall_mem_cons.1 hl
    have hwrite := State.bufWrite_outside (encodePlane w h 12 b (px p)) i (planeBase (captureFormat b) w h p) s (a := a)
      (fun j hj => ha _ (by
        have hend := planeBase_mono (captureFormat b) w h (Nat.succ_le_of_lt hp)
        rw [encodePlane_length w h b p _ hb] at hj
        rw [Nat.succ_eq_add_one, planeBase_succ] at hend
        omega))
    obtain ⟨y, hy⟩ := s.bufWrite_form (encodePlane w h 12 b (px p)) i (planeBase (captureFormat b) w h p)
    have hnext := ih hrest (s := s.bufWrite i (planeBase (captureFormat b) w h p) (encodePlane w h 12 b (px p)))
      (fun o ho => by rw [hy]; exact ha o ho)
    exact hnext.trans hwrite

/-- R226: the parameters of a refresh, but for the tables, rest on the entries and the commits alone. -/
theorem State.tablesAt_congr {s t : State} {x : Ent} (hmodl : t.modl = s.modl) (hx : (tableEnts.map (·.1)).contains x = false)
    (i : Nat) (hrdv : t.rdv x i = s.rdv x i) (at_ : Nat) : t.tablesAt at_ x i = s.tablesAt at_ x i := by
  simp only [State.tablesAt, hx, Bool.false_eq_true, if_false, State.paramAt, State.over, State.due, hmodl, hrdv]

/-- What the image of a capture and what follows it may move. -/
def imageMoves : Moves := ⟨true, false, false, false⟩

/-- What the image of a capture and what follows it may change. -/
def imageEnts : List Ent := codecEnts ++ [.captureState] ++ stallEnts

/-- R182: the state that a captured image leaves. -/
def State.imaged (s : State) (at_ : Nat) : State := ((s.captureImage at_).wr .captureState 0 2).stalled

theorem VideoFrame.imaged (s : State) (at_ : Nat) : VideoFrame imageEnts anyPlace 0 imageMoves s (s.imaged at_) :=
  .then (.then (.mono (.captureImage rfl ..)) (.wr ..)) (.stalled ..)

/-- R182: the image of a capture, where it fits, goes into its handle's pages. -/
theorem State.imaged_outside {s : State} {at_ n a : Nat} (htarget : s.cap.target < 256)
    (hfit : planeBase (captureFormat s.cap.target) (((s.imaged at_).tablesAt at_).n .tileWidth 0)
      (((s.imaged at_).tablesAt at_).n .tileHeight 0) 3 ≤ n)
    (ha : ∀ o < n, a ≠ (s.imaged at_).bufAddr s.cap.handle o) :
    SMap.get (s.imaged at_).quarry a 0 = SMap.get s.quarry a 0 := by
  have himage := VideoFrame.imaged s at_
  have hsize : ∀ x ∈ [Ent.tileWidth, .tileHeight],
      ((s.imaged at_).tablesAt at_).n x 0 = (s.tablesAt at_).n x 0 := fun x hx => by
    have hout : ∀ y ∈ [Ent.tileWidth, .tileHeight],
        (tableEnts.map (·.1)).contains y = false ∧ imageEnts.contains y = false := by decide
    obtain ⟨htable, hfree⟩ := hout x hx
    exact congrArg (fun v => v.headD 0) (State.tablesAt_congr (himage.modl rfl) htable 0 (himage.keepsRdv x 0 hfree) at_)
  rw [hsize .tileWidth (by simp), hsize .tileHeight (by simp)] at hfit
  have haddr : ∀ o < n, a ≠ s.bufAddr s.cap.handle o := fun o ho => by
    rw [← himage.bufAddr]; exact ha o ho
  clear himage hsize ha
  have hquarry : (s.imaged at_).quarry = (s.captureImage at_).quarry := by simp [State.imaged]
  rw [hquarry]
  unfold State.captureImage
  extract_lets c f shown j w h s1 fmt px
  have hread : VideoFrame codecEnts anyPlace 0 ⟨false, false, false, false⟩ s s1 := .forEach _ (fun s i _ => .readPixel ..) s
  rw [State.planes_outside htarget px (by decide) (fun o ho => by
    rw [hread.bufAddr]; exact haddr o (Nat.lt_of_lt_of_le ho hfit)), hread.quarry rfl]

/-- The time of the refresh that a capture's boundary takes (R182). -/
def State.captureTime (s : State) : Nat :=
  if s.running = true then
    ((s.untilDisp (s.boundaryFrom s.cap.since)).captureSlot (s.boundaryFrom s.cap.since)).getD 0 / 4294967296
  else s.boundaryFrom s.cap.since

/-- What comes before the image of a capture may move. -/
def beforeMoves : Moves := ⟨false, false, true, false⟩

/-- R182: a capture's boundary takes its image, or touches no byte. -/
theorem captureBoundaryEff_cases (s : State) : (captureBoundaryEff s).quarry = s.quarry
    ∨ ∃ w, VideoFrame boundaryEnts anyPlace 0 beforeMoves s w
      ∧ captureBoundaryEff s = (w.captureImage s.captureTime).wr .captureState 0 2 := by
  unfold captureBoundaryEff
  extract_lets g s1
  have h1 : VideoFrame boundaryEnts anyPlace 0 beforeMoves s s1 := .untilDisp ..
  have hrun : s1.running = s.running := State.untilDisp_running ..
  split
  · exact .inl rfl
  split
  · exact .inl (h1.quarry rfl)
  split
  · exact .inl ((h1.then (.abortCapture ..)).quarry rfl)
  split
  · rename_i hrunning
    rw [hrun] at hrunning
    split
    · exact .inl (h1.quarry rfl)
    · rename_i x hslot
      have htime : s.captureTime = x / 4294967296 := by
        unfold State.captureTime
        rw [if_pos hrunning]
        exact congrArg (fun o => Option.getD o 0 / 4294967296) hslot
      refine .inr ⟨(s1.elapse (x - s1.dispFine)).decideLaunches s1.cap.view (x / 4294967296),
        .then (h1.trans (.elapse ..)) (.decideLaunches rfl ..), ?_⟩
      rw [htime]
  · rename_i hrunning
    rw [hrun] at hrunning
    have htime : s.captureTime = g := if_neg hrunning
    refine .inr ⟨s1.consumeDue s1.cap.view g 8, h1.then (.consumeDue rfl ..), ?_⟩
    rw [htime]

/-- R182: the image of a capture goes into its handle's pages. -/
theorem captureBoundary_outside {n a : Nat} {s t : State} (hexec : exec .captureBoundary s = .next t)
    (htarget : s.cap.target < 256)
    (hfit : planeBase (captureFormat s.cap.target) ((t.tablesAt s.captureTime).n .tileWidth 0)
      ((t.tablesAt s.captureTime).n .tileHeight 0) 3 ≤ n)
    (ha : ∀ o < n, a ≠ t.bufAddr s.cap.handle o) : SMap.get t.quarry a 0 = SMap.get s.quarry a 0 := by
  obtain rfl : (if s.rd .captureState 0 = 1 then (captureBoundaryEff s).stalled else s) = t :=
    Host.Outcome.next.inj hexec
  split at hfit
  · rename_i harmed
    rw [if_pos harmed] at ha ⊢
    rcases captureBoundaryEff_cases s with hquiet | ⟨w, hbefore, himage⟩
    · rw [State.stalled_quarry, hquiet]
    · have hcap := hbefore.cap rfl
      have heq : (captureBoundaryEff s).stalled = w.imaged s.captureTime := by rw [himage]; rfl
      rw [heq] at hfit ha ⊢
      rw [← hcap] at hfit ha htarget
      exact (State.imaged_outside htarget hfit ha).trans (by rw [hbefore.quarry rfl])
  · rename_i hidle
    rw [if_neg hidle]

end Sys2Proof.Machine
end

section
/-! PROOF. The buffer that a video unit is written into, and the frame of the commands of time and video (R113, R114, R117,
R119, R123). -/

namespace Sys2Proof.Machine

/-! What the choice of a unit's buffer rests on. -/

/-- The entries that the choice of a unit's buffer rests on. -/
def choiceEnts : List Ent := [.ctxState, .assemblingFrame, .bufferSet, .handleState, .pageCount, .frameBytes, .frameTag,
  .newestFrame, .window, .control]

/-- Two states would choose the same buffer for a unit of context `c`. -/
structure SameChoice (c : Nat) (s t : State) : Prop where
  rdv : ∀ x ∈ choiceEnts, ∀ i, t.rdv x i = s.rdv x i
  newest : (t.rd .flags c).testBit 0 = (s.rd .flags c).testBit 0
  asmBuf : (t.ctx c).asmBuf = (s.ctx c).asmBuf
  nextSlot : (t.ctx c).nextSlot = (s.ctx c).nextSlot
  views : t.views = s.views

section
variable {c : Nat} {s s' t t' : State}

theorem SameChoice.trans {u : State} (h : SameChoice c s t) (g : SameChoice c t u) : SameChoice c s u :=
  ⟨fun x hx i => (g.rdv x hx i).trans (h.rdv x hx i), g.newest.trans h.newest, g.asmBuf.trans h.asmBuf,
    g.nextSlot.trans h.nextSlot, g.views.trans h.views⟩

theorem SameChoice.symm (h : SameChoice c s t) : SameChoice c t s :=
  ⟨fun x hx i => (h.rdv x hx i).symm, h.newest.symm, h.asmBuf.symm, h.nextSlot.symm, h.views.symm⟩

/-- Each of two states goes on by a step that the choice does not rest on. -/
theorem SameChoice.step (h : SameChoice c s t) (hs : SameChoice c s s') (ht : SameChoice c t t') : SameChoice c s' t' :=
  (hs.symm.trans h).trans ht

theorem SameChoice.rd (h : SameChoice c s t) (x : Ent) (i : Nat) (hx : x ∈ choiceEnts := by decide) :
    t.rd x i = s.rd x i := congrArg (fun v => v.headD 0) (h.rdv x hx i)

/-- A frame whose entries the choice does not rest on. -/
theorem SameChoice.of_frame {l : List Ent} {m : Moves} (h : VideoFrame l anyPlace 0 m s t) (hv : t.views = s.views)
    (hx : t.ctxs = s.ctxs) (hl : (choiceEnts ++ [Ent.flags]).all (fun x => !l.contains x) = true := by decide) :
    SameChoice c s t := by
  have hkeep : ∀ x ∈ choiceEnts ++ [Ent.flags], ∀ i, t.rdv x i = s.rdv x i := fun x hx i =>
    h.keepsRdv x i (by simpa using List.all_eq_true.1 hl x hx)
  have hctx : t.ctx c = s.ctx c := by unfold State.ctx; rw [hx]
  refine ⟨fun x hx i => hkeep x (List.mem_append_left _ hx) i, ?_, by rw [hctx], by rw [hctx], hv⟩
  have hflags : t.rd .flags c = s.rd .flags c := congrArg (fun v => v.headD 0) (hkeep .flags (by simp) c)
  rw [hflags]

/-- A context keeps its buffer and its slot. -/
theorem SameChoice.setCtx (s : State) (j : Nat) (a : Ctx) (hbuf : a.asmBuf = (s.ctx j).asmBuf := by rfl)
    (hslot : a.nextSlot = (s.ctx j).nextSlot := by rfl) : SameChoice c s (s.setCtx j a) := by
  refine ⟨fun _ _ _ => rfl, rfl, ?_, ?_, rfl⟩
  · rw [State.setCtx_ctx]; split
    · rename_i h; rw [hbuf, h]
    · rfl
  · rw [State.setCtx_ctx]; split
    · rename_i h; rw [hslot, h]
    · rfl

/-- In both states the context takes the same buffer and the same slot. -/
theorem SameChoice.setCtxBoth (h : SameChoice c s t) {x y : Ctx} (hbuf : y.asmBuf = x.asmBuf)
    (hslot : y.nextSlot = x.nextSlot) : SameChoice c (s.setCtx c x) (t.setCtx c y) :=
  ⟨h.rdv, h.newest, by simpa using hbuf, by simpa using hslot, h.views⟩

/-- Both states write the same to an entry of the choice. -/
theorem SameChoice.wr (h : SameChoice c s t) (x : Ent) (i j : Nat) (hx : x ≠ .flags := by decide) :
    SameChoice c (s.wr x i j) (t.wr x i j) := by
  refine ⟨fun y hy k => ?_, ?_, by simpa using h.asmBuf, by simpa using h.nextSlot, by simpa using h.views⟩
  · unfold State.wr
    rw [State.wrv_rdv, State.wrv_rdv, h.rdv y hy k]
  · rw [State.wr_rd, State.wr_rd, if_neg (fun g => hx g.1), if_neg (fun g => hx g.1)]
    exact h.newest

theorem SameChoice.count (s : State) (x : Ent) (i : Nat) (hx : (choiceEnts ++ [Ent.flags]).contains x = false := by decide) :
    SameChoice c s (s.count x i) :=
  .of_frame (m := ⟨false, false, false, false⟩) (.count ..) (by simp) (by simp) (by
    simp only [List.contains_eq_mem, decide_eq_false_iff_not] at hx
    exact List.all_eq_true.2 fun y hy => by
      have hne : y ≠ x := fun g => hx (g ▸ hy)
      simp [hne])

theorem SameChoice.raise (s : State) (e : Event) (names : List Nat) : SameChoice c s (s.raise e names) :=
  .of_frame (m := ⟨false, false, false, false⟩) (.raise ..) (by simp) (by simp)

theorem SameChoice.wrOther (s : State) (x : Ent) (i j : Nat)
    (hx : (choiceEnts ++ [Ent.flags]).contains x = false := by decide) : SameChoice c s (s.wr x i j) :=
  .of_frame (m := ⟨false, false, false, false⟩) (.wr ..) (by simp) (by simp) (by
    simp only [List.contains_eq_mem, decide_eq_false_iff_not] at hx
    exact List.all_eq_true.2 fun y hy => by
      have hne : y ≠ x := fun g => hx (g ▸ hy)
      simp [hne])

theorem SameChoice.showCtxCounts (s : State) : SameChoice c s s.showCtxCounts :=
  .of_frame (m := ⟨false, false, false, false⟩) (.showCtxCounts s) (by simp [State.showCtxCounts])
    (by simp [State.showCtxCounts])

theorem SameChoice.setCtxState (h : SameChoice c s t) (j st : Nat) :
    SameChoice c (s.setCtxState j st) (t.setCtxState j st) := by
  have hset : ∀ u : State, SameChoice c (u.wr .ctxState j st) (u.setCtxState j st) := fun u =>
    (SameChoice.setCtx _ j { u.ctx j with since := u.now } (by simp) (by simp)).trans (.showCtxCounts _)
  exact (h.wr .ctxState j st).step (hset s) (hset t)

/-- R155: two states that choose alike still do when a handle enters a state in both. -/
theorem SameChoice.setHandle (h : SameChoice c s t) (j st : Nat) :
    SameChoice c (s.setHandle j st) (t.setHandle j st) := by
  have hold := h.rd .handleState j
  have hshow : ∀ u : State, SameChoice c (u.wr .handleState j st)
      (((u.wr .handleState j st).wr .lastStateChange j u.now).showRetire) := fun u =>
    (SameChoice.wrOther _ .lastStateChange j _).trans (.wrOther _ .retirePendingCount ..)
  have hshown := (h.wr .handleState j st).step (hshow s) (hshow t)
  have hfills : ∀ (u : State) (x : SMap Fill), SameChoice c u { u with fills := x } := fun u x =>
    ⟨fun _ _ _ => rfl, rfl, rfl, rfl, rfl⟩
  unfold State.setHandle
  extract_lets old s1 s2 old' t1 t2
  have hprev : old' = old := hold
  have h2 : SameChoice c s2 t2 := by
    simp only [s2, t2, hprev]
    split
    · exact hshown.wr .frameTag j 0
    · exact hshown
  rw [hprev]
  split
  · exact h
  · split
    · exact h2.step (hfills ..) (hfills ..)
    · exact h2

/-- R119: two states that choose alike still do when a frame is abandoned in both. -/
theorem SameChoice.abandon (h : SameChoice c s t) : SameChoice c (s.abandon c) (t.abandon c) := by
  have hcount : ∀ u : State, SameChoice c u
      ((u.count .framesIncomplete c).raise .frameIncomplete [c, u.rd .assemblingFrame c]) := fun u =>
    (SameChoice.count u .framesIncomplete c).trans (.raise ..)
  unfold State.abandon
  extract_lets b s1 a s2 b' t1 a' t2
  have hbuf : b' = b := h.asmBuf
  have h1 : SameChoice c s1 t1 := h.setCtxState c 2
  have h2 : SameChoice c s2 t2 := by
    simp only [s2, t2, a, a', hbuf]
    exact (h1.setHandle b 0).setCtxBoth rfl h1.nextSlot
  rw [hbuf]
  split
  · exact h1
  · exact h2.step (hcount s2) (hcount t2)

/-- R117: the slot whose buffer a new frame of a context takes. -/
def State.frameSlot (s : State) (c : Nat) : Option Nat :=
  (slotOrder (s.ctx c).nextSlot).find? (fun i => s.qualifies c ((s.rdv .bufferSet c).getD i 0xFFFF))

/-- R117: the buffer that a new frame of a context takes. -/
theorem State.startFrame_asmBuf (s : State) (c frame launch : Nat) :
    ((s.startFrame c frame launch).ctx c).asmBuf
      = ((s.frameSlot c).map (fun i => (s.rdv .bufferSet c).getD i 0xFFFF)).getD 0xFFFF := by
  unfold State.startFrame
  extract_lets slot s1 s2 a s3
  have hset : s3.rdv .bufferSet c = s.rdv .bufferSet c := by
    have h3 : VideoFrame startEnts anyPlace 0 ⟨false, false, false, false⟩ s s3 :=
      .trans (.then (.then (.then (.loosen (.setCtxState ..)) (.wr ..)) (.wr ..)) (.wr ..)) (.setCtx ..)
    exact h3.keepsRdv .bufferSet c
  have hslot : s.frameSlot c = slot := rfl
  rw [hslot]
  clear_value slot
  cases slot with
  | none => simp [s3]
  | some i => simp [hset]

/-- R117: two states that choose alike give a new frame the same buffer. -/
theorem SameChoice.startFrame (h : SameChoice c s t) (frame launch : Nat) :
    ((t.startFrame c frame launch).ctx c).asmBuf = ((s.startFrame c frame launch).ctx c).asmBuf := by
  have hset : t.rdv .bufferSet c = s.rdv .bufferSet c := h.rdv .bufferSet (by decide) c
  have hview : t.view (t.ctxView c) = s.view (s.ctxView c) := by
    simp only [State.view, State.ctxView, h.views, h.rd .window c, h.rd .control _]
  have hqualifies : ∀ i, t.qualifies c i = s.qualifies c i := fun i => by
    simp only [State.qualifies, h.rd .handleState i, h.rd .frameBytes c, h.rd .pageCount i, h.rd .frameTag i,
      h.rd .newestFrame c, h.newest, hview]
  have hslot : t.frameSlot c = s.frameSlot c := by
    simp only [State.frameSlot, h.nextSlot, hset, hqualifies]
  rw [State.startFrame_asmBuf, State.startFrame_asmBuf, hslot, hset]

/-- R117, R119: two states that choose alike write a unit into the same buffer. -/
theorem SameChoice.openFrame (h : SameChoice c s t) (u : UnitHdr) :
    ((t.openFrame c u).ctx c).asmBuf = ((s.openFrame c u).ctx c).asmBuf := by
  have hended : SameChoice c
      (if s.rd .ctxState c = 3 ∧ u.frame ≠ s.rd .assemblingFrame c then s.abandon c else s)
      (if t.rd .ctxState c = 3 ∧ u.frame ≠ t.rd .assemblingFrame c then t.abandon c else t) := by
    rw [h.rd .ctxState c, h.rd .assemblingFrame c]
    split
    · exact h.abandon
    · exact h
  unfold State.openFrame
  dsimp only
  generalize (if s.rd .ctxState c = 3 ∧ u.frame ≠ s.rd .assemblingFrame c then s.abandon c else s) = s' at hended ⊢
  generalize (if t.rd .ctxState c = 3 ∧ u.frame ≠ t.rd .assemblingFrame c then t.abandon c else t) = t' at hended ⊢
  rw [hended.rd .ctxState c]
  split
  · exact hended.startFrame ..
  · exact hended.asmBuf

end

/-! A unit of a bound context (R112 to R114). -/

/-- R114: what is noted of a unit before its frame is looked at leaves the choice of its buffer. -/
theorem SameChoice.noteSequence (s : State) (c seq : Nat) : SameChoice c s (s.noteSequence c seq) := by
  unfold State.noteSequence
  extract_lets a s1 a'
  have h1 : SameChoice c s s1 := by
    simp only [s1]
    split
    · exact .count ..
    · exact ⟨fun _ _ _ => rfl, rfl, rfl, rfl, rfl⟩
  have h2 : SameChoice c s1 (s1.setCtx c { s1.ctx c with expSeq := (seq + 1) % 65536 }) := .setCtx ..
  refine (h1.trans h2).trans ⟨fun x hx i => ?_, ?_, by simp [a'], by simp [a'], by simp⟩
  · have hne : x ≠ .flags := fun g => by rw [g] at hx; revert hx; decide
    unfold State.wr
    rw [State.wrv_rdv, if_neg (fun g => hne g.1.symm)]
  · rw [State.wr_rd, if_pos ⟨rfl, rfl⟩, Nat.testBit_or]
    simp

theorem SameChoice.noteOwner (s : State) (c src : Nat) : SameChoice c s (s.noteOwner c src) :=
  .of_frame (m := ⟨false, false, false, false⟩) (.noteOwner ..) (by
    unfold State.noteOwner
    dsimp only
    split <;> simp) (by
    unfold State.noteOwner
    dsimp only
    split <;> simp)

/-- What a video unit moves before it is written, and after. -/
def aroundMoves : Moves := ⟨false, true, true, true⟩

/-- R114: a unit is written at its place in the buffer of the frame that is open. -/
theorem State.storeUnit_outside {s : State} {c a : Nat} {u : UnitHdr}
    (ha : ∀ j < u.data.length, a ≠ s.bufAddr (s.ctx c).asmBuf (u.unit * s.rd .unitBytes c + j)) :
    SMap.get (s.storeUnit c u).quarry a 0 = SMap.get s.quarry a 0 := by
  unfold State.storeUnit
  extract_lets x s1
  have h1 : VideoFrame [.flags] anyPlace 0 ⟨false, false, false, false⟩ s s1 := .ite (.wr ..) (.refl s)
  have hbytes : s1.rd .unitBytes c = s.rd .unitBytes c := h1.keepsRd .unitBytes c
  have hwrite := State.bufWrite_outside u.data x.asmBuf (u.unit * s1.rd .unitBytes c) s1 (a := a)
    (fun j hj => by rw [h1.bufAddr, hbytes]; exact ha j hj)
  have hafter : ∀ (w : State) (y : Nat), (w.noteUnit c y).quarry = w.quarry := fun w y =>
    (VideoFrame.noteUnit (m := aroundMoves) rfl rfl w c y).quarry rfl
  split
  · rfl
  split
  · rw [State.count_quarry]
  split
  · rw [State.count_quarry]
  · rw [hafter, hwrite, h1.quarry rfl]

/-- R114, R117, R119: a unit of a bound context is written into the buffer that its context's state chooses. -/
theorem State.boundUnit_outside {s : State} {c src seq a : Nat} {u : UnitHdr}
    (ha : ∀ j < u.data.length, a ≠ s.bufAddr ((s.openFrame c u).ctx c).asmBuf (u.unit * s.rd .unitBytes c + j)) :
    SMap.get (s.boundUnit c src seq u).quarry a 0 = SMap.get s.quarry a 0 := by
  have hchoice : SameChoice c s ((s.noteSequence c seq).noteOwner c src) :=
    (SameChoice.noteSequence s c seq).trans (.noteOwner ..)
  have hsequence : VideoFrame unitEnts anyPlace 0 ⟨false, false, false, false⟩ s (s.noteSequence c seq) :=
    .mono (.noteSequence ..)
  have hnoted := hsequence.then (.noteOwner (s.noteSequence c seq) c src)
  rw [State.boundUnit_eq]
  split
  · rw [State.count_quarry, hsequence.quarry rfl]
  generalize (s.noteSequence c seq).noteOwner c src = w at hchoice hnoted ⊢
  split
  · rw [State.count_quarry, hnoted.quarry rfl]
  rw [State.takeUnit_eq]
  split
  · rw [State.count_quarry, hnoted.quarry rfl]
  have hopen : VideoFrame unitEnts anyPlace 0 ⟨false, false, false, false⟩ s (w.openFrame c u) := hnoted.then (.openFrame ..)
  have hbytes : (w.openFrame c u).rd .unitBytes c = s.rd .unitBytes c := hopen.keepsRd .unitBytes c
  rw [State.storeUnit_outside (fun j hj => by
    rw [hchoice.openFrame, hopen.bufAddr, hbytes]; exact ha j hj), hopen.quarry rfl]

/-- R123: what the resuming of a context leaves. -/
theorem State.resume_keeps {s t : State} {c : Nat} (h : s.resume c = some t) :
    t.quarry = s.quarry ∧ (∀ i o, t.bufAddr i o = s.bufAddr i o) ∧ t.rd .unitBytes c = s.rd .unitBytes c := by
  have hframe : VideoFrame startEnts anyPlace 0 ⟨false, false, false, false⟩ s t := .resume h
  exact ⟨hframe.quarry rfl, hframe.bufAddr, hframe.keepsRd .unitBytes c⟩

/-- R113, R114, R123: a video unit's data goes into its place in its frame's buffer. -/
theorem videoUnitEff_outside {src chan seq a : Nat} {b : Bytes} {s : State}
    (ha : ∀ j < (unitOf b).data.length, a ≠ s.bufAddr (s.unitBuffer (chan % 16384) (unitOf b))
      ((unitOf b).unit * s.rd .unitBytes (chan % 16384) + j)) :
    SMap.get (videoUnitEff src chan seq b s).quarry a 0 = SMap.get s.quarry a 0 := by
  generalize hu : unitOf b = u at ha
  generalize hc : chan % 16384 = c at ha
  have hbuffer : s.unitBuffer c u
      = (((if s.rd .ctxState c = 4 then (s.resume c).getD s else s).openFrame c u).ctx c).asmBuf := rfl
  rw [hbuffer] at ha
  unfold videoUnitEff
  rw [hu, hc]
  dsimp only
  split
  · rfl
  split
  · split
    · have hadmit : VideoFrame unitEnts anyPlace 0 ⟨false, false, false, false⟩ s
          (((s.wr .owner c src).setCtxState c 1).raise .streamAdmitted [c, src]) :=
        .then (.then (.mono (.wr ..)) (.loosen (.setCtxState ..) (List.Subset.refl _))) (.raise ..)
      rw [hadmit.quarry rfl]
    · rw [State.count_quarry]
  split
  · rw [State.count_quarry]
  split
  · rw [State.count_quarry]
  split
  · rename_i hparked
    rw [if_pos hparked] at ha
    split
    · rw [State.count_quarry]
    · split
      · rw [State.count_quarry]
      · rename_i t ht
        obtain ⟨hquarry, haddr, hbytes⟩ := State.resume_keeps ht
        rw [ht, Option.getD_some] at ha
        rw [State.boundUnit_outside (fun j hj => by rw [haddr, hbytes]; exact ha j hj), hquarry]
  · rename_i hactive
    rw [if_neg hactive] at ha
    exact State.boundUnit_outside ha

/-- R114: the bytes that a video unit leaves. -/
theorem videoUnit_outside {src ch q : BitVec 16} {b : Bytes} {s t : State} (hexec : exec (.videoUnit src ch q b) s = .next t)
    {a : Nat} (ha : ∀ j < (unitOf b).data.length, a ≠ s.bufAddr (s.unitBuffer (ch.toNat % 16384) (unitOf b))
      ((unitOf b).unit * s.rd .unitBytes (ch.toNat % 16384) + j)) : SMap.get t.quarry a 0 = SMap.get s.quarry a 0 := by
  obtain rfl : (if s.on 6 then (videoUnitEff src.toNat ch.toNat q.toNat b s).stalled else s) = t :=
    Host.Outcome.next.inj hexec
  split
  · rw [State.stalled_quarry, videoUnitEff_outside ha]
  · rfl

/-- Settles O57: each command by the frames of its operations, and the Quarry by where its stores lie. -/
theorem timeAndVideoFrame : Obligations.TimeAndVideoFrame := by
  unfold Obligations.TimeAndVideoFrame
  refine ⟨?frame, ?image, ?unit, ?placement⟩
  case frame =>
    intro c s t hfam hexec
    rcases hfam with htime | hvideo
    · exact timeFrame htime hexec
    · exact videoFrame hvideo hexec
  case image =>
    rintro f g n s t rfl hexec rfl htarget rfl hfit a ha
    exact captureBoundary_outside hexec htarget hfit ha
  case unit =>
    rintro src ch q b c u s t rfl rfl hexec a ha
    exact videoUnit_outside hexec ha
  case placement =>
    intro e j v s t hexec a ha
    exact storePlacementWrite_outside hexec a ha

end Sys2Proof.Machine
end

section
/-! PROOF. Contexts are configured, bound, parked and released, and their records lie in the context store (R107, R110,
R111, R122, R124). -/

namespace Sys2Proof.Machine

/-! What an answered write leaves. -/

/-- R273 to R278: what a write that passes the first checks leaves, where its own effect leaves `t` and answers `st`. -/
structure WriteDone (e : Env) (t u : State) (st : Status) : Prop where
  rdv : ∀ x i, x.dropCounter = false → u.rdv x i = t.rdv x i
  ctx : ∀ c, u.ctx c = t.ctx c
  answered : u.answered e st

theorem WriteDone.rd {e : Env} {t u : State} {st : Status} (h : WriteDone e t u st) (x : Ent) (i : Nat)
    (hx : x.dropCounter = false := by decide) : u.rd x i = t.rd x i :=
  congrArg (fun v => v.headD 0) (h.rdv x i hx)

theorem State.writeCmd_done {s t : State} {e : Env} {x : Ent} {i : Nat} {v : Bytes} {st : Status}
    {eff : Val → State → State × Ans} (hmay : s.mayWrite e x i v)
    (heff : eff (x.info.decode v) (s.claimSpi e) = (t, ans st)) : WriteDone e t (s.writeCmd e x i v eff) st := by
  rw [State.writeCmd_run hmay, heff]
  exact ⟨fun y j hy => State.finish_rdv _ _ _ _ _ _ hy, fun c => State.finish_ctx ..,
    State.finish_answered t (writeReq e x i v) st false⟩

/-- A write that its own effect refuses leaves the entries. -/
theorem WriteDone.keepsRd {e : Env} {s u : State} {st : Status} (h : WriteDone e (s.claimSpi e) u st) (x : Ent) (i : Nat)
    (hx : x.dropCounter = false := by decide) : u.rd x i = s.rd x i :=
  (h.rd x i hx).trans (State.claimSpi_rd ..)

/-! The three commands of a context (R128). -/

theorem ctxCommand_decode (n : Byte) : Ent.ctxCommand.info.decode [n] = [n.toNat] := by
  simp [EntInfo.decode, Ent.info, cut, leNat]

theorem ctxCommandEff_bind (c : Nat) (s : State) : ctxCommandEff c (Ent.ctxCommand.info.decode [1]) s = bindEff c s := by
  simp [ctxCommand_decode, ctxCommandEff]

theorem ctxCommandEff_park (c : Nat) (s : State) : ctxCommandEff c (Ent.ctxCommand.info.decode [2]) s = parkEff c s := by
  simp [ctxCommand_decode, ctxCommandEff]

theorem ctxCommandEff_release (c : Nat) (s : State) :
    ctxCommandEff c (Ent.ctxCommand.info.decode [3]) s = releaseEff c s := by
  simp [ctxCommand_decode, ctxCommandEff]

/-! The binding fields (R110). -/

theorem fieldEnt_ne_derived (f : CtxField) : fieldEnt f ≠ .frameBytes ∧ fieldEnt f ≠ .unitCount ∧ fieldEnt f ≠ .ctxState
    ∧ (fieldEnt f).dropCounter = false := by
  cases f <;> decide

@[simp] theorem State.claimSpi_fieldOk (s : State) (e : Env) (c : Nat) (f : CtxField) (v : Val) :
    (s.claimSpi e).fieldOk c f v = s.fieldOk c f v := by
  unfold State.claimSpi
  split <;> rfl

theorem ctxFieldEff_bound {c : Nat} {s : State} (h : s.rd .ctxState c = 2 ∨ s.rd .ctxState c = 3) (f : CtxField) (v : Val) :
    ctxFieldEff c f v s = (s, ans .state) := by
  unfold ctxFieldEff
  rw [if_pos h]

theorem ctxFieldEff_free {c : Nat} {s : State} {f : CtxField} {v : Val} (h2 : s.rd .ctxState c ≠ 2)
    (h3 : s.rd .ctxState c ≠ 3) (hok : s.fieldOk c f v = true) :
    ctxFieldEff c f v s = ((s.wrv (fieldEnt f) c v).refit c, ans .ok) := by
  simp [ctxFieldEff, h2, h3, hok]

/-- R110: the sizes follow the binding fields, and nothing else of the context does. -/
theorem State.refit_rdv (s : State) (c : Nat) (x : Ent) (i : Nat) (hb : x ≠ .frameBytes) (hu : x ≠ .unitCount) :
    (s.refit c).rdv x i = s.rdv x i := by
  simp [State.refit, hb.symm, hu.symm]

/-- R110: FrameBytes and UnitCount of the binding fields in force. -/
theorem State.refit_sizes (s : State) (c : Nat) :
    (s.refit c).rd .frameBytes c
      = frameBytesOf ((s.refit c).rd .format c) ((s.refit c).rd .width c) ((s.refit c).rd .height c)
    ∧ (s.refit c).rd .unitCount c
      = if (s.refit c).rd .unitBytes c = 0 then 0
        else ceilDiv ((s.refit c).rd .frameBytes c) ((s.refit c).rd .unitBytes c) % 65536 := by
  simp [State.refit]

/-! Bind (R111). -/

@[simp] theorem State.claimSpi_bindRange (s : State) (e : Env) (c : Nat) : (s.claimSpi e).bindRange c = s.bindRange c := by
  unfold State.claimSpi
  split <;> rfl

@[simp] theorem State.claimSpi_bindCheck (s : State) (e : Env) (c : Nat) : (s.claimSpi e).bindCheck c = s.bindCheck c := by
  unfold State.claimSpi
  split <;> rfl

@[simp] theorem State.showCtxCounts_ctx (s : State) (c : Nat) : s.showCtxCounts.ctx c = s.ctx c := by
  simp [State.showCtxCounts]

theorem State.showCtxCounts_rdv (s : State) (x : Ent) (i : Nat)
    (hx : [Ent.openCount, .boundCount, .parkedCount].contains x = false := by decide) :
    s.showCtxCounts.rdv x i = s.rdv x i :=
  (VideoFrame.showCtxCounts (m := ⟨false, false, false, false⟩) s).keepsRdv x i hx

theorem State.setCtxState_rdv (s : State) (c st : Nat) (x : Ent) (i : Nat)
    (hx : [Ent.openCount, .boundCount, .parkedCount].contains x = false := by decide) :
    (s.setCtxState c st).rdv x i = if Ent.ctxState = x ∧ c % 65536 = i % 65536 then [st] else s.rdv x i := by
  unfold State.setCtxState
  rw [State.showCtxCounts_rdv _ _ _ hx]
  exact State.wr_rdv ..

theorem State.setCtxState_rd (s : State) (c st : Nat) (x : Ent) (i : Nat)
    (hx : [Ent.openCount, .boundCount, .parkedCount].contains x = false := by decide) :
    (s.setCtxState c st).rd x i = if Ent.ctxState = x ∧ c % 65536 = i % 65536 then st else s.rd x i := by
  unfold State.rd
  rw [State.setCtxState_rdv _ _ _ _ _ hx]
  split <;> rfl

/-- R108: a context is in the state that it enters. -/
@[simp] theorem State.setCtxState_state (s : State) (c st : Nat) : (s.setCtxState c st).rd .ctxState c = st :=
  (State.setCtxState_rd s c st .ctxState c).trans (if_pos ⟨rfl, rfl⟩)

/-- R108: what a context holds beside its entries as it enters a state. -/
theorem State.setCtxState_ctx (s : State) (c st : Nat) :
    (s.setCtxState c st).ctx c = { s.ctx c with since := s.now } := by
  simp [State.setCtxState]

/-- R111: a Bind that passes every check. -/
theorem bindEff_accepted {c : Nat} {s : State} (h2 : s.rd .ctxState c ≠ 2) (h3 : s.rd .ctxState c ≠ 3)
    (hrange : s.bindRange c = true) (hcheck : s.bindCheck c = none) :
    ∃ t, bindEff c s = (t, ans .ok) ∧ t.rd .ctxState c = 2 ∧ t.rd .unitsReceived c = 0 ∧ t.rd .lastUnitTime c = s.now
      ∧ (t.ctx c).amap = 0 := by
  unfold bindEff
  extract_lets st s1 a s2 s3
  have hnow : s1.now = s.now := by simp only [s1]; split <;> simp
  rw [if_neg (by simp [st, h2, h3]), hrange, if_neg (by simp), hcheck]
  refine ⟨_, rfl, ?_⟩
  simp [State.setCtxState_rd, State.setCtxState_ctx, s3, s2, hnow]

/-- R111: a Bind of a context that is bound. -/
theorem bindEff_bound {c : Nat} {s : State} (h : s.rd .ctxState c = 2 ∨ s.rd .ctxState c = 3) :
    bindEff c s = (s, ans .state) := by
  unfold bindEff
  rw [if_pos h]

/-- R111: a Bind with a bad binding field. -/
theorem bindEff_range {c : Nat} {s : State} (h2 : s.rd .ctxState c ≠ 2) (h3 : s.rd .ctxState c ≠ 3)
    (hrange : s.bindRange c = false) : bindEff c s = (s, ans .range) := by
  simp [bindEff, h2, h3, hrange]

/-- R111: a Bind that fails one of steps 3 to 7. -/
theorem bindEff_refused {c : Nat} {s : State} {st : Status} (h2 : s.rd .ctxState c ≠ 2) (h3 : s.rd .ctxState c ≠ 3)
    (hrange : s.bindRange c = true) (hcheck : s.bindCheck c = some st) : bindEff c s = (s, ans st) := by
  simp [bindEff, h2, h3, hrange, hcheck]

/-! Parking and release (R122, R124). -/

theorem State.parkCtx_parks (s : State) (c cause : Nat) : (s.parkCtx c cause).rd .ctxState c = 4
    ∧ (s.parkCtx c cause).rd .window c = s.rd .window c := by
  refine ⟨?_, (VideoFrame.parkCtx (m := ⟨false, false, false, false⟩) s c cause).keepsRd .window c⟩
  simp [State.parkCtx]

theorem parkEff_bound {c : Nat} {s : State} (h : s.rd .ctxState c = 2 ∨ s.rd .ctxState c = 3) :
    parkEff c s = (s.parkCtx c 2, ans .ok) := by
  unfold parkEff
  rw [if_pos h]

theorem State.forEach_toDefault_rdv (l : List Ent) (c : Nat) (s : State) (x : Ent) :
    (s.forEach l (fun s e => s.toDefault e c)).rdv x c = if x ∈ l then x.dflt else s.rdv x c := by
  induction l generalizing s with
  | nil => rfl
  | cons y l ih =>
    refine (ih (s.toDefault y c)).trans ?_
    rw [State.toDefault_rdv]
    by_cases hy : y = x
    · subst hy; simp
    · simp [hy, Ne.symm hy]

/-- R108: a FREE context's record holds the reset values. -/
theorem State.clearRecord_rdv (s : State) (c : Nat) {x : Ent} (hx : x ∈ ctxRecordEnts) :
    (s.clearRecord c).rdv x c = x.dflt := by
  have hcount : ∀ y ∈ ctxRecordEnts, [Ent.openCount, .boundCount, .parkedCount].contains y = false := by decide
  rw [State.clearRecord, State.showCtxCounts_rdv _ _ _ (hcount x hx), State.setCtx_rdv, State.forEach_toDefault_rdv,
    if_pos hx]

/-- R108, R124: a context that enters FREE has its record cleared. -/
theorem State.evict_rdv (s : State) (c cause : Nat) {x : Ent} (hx : x ∈ ctxRecordEnts) :
    (s.evict c cause).rdv x c = x.dflt := by
  have hevent : ∀ y ∈ ctxRecordEnts, eventEnts.contains y = false := by decide
  unfold State.evict
  rw [(VideoFrame.raise (m := ⟨false, false, false, false⟩) _ _ _).keepsRdv x c (hevent x hx), State.setCtx_rdv,
    State.clearRecord_rdv _ _ hx]

theorem State.evict_frees (s : State) (c cause : Nat) : (s.evict c cause).rd .ctxState c = 0 := by
  unfold State.rd
  rw [s.evict_rdv c cause (by decide)]
  unfold Ent.dflt
  rfl

/-- R107, R108: the counters of a context outlive it. -/
theorem State.evict_framesCompleted (s : State) (c cause : Nat) :
    (s.evict c cause).rd .framesCompleted c = s.rd .framesCompleted c :=
  (VideoFrame.evict (m := ⟨false, false, false, false⟩) s c cause).keepsRd .framesCompleted c

theorem releaseEff_used {c : Nat} {s : State} (h : s.rd .ctxState c ≠ 0) : releaseEff c s = (s.evict c 1, ans .ok) := by
  unfold releaseEff
  rw [if_neg h]

/-- R122: the park timeout of a bound context has come. -/
theorem parkTimeoutEff_due {c : Nat} {s : State} (halive : s.alive 6 = true)
    (hbound : s.rd .ctxState c = 2 ∨ s.rd .ctxState c = 3)
    (hdue : s.rd .lastUnitTime c + s.rd .parkTimeout 0 * 1000000 ≤ s.now) : parkTimeoutEff c s = s.parkCtx c 0 := by
  have hstate : (s.rd .ctxState c = 2 || s.rd .ctxState c = 3) = true := by simpa using hbound
  simp [parkTimeoutEff, halive, hstate, hdue]

/-- R124: the evict timeout of an OPEN or PARKED context has come. -/
theorem evictTimeoutEff_due {c : Nat} {s : State} (halive : s.alive 6 = true)
    (hunbound : s.rd .ctxState c = 1 ∨ s.rd .ctxState c = 4) (hset : s.rd .evictTimeout 0 ≠ 0)
    (hdue : (s.ctx c).since + s.rd .evictTimeout 0 * 1000000 < s.now) : evictTimeoutEff c s = s.evict c 0 := by
  have hstate : (s.rd .ctxState c = 1 || s.rd .ctxState c = 4) = true := by simpa using hunbound
  simp [evictTimeoutEff, halive, hstate, hset, hdue]

theorem evictTimeoutEff_off {c : Nat} {s : State} (h : s.rd .evictTimeout 0 = 0) : evictTimeoutEff c s = s := by
  simp [evictTimeoutEff, h]

/-! The record of a context (R107). -/

theorem field_cons_succ (x : Byte) (b : Bytes) (a n : Nat) : field (x :: b) (a + 1) n = field b a n := rfl

theorem pow_256 (k : Nat) : 256 ^ k = 2 ^ (8 * k) := (Nat.pow_mul 2 8 k).symm

/-- Table 5.1: a record whose BufferSet holds eight handles has its length. -/
theorem State.ctxRecord_length {s : State} {c : Nat} (h : (s.rdv .bufferSet c).length = 8) :
    (s.ctxRecord c).length = 1024 := by
  unfold State.ctxRecord
  extract_lets x f
  have hf : ∀ w e, (f w e).length = w := fun w e => leBytes_length ..
  have hset : ((s.rdv .bufferSet c).flatMap (leBytes 2)).length = 16 := by simp [h]
  have hcounters : (ctxCounterEnts.flatMap (f 4)).length = 40 := by simp [ctxCounterEnts, hf]
  simp only [List.length_append, List.length_replicate, leBytes_length, hset, hf, hcounters, List.length_singleton]

/-- Table 5.1: where four fields of the record lie. -/
theorem State.ctxRecord_fields {s : State} {c : Nat} (h : (s.rdv .bufferSet c).length = 8) :
    field (s.ctxRecord c) 0 512 = (s.ctx c).amap % 2 ^ 4096 ∧ field (s.ctxRecord c) 512 1 = s.rd .ctxState c % 256
      ∧ field (s.ctxRecord c) 516 2 = s.rd .owner c % 65536
      ∧ field (s.ctxRecord c) 552 4 = s.rd .assemblingFrame c % 2 ^ 32 := by
  unfold State.ctxRecord
  extract_lets x f
  have hf : ∀ w e, f w e = leBytes w (s.rd e c) := fun _ _ => rfl
  clear_value f
  simp only [List.append_assoc]
  generalize ctxCounterEnts.flatMap (f 4) ++ List.replicate 392 0 = r
  refine ⟨(field_leBytes_append ..).trans (by simp only [pow_256, Nat.reduceMul, x]), ?state, ?owner, ?frame⟩
  all_goals
    generalize hm : leBytes 512 x.amap = m
    replace hm : m.length = 512 := by rw [← hm, leBytes_length]
  case state => simp [field_append_right, hm, hf, field_leBytes_append]
  case owner => simp [field_append_right, hm, hf, field_cons_succ, field_leBytes_append]
  case frame => simp [field_append_right, hm, hf, field_cons_succ, field_leBytes_append, h]

/-- R107, R149: the bytes of a context's record lie in the context store. -/
theorem State.quarryByte_ctxRecord {s : State} {c k : Nat} (hc : c < 16384) (hk : k < 1024)
    (hkept : s.power.ctxLost = false) (hsize : 16777216 ≤ s.storeSize 2) :
    s.quarryByte (s.storeAddr 2 + 1024 * c + k) = (s.ctxRecord c).getD k 0 := by
  have hoff : s.storeAddr 2 + 1024 * c + k - s.storeAddr 2 = 1024 * c + k := by omega
  have hctx : (1024 * c + k) / 1024 = c := by omega
  have hbyte : (1024 * c + k) % 1024 = k := by omega
  unfold State.quarryByte
  simp only [hoff, hctx, hbyte]
  exact if_pos ⟨by omega, by omega, hkept⟩

/-- Settles O11: each command by the lemma about its effect. -/
theorem contextsLiveAndEnd : Obligations.ContextsLiveAndEnd := by
  unfold Obligations.ContextsLiveAndEnd
  refine ⟨⟨?written, ?fieldBound, ?bound, ?bindBound, ?bindRange, ?bindRefused, ?parked, ?released, ?record⟩,
    ?parkTimeout, ?evictTimeout, ?evictOff⟩
  case written =>
    intro e c f v s hmay h2 h3 hok
    have hdone := State.writeCmd_done (eff := ctxFieldEff c f) hmay
      (ctxFieldEff_free (by simpa using h2) (by simpa using h3) (by simpa using hok))
    obtain ⟨hbytes, hcount, hstate, hdrop⟩ := fieldEnt_ne_derived f
    obtain ⟨hframe, hunits⟩ := ((s.claimSpi e).wrv (fieldEnt f) c ((fieldEnt f).info.decode v)).refit_sizes c
    refine ⟨_, rfl, ?_, ?_, ?_, ?_, hdone.answered⟩
    · rw [hdone.rdv _ _ hdrop, State.refit_rdv _ _ _ _ hbytes hcount, State.wrv_rdv, if_pos ⟨rfl, rfl⟩]
    · rw [hdone.rd .frameBytes, hdone.rd .format, hdone.rd .width, hdone.rd .height, hframe]
    · rw [hdone.rd .unitCount, hdone.rd .unitBytes, hdone.rd .frameBytes, hunits]
    · rw [hdone.rd .ctxState]
      simp [State.refit, hstate]
  case fieldBound =>
    intro e c f v s hmay hbound
    have hdone := State.writeCmd_done (eff := ctxFieldEff c f) hmay (ctxFieldEff_bound (by simpa using hbound) f _)
    obtain ⟨-, -, -, hdrop⟩ := fieldEnt_ne_derived f
    refine ⟨_, rfl, ?_, hdone.answered⟩
    rw [hdone.rdv _ _ hdrop, State.claimSpi_rdv]
  case bound =>
    intro e c s hmay h2 h3 hrange hcheck
    obtain ⟨t, heff, hstate, hunits, htime, hmap⟩ := bindEff_accepted (s := s.claimSpi e) (c := c) (by simpa using h2)
      (by simpa using h3) (by simpa using hrange) (by simpa using hcheck)
    have hdone := State.writeCmd_done (eff := ctxCommandEff c) hmay ((ctxCommandEff_bind ..).trans heff)
    refine ⟨_, rfl, ?_, ?_, ?_, ?_, hdone.answered⟩
    · rw [hdone.rd .ctxState, hstate]
    · rw [hdone.rd .unitsReceived, hunits]
    · rw [hdone.rd .lastUnitTime, htime, State.claimSpi_now]
    · rw [hdone.ctx, hmap]
  case bindBound =>
    intro e c s hmay hbound
    have hdone := State.writeCmd_done (eff := ctxCommandEff c) hmay
      ((ctxCommandEff_bind ..).trans <| bindEff_bound (by simpa using hbound))
    exact ⟨_, rfl, hdone.keepsRd .ctxState c, hdone.answered⟩
  case bindRange =>
    intro e c s hmay h2 h3 hrange
    have hdone := State.writeCmd_done (eff := ctxCommandEff c) hmay
      ((ctxCommandEff_bind ..).trans <| bindEff_range (by simpa using h2) (by simpa using h3) (by simpa using hrange))
    exact ⟨_, rfl, hdone.keepsRd .ctxState c, hdone.answered⟩
  case bindRefused =>
    intro e c st s hmay h2 h3 hrange hcheck
    have hdone := State.writeCmd_done (eff := ctxCommandEff c) hmay
      ((ctxCommandEff_bind ..).trans <| bindEff_refused (by simpa using h2) (by simpa using h3) (by simpa using hrange)
        (by simpa using hcheck))
    exact ⟨_, rfl, hdone.keepsRd .ctxState c, hdone.answered⟩
  case parked =>
    intro e c s hmay hbound
    have hdone := State.writeCmd_done (eff := ctxCommandEff c) hmay
      ((ctxCommandEff_park ..).trans <| parkEff_bound (by simpa using hbound))
    obtain ⟨hstate, hwindow⟩ := (s.claimSpi e).parkCtx_parks c 2
    refine ⟨_, rfl, ?_, ?_, hdone.answered⟩
    · rw [hdone.rd .ctxState, hstate]
    · rw [hdone.rd .window, hwindow, State.claimSpi_rd]
  case released =>
    intro e c s hmay hused
    have hdone := State.writeCmd_done (eff := ctxCommandEff c) hmay
      ((ctxCommandEff_release ..).trans <| releaseEff_used (by simpa using hused))
    refine ⟨_, rfl, ?_, ?_, ?_, hdone.answered⟩
    · rw [hdone.rd .ctxState, State.evict_frees]
    · rw [hdone.rdv .owner _ (by decide), State.evict_rdv _ _ _ (by decide)]
    · rw [hdone.rd .framesCompleted, State.evict_framesCompleted, State.claimSpi_rd]
  case record =>
    intro c s hset hc hkept hsize
    exact ⟨State.ctxRecord_length hset, fun k hk => State.quarryByte_ctxRecord hc hk hkept hsize,
      State.ctxRecord_fields hset⟩
  case parkTimeout =>
    intro c s halive hbound hdue
    refine ⟨_, rfl, ?_⟩
    rw [parkTimeoutEff_due halive hbound hdue]
    exact (s.parkCtx_parks c 0).1
  case evictTimeout =>
    intro c s halive hunbound hset hdue
    refine ⟨_, rfl, ?_⟩
    rw [evictTimeoutEff_due halive hunbound hset hdue]
    exact s.evict_frees c 0
  case evictOff =>
    intro c s hoff
    exact congrArg Host.Outcome.next (evictTimeoutEff_off hoff)

end Sys2Proof.Machine
end

section
/-! PROOF. A video unit of a newer frame, where AssemblingBuffer is wider than a handle (R117, R119). -/

namespace Sys2Proof.Machine

@[simp] theorem State.stalled_ctx (s : State) (c : Nat) : s.stalled.ctx c = s.ctx c := by
  obtain ⟨regs, revs, h⟩ := s.stalled_form
  rw [h]
  rfl

/-- R117: context 5 assembles frame 0, of two units, into a buffer whose number, 65,537, is no handle's: it names the entries
of handle 1, whose place in the register file is its number modulo 65,536. BufferSet holds handle 1. -/
def wideBufferState : State :=
  (((((((({ power := { doms := [(6, { st := .on })] } } : State).wr .ctxState 5 3).wr .owner 5 1).wr .format 5 0x0800).wr
    .width 5 16).wr .height 5 2).wr .unitBytes 5 64).refit 5).wrv .bufferSet 5
    [1, 0xFFFF, 0xFFFF, 0xFFFF, 0xFFFF, 0xFFFF, 0xFFFF, 0xFFFF] |>.wr .pageCount 1 1 |>.setCtx 5 { asmBuf := 65537 }

/-- Table 5.3: unit 0 of frame 1. -/
def newerUnit : Bytes := leBytes 4 1 ++ leBytes 2 0 ++ leBytes 2 1 ++ leBytes 8 0 ++ List.replicate 64 0

theorem wideBufferState_shows : wideBufferState.on 6 = true ∧ wideBufferState.rd .ctxState 5 = 3
    ∧ wideBufferState.rd .owner 5 = 1 ∧ wideBufferState.unitOk 5 (unitOf newerUnit) = true
    ∧ 0 < sgn 32 ((unitOf newerUnit).frame + 4294967296 - wideBufferState.rd .assemblingFrame 5)
    ∧ (wideBufferState.rd .flags 5).testBit 0 = false ∧ (wideBufferState.ctx 5).asmBuf = 65537
    ∧ 1 < wideBufferState.rd .unitCount 5 := by
  decide +kernel

/-- R117: the new frame takes handle 1, which enters WRITING, and so do the entries that 65,537 names. -/
theorem videoUnitEff_wideBuffer : ((videoUnitEff 1 5 0 newerUnit wideBufferState).ctx 5).asmBuf = 1
    ∧ (videoUnitEff 1 5 0 newerUnit wideBufferState).rd .handleState 65537 = 1 := by
  decide +kernel

/-- Refutes O12: its last clause lets AssemblingBuffer be any number. One that is no handle's shares its place in the register
file with a handle; where the new frame takes that handle (R117), the place shows WRITING, and AssemblingBuffer changes. -/
theorem not_videoUnits : ¬ Obligations.VideoUnits := by
  unfold Obligations.VideoUnits
  rintro ⟨-, -, -, -, -, -, -, -, hnewer⟩
  obtain ⟨hon, hstate, howner, hok, hframe, hflags, hwide, hcount⟩ := wideBufferState_shows
  obtain ⟨t, hexec, -, -, -, hfree⟩ := hnewer 1 5 0 newerUnit 5 wideBufferState hon rfl hstate howner hok hframe hflags
    (by rw [hwide]; decide) hcount
  obtain ⟨htaken, hwriting⟩ := videoUnitEff_wideBuffer
  have ht : (if wideBufferState.on 6 then (videoUnitEff 1 5 0 newerUnit wideBufferState).stalled else wideBufferState) = t :=
    Host.Outcome.next.inj hexec
  rw [← ht, if_pos hon, hwide, State.stalled_ctx, State.stalled_rd _ _ (by decide) (by decide), htaken, hwriting] at hfree
  exact absurd hfree (by decide)

end Sys2Proof.Machine
end

section
/-! PROOF. What a step keeps: the queue of the commands that wait, and the canonical form of the entries and of
the two memories (R149, R265, R313). `Keeps s t` says it of two states, and each operation `f` of the model has one
rule, `Keeps.f`: what is kept up to the state that `f` begins in is kept up to the state that it leaves. The proof of a
rule has the shape of the definition of `f`. -/

namespace Sys2Proof.Machine

/-- From `s` to `t` the queue stays as it is, and a canonical form stays canonical. -/
structure Keeps (s t : State) : Prop where
  pending : t.pending = s.pending
  canonical : s.canonical → t.canonical

variable {s t u : State}

theorem Keeps.refl : Keeps s s := ⟨rfl, id⟩

theorem Keeps.trans (h : Keeps s t) (g : Keeps t u) : Keeps s u :=
  ⟨g.pending.trans h.pending, g.canonical ∘ h.canonical⟩

section
variable
  {ports : SMap Port} {lanes : SMap Lane} {outcomes : List Outcome75} {sweeps : List Sweep} {sweepPkts : List Packet}
  {time : TimeUnit} {aon : Aon} {views : SMap ViewSt} {syncIn : SMap SyncIn} {syncOut : SMap SyncOut}
  {ctxs : SMap Ctx} {bufs : SMap BufX} {shown : SMap Shown} {fills : SMap Fill} {cap : CapArm} {defects : Defects}
  {modl : Modulator} {quads : SMap Quad} {groups : SMap GroupRb} {tes : SMap TeDom} {louts : SMap LaneOut}
  {rows : SMap RowPort} {mgmt : Mgmt} {xfers : SMap Xfer} {jobs : SMap Job} {power : Power} {thermal : Thermal}
  {boot : Startup} {jtag : Jtag} {tables : SMap Val} {tablePad : SMap Byte}
  {draws bbNext bbAt running fallSlot fuses drawn : Nat} {ops : List NvmOp} {stores : List StoreRun}
  {slotSt delivered : List Nat} {held : Option Nat} {heldBy bbScanned trial fallback : Bool}
  {bbQueue : List (Nat × EventRec)} {archive : Option Archive}

/-- What touches no entry, no memory and no queue. -/
theorem Keeps.quiet (h : Keeps s t) : Keeps s { t with
      ports := ports, lanes := lanes, outcomes := outcomes, sweeps := sweeps, sweepPkts := sweepPkts, time := time,
      aon := aon, views := views, syncIn := syncIn, syncOut := syncOut, ctxs := ctxs, bufs := bufs, shown := shown,
      fills := fills, cap := cap, defects := defects, modl := modl, quads := quads, groups := groups, tes := tes,
      louts := louts, rows := rows, mgmt := mgmt, xfers := xfers, jobs := jobs, power := power, thermal := thermal,
      boot := boot, jtag := jtag, tables := tables, tablePad := tablePad, draws := draws } :=
  ⟨h.pending, h.canonical⟩

/-- What touches no entry, no memory and no queue, but other parts of the secure store. -/
theorem Keeps.secure (h : Keeps s t) : Keeps s { t with
      ports := ports, lanes := lanes, outcomes := outcomes, sweeps := sweeps, sweepPkts := sweepPkts, time := time,
      aon := aon, views := views, syncIn := syncIn, syncOut := syncOut, ctxs := ctxs, bufs := bufs, shown := shown,
      fills := fills, cap := cap, defects := defects, modl := modl, quads := quads, groups := groups, tes := tes,
      louts := louts, rows := rows, mgmt := mgmt, xfers := xfers, jobs := jobs, power := power, thermal := thermal,
      boot := boot, jtag := jtag, tables := tables, tablePad := tablePad, draws := draws
      secure := { t.secure with
        ops := ops, stores := stores, slotSt := slotSt, delivered := delivered, held := held, heldBy := heldBy,
        bbQueue := bbQueue, bbNext := bbNext, bbScanned := bbScanned, bbAt := bbAt, archive := archive,
        running := running, trial := trial, fallback := fallback, fallSlot := fallSlot, fuses := fuses,
        draws := drawn } } :=
  ⟨h.pending, h.canonical⟩

end

theorem Keeps.ite {c : Prop} [Decidable c] (h : Keeps s t) (g : Keeps s u) : Keeps s (if c then t else u) := by
  split
  · exact h
  · exact g

theorem Keeps.iteFst {α : Type} {c : Prop} [Decidable c] {a b : State × α} (h : Keeps s a.1) (g : Keeps s b.1) :
    Keeps s (if c then a else b).1 := by
  split
  · exact h
  · exact g

/-- The state beside an answer. -/
theorem Keeps.pair {α : Type} {a : α} (h : Keeps s t) : Keeps s (t, a).1 := h

theorem Keeps.pairSnd {α : Type} {a : α} (h : Keeps s t) : Keeps s (a, t).2 := h

theorem Keeps.foldl {α : Type} {f : State → α → State} {l : List α} (h : Keeps s t)
    (hf : ∀ {u a}, Keeps s u → Keeps s (f u a)) : Keeps s (l.foldl f t) := by
  induction l generalizing t with
  | nil => exact h
  | cons a l ih => exact ih (hf h)

/-- A run of steps on a state with something beside it. -/
theorem Keeps.foldlFst {α β : Type} {f : State × β → α → State × β} {l : List α} {p : State × β} (h : Keeps s p.1)
    (hf : ∀ {q a}, Keeps s q.1 → Keeps s (f q a).1) : Keeps s (l.foldl f p).1 := by
  induction l generalizing p with
  | nil => exact h
  | cons a l ih => exact ih (hf h)

theorem Keeps.foldlSnd {α β : Type} {f : β × State → α → β × State} {l : List α} {p : β × State} (h : Keeps s p.2)
    (hf : ∀ {q a}, Keeps s q.2 → Keeps s (f q a).2) : Keeps s (l.foldl f p).2 := by
  induction l generalizing p with
  | nil => exact h
  | cons a l ih => exact ih (hf h)

theorem Keeps.forEach {α : Type} {f : State → α → State} {l : List α} (h : Keeps s t)
    (hf : ∀ {u a}, Keeps s u → Keeps s (f u a)) : Keeps s (t.forEach l f) := .foldl h hf

/-! Writes of entries and of the memories. -/

theorem SMap.sorted_set {α : Type} [DecidableEq α] {m : SMap α} (h : SMap.sorted m = true) (d : α) (k : Nat) (a : α) :
    SMap.sorted (SMap.set m d k a) = true := by
  unfold SMap.set
  split
  · exact SMap.sorted_filter h _
  · exact SMap.sorted_put h k a

/-- What touches the entries and the two memories, each of which stays canonical. -/
theorem Keeps.stores {regs : SMap Val} {revs : SMap Nat} {quarry mram : SMap Byte} (h : Keeps s t)
    (hregs : SMap.sorted t.regs = true → SMap.sorted regs = true)
    (hrevs : SMap.sorted t.revs = true → SMap.sorted revs = true)
    (hquarry : Memory.wf t.quarry = true → Memory.wf quarry = true)
    (hmram : Memory.wf t.secure.mram = true → Memory.wf mram = true) :
    Keeps s { t with regs := regs, revs := revs, quarry := quarry, secure := { t.secure with mram := mram } } :=
  h.trans ⟨rfl, fun ⟨h1, h2, h3, h4⟩ => ⟨hregs h1, hrevs h2, hquarry h3, hmram h4⟩⟩

theorem Keeps.wrv {e : Ent} {i : Nat} {v : Val} (h : Keeps s t) : Keeps s (t.wrv e i v) := by
  unfold State.wrv
  exact .ite h (.stores h (SMap.sorted_set · _ _ _) (SMap.sorted_put · _ _) id id)

theorem Keeps.setRaw {k : Nat} {d v : Val} (h : Keeps s t) : Keeps s (t.setRaw k d v) :=
  .stores h (SMap.sorted_set · _ _ _) id id id

/-- Revisions alone change. -/
theorem Keeps.setRevs {k n : Nat} (h : Keeps s t) : Keeps s { t with revs := SMap.put t.revs k n } :=
  .stores h id (SMap.sorted_put · _ _) id id

theorem Keeps.resetEntries {l : List Ent} (h : Keeps s t) : Keeps s (t.resetEntries l) :=
  .stores h (SMap.sorted_filter · _) (SMap.sorted_filter · _) id id

theorem Keeps.quarryWrite {a : Nat} {b : Bytes} (h : Keeps s t) : Keeps s (t.quarryWrite a b) :=
  .stores h id id (Memory.wf_write · _ _) id

/-- One byte of the Quarry changes. -/
theorem Keeps.quarrySet {a : Nat} {b : Byte} (h : Keeps s t) : Keeps s { t with quarry := SMap.set t.quarry 0 a b } :=
  .stores h id id (fun hq => SMap.wf_set (d := fun _ => 0) hq a b) id

/-- A range of the Quarry is cleared. -/
theorem Keeps.quarryClear {a n : Nat} (h : Keeps s t) : Keeps s { t with quarry := SMap.clear t.quarry a n } :=
  .stores h id id (Memory.wf_clear · _ _) id

theorem Keeps.mramWrite {a : Nat} {b : Bytes} (h : Keeps s t) : Keeps s (t.mramWrite a b) :=
  .stores h id id id (Memory.wf_write · _ _)

theorem Keeps.elapse {d : Nat} (h : Keeps s t) : Keeps s (t.elapse d) := by
  obtain ⟨_, _, _, hform⟩ := State.elapse_form t d
  rw [hform]
  exact .quiet h

theorem Keeps.untilMono {d : Nat} (h : Keeps s t) : Keeps s (t.untilMono d) := .elapse h

theorem Keeps.untilDisp {d : Nat} (h : Keeps s t) : Keeps s (t.untilDisp d) := .ite (.elapse h) h

theorem Keeps.wr {e : Ent} {i n : Nat} (h : Keeps s t) : Keeps s (t.wr e i n) := .wrv h

theorem Keeps.setPort {n : Nat} {p : Port} (h : Keeps s t) : Keeps s (t.setPort n p) := .quiet h

theorem Keeps.useSeq {n c : Nat} (h : Keeps s t) : Keeps s (t.useSeq n c) := .setPort h

end Sys2Proof.Machine
end

section
/-! PROOF. What a step keeps: the shared operations of entries, events, packets, requests and replies. -/

namespace Sys2Proof.Machine

variable {s t u : State}

theorem Keeps.wrn {e : Ent} {i k n : Nat} (h : Keeps s t) : Keeps s (t.wrn e i k n) := .wrv h

theorem Keeps.countBy {e : Ent} {i n : Nat} (h : Keeps s t) : Keeps s (t.countBy e i n) := .wr h

theorem Keeps.count {e : Ent} {i : Nat} (h : Keeps s t) : Keeps s (t.count e i) := .countBy h

theorem Keeps.toDefault {e : Ent} {i : Nat} (h : Keeps s t) : Keeps s (t.toDefault e i) := .wrv h

theorem Keeps.setLane {n l : Nat} {a : Lane} (h : Keeps s t) : Keeps s (t.setLane n l a) := .quiet h

theorem Keeps.setView {v : Nat} {a : ViewSt} (h : Keeps s t) : Keeps s (t.setView v a) := .quiet h

theorem Keeps.setCtx {c : Nat} {a : Ctx} (h : Keeps s t) : Keeps s (t.setCtx c a) := .quiet h

theorem Keeps.setSyncI {i : Nat} {a : SyncIn} (h : Keeps s t) : Keeps s (t.setSyncI i a) := .quiet h

theorem Keeps.showCaptures {i : Nat} (h : Keeps s t) : Keeps s (t.showCaptures i) := .wr h

theorem Keeps.setBuf {a : Nat} {b : BufX} (h : Keeps s t) : Keeps s (t.setBuf a b) := .quiet h

theorem Keeps.setQuad {q : Nat} {a : Quad} (h : Keeps s t) : Keeps s (t.setQuad q a) := .quiet h

theorem Keeps.setLout {l : Nat} {a : LaneOut} (h : Keeps s t) : Keeps s (t.setLout l a) := .quiet h

theorem Keeps.setXfer {a : Nat} {b : Xfer} (h : Keeps s t) : Keeps s (t.setXfer a b) := .quiet h

theorem Keeps.setJob {j : Nat} {a : Job} (h : Keeps s t) : Keeps s (t.setJob j a) := .quiet h

theorem Keeps.setSession {n : Nat} {a : Session} (h : Keeps s t) : Keeps s (t.setSession n a) := .quiet h

theorem Keeps.setDomain {d : Nat} {a : Domain} (h : Keeps s t) : Keeps s (t.setDomain d a) := .quiet h

theorem Keeps.setRail {r : Nat} {a : Rail} (h : Keeps s t) : Keeps s (t.setRail r a) := .quiet h

theorem Keeps.timeTicks {n : Nat} (h : Keeps s t) : Keeps s (t.timeTicks n) := .quiet h

theorem Keeps.slowTicks {n : Nat} (h : Keeps s t) : Keeps s (t.slowTicks n) := .quiet h

theorem Keeps.idleTick (h : Keeps s t) : Keeps s t.idleTick := .ite (.timeTicks h) (.slowTicks h)

theorem Keeps.draw (h : Keeps s t) : Keeps s t.draw.2 := .pairSnd (.quiet h)

theorem Keeps.setStaged {l : List (Nat × Val)} (h : Keeps s t) : Keeps s (t.setStaged l) :=
  .ite (.quiet h) (.quiet (.quiet h))

theorem Keeps.summarise {k : Nat} (h : Keeps s t) : Keeps s (State.summarise k t) := by
  induction k generalizing t with
  | zero => exact h
  | succ k ih =>
    unfold State.summarise
    refine .ite ?_ h
    split
    · exact h
    · exact ih (.quiet h)

theorem Keeps.bbSummarise {k : Nat} (h : Keeps s t) : Keeps s (State.bbSummarise k t) := by
  induction k generalizing t with
  | zero => exact h
  | succ k ih =>
    unfold State.bbSummarise
    refine .ite ?_ h
    split
    · exact h
    · exact ih (.secure h)

theorem Keeps.bbPut {kind : Nat} {r : EventRec} (h : Keeps s t) : Keeps s (t.bbPut kind r) :=
  .ite (.secure (.bbSummarise h)) (.quiet (.count (.bbSummarise h)))

theorem Keeps.queueEvent {r : EventRec} (h : Keeps s t) : Keeps s (t.queueEvent r) :=
  .ite (.quiet h) (.quiet (.count h))

theorem Keeps.raise {e : Event} {names : List Nat} (h : Keeps s t) : Keeps s (t.raise e names) :=
  .ite (.bbPut (.queueEvent (.count h))) (.queueEvent (.count h))

theorem Keeps.mramScan {a n : Nat} (h : Keeps s t) : Keeps s (t.mramScan a n) := by
  unfold State.mramScan
  dsimp only
  split
  · exact .ite (.countBy (.quiet h)) (.mramWrite (.countBy (.quiet h)))
  · exact .countBy (.quiet h)

theorem Keeps.dropPacket {p : Packet} (h : Keeps s t) : Keeps s (t.dropPacket p) :=
  .ite (.count h) (.ite (.count h) (.ite (.count h) h))

theorem Keeps.enqueue {n : Nat} {p : Packet} {front : Bool} (h : Keeps s t) : Keeps s (t.enqueue n p front) :=
  .ite (.setPort h) (.dropPacket h)

theorem Keeps.originate {p : Packet} (h : Keeps s t) : Keeps s (t.originate p) := by
  unfold State.originate
  refine .ite ?_ (.ite (.ite (.enqueue h) ?_) (.count h))
  · split
    · exact .enqueue h
    · exact .count h
  · split
    · exact .enqueue h
    · exact .count h

theorem Keeps.sendLocal {n cls chan : Nat} {payload : Bytes} {front : Bool} (h : Keeps s t) :
    Keeps s (t.sendLocal n cls chan payload front) :=
  .enqueue (.useSeq h)

theorem Keeps.helloAll (h : Keeps s t) : Keeps s t.helloAll := .forEach h fun h => .ite (.sendLocal h) h

theorem Keeps.announce (h : Keeps s t) : Keeps s t.announce := .ite h (.originate (.useSeq h))

theorem Keeps.toHoldover (h : Keeps s t) : Keeps s t.toHoldover := .ite (.raise (.count (.wr (.quiet h)))) h

theorem Keeps.clearLearned {n : Nat} (h : Keeps s t) : Keeps s (t.clearLearned n) := .wrv h

theorem Keeps.setChildren (h : Keeps s t) : Keeps s t.setChildren := .wr h

theorem Keeps.newPath {has : Bool} (h : Keeps s t) : Keeps s (t.newPath has) := .wr (.quiet h)

theorem Keeps.setUpstream {up : Option Nat} (h : Keeps s t) : Keeps s (t.setUpstream up) := by
  unfold State.setUpstream
  extract_lets _ _ _ _ s1 s2 s3 s4 s5 s6 s7
  have h1 : Keeps s s1 := .wr (.wr (.wr h))
  have h2 : Keeps s s2 := .forEach h1 .wr
  have h3 : Keeps s s3 := .raise (.count h2)
  have h4 : Keeps s s4 := by
    dsimp only [s4]
    split
    · exact .clearLearned h3
    · exact h3
  have h5 : Keeps s s5 := .ite h2 (.toHoldover (.newPath h4))
  have h6 : Keeps s s6 := .ite (.toHoldover (.raise h5)) h5
  have h7 : Keeps s s7 := .ite (.helloAll h6) h6
  exact .ite h7 (.announce h7)

theorem Keeps.reselect {moved : Option Nat} (h : Keeps s t) : Keeps s (t.reselect moved) := by
  unfold State.reselect
  refine .ite (.setUpstream h) ?_
  split
  · exact .ite (.setUpstream h) (.setUpstream h)
  · exact .setUpstream h

theorem Keeps.emptyQueues {n : Nat} (h : Keeps s t) : Keeps s (t.emptyQueues n) := .forEach (.setPort h) .dropPacket

theorem Keeps.sendReply {q : Req} {r : Reply} (h : Keeps s t) : Keeps s (t.sendReply q r) := by
  unfold State.sendReply
  dsimp only
  split
  · exact .quiet (.quiet h)
  · split
    · exact .enqueue (.quiet h)
    · exact .originate (.quiet h)

theorem Keeps.keepOutcome {e : Env} {r : Reply} (h : Keeps s t) : Keeps s (t.keepOutcome e r) := .quiet h

theorem Keeps.finish {q : Req} {a : Ans} {isRead : Bool} (h : Keeps s t) : Keeps s (t.finish q a isRead) := by
  unfold State.finish
  dsimp only
  split
  · exact .quiet (.setSession h)
  · exact .ite (.keepOutcome (.setSession h)) (.sendReply (.setSession h))

theorem Keeps.freeCore {e : Env} (h : Keeps s t) : Keeps s (t.freeCore e) := .ite (.quiet h) h

theorem Keeps.complete {q : Req} {r : Reply} (h : Keeps s t) : Keeps s (t.complete q r) :=
  .ite (.ite (.keepOutcome (.quiet (.freeCore h))) (.freeCore h)) (.ite (.sendReply (.setSession (.freeCore h)))
    (.freeCore h))

theorem Keeps.claimSpi {e : Env} (h : Keeps s t) : Keeps s (t.claimSpi e) := .ite (.quiet h) h

theorem Keeps.beginsReq {q : Req} (h : Keeps s t) : Keeps s (t.beginsReq q) := .ite (.claimSpi h) (.setSession h)

theorem Keeps.park {q : Req} (h : Keeps s t) : Keeps s (t.park q) := .quiet (.beginsReq h)

theorem Keeps.execute {body : State → State × Ans} {q : Req} {isRead : Bool} (h : Keeps s t)
    (hbody : ∀ {u}, Keeps s u → Keeps s (body u).1) : Keeps s (t.execute q isRead body) := .finish (hbody h)

theorem Keeps.arrive {run : State → State} {q : Req} {isOpen isRead : Bool} (h : Keeps s t)
    (hrun : ∀ {u}, Keeps s u → Keeps s (run u)) : Keeps s (t.arrive q isOpen isRead run) := by
  unfold State.arrive
  split
  · exact h
  · exact h
  · exact .count h
  · exact .quiet h
  · exact .sendReply (.ite (.count h) h)
  · split
    · exact .sendReply (.count h)
    · exact h
  · exact hrun h

theorem Keeps.request {body : State → State × Ans} {q : Req} {isOpen isRead : Bool} (h : Keeps s t)
    (hbody : ∀ {u}, Keeps s u → Keeps s (body u).1) : Keeps s (t.request q isOpen isRead body) :=
  .arrive h fun h => .ite (.execute (.claimSpi h) hbody) (.park h)

theorem Keeps.takeIn {e : Env} {b : Bytes} (h : Keeps s t) : Keeps s (t.takeIn e b) := .arrive h .park

theorem Keeps.dropSegment {n cause : Nat} (h : Keeps s t) : Keeps s (t.dropSegment n cause) := by
  unfold State.dropSegment
  split
  · exact h
  · exact .raise (.count (.setSession h))

theorem Keeps.tokenRefused {n : Nat} {st : Status} (h : Keeps s t) : Keeps s (t.tokenRefused n st) :=
  .raise (.ite (.setSession h) h)

theorem Keeps.refused {env : Env} {e : Ent} {st : Status} (h : Keeps s t) : Keeps s (t.refused env e st).1 :=
  .pair (.ite (.tokenRefused h) h)

theorem Keeps.writeBody {eff : Val → State → State × Ans} {env : Env} {e : Ent} {i : Nat} {b : Bytes} (h : Keeps s t)
    (heff : ∀ {v u}, Keeps s u → Keeps s (eff v u).1) : Keeps s (State.writeBody env e i b eff t).1 := by
  unfold State.writeBody
  split
  · exact .refused (.ite (.dropSegment h) h)
  · exact .iteFst (.refused h) (heff h)

theorem Keeps.writeCmd {eff : Val → State → State × Ans} {env : Env} {e : Ent} {i : Nat} {b : Bytes} (h : Keeps s t)
    (heff : ∀ {v u}, Keeps s u → Keeps s (eff v u).1) : Keeps s (t.writeCmd env e i b eff) :=
  .request h fun h => .writeBody h heff

theorem Keeps.releaseStaging {n : Nat} (h : Keeps s t) : Keeps s (t.releaseStaging n) := .ite (.wr (.setStaged h)) h

theorem Keeps.readReply {e : Ent} {i : Nat} {b : Bytes} {off : Nat} (h : Keeps s t) :
    Keeps s (t.readReply e i b off).1 :=
  .pair (.quiet h)

theorem Keeps.showCtxCounts (h : Keeps s t) : Keeps s t.showCtxCounts := .wr (.wr (.wr h))

theorem Keeps.setLed {l : Nat} {a : LaneLed} (h : Keeps s t) : Keeps s (t.setLed l a) := .quiet h

theorem Keeps.squash {a e : Nat} {view : Option Nat} (h : Keeps s t) : Keeps s (t.squash a e view) :=
  .countBy (.quiet h)

theorem Keeps.nextGen (h : Keeps s t) : Keeps s t.nextGen.2 := .pairSnd (.wr (.quiet h))

end Sys2Proof.Machine
end

section
/-! PROOF. What a step keeps: buffers, stores and launches. -/

namespace Sys2Proof.Machine

variable {s t u : State}

theorem Keeps.bufWrite {k o : Nat} {b : Bytes} (h : Keeps s t) : Keeps s (t.bufWrite k o b) := by
  induction b generalizing t o with
  | nil => exact h
  | cons x b ih => exact ih (.quarrySet h)

theorem Keeps.showRetire (h : Keeps s t) : Keeps s t.showRetire := .wr h

theorem Keeps.setHandle {a st : Nat} (h : Keeps s t) : Keeps s (t.setHandle a st) := by
  unfold State.setHandle
  extract_lets _ s1 s2
  have h1 : Keeps s s1 := .showRetire (.wr (.wr h))
  have h2 : Keeps s s2 := .ite (.wr h1) h1
  exact .ite h (.ite (.quiet h2) h2)

theorem Keeps.unallocate {a : Nat} (h : Keeps s t) : Keeps s (t.unallocate a) := .wr (.setBuf (.ite h (.quiet h)))

theorem Keeps.retire {a : Nat} (h : Keeps s t) : Keeps s (t.retire a) := .raise (.unallocate (.setHandle h))

theorem Keeps.leaveShowing {a : Nat} (h : Keeps s t) : Keeps s (t.leaveShowing a) :=
  .ite h (.ite (.setHandle h) (.ite (.retire h) h))

theorem Keeps.makeReady {a tag : Nat} (h : Keeps s t) : Keeps s (t.makeReady a tag) := .wr (.setHandle h)

theorem Keeps.allocateEff {a : Nat} (h : Keeps s t) : Keeps s (allocateEff a t).1 :=
  .iteFst h (.iteFst h (.iteFst h (.iteFst h (.pair (.wr (.setBuf (.quiet h)))))))

theorem Keeps.freeEff {a : Nat} (h : Keeps s t) : Keeps s (freeEff a t).1 :=
  .iteFst h (.iteFst h (.iteFst h (.iteFst (.pair (.raise (.count (.setHandle h))))
    (.pair (.unallocate (.setHandle h))))))

theorem Keeps.handleCommandEff {a : Nat} {v : Val} (h : Keeps s t) : Keeps s (handleCommandEff a v t).1 :=
  .iteFst (.allocateEff h) (.iteFst (.freeEff h) h)

theorem Keeps.coefLost {cause : Nat} (h : Keeps s t) : Keeps s (t.coefLost cause) :=
  .ite (.raise (.wr h)) (.quiet (.raise (.wr h)))

theorem Keeps.clearRecord {c : Nat} (h : Keeps s t) : Keeps s (t.clearRecord c) :=
  .showCtxCounts (.setCtx (.forEach h .toDefault))

theorem Keeps.resetContexts (h : Keeps s t) : Keeps s t.resetContexts :=
  .count (.forEach h fun h => .clearRecord (.forEach h .toDefault))

theorem Keeps.dropNewest {a : Nat} (h : Keeps s t) : Keeps s (t.dropNewest a) := .forEach h fun h => .ite (.wr h) h

theorem Keeps.loseHandle {a : Nat} (h : Keeps s t) : Keeps s (t.loseHandle a) :=
  .ite (.unallocate (.setHandle (.quiet (.dropNewest h)))) (.setHandle (.quiet (.dropNewest h)))

theorem Keeps.setTables {c : Bytes} (h : Keeps s t) : Keeps s (t.setTables c) := .quiet h

theorem Keeps.putTableBytes {b : Bytes} (h : Keeps s t) : Keeps s (t.putTableBytes b) := .setTables h

theorem Keeps.tableWrite {off : Nat} {b : Bytes} (h : Keeps s t) : Keeps s (t.tableWrite off b) :=
  .ite h (.putTableBytes h)

theorem Keeps.writeBack {d : Nat} (h : Keeps s t) : Keeps s (t.writeBack d) := .quiet h

theorem Keeps.loseBanks {n : Nat} {bank : Nat → Bool} (h : Keeps s t) : Keeps s (t.loseBanks n bank) := by
  unfold State.loseBanks
  extract_lets _ _ _ s1 s2 s3
  have h1 : Keeps s s1 := .quiet (t := { t with quarry := t.quarry.filter fun p => !bank (p.1 / 524288) })
    (.stores h id id (SMap.wf_filter · _) id)
  have h2 : Keeps s s2 := .forEach h1 .loseHandle
  have h3 : Keeps s s3 := .ite h2 (.raise (.countBy h2))
  exact .ite (.coefLost h3) h3

theorem Keeps.stalled (h : Keeps s t) : Keeps s t.stalled := .countBy (.forEach (.quiet h) .countBy)

theorem Keeps.clearBuffers (h : Keeps s t) : Keeps s t.clearBuffers :=
  .forEach (.forEach h fun h => .unallocate (.setHandle h)) .toDefault

theorem Keeps.clearStore {k : Nat} (h : Keeps s t) : Keeps s (t.clearStore k) := by
  unfold State.clearStore
  dsimp only
  split
  · exact .coefLost (.quarryClear h)
  · exact .resetContexts (.quarryClear h)
  · exact .putTableBytes (.quiet (.quarryClear h))
  · exact .clearBuffers (.quarryClear h)
  · exact .quarryClear h

theorem Keeps.notePages (h : Keeps s t) : Keeps s (u.notePages t) := .quiet h

theorem Keeps.storePlacementEff {k : Nat} {v : Val} (h : Keeps s t) : Keeps s (storePlacementEff k v t).1 :=
  .iteFst h (.iteFst h (.iteFst h (.pair (.notePages (.clearStore (.wr h))))))

theorem Keeps.decideEntry {v : Nat} {x : LaunchEnt} (h : Keeps s t) : Keeps s (t.decideEntry v x).1 := by
  unfold State.decideEntry
  split
  · exact .pair (.forEach h fun h => .ite (.setHandle h) h)
  · exact .pair (.raise (.count h))

theorem Keeps.decideList {v n : Nat} {q : List LaunchEnt} (h : Keeps s t) : Keeps s (t.decideList v n q).1 := by
  induction q generalizing t with
  | nil => exact h
  | cons x q ih => exact ih (.iteFst (.decideEntry h) h)

theorem Keeps.applyDecided {v a : Nat} (h : Keeps s t) : Keeps s (t.applyDecided v a) :=
  .forEach (.quiet (.setView h)) .leaveShowing

theorem Keeps.decideLaunches {v a : Nat} (h : Keeps s t) : Keeps s (t.decideLaunches v a) :=
  .ite (.applyDecided (.setView (.decideList (.decideList h)))) (.setView (.decideList (.decideList h)))

theorem Keeps.showQueue {v : Nat} (h : Keeps s t) : Keeps s (t.showQueue v) := .wr h

theorem Keeps.flushQueue {v : Nat} {drop : LaunchEnt → Bool} (h : Keeps s t) : Keeps s (t.flushQueue v drop) :=
  .countBy (.showQueue (.setView h))

theorem Keeps.dropStands {v : Nat} (h : Keeps s t) : Keeps s (t.dropStands v) :=
  .ite h (.forEach (.setView h) .leaveShowing)

theorem Keeps.launchAccept {v instant tag : Nat} (h : Keeps s t) : Keeps s (t.launchAccept v instant tag) :=
  .ite (.decideLaunches (.squash (.nextGen (.showQueue (.setView h))))) (.squash (.nextGen (.showQueue (.setView h))))

theorem Keeps.pushLaunch {v instant tag : Nat} {valueOk : Bool} (h : Keeps s t) :
    Keeps s (t.pushLaunch v instant tag valueOk).1 := by
  unfold State.pushLaunch
  split
  · exact h
  · exact .pair (.launchAccept h)

theorem Keeps.launchPushEff {v : Nat} {x : Val} (h : Keeps s t) : Keeps s (launchPushEff v x t).1 :=
  .pair (.pushLaunch h)

theorem Keeps.launchFlushEff {v : Nat} {x : Val} (h : Keeps s t) : Keeps s (launchFlushEff v x t).1 :=
  .iteFst (.pair (.flushQueue h)) (.iteFst h h)

theorem Keeps.launchInstantEff {v : Nat} (h : Keeps s t) : Keeps s (launchInstantEff v t) := by
  unfold Machine.launchInstantEff
  split
  · exact .ite h (.applyDecided h)
  · exact .ite (.wr (.showQueue (.setView (.applyDecided (.ite (.untilDisp h) (.decideLaunches (.untilDisp h)))))))
      (.untilDisp h)

theorem Keeps.disableView {v : Nat} (h : Keeps s t) : Keeps s (t.disableView v) :=
  .forEach (.quiet (.setView (.dropStands (.flushQueue h)))) .leaveShowing

theorem Keeps.keepOutput {o : Nat} (h : Keeps s t) : Keeps s (t.keepOutput o) := .quiet h

theorem Keeps.syncoPulseEff {o : Nat} {begins : Bool} (h : Keeps s t) : Keeps s (syncoPulseEff o begins t) := by
  unfold Machine.syncoPulseEff
  refine .ite h (.ite (.ite h ?_) (.ite (.quiet (.elapse h)) h))
  split
  · exact h
  · exact .quiet (.elapse h)

end Sys2Proof.Machine
end

section
/-! PROOF. What a step keeps: ports, lanes and the network. -/

namespace Sys2Proof.Machine

variable {s t u : State}

theorem Keeps.seed {n : Nat} (h : Keeps s t) : Keeps s (t.seed n) := .forEach (.setPort h) .setLane

theorem Keeps.putMarkers {n : Nat} {keep : Bool} (h : Keeps s t) : Keeps s (t.putMarkers n keep) :=
  .ite h (.forEach (.setPort h) .setLane)

theorem Keeps.putBlock {n hdr : Nat} {w : BitVec 64} {keep : Bool} (h : Keeps s t) :
    Keeps s (t.putBlock n hdr w keep) :=
  .setPort (.setLane (.ite (.putMarkers h) h))

theorem Keeps.stripe {n : Nat} {l : List (Nat × BitVec 64)} (h : Keeps s t) : Keeps s (t.stripe n l) := by
  induction l generalizing t with
  | nil => exact h
  | cons a l ih => exact ih (.putBlock h)

theorem Keeps.fillBlocks {k n : Nat} (h : Keeps s t) : Keeps s (State.fillBlocks k n t) := by
  induction k generalizing t with
  | zero => exact h
  | succ k ih => exact ih (.putBlock h)

theorem Keeps.txRun {n : Nat} (h : Keeps s t) : Keeps s (t.txRun n) := .ite h (.setPort (.fillBlocks (.quiet h)))

theorem Keeps.clearSent {n : Nat} (h : Keeps s t) : Keeps s (t.clearSent n) := .forEach h .setLane

theorem Keeps.sendOrdered {n id : Nat} (h : Keeps s t) : Keeps s (t.sendOrdered n id) :=
  .setPort (.stripe (.clearSent (.fillBlocks (.txRun h))))

theorem Keeps.enterDetect {n : Nat} (h : Keeps s t) : Keeps s (t.enterDetect n) := .forEach (.setPort (.wr h)) .setLane

theorem Keeps.answerAsk {n : Nat} {a : Option SleepAsk} {st : Status} (h : Keeps s t) :
    Keeps s (t.answerAsk n a st) := by
  unfold State.answerAsk
  split
  · exact .complete h
  · exact h

theorem Keeps.enterDisabled {n : Nat} (h : Keeps s t) : Keeps s (t.enterDisabled n) :=
  .answerAsk (.setPort (.wr (.ite (.count h) h)))

theorem Keeps.startPort {n : Nat} (h : Keeps s t) : Keeps s (t.startPort n) :=
  .ite (.enterDisabled h) (.ite h (.enterDetect h))

theorem Keeps.netLeave {n : Nat} (h : Keeps s t) : Keeps s (t.netLeave n) :=
  .ite (.announce (.reselect (.setChildren (.clearLearned (.setPort (.emptyQueues (.wr (.wr h)))))))) (.reselect
    (.setChildren (.clearLearned (.setPort (.emptyQueues (.wr (.wr h)))))))

theorem Keeps.linkDown {n : Nat} (h : Keeps s t) : Keeps s (t.linkDown n) :=
  .answerAsk (.netLeave (.forEach (.setPort (.wr (.ite (.count (.raise (.count h))) (.raise (.count h))))) .setLane))

theorem Keeps.portEnableEff {n : Nat} {v : Val} (h : Keeps s t) : Keeps s (portEnableEff n v t).1 :=
  .iteFst h (.iteFst (.pair (.wrv h)) (.iteFst (.pair (.ite (.linkDown (.wrv h)) (.ite (.wrv h) (.enterDisabled
    (.wrv h))))) (.pair (.ite (.enterDetect (.wrv h)) (.wrv h)))))

theorem Keeps.detectPulseEff {n : Nat} {terminated : Bool} (h : Keeps s t) : Keeps s (detectPulseEff n terminated t) :=
  .ite (.setPort h) h

theorem Keeps.startStep {n r : Nat} {fast : Bool} (h : Keeps s t) : Keeps s (t.startStep n r fast) := .seed (.setPort h)

theorem Keeps.fallback {n : Nat} (h : Keeps s t) : Keeps s (t.fallback n) := .ite (.raise (.count h)) h

theorem Keeps.trainFail {n : Nat} (h : Keeps s t) : Keeps s (t.trainFail n) := .setPort (.raise (.count h))

theorem Keeps.rateStepStartEff {n : Nat} (h : Keeps s t) : Keeps s (rateStepStartEff n t) := by
  unfold Machine.rateStepStartEff
  extract_lets _ s1 s2 s3
  have h1 : Keeps s s1 := .untilMono h
  have h2 : Keeps s s2 := .untilMono h
  have h3 : Keeps s s3 := .ite h2 (.fallback h2)
  exact .ite h (.ite (.ite h1 (.ite (.startStep h1) (.startStep h1))) (.ite h (.ite (.enterDetect h3)
    (.ite (.startStep h3) (.ite (.trainFail h3) (.startStep h3))))))

theorem Keeps.enterPhase {n ph : Nat} (h : Keeps s t) : Keeps s (t.enterPhase n ph) :=
  .ite (.forEach (.setPort (.txRun h)) .setLane) (.wr (.forEach (.setPort (.txRun h)) .setLane))

theorem Keeps.serdesPllLockEff {n : Nat} (h : Keeps s t) : Keeps s (serdesPllLockEff n t) :=
  .ite (.forEach (.seed (.enterPhase h)) .setLane) h

theorem Keeps.stateTimeLimitEff {n : Nat} (h : Keeps s t) : Keeps s (stateTimeLimitEff n t) := by
  unfold Machine.stateTimeLimitEff
  refine .ite (.setPort (.fallback ?_)) h
  split
  · exact .ite (.raise (.untilMono h)) (.untilMono h)
  · exact .untilMono h

theorem Keeps.trainIdleEndEff {n : Nat} (h : Keeps s t) : Keeps s (trainIdleEndEff n t) :=
  .ite (.enterDetect (.untilMono h)) h

theorem Keeps.berRoll {n l : Nat} (h : Keeps s t) : Keeps s (t.berRoll n l) := .ite h (.setLane h)

theorem Keeps.badBlock {n l : Nat} {mark : Lane → Lane × Bool} (h : Keeps s t) : Keeps s (t.badBlock n l mark) := by
  unfold State.badBlock
  extract_lets _ _ s1 s2
  have h1 : Keeps s s1 := .count (.setLane h)
  have h2 : Keeps s s2 := .ite (.count h1) h1
  exact .ite (.ite (.linkDown (.raise h2)) (.ite (.linkDown h2) h2)) h2

theorem Keeps.sequenceBlock {n l hdr : Nat} {w : BitVec 64} (h : Keeps s t) : Keeps s (t.sequenceBlock n l hdr w) := by
  unfold State.sequenceBlock
  extract_lets _ _ _ s1
  have h1 : Keeps s s1 := .ite (.setLane h) h
  refine .ite ?_ (.ite (.setPort h1) (.ite ?_ (.setPort h1)))
  · split
    · exact .setPort h1
    · exact .badBlock h1
  · split
    · exact .setPort h1
    · exact h1

theorem Keeps.unstripe {k n : Nat} (h : Keeps s t) : Keeps s (State.unstripe k n t) := by
  induction k generalizing t with
  | zero => exact h
  | succ k ih =>
    unfold State.unstripe
    dsimp only
    split
    · exact h
    · exact .ite (ih (.setLane h)) (ih (.sequenceBlock (.setPort (.setLane h))))

theorem Keeps.quartzExit {n : Nat} (h : Keeps s t) : Keeps s (t.quartzExit n) := .ite (.enterPhase h) h

theorem Keeps.blockReceivedEff {n l : Nat} {blk : BitVec 66} (h : Keeps s t) :
    Keeps s (blockReceivedEff n l blk t) := by
  unfold Machine.blockReceivedEff
  extract_lets _ s1 _ _ _ _ _ _ _ s2 _ _ s3 s4 s5 s6
  have h1 : Keeps s s1 := .berRoll (.txRun h)
  have h2 : Keeps s s2 := .setLane h1
  have h3 : Keeps s s3 := .setLane h2
  have h4 : Keeps s s4 := .count h3
  have h5 : Keeps s s5 := .ite (.ite (.ite (.linkDown h4) h4) h3) (.badBlock h2)
  have h6 : Keeps s s6 := .ite (.linkDown h5) h5
  exact .ite h (.ite (.unstripe h6) (.quartzExit h6))

theorem Keeps.enterActive {n : Nat} (h : Keeps s t) : Keeps s (t.enterActive n) :=
  .announce (.raise (.forEach (.setPort (.wr (.quiet (.wrv (.wr (.wr (.txRun h))))))) .setLane))

theorem Keeps.graniteExit {n : Nat} (h : Keeps s t) : Keeps s (t.graniteExit n) := .ite (.enterActive h) h

theorem Keeps.bipSecond {k : Nat} (h : Keeps s t) : Keeps s (t.bipSecond k) :=
  .ite (.ite (.raise (.setLane h)) (.setLane h)) h

theorem Keeps.bipLeave {n : Nat} (h : Keeps s t) : Keeps s (t.bipLeave n) :=
  .forEach h fun h => .ite (.raise (.quiet h)) h

theorem Keeps.bipJudge (h : Keeps s t) : Keeps s t.bipJudge := .quiet (.forEach h .bipSecond)

theorem Keeps.bipRoll (h : Keeps s t) : Keeps s t.bipRoll := .ite h (.bipJudge h)

theorem Keeps.alignReceivedEff {n l : Nat} {payload : BitVec 64} {arrival : Nat} (h : Keeps s t) :
    Keeps s (alignReceivedEff n l payload arrival t) := by
  unfold Machine.alignReceivedEff
  refine .ite h (.graniteExit ?_)
  split
  · exact .forEach (.countBy (.setLane (.bipRoll h))) .wr
  · exact .countBy (.setLane (.bipRoll h))

theorem Keeps.basaltExit {n : Nat} (h : Keeps s t) : Keeps s (t.basaltExit n) := .ite (.enterPhase h) h

theorem Keeps.orderedSetReceivedEff {n l : Nat} {payload : BitVec 64} {eye : BitVec 8} (h : Keeps s t) :
    Keeps s (orderedSetReceivedEff n l payload eye t) :=
  .ite h (.ite (.quartzExit (.setLane (.wr (.txRun h)))) (.ite (.basaltExit (.setLane (.wr (.txRun h))))
    (.ite (.graniteExit (.setLane (.wr (.txRun h)))) (.wr (.txRun h)))))

theorem Keeps.linkDownIdleEndEff {n : Nat} (h : Keeps s t) : Keeps s (linkDownIdleEndEff n t) :=
  .ite (.ite (.enterDisabled (.untilMono h)) (.enterDetect (.untilMono h))) h

theorem Keeps.retrainEff {n : Nat} {v : Val} (h : Keeps s t) : Keeps s (retrainEff n v t).1 :=
  .iteFst h (.pair (.ite (.linkDown h) h))

theorem Keeps.berWindowEndEff {n l : Nat} (h : Keeps s t) : Keeps s (berWindowEndEff n l t) :=
  .ite (.berRoll (.untilMono h)) h

theorem Keeps.bipSecondEndEff (h : Keeps s t) : Keeps s (bipSecondEndEff t) := .bipJudge (.elapse h)

theorem Keeps.adaptWindowEndEff {n l coef : Nat} (h : Keeps s t) : Keeps s (adaptWindowEndEff n l coef t) :=
  .ite h (.setLane (.ite (.wr (.quiet (.untilMono h))) (.untilMono h)))

theorem Keeps.eyeBelowFloorEff {n l eye : Nat} (h : Keeps s t) : Keeps s (eyeBelowFloorEff n l eye t) :=
  .ite h (.ite (.setLane (.wr h)) (.raise (.count (.setLane (.setLane (.wr h))))))

theorem Keeps.askSleep {n : Nat} {a : SleepAsk} (h : Keeps s t) : Keeps s (t.askSleep n a) := .setPort (.sendOrdered h)

theorem Keeps.sleepRequestEff {e : Env} {n : Nat} {v : Val} (h : Keeps s t) : Keeps s (sleepRequestEff e n v t).1 :=
  .iteFst h (.iteFst h (.iteFst h (.iteFst h (.pair (.askSleep h)))))

theorem Keeps.netSleeps {n : Nat} (h : Keeps s t) : Keeps s (t.netSleeps n) := .setPort (.netLeave (.setPort (.wr h)))

theorem Keeps.enterSleep {n : Nat} (h : Keeps s t) : Keeps s (t.enterSleep n) := .netSleeps (.fillBlocks (.txRun h))

theorem Keeps.sleepReqReceivedEff {n : Nat} (h : Keeps s t) : Keeps s (sleepReqReceivedEff n t) :=
  .ite h (.ite (.enterSleep h) (.ite (.sendOrdered (.count h)) (.enterSleep (.sendOrdered h))))

theorem Keeps.sleepAckReceivedEff {n : Nat} (h : Keeps s t) : Keeps s (sleepAckReceivedEff n t) :=
  .ite (.enterSleep h) h

theorem Keeps.sleepNakReceivedEff {n : Nat} (h : Keeps s t) : Keeps s (sleepNakReceivedEff n t) := by
  unfold Machine.sleepNakReceivedEff
  refine .ite h ?_
  split
  · exact h
  · exact .answerAsk (.setPort h)

theorem Keeps.linkSleep {n : Nat} (h : Keeps s t) : Keeps s (t.linkSleep n) :=
  .answerAsk (.raise (.setPort (.wr (.ite (.count h) h))))

theorem Keeps.sleepReqTimeoutEff {n : Nat} (h : Keeps s t) : Keeps s (sleepReqTimeoutEff n t) :=
  .ite (.linkSleep (.netSleeps (.untilMono h))) h

theorem Keeps.sleepEntryDoneEff {n : Nat} (h : Keeps s t) : Keeps s (sleepEntryDoneEff n t) := .ite (.linkSleep h) h

theorem Keeps.wakeBeaconQualifiedEff {n : Nat} (h : Keeps s t) : Keeps s (wakeBeaconQualifiedEff n t) :=
  .ite (.quiet h) h

theorem Keeps.portResumeEff {n : Nat} (h : Keeps s t) : Keeps s (portResumeEff n t) :=
  .ite (.raise (.forEach (.setPort (.wr (.ite (.ite (.quiet h) (.elapse (.quiet h))) (.setPort (.ite (.quiet h)
    (.elapse (.quiet h))))))) .setLane)) h

theorem Keeps.deliverRequest {port : Fin 4} {p : Packet} (h : Keeps s t) : Keeps s (t.deliverRequest port p) :=
  .ite (.count h) (.ite (.count h) (.ite h (.takeIn h)))

theorem Keeps.deliver {port : Fin 4} {p : Packet} (h : Keeps s t) : Keeps s (t.deliver port p) :=
  .ite (.ite h (.count h)) (.ite (.ite (.deliverRequest h) (.ite (.quiet h) h)) (.ite (.ite h (.count h))
    (.ite h (.count h))))

theorem Keeps.forward {p : Packet} {n : Nat} (h : Keeps s t) : Keeps s (t.forward p n) := .enqueue h

theorem Keeps.routeUnicast {a : Fin 4} {p : Packet} (h : Keeps s t) : Keeps s (t.routeUnicast a p) := by
  unfold State.routeUnicast
  refine .ite (.deliver (.ite (.wrn h) h)) (.ite (.count (.ite (.wrn h) h)) (.ite ?_ (.ite (.forward (.ite (.wrn h) h))
    (.ite ?_ (.count (.ite (.wrn h) h))))))
  · split
    · exact .ite (.count (.ite (.wrn h) h)) (.forward (.ite (.wrn h) h))
    · exact .count (.ite (.wrn h) h)
  · split
    · exact .forward (.ite (.wrn h) h)
    · exact .count (.ite (.wrn h) h)

theorem Keeps.routeFlood {a : Fin 4} {p : Packet} (h : Keeps s t) : Keeps s (t.routeFlood a p) := by
  unfold State.routeFlood
  extract_lets _ s1
  have h1 : Keeps s s1 := .ite (.deliver h) h
  exact .ite (.count h) (.ite h1 (.ite (.forEach h1 .forward) (.ite (.count h1) h1)))

theorem Keeps.routePacket {a : Fin 4} {p : Packet} (h : Keeps s t) : Keeps s (t.routePacket a p) :=
  .ite (.deliver h) (.ite (.count h) (.ite (.routeFlood h) (.routeUnicast h)))

theorem Keeps.takeDone {n : Nat} {b : Bytes} {bad : Bool} (h : Keeps s t) : Keeps s (t.takeDone n b bad) := by
  unfold State.takeDone
  dsimp only
  split
  · exact .ite (.setPort h) h
  · exact h

theorem Keeps.packetReceivedEff {port : Fin 4} {b : Bytes} {bad : Bool} (h : Keeps s t) :
    Keeps s (packetReceivedEff port b bad t) := by
  unfold Machine.packetReceivedEff
  refine .ite h (.ite (.count (.takeDone h)) ?_)
  split
  · exact .count (.takeDone h)
  · exact .routePacket (.takeDone h)

theorem Keeps.egressTransmitEff {n : Nat} (h : Keeps s t) : Keeps s (egressTransmitEff n t) := by
  unfold Machine.egressTransmitEff
  refine .ite h ?_
  split
  · exact h
  · exact .ite (.quiet (.stripe (.clearSent (.setPort (.txRun (.untilMono h)))))) (.stripe (.clearSent
      (.setPort (.txRun (.untilMono h)))))

theorem Keeps.helloTimerEff (h : Keeps s t) : Keeps s (helloTimerEff t) := by
  unfold Machine.helloTimerEff
  refine .ite h ?_
  split
  · exact h
  · exact .forEach (.untilMono h) fun h => .ite (.sendLocal (.setPort h)) h

theorem Keeps.helloReceivedEff {n : Nat} {b : Bytes} (h : Keeps s t) : Keeps s (helloReceivedEff n b t) :=
  .ite h (.ite (.count h) (.ite (.announce (.reselect (.setChildren (.ite (.raise (.setPort (.setPort h)))
    (.setPort (.setPort h)))))) (.reselect (.setChildren (.ite (.raise (.setPort (.setPort h)))
    (.setPort (.setPort h)))))))

theorem Keeps.helloTimeoutEff {n : Nat} (h : Keeps s t) : Keeps s (helloTimeoutEff n t) :=
  .ite (.reselect (.raise (.setPort (.untilMono h)))) h

theorem Keeps.assignReceivedEff {n : Nat} {b : Bytes} (h : Keeps s t) : Keeps s (assignReceivedEff n b t) := by
  unfold Machine.assignReceivedEff
  extract_lets _ _ _ _ s1 s2 s3
  have h1 : Keeps s s1 := .reselect (.wr (.wr h))
  have h2 : Keeps s s2 := .raise h1
  have h3 : Keeps s s3 := .ite (.helloAll h2) h2
  exact .ite h (.ite (.count h) (.ite (.ite (.announce h3) h3) (.ite h (.raise (.count h)))))

theorem Keeps.relayAssignReceivedEff {source : Nat} {b : Bytes} (h : Keeps s t) :
    Keeps s (relayAssignReceivedEff source b t) :=
  .ite h (.ite (.count h) (.ite (.sendLocal h) (.count h)))

theorem Keeps.unassign (h : Keeps s t) : Keeps s t.unassign :=
  .ite (.helloAll (.reselect (.toDefault (.wr h)))) (.reselect (.toDefault (.wr h)))

theorem Keeps.unassignEff {v : Val} (h : Keeps s t) : Keeps s (unassignEff v t).1 :=
  .iteFst h (.iteFst (.pair (.quiet h)) h)

theorem Keeps.unassignIfDue (h : Keeps s t) : Keeps s t.unassignIfDue := .ite (.unassign (.quiet h)) h

theorem Keeps.sweepReturn {w : Sweep} (h : Keeps s t) : Keeps s (t.sweepReturn w) := by
  unfold State.sweepReturn
  dsimp only
  split
  · exact .sendLocal (.quiet h)
  · exact .quiet h

theorem Keeps.forwardSweep {p : Packet} (h : Keeps s t) : Keeps s (t.forwardSweep p) :=
  .ite (.forEach h .forward) (.ite (.count h) h)

theorem Keeps.runSweep {b : Bytes} {p : Packet} {ret : Nat} (h : Keeps s t) : Keeps s (t.runSweep b p ret) :=
  .ite h (.ite (.sweepReturn (.forwardSweep h)) (.quiet (.forwardSweep h)))

theorem Keeps.meetSweep {m : Msg} {ret : Nat} (h : Keeps s t) : Keeps s (t.meetSweep m ret) :=
  .ite (.runSweep h) (.quiet h)

theorem Keeps.freeSweep (h : Keeps s t) (hu : t.freeSweep = some u) : Keeps s u := by
  obtain ⟨m, -, rfl⟩ := Option.map_eq_some_iff.1 hu
  exact .runSweep (.quiet h)

theorem Keeps.sweepReceivedEff {n : Nat} {b : Bytes} (h : Keeps s t) : Keeps s (sweepReceivedEff n b t) :=
  .ite h (.ite (.count h) (.ite (.quiet h) (.ite (.count (.quiet h)) (.ite (.meetSweep (.quiet h))
    (.quiet (.quiet h))))))

theorem Keeps.sweepReturnReceivedEff {n : Nat} {b : Bytes} (h : Keeps s t) :
    Keeps s (sweepReturnReceivedEff n b t) := by
  unfold Machine.sweepReturnReceivedEff
  refine .ite h (.ite (.count h) ?_)
  split
  · exact .count h
  · exact .ite (.ite (.sweepReturn h) (.quiet h)) h

theorem Keeps.sweepReturnTimeEff {src sq : Nat} (h : Keeps s t) : Keeps s (sweepReturnTimeEff src sq t) := by
  unfold Machine.sweepReturnTimeEff
  refine .ite h ?_
  split
  · exact h
  · exact .sweepReturn (.untilDisp h)

end Sys2Proof.Machine
end

section
/-! PROOF. What a step keeps: time, contexts, captures and bulk streams. -/

namespace Sys2Proof.Machine

variable {s t u : State}

theorem Keeps.refit {c : Nat} (h : Keeps s t) : Keeps s (t.refit c) := .wr (.wr h)

theorem Keeps.ctxFieldEff {c : Nat} {f : CtxField} {v : Val} (h : Keeps s t) : Keeps s (ctxFieldEff c f v t).1 :=
  .iteFst h (.iteFst h (.pair (.refit (.wrv h))))

theorem Keeps.setCtxState {c st : Nat} (h : Keeps s t) : Keeps s (t.setCtxState c st) :=
  .showCtxCounts (.setCtx (.wr h))

theorem Keeps.bindEff {c : Nat} (h : Keeps s t) : Keeps s (bindEff c t).1 := by
  unfold Machine.bindEff
  refine .iteFst h (.iteFst h ?_)
  split
  · exact h
  · exact .pair (.raise (.setCtxState (.wr (.wr (.setCtx (.ite h (.wr h)))))))

theorem Keeps.abandon {c : Nat} (h : Keeps s t) : Keeps s (t.abandon c) :=
  .ite (.setCtxState h) (.raise (.count (.setCtx (.setHandle (.setCtxState h)))))

theorem Keeps.parkCtx {c cause : Nat} (h : Keeps s t) : Keeps s (t.parkCtx c cause) := by
  unfold State.parkCtx
  exact .raise (.setCtxState (.ite (.abandon h) h))

theorem Keeps.parkEff {c : Nat} (h : Keeps s t) : Keeps s (parkEff c t).1 := .iteFst (.pair (.parkCtx h)) h

theorem Keeps.evict {c cause : Nat} (h : Keeps s t) : Keeps s (t.evict c cause) := by
  unfold State.evict
  exact .raise (.setCtx (.clearRecord (.ite (.abandon h) h)))

theorem Keeps.releaseEff {c : Nat} (h : Keeps s t) : Keeps s (releaseEff c t).1 := .iteFst h (.pair (.evict h))

theorem Keeps.ctxCommandEff {c : Nat} {v : Val} (h : Keeps s t) : Keeps s (ctxCommandEff c v t).1 :=
  .iteFst (.bindEff h) (.iteFst (.parkEff h) (.iteFst (.releaseEff h) h))

theorem Keeps.parkTimeoutEff {c : Nat} (h : Keeps s t) : Keeps s (parkTimeoutEff c t) :=
  .ite (.ite (.parkCtx (.untilDisp h)) (.untilDisp h)) h

theorem Keeps.evictTimeoutEff {c : Nat} (h : Keeps s t) : Keeps s (evictTimeoutEff c t) :=
  .ite (.ite (.evict (.untilDisp h)) (.untilDisp h)) h

theorem Keeps.resume {c : Nat} (h : Keeps s t) (hu : t.resume c = some u) : Keeps s u := by
  unfold State.resume at hu
  split at hu
  · cases hu
  · rw [← Option.some.inj hu]
    exact .raise (.setCtxState (.setCtx (.wr h)))

theorem Keeps.startFrame {c frame launch : Nat} (h : Keeps s t) : Keeps s (t.startFrame c frame launch) := by
  unfold State.startFrame
  dsimp only
  split
  · exact .raise (.count (.setCtx (.wr (.wr (.wr (.setCtxState h))))))
  · exact .setCtx (.wr (.setHandle (.setCtx (.wr (.wr (.wr (.setCtxState h)))))))

theorem Keeps.streamLaunch {c tag launch : Nat} (h : Keeps s t) : Keeps s (t.streamLaunch c tag launch) := by
  unfold State.streamLaunch
  dsimp only
  split
  · refine .ite h ?_
    split
    · exact .pushLaunch h
    · exact .raise (.count (.pushLaunch h))
  · split
    · exact .pushLaunch h
    · exact .raise (.count (.pushLaunch h))
  · exact h

theorem Keeps.completeFrame {c : Nat} (h : Keeps s t) : Keeps s (t.completeFrame c) :=
  .ite (.parkCtx (.streamLaunch (.setCtxState (.count (.wr (.wr (.makeReady h))))))) (.streamLaunch (.setCtxState
    (.count (.wr (.wr (.makeReady h))))))

theorem Keeps.takeUnit {c : Nat} {a : UnitHdr} (h : Keeps s t) : Keeps s (t.takeUnit c a) := by
  unfold State.takeUnit
  extract_lets s1 s2 _ s3 s4 _ s5 s6
  have h1 : Keeps s s1 := .ite (.abandon h) h
  have h2 : Keeps s s2 := .ite (.startFrame h1) h1
  have h3 : Keeps s s3 := .ite (.wr h2) h2
  have h4 : Keeps s s4 := .bufWrite h3
  have h5 : Keeps s s5 := .setCtx h4
  have h6 : Keeps s s6 := .wr h5
  exact .ite (.count h) (.ite h2 (.ite (.count h2) (.ite (.count h2) (.ite (.completeFrame h6) h6))))

theorem Keeps.boundUnit {c src seq : Nat} {a : UnitHdr} (h : Keeps s t) : Keeps s (t.boundUnit c src seq a) := by
  unfold State.boundUnit
  extract_lets _ s1 _ s2 s3 s4
  have h1 : Keeps s s1 := .ite (.count h) h
  have h2 : Keeps s s2 := .wr (.setCtx h1)
  have h3 : Keeps s s3 := .ite (.wr h2) h2
  have h4 : Keeps s s4 := .wr h3
  exact .ite (.count h2) (.ite (.count h4) (.takeUnit h4))

theorem Keeps.videoUnitEff {src chan seq : Nat} {b : Bytes} (h : Keeps s t) :
    Keeps s (videoUnitEff src chan seq b t) := by
  unfold Machine.videoUnitEff
  refine .ite h (.ite (.ite (.raise (.setCtxState (.wr h))) (.count h)) (.ite (.count h) (.ite (.count h)
    (.ite (.ite (.count h) ?_) (.boundUnit h)))))
  split
  · exact .count h
  · exact .boundUnit (.resume h ‹_›)

theorem Keeps.ingestLeaves (h : Keeps s t) : Keeps s t.ingestLeaves := .forEach h .abandon

theorem Keeps.ingestEnters (h : Keeps s t) : Keeps s t.ingestEnters :=
  .ite (.resetContexts (.quiet h)) (.forEach (.forEach h .wr) .setCtx)

end Sys2Proof.Machine
end

section
/-! PROOF. What a step keeps: the modulator, its lanes and the capture of their return. -/

namespace Sys2Proof.Machine

variable {s t u : State}

theorem Keeps.decidePacket {x : Shown} {p y : Nat} (h : Keeps s t) : Keeps s (t.decidePacket x p y) :=
  .ite h (.ite (.quiet h) (.ite (.wrv (.countBy (.ite (.count (.count (.quiet h))) (.count (.quiet h)))))
    (.raise (.wrv (.countBy (.ite (.count (.count (.quiet h))) (.count (.quiet h))))))))

theorem Keeps.readPacket {x : Shown} {p y : Nat} (h : Keeps s t) : Keeps s (t.readPacket x p y) :=
  .ite h (.ite (.decidePacket (.decidePacket h)) (.decidePacket h))

theorem Keeps.settlePatterns {a : Geo} {b : Nat} (h : Keeps s t) : Keeps s (t.settlePatterns a b) :=
  .forEach h fun h => .ite (.setView h) h

theorem Keeps.restartPatterns {a : Nat} (h : Keeps s t) : Keeps s (t.restartPatterns a) := .forEach h .setView

theorem Keeps.jumpPatterns {a : Nat} (h : Keeps s t) : Keeps s (t.jumpPatterns a) :=
  .restartPatterns (.settlePatterns h)

theorem Keeps.readPixel {f : Look} {shown : SMap Shown} {v px py : Nat} (h : Keeps s t) :
    Keeps s (t.readPixel f shown v px py) := by
  unfold State.readPixel
  refine .ite h (.forEach h fun h => ?_)
  split
  · exact h
  · exact .forEach h .readPacket

theorem Keeps.clearPrev (h : Keeps s t) : Keeps s t.clearPrev := .quarryClear h

theorem Keeps.setDef {lamp code : Nat} (h : Keeps s t) : Keeps s (t.setDef lamp code) := .quiet h

theorem Keeps.concealCommitted {v : Val} {kept : List Nat} (h : Keeps s t) : Keeps s (t.concealCommitted v kept) :=
  .forEach (.quiet h) fun h => .ite h (.raise (.setDef h))

theorem Keeps.concealDevice {l : List (Nat × Nat)} (h : Keeps s t) : Keeps s (t.concealDevice l) :=
  .forEach h fun h => .ite h (.raise (.setDef h))

theorem Keeps.rebuildDefects (h : Keeps s t) : Keeps s t.rebuildDefects := .quiet h

theorem Keeps.tableReturns {d : Nat} (h : Keeps s t) : Keeps s (t.tableReturns d) :=
  .ite (.ite (.rebuildDefects (.writeBack (.quiet h))) (.writeBack (.quiet h))) h

theorem Keeps.primaryCountEff {v : Val} (h : Keeps s t) : Keeps s (primaryCountEff v t).1 :=
  .iteFst h (.iteFst h (.iteFst h (.pair (.wrv (.setStaged (.quiet (.coefLost (.wr h))))))))

theorem Keeps.sendConfig {lane dwell first seq : Nat} (h : Keeps s t) : Keeps s (t.sendConfig lane dwell first seq) :=
  .setLout h

theorem Keeps.configAll {dwell first : Nat} (h : Keeps s t) : Keeps s (t.configAll dwell first) :=
  .forEach h fun h => .ite (.sendConfig h) h

theorem Keeps.mapLeds {f : LaneLed → LaneLed} (h : Keeps s t) : Keeps s (t.mapLeds f) := .quiet h

theorem Keeps.addPend {p : Pend} (h : Keeps s t) : Keeps s (t.addPend p) := .quiet h

theorem Keeps.squashFor {p : Pend} (h : Keeps s t) : Keeps s (t.squashFor p) :=
  .ite (.addPend h) (.ite (.mapLeds (.addPend h)) (.ite (.mapLeds (.addPend (.squash h))) (.addPend (.squash h))))

theorem Keeps.putValues {l : List (Nat × Val)} (h : Keeps s t) : Keeps s (t.putValues l) := by
  unfold State.putValues
  refine .forEach h fun h => ?_
  split
  · exact .setRaw h
  · exact h

theorem Keeps.beginSlate {e cause : Nat} (h : Keeps s t) : Keeps s (t.beginSlate e cause) :=
  .ite (.clearPrev (.quiet h)) (.raise (.count (.configAll (.clearPrev (.quiet h)))))

theorem Keeps.setThrottle {n e : Nat} (h : Keeps s t) : Keeps s (t.setThrottle n e) :=
  .ite (.raise (.quiet h)) (.ite (.raise (.quiet (.wr h))) (.ite (.raise (.quiet (.wr h))) (.quiet (.wr h))))

theorem Keeps.step2Check (h : Keeps s t) : Keeps s t.step2Check := .ite (.quiet h) (.ite (.raise (.wr (.quiet h))) h)

theorem Keeps.abortCapture {cause : Nat} (h : Keeps s t) : Keeps s (t.abortCapture cause) :=
  .ite h (.raise (.wr (.setHandle h)))

theorem Keeps.disableViews {old new : Nat} (h : Keeps s t) : Keeps s (t.disableViews old new) :=
  .ite (.abortCapture (.forEach h .disableView)) (.forEach h .disableView)

theorem Keeps.regrid (h : Keeps s t) : Keeps s t.regrid := .forEach h .flushQueue

theorem Keeps.dropHidden (h : Keeps s t) : Keeps s t.dropHidden := .ite h (.forEach (.quiet h) .leaveShowing)

theorem Keeps.applyDev {d : DevChange} {e : Nat} (h : Keeps s t) : Keeps s (t.applyDev d e) := by
  unfold State.applyDev
  dsimp only
  split
  · exact .setThrottle (.concealDevice (.forEach h .wr))
  · exact .concealDevice (.forEach h .wr)

theorem Keeps.putTables {l : List (Nat × Val)} (h : Keeps s t) : Keeps s (t.putTables l) := .quiet h

theorem Keeps.applyPend {p : Pend} {later : List Pend} {e : Nat} {g0 : Geo} {slate : Option Nat} (h : Keeps s t) :
    Keeps s (t.applyPend p later e g0 slate) := by
  unfold State.applyPend
  extract_lets _ _ _ s1 s2 s3 s4 s5 s6 s7 s8 s9 s10
  have h1 : Keeps s s1 := .ite (.settlePatterns h) h
  have h2 : Keeps s s2 := .putTables (.putValues h1)
  have h3 : Keeps s s3 := .forEach h2 .putValues
  have h4 : Keeps s s4 := .forEach h3 .setView
  have h5 : Keeps s s5 := .ite (.disableViews h4) h4
  have h6 : Keeps s s6 := .ite (.regrid h5) h5
  have h7 : Keeps s s7 := .dropHidden h6
  have h8 : Keeps s s8 := by
    dsimp only [s8]
    split
    · exact .beginSlate h7
    · exact h7
  have h9 : Keeps s s9 := by
    dsimp only [s9]
    split
    · exact .concealCommitted h8
    · exact h8
  have h10 : Keeps s s10 := .ite (.step2Check h9) h9
  exact .applyDev h10

theorem Keeps.showPending (h : Keeps s t) : Keeps s t.showPending := .wr h

theorem Keeps.effectOf {i e : Nat} (h : Keeps s t) : Keeps s (t.effectOf i e) := by
  unfold State.effectOf
  split
  · exact h
  · exact .ite h (.showPending (.quiet (.applyPend (.quiet h))))

theorem Keeps.effectAll {e : Nat} (h : Keeps s t) : Keeps s (t.effectAll e) :=
  .forEach (.showPending (.quiet h)) .applyPend

theorem Keeps.commitEffectEff (h : Keeps s t) : Keeps s (commitEffectEff t) := by
  unfold Machine.commitEffectEff
  split
  · exact h
  · dsimp only
    split
    · exact .ite (.effectOf (.untilDisp h)) (.untilDisp h)
    · exact .untilDisp h

theorem Keeps.reviseFor {l : List (Nat × Val)} (h : Keeps s t) : Keeps s (t.reviseFor l) :=
  .forEach h fun h => .ite h (.setRevs h)

theorem Keeps.relevel (h : Keeps s t) : Keeps s t.relevel := .quiet h

theorem Keeps.acceptPend {p : Pend} {late : Bool} (h : Keeps s t) : Keeps s (t.acceptPend p late) :=
  .ite (.showPending (.wrv (.relevel (.squashFor (.reviseFor h))))) (.effectOf
    (.wrv (.relevel (.squashFor (.reviseFor h)))))

theorem Keeps.deviceCommit {origin : Origin} {isFrame : Bool} {d : DevChange} (h : Keeps s t) :
    Keeps s (t.deviceCommit origin isFrame d) :=
  .acceptPend (.nextGen h)

theorem Keeps.acceptHost {p : Pend} {late : Bool} (h : Keeps s t) : Keeps s (t.acceptHost p late) :=
  .acceptPend (.ite (.raise (.count (.nextGen h))) (.nextGen h))

theorem Keeps.slateFrameEndEff (h : Keeps s t) : Keeps s (slateFrameEndEff t) := by
  unfold Machine.slateFrameEndEff
  split
  · exact h
  · exact .ite (.ite (.raise (.quiet (.untilDisp h))) (.quiet (.untilDisp h))) (.untilDisp h)

theorem Keeps.startEff (h : Keeps s t) : Keeps s (startEff t).1 := by
  unfold Machine.startEff
  refine .iteFst h (.iteFst h (.iteFst h ?_))
  split
  · exact h
  · exact .pair (.quiet h)

theorem Keeps.stopEff (h : Keeps s t) : Keeps s (stopEff t).1 := .iteFst h (.iteFst h (.pair (.quiet h)))

theorem Keeps.modulatorRunEff {v : Val} (h : Keeps s t) : Keeps s (modulatorRunEff v t).1 :=
  .iteFst (.startEff h) (.iteFst (.stopEff h) h)

theorem Keeps.startModulator {e : Nat} (h : Keeps s t) : Keeps s (t.startModulator e) := by
  unfold State.startModulator
  exact .beginSlate (.quiet (.wr (.wr h)))

theorem Keeps.modulatorStartEffectEff (h : Keeps s t) : Keeps s (modulatorStartEffectEff t) := by
  unfold Machine.modulatorStartEffectEff
  split
  · exact h
  · exact .ite (.startModulator (.untilDisp h)) (.untilDisp h)

theorem Keeps.idleOutputs (h : Keeps s t) : Keeps s t.idleOutputs := .quiet h

theorem Keeps.applyHeld {l : Nat} (h : Keeps s t) : Keeps s (t.applyHeld l) := by
  unfold State.applyHeld
  refine .ite (.forEach h fun h => ?_) (.setLout (.forEach h fun h => ?_))
  · split
    · exact .wrv h
    · exact h
  · split
    · exact .wrv h
    · exact h

theorem Keeps.applyTrims {f : Nat → Bool} (h : Keeps s t) : Keeps s (t.applyTrims f) := .forEach h .applyHeld

theorem Keeps.stopModulator {e : Nat} (h : Keeps s t) : Keeps s (t.stopModulator e) := by
  unfold State.stopModulator
  exact .raise (.idleOutputs (.quiet (.forEach (.effectAll (.applyTrims (.wr h))) fun h => .ite (.decideLaunches h) h)))

theorem Keeps.modulatorStopEffectEff (h : Keeps s t) : Keeps s (modulatorStopEffectEff t) := by
  unfold Machine.modulatorStopEffectEff
  split
  · exact h
  · exact .ite (.stopModulator (.untilDisp h)) (.untilDisp h)

theorem Keeps.modulatorLeaves (h : Keeps s t) : Keeps s t.modulatorLeaves := .ite (.stopModulator (.quiet h)) (.quiet h)

theorem Keeps.readBurst {f : Look} {shown : SMap Shown} {dead : List Nat} {v : Nat} {outs : List
    (Option (Nat × Nat × Nat))} (h : Keeps s t) :
    Keeps s (t.readBurst f shown dead v outs) := by
  unfold State.readBurst
  refine .forEach h fun h => ?_
  split
  · exact h
  · exact .forEach (.readPixel h) .readPixel

theorem Keeps.countOnce {skip clip : Bool} {start : Nat} (h : Keeps s t) : Keeps s (t.countOnce skip clip start) :=
  .ite (.count (.quiet (.ite (.count (.quiet h)) h))) (.ite (.count (.quiet h)) h)

theorem Keeps.computeBurst {lane : Nat} {e : LedEnt} (h : Keeps s t) : Keeps s (t.computeBurst lane e).1 := by
  unfold State.computeBurst
  refine .iteFst h (.pair (.countOnce (.forEach (.readBurst h) fun h => ?_)))
  split
  · exact .quarryWrite h
  · exact h

theorem Keeps.burstComputeEff {lane : Nat} (h : Keeps s t) : Keeps s (burstComputeEff lane t) := by
  unfold Machine.burstComputeEff
  split
  · exact h
  · refine .ite h ?_
    split
    · exact .ite h (.setLed (.computeBurst h))
    · exact .ite h (.setLed (.computeBurst (.decideLaunches h)))

theorem Keeps.burstComputedEff {lane : Nat} (h : Keeps s t) : Keeps s (burstComputedEff lane t) := by
  unfold Machine.burstComputedEff
  dsimp only
  split
  · exact h
  · exact .ite (.quiet (.setLed h)) (.setLed h)

theorem Keeps.verdict {lamp : Nat} {ok : Bool} (h : Keeps s t) : Keeps s (t.verdict lamp ok) :=
  .ite (.ite (.setDef h) h) (.ite (.raise (.setDef h)) (.ite (.setDef h) (.ite (.raise (.setDef h)) h)))

theorem Keeps.appendConceal {lamp cause : Nat} (h : Keeps s t) : Keeps s (t.appendConceal lamp cause) :=
  .setStaged (.quiet (.ite h (.wrv h)))

theorem Keeps.takeSlot {l : List (Nat × Nat)} {lamp : Nat} (h : Keeps s t) : Keeps s (t.takeSlot l lamp).1 :=
  .iteFst (.pair (.appendConceal h)) (.pair (.raise (.setDef h)))

theorem Keeps.periodVerdicts {obs : List (Nat × Nat)} (h : Keeps s t) : Keeps s (t.periodVerdicts obs) :=
  .ite (.foldlFst (.pair (.forEach h .verdict)) .takeSlot) (.deviceCommit (.foldlFst (.pair (.forEach h .verdict))
    .takeSlot))

theorem Keeps.takeVerdicts (h : Keeps s t) : Keeps s t.takeVerdicts := .ite h (.forEach (.quiet h) .periodVerdicts)

theorem Keeps.darken {q : Nat} (h : Keeps s t) : Keeps s (t.darken q) := .quiet (.applyTrims h)

theorem Keeps.nameRow {j : Nat} {on : Bool} {at0 : Nat} {row : Option Nat} (h : Keeps s t) :
    Keeps s (t.nameRow j on at0 row) :=
  .quiet h

theorem Keeps.endDark {q : Nat} {a : Quad} (h : Keeps s t) : Keeps s (t.endDark q a) := by
  unfold State.endDark
  refine .ite (.setQuad h) (.ite (.forEach (.forEach (.setQuad h) fun h => ?_) .nameRow) (.setQuad h))
  split
  · exact .sendConfig h
  · exact h

theorem Keeps.beginDark {q : Nat} {a : Quad} (h : Keeps s t) : Keeps s (t.beginDark q a) := .darken (.setQuad h)

theorem Keeps.driveRows {a : Geo} {line dwell : Nat} {next : Option Nat} (h : Keeps s t) :
    Keeps s (t.driveRows a line dwell next) :=
  .forEach h fun h => .ite (.ite (.nameRow h) h) (.quiet (.nameRow h))

theorem Keeps.missBurst {seq lane : Nat} (h : Keeps s t) : Keeps s (t.missBurst seq lane) :=
  .ite (.count h) (.raise (.quiet (.count h)))

theorem Keeps.laneTrimEff {e : Ent} {l : Nat} {v : Val} (h : Keeps s t) : Keeps s (laneTrimEff e l v t).1 :=
  .pair (.ite (.wrv h) (.setLout h))

theorem Keeps.setTe {a : Nat} {x : TeDom} (h : Keeps s t) : Keeps s (t.setTe a x) := by
  unfold State.setTe
  dsimp only
  split
  · exact .wrn (.quiet h)
  · exact .quiet h

theorem Keeps.launchGrey {lane : Nat} {a : Geo} {e : LedEnt} {words : List Nat} (h : Keeps s t) :
    Keeps s (t.launchGrey lane a e words) :=
  .ite (.setLout (.setTe h)) (.ite (.setLout (.setTe h)) (.setLout (.setTe h)))

theorem Keeps.strobe {grp dwell : Nat} {a : Geo} (h : Keeps s t) : Keeps s (t.strobe grp dwell a) := .quiet h

theorem Keeps.launchPlane {lane line : Nat} {a : Geo} {e : LedEnt} {codes drives : List Nat} (h : Keeps s t) :
    Keeps s (t.launchPlane lane line a e codes drives) :=
  .ite (.quiet (.setLed (.setLout h))) (.setLed (.setLout h))

theorem Keeps.launchDark {lane line : Nat} {a : Geo} {e : LedEnt} (h : Keeps s t) :
    Keeps s (t.launchDark lane line a e) :=
  .ite (.sendConfig h) (.setLout h)

theorem Keeps.passLine {lane line : Nat} {a : Geo} {e : LedEnt} (h : Keeps s t) :
    Keeps s (t.passLine lane line a e) := by
  unfold State.passLine
  extract_lets _ _ s1 s2 s3 _ s4 _ _ s5 s6
  have h1 : Keeps s s1 := .ite (.applyHeld h) h
  have h2 : Keeps s s2 := .ite (.count h1) h1
  have h3 : Keeps s s3 := .ite (.launchDark h2) h2
  have h4 : Keeps s s4 := .ite h1 (.missBurst h1)
  have h5 : Keeps s s5 := .ite (.launchDark h4) (.ite (.launchGrey h4) (.launchPlane h4))
  have h6 : Keeps s s6 := .ite h5 (.strobe h5)
  exact .ite (.driveRows h3) (.driveRows h6)

/-- The definition is opened with no argument given, for with them the kernel would compute the search for the slot. -/
theorem Keeps.refreshPassed {e : LedEnt} (h : Keeps s t) : Keeps s (t.refreshPassed e) := by
  generalize hpass : State.refreshPassed = passed
  delta State.refreshPassed at hpass
  subst hpass
  dsimp only
  split
  · exact .applyDecided h
  · exact h

theorem Keeps.launchLineEff {lane : Nat} (h : Keeps s t) : Keeps s (launchLineEff lane t) := by
  unfold Machine.launchLineEff
  split
  · exact h
  · refine .ite h (.ite (.elapse h) (.ite (.refreshPassed (.passLine ?_)) (.passLine ?_)))
    · split
      · exact .quiet (.setLed (.elapse h))
      · exact .setLed (.elapse h)
    · split
      · exact .quiet (.setLed (.elapse h))
      · exact .setLed (.elapse h)

theorem Keeps.teSwap {a : Nat} {x : TeDom} (h : Keeps s t) : Keeps s (t.teSwap a x) := .quiet (.setTe h)

theorem Keeps.teMiss {a : Nat} {x : TeDom} (h : Keeps s t) : Keeps s (t.teMiss a x) :=
  .ite (.count (.quiet (.setTe h))) (.raise (.count (.quiet (.setTe h))))

theorem Keeps.teEdgeEff {a : Nat} (h : Keeps s t) : Keeps s (teEdgeEff a t) :=
  .ite h (.ite (.ite (.setTe (.teMiss h)) (.teSwap h)) (.quiet h))

theorem Keeps.teTimeoutEff {a : Nat} (h : Keeps s t) : Keeps s (teTimeoutEff a t) :=
  .ite (.ite (.elapse h) (.teMiss (.elapse h))) h

theorem Keeps.lrbError {grp lane : Nat} (h : Keeps s t) : Keeps s (t.lrbError grp lane) :=
  .ite (.raise (.wrn (.quiet (.count h)))) (.quiet (.count h))

theorem Keeps.lrbGood {grp lane : Nat} (h : Keeps s t) : Keeps s (t.lrbGood grp lane) :=
  .ite (.wrn (.quiet (.count h))) (.quiet (.count h))

theorem Keeps.observe {frame lamp flag drive : Nat} (h : Keeps s t) : Keeps s (t.observe frame lamp flag drive) :=
  .ite h (.quiet h)

theorem Keeps.observeFlags {w : Want} {bits : List Bool} (h : Keeps s t) : Keeps s (t.observeFlags w bits) := by
  unfold State.observeFlags
  split
  · exact h
  · refine .forEach h fun h => ?_
    split
    · exact h
    · exact .observe h

theorem Keeps.lrbLate {grp : Nat} (h : Keeps s t) : Keeps s (t.lrbLate grp) := .forEach (.quiet h) .lrbError

theorem Keeps.lrbFrameEff {grp : Nat} {bits : List Bool} (h : Keeps s t) : Keeps s (lrbFrameEff grp bits t) := by
  unfold Machine.lrbFrameEff
  refine .ite h (.takeVerdicts ?_)
  split
  · exact .lrbLate h
  · exact .ite (.observeFlags (.lrbGood (.quiet (.lrbLate h)))) (.lrbError (.quiet (.lrbLate h)))

theorem Keeps.lrbStartBitLateEff {grp : Nat} (h : Keeps s t) : Keeps s (lrbStartBitLateEff grp t) := by
  unfold Machine.lrbStartBitLateEff
  split
  · exact h
  · exact .ite (.takeVerdicts (.lrbLate (.elapse h))) h

theorem Keeps.setLocked {q : Nat} {on : Bool} (h : Keeps s t) : Keeps s (t.setLocked q on) := .ite h (.wr h)

theorem Keeps.lanePllUnlockEff {q : Nat} (h : Keeps s t) : Keeps s (lanePllUnlockEff q t) :=
  .ite (.beginDark (.raise (.setLocked h))) h

theorem Keeps.lanePllRelockEff {q : Nat} (h : Keeps s t) : Keeps s (lanePllRelockEff q t) :=
  .ite (.endDark (.raise (.setLocked h))) h

theorem Keeps.quadrantResumeEff {q : Nat} (h : Keeps s t) : Keeps s (quadrantResumeEff q t) := by
  unfold Machine.quadrantResumeEff
  split
  · exact h
  · exact .ite h (.ite (.setQuad (.untilDisp h)) (.untilDisp h))

theorem Keeps.defectVerdictEff (h : Keeps s t) : Keeps s (defectVerdictEff t) :=
  .ite (.takeVerdicts (.forEach (.quiet (.untilDisp h)) .lrbLate)) h

theorem Keeps.captureArmEff {v : Val} (h : Keeps s t) : Keeps s (captureArmEff v t).1 := by
  unfold Machine.captureArmEff
  dsimp only
  split
  · exact h
  · exact .pair (.wr (.quiet (.wr (.setHandle h))))

theorem Keeps.captureImage {a : Nat} (h : Keeps s t) : Keeps s (t.captureImage a) :=
  .forEach (.forEach h .readPixel) .bufWrite

theorem Keeps.consumeDue {v g n : Nat} (h : Keeps s t) : Keeps s (t.consumeDue v g n) := by
  induction n generalizing t with
  | zero => exact h
  | succ n ih =>
    unfold State.consumeDue
    split
    · exact h
    · exact .ite (ih (.launchInstantEff h)) h

theorem Keeps.captureBoundaryEff (h : Keeps s t) : Keeps s (captureBoundaryEff t) := by
  unfold Machine.captureBoundaryEff
  refine .ite h (.ite (.untilDisp h) (.ite (.abortCapture (.untilDisp h)) (.ite ?_ (.wr (.captureImage (.consumeDue
    (.untilDisp h)))))))
  split
  · exact .untilDisp h
  · exact .wr (.captureImage (.decideLaunches (.elapse (.untilDisp h))))

theorem Keeps.captureDoneEff (h : Keeps s t) : Keeps s (captureDoneEff t) :=
  .ite (.raise (.wr (.makeReady (.count h)))) h

theorem Keeps.captureAbortEff {v : Val} (h : Keeps s t) : Keeps s (captureAbortEff v t).1 :=
  .iteFst (.pair (.abortCapture h)) (.iteFst h h)

theorem Keeps.stage {n : Nat} {e : Ent} {i : Nat} {v : Val} (h : Keeps s t) : Keeps s (t.stage n e i v).1 := by
  unfold State.stage
  split
  · exact h
  · exact .iteFst h (.pair (.wr (.setStaged h)))

theorem Keeps.plainEff {e : Ent} {i : Nat} {v : Val} (h : Keeps s t) : Keeps s (plainEff e i v t).1 := by
  unfold Machine.plainEff
  split
  · exact h
  · exact .pair (.wrv (.ite (.keepOutput h) h))

end Sys2Proof.Machine
end

section
/-! PROOF. What a step keeps: jobs, the archive, the MRAM and the black box. -/

namespace Sys2Proof.Machine

variable {s t u : State}

theorem Keeps.rangeWrite {kind handle off : Nat} {b : Bytes} (h : Keeps s t) :
    Keeps s (t.rangeWrite kind handle off b) := by
  unfold State.rangeWrite
  split
  · exact .quarryWrite h
  · exact .quarryWrite h
  · exact .tableWrite h
  · exact .bufWrite h
  · exact h

theorem Keeps.showJob {j : Nat} (h : Keeps s t) : Keeps s (t.showJob j) := .wrv (.wr (.wr h))

theorem Keeps.placeIn {j : Nat} {p : Spec} {n : Nat} {b : Bytes} (h : Keeps s t) : Keeps s (t.placeIn j p n b) := by
  induction n generalizing t b with
  | zero => exact h
  | succ n ih =>
    unfold State.placeIn
    exact .ite h (ih (.setJob (.bufWrite h)))

theorem Keeps.jobTo {j st : Nat} {status : Status} (h : Keeps s t) : Keeps s (t.jobTo j st status) :=
  .ite (.setRevs (.wr (.wr h))) (.wr (.wr h))

theorem Keeps.jobDone {j : Nat} (h : Keeps s t) : Keeps s (t.jobDone j) := .raise (.jobTo (.showJob h))

theorem Keeps.jobSuspend {j : Nat} (h : Keeps s t) : Keeps s (t.jobSuspend j) := .raise (.jobTo (.showJob h))

theorem Keeps.jobFail {j : Nat} {st : Status} (h : Keeps s t) : Keeps s (t.jobFail j st) := .raise (.jobTo (.showJob h))

theorem Keeps.spoil {p : Spec} (h : Keeps s t) : Keeps s (t.spoil p) := .quiet (.foldl h .bufWrite)

theorem Keeps.compressRun {j : Nat} {p : Spec} {n : Nat} {b : Bytes} (h : Keeps s t) :
    Keeps s (t.compressRun j p n b) := by
  induction n generalizing t b with
  | zero => exact h
  | succ n ih =>
    unfold State.compressRun
    dsimp only
    split
    · exact .ite (.jobDone h) (.showJob h)
    · exact .ite (.jobFail (.spoil h)) (.ite (ih (.placeIn (.quiet (.setJob h)))) (.jobSuspend (.setJob h)))

theorem Keeps.compressBlock {j : Nat} (h : Keeps s t) : Keeps s (t.compressBlock j) := .compressRun h

theorem Keeps.decompressBlock {j : Nat} (h : Keeps s t) : Keeps s (t.decompressBlock j) := by
  unfold State.decompressBlock
  extract_lets _ _ _ _ s1
  have h1 : Keeps s s1 := .placeIn (.setJob h)
  split
  · exact .jobFail (.count h1)
  · exact .ite (.jobSuspend h1) (.ite (.ite (.jobDone h1) (.jobFail (.count h1))) (.ite (.jobFail (.count h1))
      (.showJob h1)))

theorem Keeps.jobBlock {j : Nat} (h : Keeps s t) : Keeps s (t.jobBlock j) :=
  .ite (.ite (.compressBlock h) (.decompressBlock h)) h

theorem Keeps.jobStartEff {j : Nat} (h : Keeps s t) : Keeps s (jobStartEff j t).1 := by
  unfold Machine.jobStartEff
  refine .iteFst h ?_
  split
  · exact h
  · exact .pair (.wr (.showJob (.setJob h)))

theorem Keeps.jobResumeEff {j : Nat} (h : Keeps s t) : Keeps s (jobResumeEff j t).1 := by
  unfold Machine.jobResumeEff
  refine .iteFst h ?_
  split
  · exact h
  · exact .pair (.wr (.setJob h))

theorem Keeps.jobAbortEff {j : Nat} (h : Keeps s t) : Keeps s (jobAbortEff j t).1 := .iteFst h (.pair (.wr (.setJob h)))

theorem Keeps.jobCommandEff {j : Nat} {v : Val} (h : Keeps s t) : Keeps s (jobCommandEff j v t).1 :=
  .iteFst (.jobStartEff h) (.iteFst (.jobResumeEff h) (.iteFst (.jobAbortEff h) h))

theorem Keeps.codecLeaves (h : Keeps s t) : Keeps s t.codecLeaves := .forEach h fun h => .wr (.setJob h)

theorem Keeps.savedStateEff {j : Nat} {v : Val} (h : Keeps s t) : Keeps s (savedStateEff j v t).1 :=
  .iteFst h (.iteFst h (.iteFst h (.pair (.jobTo (.showJob (.setJob h))))))

theorem Keeps.showOwner (h : Keeps s t) : Keeps s t.showOwner := .wr (.wr h)

theorem Keeps.setOps {l : List NvmOp} (h : Keeps s t) : Keeps s (t.setOps l) := .secure h

theorem Keeps.completeFor {w : Waiter} {r : Reply} (h : Keeps s t) : Keeps s (t.completeFor w r) :=
  .ite (.freeCore h) (.complete h)

theorem Keeps.storeReply {q : StoreRun} {r : Reply} (h : Keeps s t) : Keeps s (t.storeReply q r) := .ite h (.complete h)

theorem Keeps.answer {w : Option Waiter} {st : Status} (h : Keeps s t) : Keeps s (t.answer w st) := by
  unfold State.answer
  split
  · exact h
  · exact .completeFor h

theorem Keeps.dropOps {p : NvmOp → Bool} (h : Keeps s t) : Keeps s (t.dropOps p) := by
  unfold State.dropOps
  refine .foldl (.setOps h) fun h => ?_
  split
  · exact .mramWrite h
  · exact h

theorem Keeps.endXfer {a st : Nat} {status : Status} (h : Keeps s t) : Keeps s (t.endXfer a st status) :=
  .secure (.dropOps (.wr (.wr h)))

theorem Keeps.doneXfer {a : Nat} (h : Keeps s t) : Keeps s (t.doneXfer a) := .raise (.endXfer h)

theorem Keeps.failXfer {a : Nat} {st : Status} (h : Keeps s t) : Keeps s (t.failXfer a st) := .raise (.endXfer h)

theorem Keeps.countDecode {st : Status} (h : Keeps s t) : Keeps s (t.countDecode st) := .ite (.count h) h

theorem Keeps.blowFuses (h : Keeps s t) : Keeps s t.blowFuses := .ite (.secure h) h

theorem Keeps.clearAuth (h : Keeps s t) : Keeps s t.clearAuth := .quiet h

theorem Keeps.ownerDone {o : NvmOp} (h : Keeps s t) : Keeps s (t.ownerDone o) :=
  .answer (.ite (.raise (.clearAuth (.showOwner h))) (.ite (.raise (.blowFuses (.secure (.showOwner h))))
    (.showOwner h)))

theorem Keeps.slotWritten {a slot : Nat} (h : Keeps s t) : Keeps s (t.slotWritten a slot) := by
  unfold State.slotWritten
  dsimp only
  split
  · exact .doneXfer (.secure (.mramScan h))
  · exact .failXfer (.raise (.mramScan h))

theorem Keeps.pushOp {o : NvmOp} (h : Keeps s t) : Keeps s (t.pushOp o) := .setOps h

theorem Keeps.storeFail {st : Status} (h : Keeps s t) : Keeps s (t.storeFail st) := by
  unfold State.storeFail
  split
  · exact h
  · exact .storeReply (.raise (.count (.secure h)))

theorem Keeps.storeNext (h : Keeps s t) : Keeps s t.storeNext := by
  unfold State.storeNext
  split
  · exact h
  · split
    · exact .storeReply (.secure h)
    · exact .ite (.storeFail h) (.pushOp h)
    · exact .ite (.storeFail h) (.pushOp h)
    · split
      · exact .storeFail h
      · exact .secure h

theorem Keeps.storeRun {n : Nat} (h : Keeps s t) : Keeps s (State.storeRun n t) := by
  induction n generalizing t with
  | zero => exact h
  | succ n ih => exact .ite (ih (.storeNext h)) (.storeNext h)

theorem Keeps.storeAreaDone (h : Keeps s t) : Keeps s t.storeAreaDone := by
  unfold State.storeAreaDone
  split
  · exact h
  · exact .storeRun (.secure h)

theorem Keeps.opDone {o : NvmOp} (h : Keeps s t) : Keeps s (t.opDone o) := by
  unfold State.opDone
  split
  · exact .ownerDone h
  · exact .slotWritten h
  · exact .answer h
  · exact .ite (.storeAreaDone h) (.doneXfer h)
  · exact .storeAreaDone h

theorem Keeps.opFail {o : NvmOp} {st : Status} (h : Keeps s t) : Keeps s (t.opFail o st) := by
  unfold State.opFail
  split
  · exact .answer h
  · exact .failXfer h
  · exact .answer h
  · exact .ite (.storeRun (.storeFail h)) (.failXfer h)
  · exact .storeRun (.storeFail h)

theorem Keeps.setHeads {l : List Nat} (h : Keeps s t) : Keeps s (t.setHeads l) := .wrv h

theorem Keeps.writeRecord {kind : Nat} {r : EventRec} (h : Keeps s t) : Keeps s (t.writeRecord kind r) :=
  .ite (.setHeads (.wr (.secure (.mramWrite h)))) (.wr (.secure (.mramWrite h)))

theorem Keeps.clearLine {k : Nat} (h : Keeps s t) : Keeps s (t.clearLine k) :=
  .ite (.mramWrite (.ite (.setHeads h) h)) (.writeRecord (.setHeads (.secure h)))

theorem Keeps.unhold (h : Keeps s t) : Keeps s t.unhold := .secure h

theorem Keeps.hold (h : Keeps s t) : Keeps s t.hold := .ite (.count (.secure h)) (.secure h)

theorem Keeps.nvmKick {n : Nat} (h : Keeps s t) : Keeps s (State.nvmKick n t) := by
  induction n generalizing t with
  | zero => exact h
  | succ n ih =>
    unfold State.nvmKick
    refine .ite h (.ite ?_ ?_)
    · dsimp only
      split
      · exact .unhold h
      · exact .ite (.unhold h) (.ite (ih (.setOps (.unhold h))) (.setOps (.unhold h)))
    · split
      · exact ih (.opFail (.setOps h))
      · split
        · exact h
        · exact .ite h (.hold h)

theorem Keeps.enqueueOp {o : NvmOp} (h : Keeps s t) : Keeps s (t.enqueueOp o) := .nvmKick (.pushOp h)

theorem Keeps.lastLine {i : Nat} {o : NvmOp} (h : Keeps s t) : Keeps s (t.lastLine i o) :=
  .ite (.opFail (.setOps h)) (.ite (.opDone (.setOps h)) (.ite (.opDone (.mramScan (.setOps h)))
    (.setOps (.mramScan (.setOps h)))))

theorem Keeps.finishLine {i : Nat} {o : NvmOp} (h : Keeps s t) : Keeps s (t.finishLine i o) := by
  unfold State.finishLine
  refine .ite (.ite (.setOps (.clearLine h)) (.opDone (.setOps (.clearLine h)))) ?_
  split
  · exact .setOps h
  · exact .ite (.lastLine (.mramWrite h)) (.setOps (.mramWrite h))

theorem Keeps.nvmLineDoneEff (h : Keeps s t) : Keeps s (nvmLineDoneEff t) := by
  unfold Machine.nvmLineDoneEff
  split
  · exact h
  · exact .nvmKick (.finishLine h)

theorem Keeps.nvmHoldLimitEff (h : Keeps s t) : Keeps s (nvmHoldLimitEff t) := by
  unfold Machine.nvmHoldLimitEff
  refine .ite h ?_
  split
  · exact h
  · exact .nvmKick (.opFail (.setOps (.untilMono h)))

theorem Keeps.recordWriteEff (h : Keeps s t) : Keeps s (recordWriteEff t) := by
  unfold Machine.recordWriteEff
  refine .ite h ?_
  split
  · exact h
  · exact .ite (.bbSummarise (.writeRecord (.secure (.untilMono h)))) (.hold h)

theorem Keeps.scanDoneEff (h : Keeps s t) : Keeps s (scanDoneEff t) := .ite h (.setHeads (.wr (.secure (.mramScan h))))

theorem Keeps.headReleaseEff {v : Val} (h : Keeps s t) : Keeps s (headReleaseEff v t).1 :=
  .iteFst h (.iteFst h (.pair (.bbPut (.setHeads h))))

theorem Keeps.blackBoxClearEff {env : Env} {v : Val} (h : Keeps s t) : Keeps s (blackBoxClearEff env v t).1 :=
  .iteFst h (.iteFst h (.pair (.pushOp h)))

theorem Keeps.writeNvm {eff : Val → State → State × Ans} {env : Env} {e : Ent} {b : Bytes} (h : Keeps s t)
    (heff : ∀ {v u}, Keeps s u → Keeps s (eff v u).1) : Keeps s (t.writeNvm env e b eff) :=
  .nvmKick (.writeCmd h heff)

theorem Keeps.newChallenge {n : Nat} (h : Keeps s t) : Keeps s (t.newChallenge n).1 :=
  .pair (.ite (.secure h) (.setSession (.secure h)))

theorem Keeps.authChallengeBody {env : Env} {off : Nat} (h : Keeps s t) : Keeps s (authChallengeBody env off t).1 :=
  .iteFst h (.pair (.readReply (.newChallenge h)))

theorem Keeps.ownerEnrolEff {env : Env} {v : Val} (h : Keeps s t) : Keeps s (ownerEnrolEff env v t).1 :=
  .iteFst h (.iteFst h (.iteFst h (.pair (.pushOp h))))

theorem Keeps.tokenActs {env : Env} {n : Nat} {b : Bytes} (h : Keeps s t) : Keeps s (t.tokenActs env n b).1 := by
  unfold State.tokenActs
  dsimp only
  split
  · exact .pair (.setSession h)
  · exact .pair (.pushOp h)
  · exact .pair (.pushOp h)

theorem Keeps.ownerTokenEff {env : Env} {v : Val} (h : Keeps s t) : Keeps s (ownerTokenEff env v t).1 := by
  unfold Machine.ownerTokenEff
  dsimp only
  split
  · exact .pair (.tokenRefused h)
  · exact .tokenActs (.setSession h)

theorem Keeps.ownerSignsEff {env : Env} {v : Val} (h : Keeps s t) : Keeps s (ownerSignsEff env v t).1 :=
  .iteFst h (.iteFst (.plainEff h) (.pair (.pushOp h)))

theorem Keeps.ownerSignsReturns (h : Keeps s t) : Keeps s t.ownerSignsReturns := .ite h (.pushOp h)

theorem Keeps.firmwareActivateEff {env : Env} {v : Val} (h : Keeps s t) : Keeps s (firmwareActivateEff env v t).1 :=
  .iteFst h (.iteFst h (.iteFst h (.pair (.pushOp h))))

theorem Keeps.firmwareConfirmEff {env : Env} {v : Val} (h : Keeps s t) : Keeps s (firmwareConfirmEff env v t).1 :=
  .iteFst h (.iteFst h (.iteFst h (.pair (.pushOp h))))

theorem Keeps.attestNonceEff {env : Env} {v : Val} (h : Keeps s t) : Keeps s (attestNonceEff env v t).1 :=
  .iteFst h (.pair (.setSession h))

end Sys2Proof.Machine
end

section
/-! PROOF. What a step keeps: transfers and the writes of entries. -/

namespace Sys2Proof.Machine

variable {s t u : State}

theorem Keeps.sendAck {a : Nat} (h : Keeps s t) : Keeps s (t.sendAck a) := .originate (.setXfer h)

theorem Keeps.openXfer {n a : Nat} {x : Xfer} (h : Keeps s t) : Keeps s (t.openXfer n a x) := by
  unfold State.openXfer
  extract_lets _ s1 s2
  have h1 : Keeps s s1 := .setXfer h
  have h2 : Keeps s s2 := .wr (.wr (.wr (.wr h1)))
  exact .ite h2 (.ite (.failXfer h2) (.ite (.pushOp h2) (.ite (.pushOp h2) h2)))

theorem Keeps.transferOpenEff {env : Env} {v : Val} (h : Keeps s t) : Keeps s (transferOpenEff env v t).1 := by
  unfold Machine.transferOpenEff
  dsimp only
  split
  · exact h
  · exact .pair (.openXfer h)

theorem Keeps.transferAbortEff {v : Val} (h : Keeps s t) : Keeps s (transferAbortEff v t).1 :=
  .iteFst h (.iteFst h (.pair (.failXfer h)))

theorem Keeps.transferTimeoutEff {a : Nat} (h : Keeps s t) : Keeps s (transferTimeoutEff a t) :=
  .ite h (.nvmKick (.failXfer (.untilMono h)))

theorem Keeps.closeXfers {n : Nat} (h : Keeps s t) : Keeps s (t.closeXfers n) := .nvmKick (.forEach h .failXfer)

theorem Keeps.loseXfers (h : Keeps s t) : Keeps s t.loseXfers := .forEach h .failXfer

theorem Keeps.planEnterEff {v : Val} (h : Keeps s t) : Keeps s (planEnterEff v t).1 :=
  .iteFst h (.iteFst h (.iteFst h (.iteFst h (.iteFst h (.pair (.quiet h))))))

theorem Keeps.resetEff {v : Val} (h : Keeps s t) : Keeps s (resetEff v t).1 := .iteFst h (.iteFst h (.pair (.quiet h)))

theorem Keeps.issueReg (h : Keeps s t) : Keeps s t.issueReg := by
  unfold State.issueReg
  split
  · exact .quiet h
  · exact h

theorem Keeps.askReg {r : RegReq} (h : Keeps s t) : Keeps s (t.askReg r) :=
  .ite (.ite (.setRail h) (.quiet h)) (.issueReg (.quiet h))

theorem Keeps.railsDown (h : Keeps s t) : Keeps s t.railsDown := .forEach h fun h => .ite (.askReg h) h

theorem Keeps.railSleepEff {v : Val} (h : Keeps s t) : Keeps s (railSleepEff v t).1 := .pair (.railsDown (.plainEff h))

theorem Keeps.writeEff {env : Env} {e : Ent} {i : Nat} {a : Val} (h : Keeps s t) :
    Keeps s (writeEff env e i a t).1 := by
  unfold Machine.writeEff
  split
  · exact .portEnableEff h
  · exact .retrainEff h
  · exact .sleepRequestEff h
  · exact .unassignEff h
  · exact .launchPushEff h
  · exact .launchFlushEff h
  · exact .ctxCommandEff h
  · exact .ctxFieldEff h
  · exact .ctxFieldEff h
  · exact .ctxFieldEff h
  · exact .ctxFieldEff h
  · exact .ctxFieldEff h
  · exact .ctxFieldEff h
  · exact .ctxFieldEff h
  · exact .ctxFieldEff h
  · exact .ctxFieldEff h
  · exact .handleCommandEff h
  · exact .storePlacementEff h
  · exact .storePlacementEff h
  · exact .storePlacementEff h
  · exact .storePlacementEff h
  · exact .storePlacementEff h
  · exact .storePlacementEff h
  · exact .captureArmEff h
  · exact .captureAbortEff h
  · exact .primaryCountEff h
  · exact .modulatorRunEff h
  · exact .resetEff h
  · exact .transferOpenEff h
  · exact .transferAbortEff h
  · exact .jobCommandEff h
  · exact .savedStateEff h
  · exact .headReleaseEff h
  · exact .blackBoxClearEff h
  · exact .ownerEnrolEff h
  · exact .ownerTokenEff h
  · exact .ownerSignsEff h
  · exact .firmwareActivateEff h
  · exact .firmwareConfirmEff h
  · exact .attestNonceEff h
  · exact .planEnterEff h
  · exact .railSleepEff h
  · exact .laneTrimEff h
  · exact .laneTrimEff h
  · exact .laneTrimEff h
  · exact .plainEff h

theorem Keeps.stageWrite {env : Env} {e : Ent} {i : Nat} {v : Val} (h : Keeps s t) :
    Keeps s (t.stageWrite env e i v).1 := by
  unfold State.stageWrite
  dsimp only
  split
  · exact .pair (.refused h)
  · exact .iteFst (.stage h) (.pair (.refused (.stage h)))

theorem Keeps.stageAt {n index sub : Nat} {b : Bytes} (h : Keeps s t) : Keeps s (t.stageAt n index sub b).1 := by
  unfold State.stageAt
  split
  · exact h
  · exact .iteFst h (.iteFst h (.iteFst h (.iteFst (.pair (.refused h)) (.iteFst (.pair (.refused h))
      (.stageWrite h)))))

theorem Keeps.failSection {a : Nat} {st : Status} (h : Keeps s t) : Keeps s (t.failSection a st) := .failXfer (.wr h)

theorem Keeps.beginSlot {slot : Nat} (h : Keeps s t) : Keeps s (t.beginSlot slot) :=
  .ite (.pushOp (.secure h)) (.secure h)

theorem Keeps.feedLines {a base : Nat} {image : Bytes} {last : Bool} (h : Keeps s t) :
    Keeps s (t.feedLines a base image last) :=
  .setOps (.setXfer h)

theorem Keeps.storePart {a : Nat} {d : Sect} {b : Bytes} (h : Keeps s t) : Keeps s (t.storePart a d b).1 :=
  .iteFst h (.iteFst (.pair (.rangeWrite (.setXfer h))) (.pair (.rangeWrite (.setXfer h))))

theorem Keeps.stageFile {n : Nat} {file : Bytes} (h : Keeps s t) : Keeps s (t.stageFile n file).1 := by
  unfold State.stageFile
  dsimp only
  split
  · refine .foldlFst h fun h => ?_
    split
    · exact h
    · refine .iteFst h ?_
      split
      · exact h
      · exact .iteFst (.pair (.stageAt h)) (.pair (.stageAt h))
  · dsimp only
    split
    · exact .refused h
    · exact h

theorem Keeps.fileGood {n : Nat} (h : Keeps s t) : Keeps s (t.fileGood n) := by
  unfold State.fileGood
  refine .ite ?_ ?_
  · dsimp only
    split
    · exact .failSection h
    · exact .ite (.failSection h) (.feedLines (.pushOp (.beginSlot (.setXfer h))))
  · have hfile := Keeps.stageFile h (n := (t.xfer n).session) (file := (t.xfer n).file)
    split
    · rename_i heq
      rw [heq] at hfile
      exact .doneXfer hfile
    · rename_i heq
      rw [heq] at hfile
      exact .failXfer (.wr hfile)

theorem Keeps.fileRun {k n : Nat} (h : Keeps s t) : Keeps s (State.fileRun k n t) := by
  induction k generalizing t with
  | zero => exact h
  | succ k ih =>
    unfold State.fileRun
    refine .ite h (.ite ?_ (.ite (.ite (.fileGood h) h) (.ite h ?_)))
    · refine .ite (.failXfer h) (.ite h (.ite (.failXfer h) (.ite (.failXfer h) (.ite h ?_))))
      split
      · exact .failXfer h
      · exact ih (.setXfer h)
    · extract_lets s1 b r
      have hr : Keeps s r.1 := .iteFst (.storePart (.setXfer h)) (.setXfer (.setXfer h))
      split
      · exact .failSection (.countDecode hr)
      · refine .ite hr ?_
        split
        · exact .failSection (.ite (.countDecode hr) hr)
        · exact ih (.setXfer hr)

theorem Keeps.takeData {a o : Nat} {b : Bytes} (h : Keeps s t) : Keeps s (t.takeData a o b) := by
  unfold State.takeData
  extract_lets _ _ s1 _ _ s2 _ s3 _ _ s4
  have h1 : Keeps s s1 := .wr (.setXfer h)
  have h2 : Keeps s s2 := .ite (.sendAck h1) h1
  have h3 : Keeps s s3 := .rangeWrite h2
  have h4 : Keeps s s4 := .setXfer h2
  refine .ite (.setXfer h2) (.ite (.ite (.doneXfer h3) h3) (.ite (.fileRun h4)
    (.ite (.feedLines (.ite (.beginSlot h4) h4)) ?_)))
  split
  · exact .feedLines h4
  · exact h4

theorem Keeps.discardPacket {a : Nat} (h : Keeps s t) : Keeps s (t.discardPacket a) := .ite h (.setXfer h)

theorem Keeps.bulkPacketEff {source chan seq : Nat} {p : Bytes} (h : Keeps s t) :
    Keeps s (bulkPacketEff source chan seq p t) :=
  .ite h (.ite (.discardPacket h) (.ite (.nvmKick (.failXfer h)) (.nvmKick (.takeData h))))

theorem Keeps.bulkAckTimerEff {a : Nat} (h : Keeps s t) : Keeps s (bulkAckTimerEff a t) := by
  unfold Machine.bulkAckTimerEff
  split
  · exact h
  · exact .ite h (.sendAck (.untilMono h))

theorem Keeps.outScan {x : Xfer} {o n : Nat} (h : Keeps s t) : Keeps s (t.outScan x o n) := by
  unfold State.outScan
  refine .ite ?_ (.ite (.mramScan h) h)
  split
  · exact .mramScan h
  · exact h

theorem Keeps.bulkSendEff {a : Nat} (h : Keeps s t) : Keeps s (bulkSendEff a t) :=
  .ite h (.ite (.failXfer h) (.ite h (.originate (.setXfer (.outScan h)))))

theorem Keeps.bulkAckEff {source a : Nat} {p : Bytes} (h : Keeps s t) : Keeps s (bulkAckEff source a p t) :=
  .ite h (.ite (.doneXfer (.wr (.setXfer h))) (.wr (.setXfer h)))

theorem Keeps.xferBlock {a : Nat} (h : Keeps s t) : Keeps s (t.xferBlock a) := by
  unfold State.xferBlock
  dsimp only
  split
  · exact h
  · refine .ite (.failXfer h) ?_
    split
    · exact .failXfer (.countDecode (.rangeWrite (.setXfer h)))
    · exact .ite (.ite (.doneXfer (.rangeWrite (.setXfer h))) (.failXfer (.countDecode (.rangeWrite (.setXfer h)))))
        (.rangeWrite (.setXfer h))

theorem Keeps.archiveEnds {a : Archive} {st : Status} (h : Keeps s t) : Keeps s (t.archiveEnds a st) := by
  unfold State.archiveEnds
  extract_lets _ s1 _ s2
  have h1 : Keeps s s1 := .secure h
  have h2 : Keeps s s2 := .ite (.quiet h1) h1
  refine .ite (.raise (.wr h2)) ?_
  split
  · exact h2
  · exact .completeFor h2

theorem Keeps.setArchive {a : Archive} (h : Keeps s t) : Keeps s (t.setArchive a) := .secure h

theorem Keeps.loadBlock {a : Archive} (h : Keeps s t) : Keeps s (t.loadBlock a) := by
  unfold State.loadBlock
  extract_lets s1 _ _ _ s2
  have h1 : Keeps s s1 := .ite (.mramScan h) h
  have h2 : Keeps s s2 := .rangeWrite (.setArchive h1)
  refine .ite (.archiveEnds h1) ?_
  split
  · exact .archiveEnds (.countDecode h2)
  · exact .ite (.archiveEnds h2) (.ite (.ite (.archiveEnds h2) (.archiveEnds (.countDecode h2))) h2)

theorem Keeps.storeBlock {a : Archive} (h : Keeps s t) : Keeps s (t.storeBlock a) :=
  .ite (.storeRun (.storeFail (.secure h))) (.ite (.storeRun (.storeFail (.secure (.quiet h))))
    (.ite (.nvmKick (.pushOp (.secure (.quiet h)))) (.setArchive (.quiet h))))

theorem Keeps.judgeBlock {a : Archive} {b : Nat} (h : Keeps s t) : Keeps s (t.judgeBlock a b) := by
  unfold State.judgeBlock
  dsimp only
  split
  · exact .nvmKick (.failXfer (.countDecode (.setArchive h)))
  · exact .ite (.nvmKick (.failXfer (.setArchive h))) (.ite (.ite (.nvmKick (.failXfer (.countDecode (.setArchive h))))
      (.nvmKick (.setOps (.secure (.setArchive h))))) (.setArchive h))

theorem Keeps.archiveBlock (h : Keeps s t) : Keeps s t.archiveBlock := by
  unfold State.archiveBlock
  split
  · refine .ite (.loadBlock h) ?_
    split
    · exact .judgeBlock h
    · exact .storeBlock h
  · split
    · exact h
    · exact .setArchive (.setXfer h)

theorem Keeps.scanJob {j : Nat} (h : Keeps s t) : Keeps s (t.scanJob j) := .ite (.mramScan h) h

theorem Keeps.shaleBlockEff {n : Nat} (h : Keeps s t) : Keeps s (shaleBlockEff n t) := by
  unfold Machine.shaleBlockEff
  refine .ite h (.ite (.jobBlock (.scanJob h)) ?_)
  split
  · exact .xferBlock h
  · exact .ite (.archiveBlock h) h

theorem Keeps.archiveAutoloadEff (h : Keeps s t) : Keeps s (archiveAutoloadEff t) := .ite (.setArchive (.quiet h)) h

end Sys2Proof.Machine
end

section
/-! PROOF. What a step keeps: power, saved state and resets. -/

namespace Sys2Proof.Machine

variable {s t u : State}

theorem Keeps.muteWaits {p : Env → Bool} (h : Keeps s t) : Keeps s (t.muteWaits p) := .secure h

theorem Keeps.answerDom {env : Option Env} {target : DomState} {st : Status} {block : Nat} (h : Keeps s t) :
    Keeps s (t.answerDom env target st block) := by
  unfold State.answerDom
  split
  · exact h
  · exact .complete h

theorem Keeps.planEnds {done dom : Nat} {st : Status} {block : Nat} (h : Keeps s t) :
    Keeps s (t.planEnds done dom st block) :=
  .raise (.wrv (.quiet h))

theorem Keeps.planStops {waits : Bool} {dom : Nat} {st : Status} {block : Nat} (h : Keeps s t) :
    Keeps s (t.planStops waits dom st block) := by
  unfold State.planStops
  split
  · exact .ite (.planEnds h) h
  · exact h

theorem Keeps.putDomain {d : Nat} {x : Domain} (h : Keeps s t) : Keeps s (t.putDomain d x) := .wrv (.setDomain h)

theorem Keeps.refuseEntry {d block : Nat} (h : Keeps s t) : Keeps s (t.refuseEntry d block) :=
  .planStops (.answerDom (.raise (.wr (.count (.putDomain h)))))

theorem Keeps.railsUp {d : Nat} (h : Keeps s t) : Keeps s (t.railsUp d) := .forEach h .askReg

theorem Keeps.startExit {d : Nat} {r : DomReq} (h : Keeps s t) : Keeps s (t.startExit d r) := .putDomain h

theorem Keeps.exitOrWait {d : Nat} {r : DomReq} (h : Keeps s t) : Keeps s (t.exitOrWait d r) :=
  .ite (.setDomain (.railsUp h)) (.startExit (.railsUp h))

theorem Keeps.startEntry {d : Nat} {r : DomReq} (h : Keeps s t) : Keeps s (t.startEntry d r) := by
  unfold State.startEntry
  refine .ite ?_ (.putDomain h)
  split
  · exact .askSleep (.putDomain h)
  · exact .setPort (.putDomain h)
  · exact .putDomain h

theorem Keeps.startRequest {d : Nat} {r : DomReq} (h : Keeps s t) : Keeps s (t.startRequest d r) :=
  .ite (.answerDom h) (.ite (.ite (.answerDom h) (.ite (.answerDom h) (.exitOrWait h)))
    (.ite (.planStops (.answerDom h)) (.ite (.planStops (.answerDom h)) (.startEntry h))))

theorem Keeps.leaveOut {d : Nat} (h : Keeps s t) : Keeps s (t.leaveOut d) := .quiet h

theorem Keeps.supersede {d : Nat} (h : Keeps s t) : Keeps s (t.supersede d) := by
  unfold State.supersede
  split
  · exact h
  · exact .planStops (.answerDom (.count (.setDomain (.ite (.leaveOut h) h))))

theorem Keeps.requestDomain {d : Nat} {r : DomReq} (h : Keeps s t) : Keeps s (t.requestDomain d r) :=
  .ite (.setDomain (.supersede h)) (.railsDown (.startRequest (.supersede h)))

theorem Keeps.startPending {d : Nat} (h : Keeps s t) : Keeps s (t.startPending d) := by
  unfold State.startPending
  dsimp only
  split
  · exact h
  · exact .ite h (.startRequest (.setDomain h))

theorem Keeps.takeLatch (h : Keeps s t) : Keeps s t.takeLatch := .ite (.quiet h) (.quiet (.quiet h))

theorem Keeps.timeLeaves (h : Keeps s t) : Keeps s t.timeLeaves := by
  unfold State.timeLeaves
  exact .takeLatch (.forEach (.quiet (.ite (.forEach h fun h => .dropStands (.flushQueue h)) (.settlePatterns
    (.forEach h fun h => .dropStands (.flushQueue h))))) .showCaptures)

theorem Keeps.boxLeaves (h : Keeps s t) : Keeps s t.boxLeaves := .forEach (.secure h) fun h => .count (.quiet h)

theorem Keeps.secureLeaves (h : Keeps s t) : Keeps s t.secureLeaves := .forEach (.boxLeaves (.dropOps h)) .answer

theorem Keeps.archiveLost (h : Keeps s t) : Keeps s t.archiveLost := by
  unfold State.archiveLost
  split
  · exact h
  · refine .ite (.archiveEnds h) ?_
    split
    · exact .setXfer (.secure h)
    · exact .storeRun (.storeFail (.secure h))

theorem Keeps.mgmtLeaves (h : Keeps s t) : Keeps s t.mgmtLeaves :=
  .forEach (.wr (.quiet (.muteWaits (.forEach h .failXfer)))) .runSweep

theorem Keeps.darkAll {f : Quad → Quad} (h : Keeps s t) : Keeps s (t.darkAll f) := .forEach h .beginDark

theorem Keeps.lightAll {f : Quad → Quad} (h : Keeps s t) : Keeps s (t.lightAll f) := .forEach h .endDark

theorem Keeps.portLeaves {n : Nat} (h : Keeps s t) : Keeps s (t.portLeaves n) := by
  unfold State.portLeaves
  extract_lets _ s1
  have h1 : Keeps s s1 := .forEach (.bipLeave h) .setLane
  exact .ite h1 (.ite (.netLeave (.enterDisabled h1)) (.enterDisabled h1))

theorem Keeps.leaveOn {d : Nat} (h : Keeps s t) : Keeps s (t.leaveOn d) :=
  .ite (.portLeaves h) (.ite (.timeLeaves h) (.ite (.ingestLeaves h) (.ite (.abortCapture (.quiet h))
    (.ite (.archiveLost (.codecLeaves h)) (.ite (.mgmtLeaves h) (.ite (.secureLeaves (.archiveLost h))
    (.ite (.abortCapture h) (.ite (.darkAll (.modulatorLeaves h)) (.ite (.quiet (.setLocked (.darken h))) h)))))))))

theorem Keeps.renewWatchdog (h : Keeps s t) : Keeps s t.renewWatchdog := .quiet h

theorem Keeps.enterOn {d : Nat} {fromRet : Bool} (h : Keeps s t) : Keeps s (t.enterOn d fromRet) :=
  .ite (.startPort h) (.ite (.quiet h) (.ite (.ingestEnters h) (.ite (.ite (.renewWatchdog (.summarise h))
    (.summarise h)) (.ite (.ownerSignsReturns (.bbSummarise h)) (.ite (.tableReturns h)
    (.ite (.lightAll (.tableReturns h)) (.ite (.setLocked (.setQuad h)) (.ite (.loseBanks h) h))))))))

theorem Keeps.beginCal (h : Keeps s t) : Keeps s t.beginCal := .ite (.wr (.quiet h)) h

theorem Keeps.dropEntries (h : Keeps s t) : Keeps s t.dropEntries := by
  unfold State.dropEntries
  refine .forEach h fun h => ?_
  split
  · exact .ite h (.planStops (.answerDom (.count (.setDomain h))))
  · exact h

theorem Keeps.takeWake {code : Nat} (h : Keeps s t) : Keeps s (t.takeWake code) := by
  unfold State.takeWake
  exact .raise (.wr (.quiet (.dropEntries (.quiet h))))

theorem Keeps.wakeDomain {d : Nat} (h : Keeps s t) : Keeps s (t.wakeDomain d) :=
  .ite h (.ite (.exitOrWait h) (.leaveOut h))

theorem Keeps.planLayer {l : Nat} (h : Keeps s t) : Keeps s (t.planLayer l) := by
  unfold State.planLayer
  refine .forEach (.quiet h) fun h => ?_
  split
  · exact .ite h (.requestDomain h)
  · exact h

theorem Keeps.advance {n : Nat} (h : Keeps s t) : Keeps s (State.advance n t) := by
  induction n generalizing t with
  | zero => exact h
  | succ n ih =>
    unfold State.advance
    split
    · exact .ite h (.ite (ih (.planEnds h)) (.ite (.quiet h) (ih (.planLayer h))))
    · split
      · exact h
      · exact .quiet h
      · have hwake {l : List Nat} : Keeps s (t.forEach l State.wakeDomain) := .forEach h .wakeDomain
        exact .ite (ih (.quiet hwake)) hwake

theorem Keeps.domainReaches {d : Nat} (h : Keeps s t) : Keeps s (t.domainReaches d) :=
  .answerDom (.ite (.quiet (.wr (.count (.putDomain h)))) (.wr (.count (.putDomain h))))

theorem Keeps.abortReq {d : Nat} {r : DomReq} {st : Status} (h : Keeps s t) : Keeps s (t.abortReq d r st) :=
  .planStops (.answerDom (.ite (.leaveOut (.raise (.count h))) (.raise (.count h))))

theorem Keeps.abortOne {d : Nat} {st : Status} (h : Keeps s t) : Keeps s (t.abortOne d st) :=
  .startPending (.abortReq (.putDomain h))

theorem Keeps.abortPending {d : Nat} {st : Status} (h : Keeps s t) : Keeps s (t.abortPending d st) := by
  unfold State.abortPending
  split
  · exact h
  · exact .railsDown (.abortReq (.setDomain h))

theorem Keeps.abortTransition {d : Nat} {st : Status} (h : Keeps s t) : Keeps s (t.abortTransition d st) :=
  .advance (.railsDown (.forEach (.abortOne h) .abortOne))

theorem Keeps.planSuperseded (h : Keeps s t) : Keeps s t.planSuperseded := by
  unfold State.planSuperseded
  split
  · exact .ite (.planEnds h) (.ite (.planEnds h) h)
  · exact h

theorem Keeps.nextLayer {d : Nat} (h : Keeps s t) : Keeps s (t.nextLayer d) := by
  unfold State.nextLayer
  split
  · refine .ite ?_ h
    split
    · exact .advance (.takeWake (.planSuperseded h))
    · exact .planLayer h
  · exact h

theorem Keeps.domainQuiesceDoneEff {d : Nat} (h : Keeps s t) : Keeps s (domainQuiesceDoneEff d t) := by
  unfold Machine.domainQuiesceDoneEff
  refine .ite (.nextLayer h) ?_
  split
  · exact .advance (.startPending (.refuseEntry (.ite (.setPort (.nextLayer h)) (.nextLayer h))))
  · exact .loseXfers (.setDomain (.leaveOn (.nextLayer h)))

theorem Keeps.domainEntryWindowEndEff {d : Nat} (h : Keeps s t) : Keeps s (domainEntryWindowEndEff d t) :=
  .ite h (.advance (.startPending (.railsDown (.domainReaches (.untilMono h)))))

theorem Keeps.domainExitDoneEff {d : Nat} (h : Keeps s t) : Keeps s (domainExitDoneEff d t) :=
  .ite h (.advance (.startPending (.beginCal (.enterOn (.domainReaches (.ite (.untilMono h)
    (.quiet (.untilMono h))))))))

theorem Keeps.powerGoodTimeoutEff {d : Nat} (h : Keeps s t) : Keeps s (powerGoodTimeoutEff d t) :=
  .ite (.abortTransition (.untilMono h)) h

theorem Keeps.domainUpBody {env : Env} {body : Bytes} (h : Keeps s t) : Keeps s (domainUpBody env body t).1 :=
  .iteFst h (.iteFst h (.iteFst h (.iteFst h (.iteFst h (.pair (.requestDomain h))))))

theorem Keeps.domainDownBody {env : Env} {body : Bytes} (h : Keeps s t) : Keeps s (domainDownBody env body t).1 :=
  .iteFst h (.iteFst h (.iteFst h (.iteFst h (.iteFst (.pair (.railsDown (.supersede h)))
    (.iteFst (.pair (.raise (.wr (.count h)))) (.pair (.requestDomain h)))))))

theorem Keeps.planExecuteEff (h : Keeps s t) : Keeps s (planExecuteEff t) := .ite (.advance (.planLayer (.quiet h))) h

theorem Keeps.wakeBallEdgeEff {rising : Bool} (h : Keeps s t) : Keeps s (wakeBallEdgeEff rising t) := .quiet h

theorem Keeps.spiCsWakeEff (h : Keeps s t) : Keeps s (spiCsWakeEff t) := .ite h (.quiet h)

theorem Keeps.alarmExpiryEff (h : Keeps s t) : Keeps s (alarmExpiryEff t) := .ite h (.quiet (.slowTicks h))

theorem Keeps.wakeEff (h : Keeps s t) : Keeps s (wakeEff t) := by
  unfold Machine.wakeEff
  refine .ite h ?_
  split
  · exact h
  · exact .advance (.takeWake (.planSuperseded h))

theorem Keeps.endDip (h : Keeps s t) : Keeps s t.endDip := .quiet h

theorem Keeps.supplyWarningEff {r mv : Nat} (h : Keeps s t) : Keeps s (supplyWarningEff r mv t) :=
  .ite h (.secure (.wrn (.setRail h)))

theorem Keeps.supplyDarkEff (h : Keeps s t) : Keeps s (supplyDarkEff t) := by
  unfold Machine.supplyDarkEff
  split
  · exact h
  · exact .ite h (.raise (.count (.darkAll (.quiet (.untilMono h)))))

theorem Keeps.bootDomains (h : Keeps s t) : Keeps s t.bootDomains := .forEach h fun h => .ite (.exitOrWait h) h

theorem Keeps.dipEnds {a : Nat} (h : Keeps s t) : Keeps s (t.dipEnds a) := by
  unfold State.dipEnds
  extract_lets _ s1 _ _ s2 s3 _ s4 s5
  have h1 : Keeps s s1 := .raise (.count h)
  have h2 : Keeps s s2 := .quiet h1
  have h3 : Keeps s s3 := .ite (.lightAll h2) h2
  have h4 : Keeps s s4 := .ite (.quiet h3) h3
  have h5 : Keeps s s5 := .ite (.bootDomains h4) h4
  exact .nvmKick (.advance (.forEach h5 .startPending))

theorem Keeps.railSet {r : RegReq} (h : Keeps s t) : Keeps s (t.railSet r) :=
  .ite (.setRail (.quiet h)) (.ite (.setRail (.quiet h)) (.setRail (.quiet h)))

theorem Keeps.regDone {r : RegReq} (h : Keeps s t) : Keeps s (t.regDone r) := by
  unfold State.regDone
  dsimp only
  split
  · exact .ite (.issueReg (.railSet h)) (.dipEnds (.issueReg (.railSet h)))
  · exact .railsDown (.advance (.forEach (.issueReg (.railSet h)) .startPending))

theorem Keeps.regulatorAckEff {rail w : Nat} (h : Keeps s t) : Keeps s (regulatorAckEff rail w t) := by
  unfold Machine.regulatorAckEff
  split
  · exact h
  · exact .ite h (.ite (.regDone h) (.ite (.ite (.quiet (.raise (.setRail h))) (.raise (.setRail h))) h))

theorem Keeps.regFails {r : RegReq} (h : Keeps s t) : Keeps s (t.regFails r) :=
  .advance (.forEach (.raise (.count (.issueReg (.quiet h)))) fun h => .ite (.abortPending h)
    (.ite (.abortTransition h) h))

theorem Keeps.regulatorTimeoutEff {rail : Nat} (h : Keeps s t) : Keeps s (regulatorTimeoutEff rail t) := by
  unfold Machine.regulatorTimeoutEff
  split
  · exact h
  · exact .ite h (.ite (.quiet (.untilMono h)) (.regFails (.untilMono h)))

theorem Keeps.supplyRecoverEff {r : Nat} (h : Keeps s t) : Keeps s (supplyRecoverEff r t) := by
  unfold Machine.supplyRecoverEff
  refine .ite ?_ h
  dsimp only
  split
  · exact .ite (.quiet (.setRail h)) (.dipEnds (.quiet (.setRail h)))
  · exact .ite (.quiet (.setRail (.quiet (.setRail h)))) (.setRail (.quiet (.setRail h)))

theorem Keeps.loadSettings (h : Keeps s t) : Keeps s t.loadSettings :=
  .ite (.forEach h .wrv) (.raise (.wr (.forEach h .wrv)))

theorem Keeps.loadCalib (h : Keeps s t) : Keeps s t.loadCalib := .wr (.forEach h .wrv)

theorem Keeps.tearLines (h : Keeps s t) : Keeps s t.tearLines := by
  unfold State.tearLines
  refine .forEach h fun h => ?_
  split
  · exact h
  · exact .mramWrite (.foldlSnd h fun h => .pairSnd (.draw h))

theorem Keeps.endLines (h : Keeps s t) : Keeps s t.endLines := .ite (.secure (.tearLines h)) (.dropOps h)

theorem Keeps.latchTime (h : Keeps s t) : Keeps s t.latchTime := .ite (.takeLatch h) h

theorem Keeps.allOff (h : Keeps s t) : Keeps s t.allOff := by
  unfold State.allOff
  extract_lets s1 s2
  have h1 : Keeps s s1 := .latchTime (.boxLeaves (.endLines h))
  have h2 : Keeps s s2 := .forEach (.wr h1) .wr
  clear_value s2
  exact .secure (t := { s2 with quarry := [] }) (.stores h2 id id (fun _ => rfl) id)

theorem Keeps.warmReset {cause : Nat} (h : Keeps s t) : Keeps s (t.warmReset cause) :=
  .quiet (.resetEntries (.allOff h))

theorem Keeps.trigger {cause : Nat} (h : Keeps s t) : Keeps s (t.trigger cause) := .ite (.quiet h) (.warmReset h)

theorem Keeps.sourceOf {cause source : Nat} {minimum : Int} (h : Keeps s t) :
    Keeps s (t.sourceOf cause source minimum) :=
  .ite (.quiet h) h

theorem Keeps.fullReset (h : Keeps s t) : Keeps s t.fullReset :=
  .secure (t := { t.endLines with regs := [], revs := [], quarry := [] })
    (.stores (.endLines h) (fun _ => rfl) (fun _ => rfl) (fun _ => rfl) id)

end Sys2Proof.Machine
end

section
/-! PROOF. What a step keeps: temperature, startup, the test port and time. -/

namespace Sys2Proof.Machine

variable {s t u : State}

theorem Keeps.setSensor {n : Nat} {a : Sensor} (h : Keeps s t) : Keeps s (t.setSensor n a) := .quiet h

theorem Keeps.setAin {c : Nat} {a : Ain} (h : Keeps s t) : Keeps s (t.setAin c a) := .quiet h

theorem Keeps.failSensor {n : Nat} (h : Keeps s t) : Keeps s (t.failSensor n) := .raise (.wr (.setSensor h))

theorem Keeps.healSensor {n : Nat} (h : Keeps s t) : Keeps s (t.healSensor n) := .raise (.wr (.setSensor h))

theorem Keeps.convert {n count : Nat} (h : Keeps s t) : Keeps s (t.convert n count) := by
  unfold State.convert
  refine .ite (.ite (.healSensor (.setSensor ?_)) (.setSensor ?_)) (.ite (.failSensor (.setSensor ?_)) (.setSensor ?_))
  · split
    · exact .wrn h
    · exact h
  · split
    · exact .wrn h
    · exact h
  · split
    · exact .wrn h
    · exact h
  · split
    · exact .wrn h
    · exact h

theorem Keeps.convertAll {counts : List Nat} (h : Keeps s t) : Keeps s (t.convertAll counts) := .forEach h .convert

theorem Keeps.setJunction (h : Keeps s t) : Keeps s t.setJunction := .nvmKick (.wr (.quiet h))

theorem Keeps.shutdown {source : Nat} (h : Keeps s t) : Keeps s (t.shutdown source) := by
  unfold State.shutdown
  exact .raise (.quiet (.count (.allOff (.darkAll h))))

theorem Keeps.thermalRestart (h : Keeps s t) : Keeps s t.thermalRestart := .sourceOf (.trigger (.quiet h))

theorem Keeps.judgeHeat (h : Keeps s t) : Keeps s t.judgeHeat := by
  unfold State.judgeHeat
  refine .ite (.ite (.thermalRestart h) h) ?_
  split
  · exact .shutdown h
  · exact h

theorem Keeps.sensorConversionEff {counts : List Nat} (h : Keeps s t) : Keeps s (sensorConversionEff counts t) :=
  .ite (.judgeHeat (.setJunction (.convertAll (.quiet (.untilMono h))))) h

theorem Keeps.setThermalBit {k : Nat} {b : Bool} (h : Keeps s t) : Keeps s (t.setThermalBit k b) := .wr h

theorem Keeps.warnRound {j : Int} (h : Keeps s t) : Keeps s (t.warnRound j) :=
  .ite (.raise (.setThermalBit h)) (.ite (.raise (.setThermalBit h)) h)

theorem Keeps.rateRound {j : Int} (h : Keeps s t) : Keeps s (t.rateRound j) :=
  .ite (.raise (.setThermalBit (.wr (.quiet h)))) (.ite (.raise (.setThermalBit (.wr (.quiet h)))) (.wr (.quiet h)))

theorem Keeps.decideStep {origin : Origin} {n : Nat} (h : Keeps s t) : Keeps s (t.decideStep origin n) :=
  .deviceCommit (.count h)

theorem Keeps.throttleRound {j : Int} (h : Keeps s t) : Keeps s (t.throttleRound j) := by
  unfold State.throttleRound
  extract_lets _ _ _ s1
  have h1 : Keeps s s1 := .quiet h
  exact .ite h1 (.ite (.ite (.decideStep h1) h1) (.ite (.ite (.ite (.decideStep h1) (.raise (.quiet h1)))
    (.ite (.decideStep h1) h1)) (.ite (.decideStep h1) h1)))

theorem Keeps.vcoreRound {b : Nat} (h : Keeps s t) : Keeps s (t.vcoreRound b) := .ite (.wr h) (.askReg (.wr h))

theorem Keeps.avsRound {j : Int} (h : Keeps s t) : Keeps s (t.avsRound j) := .vcoreRound (.wr h)

theorem Keeps.judgeBand {c : Nat} (h : Keeps s t) : Keeps s (t.judgeBand c) :=
  .ite h (.deviceCommit (.count (.setAin h)))

theorem Keeps.convertInput {c : Nat} {code : Int} (h : Keeps s t) : Keeps s (t.convertInput c code) := by
  unfold State.convertInput
  split
  · exact .ite (.ite (.wr h) (.raise (.wr h))) (.judgeBand (.setAin (.wr (.wr h))))
  · exact .wr h
  · exact h

theorem Keeps.senseRails {ain : List Nat} (h : Keeps s t) : Keeps s (t.senseRails ain) := .quiet h

theorem Keeps.analogRound {ain : List Nat} (h : Keeps s t) : Keeps s (t.analogRound ain) :=
  .ite (.senseRails (.forEach h .convertInput)) h

theorem Keeps.slowRoundEff {ain : List Nat} (h : Keeps s t) : Keeps s (slowRoundEff ain t) :=
  .ite h (.ite (.quiet (.untilMono h)) (.analogRound (.avsRound (.throttleRound (.rateRound (.warnRound
    (.quiet (.untilMono h))))))))

theorem Keeps.cal1 {reading : List Nat} (h : Keeps s t) : Keeps s (t.cal1 reading) :=
  .ite (.wr (.wr (.quiet h))) (.raise (.quiet h))

theorem Keeps.medianCheck (h : Keeps s t) : Keeps s t.medianCheck := .ite h (.forEach h .failSensor)

theorem Keeps.cal2 {reading : List Nat} (h : Keeps s t) : Keeps s (t.cal2 reading) :=
  .ite (.judgeHeat (.setJunction (.convertAll h))) (.judgeHeat (.setJunction (.medianCheck (.convertAll (.judgeHeat
    (.setJunction (.convertAll h)))))))

theorem Keeps.cal3 (h : Keeps s t) : Keeps s t.cal3 := by
  unfold State.cal3
  exact .raise (.wr (.loadCalib h))

theorem Keeps.cal4 {reading : List Nat} (h : Keeps s t) : Keeps s (t.cal4 reading) := .forEach h .wrn

theorem Keeps.calNext {k : Nat} (h : Keeps s t) : Keeps s (t.calNext k) := .quiet h

theorem Keeps.calPhase1StepEff {reading : List Nat} (h : Keeps s t) : Keeps s (calPhase1StepEff reading t) := by
  unfold Machine.calPhase1StepEff
  refine .ite h (.ite ?_ (.ite h (.ite (.calNext (.cal1 (.untilMono h))) (.ite (.cal2 (.calNext (.untilMono h)))
    (.calNext (.cal3 (.untilMono h)))))))
  split
  · exact h
  · exact .ite h (.quiet (.cal4 (.untilDisp h)))

theorem Keeps.beginPass {phase : Nat} (h : Keeps s t) : Keeps s (t.beginPass phase) := .wr (.wr (.quiet h))

theorem Keeps.calPhase2MeasuredEff {l : Nat} {a : TrimSet} (h : Keeps s t) : Keeps s (calPhase2MeasuredEff l a t) :=
  .ite (.ite (.ite (.ite (.beginPass h) h) (.setLout (.ite (.beginPass h) h))) (.ite (.beginPass h) h)) h

theorem Keeps.trimLane {l : Nat} (h : Keeps s t) : Keeps s (t.trimLane l) := by
  unfold State.trimLane
  split
  · exact h
  · exact .ite (.count (.setLout (.wr (.wr (.wr h))))) (.wr (.wr (.wr h)))

theorem Keeps.endPass (h : Keeps s t) : Keeps s t.endPass := .ite (.ite (.raise (.wr (.quiet h))) (.wr (.quiet h))) h

theorem Keeps.toGap (h : Keeps s t) : Keeps s t.toGap := .quiet (.elapse (.elapse h))

theorem Keeps.calPhase2ApplyEff (h : Keeps s t) : Keeps s (calPhase2ApplyEff t) := by
  unfold Machine.calPhase2ApplyEff
  refine .ite (.endPass (.forEach (.ite h (.toGap h)) fun h => ?_)) h
  split
  · exact .setLout (.trimLane h)
  · exact h

theorem Keeps.calRepeatEff (h : Keeps s t) : Keeps s (calRepeatEff t) := .ite (.beginPass (.untilMono h)) h

theorem Keeps.supplyResetEff {r mv : Nat} (h : Keeps s t) : Keeps s (supplyResetEff r mv t) :=
  .ite h (.ite (.setRail (.fullReset h)) (.endDip (.ite (.sourceOf (.trigger (.wrn (.setRail h))))
    (.trigger (.wrn (.setRail h))))))

theorem Keeps.crystalDetectedEff (h : Keeps s t) : Keeps s (crystalDetectedEff t) := .ite h (.quiet h)

theorem Keeps.crystalLostEff (h : Keeps s t) : Keeps s (crystalLostEff t) := .ite h (.quiet h)

theorem Keeps.refclkEff {present : Bool} (h : Keeps s t) : Keeps s (refclkEff present t) := .quiet h

theorem Keeps.recordCause (h : Keeps s t) : Keeps s t.recordCause := .wrn (.wr (.wr h))

theorem Keeps.resetReleaseEff (h : Keeps s t) : Keeps s (resetReleaseEff t) :=
  .ite h (.ite (.recordCause (.secure (.untilMono h))) (.bootDomains (.recordCause (.secure (.untilMono h)))))

theorem Keeps.resetBallEff {lowNs : Nat} (h : Keeps s t) : Keeps s (resetBallEff lowNs t) :=
  .ite h (.elapse (.sourceOf (.trigger (.elapse h))))

theorem Keeps.watchdogExpiryEff (h : Keeps s t) : Keeps s (watchdogExpiryEff t) :=
  .ite (.sourceOf (.trigger (.untilMono h))) h

theorem Keeps.bootWrite {p : List (Nat × Byte)} (h : Keeps s t) : Keeps s (t.bootWrite p) := .enqueueOp h

theorem Keeps.abandonTrial {slot : Nat} (h : Keeps s t) : Keeps s (t.abandonTrial slot) := .secure h

theorem Keeps.countBoot (h : Keeps s t) : Keeps s t.countBoot := .bootWrite (.quiet (.ite (.abandonTrial h) h))

theorem Keeps.startSlot {slot : Nat} {trial : Bool} (h : Keeps s t) : Keeps s (t.startSlot slot trial) :=
  .ite (.renewWatchdog (.wr (.secure h))) (.blowFuses (.renewWatchdog (.wr (.secure h))))

theorem Keeps.trySlot (h : Keeps s t) : Keeps s t.trySlot :=
  .ite (.ite (.startSlot (.mramScan h)) (.bootWrite (.abandonTrial (.mramScan h)))) (.ite (.startSlot (.mramScan h))
    (.ite (.bootWrite (.mramScan h)) (.quiet (.mramScan h))))

theorem Keeps.bootRomEff (h : Keeps s t) : Keeps s (bootRomEff t) :=
  .ite h (.ite (.countBoot (.showOwner h)) (.ite h (.trySlot h)))

theorem Keeps.raiseCause (h : Keeps s t) : Keeps s t.raiseCause :=
  .forEach (.secure (.queueEvent (.count h))) fun h => .count (.quiet h)

theorem Keeps.firmwareBootEff (h : Keeps s t) : Keeps s (firmwareBootEff t) := by
  unfold Machine.firmwareBootEff
  extract_lets s1 s2 s3
  have h1 : Keeps s s1 := .raiseCause (.renewWatchdog (.loadSettings (.mramScan h)))
  have h2 : Keeps s s2 := .ite (.raise h1) h1
  have h3 : Keeps s s3 := .ite (.raise h2) h2
  exact .ite h (.railsDown (.advance (.quiet h3)))

theorem Keeps.bootCompleteEff (h : Keeps s t) : Keeps s (bootCompleteEff t) := .ite (.raise (.wr (.quiet h))) h

theorem Keeps.autostartEff (h : Keeps s t) : Keeps s (autostartEff t) := by
  unfold Machine.autostartEff
  refine .ite ?_ h
  dsimp only
  split
  · exact .ite (.startEff (.quiet h)) (.raise (.startEff (.quiet h)))
  · exact .startEff (.quiet h)

theorem Keeps.leaveTest (h : Keeps s t) : Keeps s t.leaveTest := .ite (.sourceOf (.trigger (.quiet h))) h

theorem Keeps.jtagBypassEff {tdi : Bool} (h : Keeps s t) : Keeps s (jtagBypassEff tdi t) := .quiet (.leaveTest h)

theorem Keeps.jtagIdcodeEff {_tdi : Bool} (h : Keeps s t) : Keeps s (jtagIdcodeEff _tdi t) := .quiet (.leaveTest h)

theorem Keeps.jtagSampleEff {sample preload : List Bool} (h : Keeps s t) : Keeps s (jtagSampleEff sample preload t) :=
  .quiet (.leaveTest h)

theorem Keeps.jtagExtestEff (h : Keeps s t) : Keeps s (jtagExtestEff t) := .quiet (.quiet h)

theorem Keeps.jtagClampEff (h : Keeps s t) : Keeps s (jtagClampEff t) := .quiet h

theorem Keeps.jtagHighzEff (h : Keeps s t) : Keeps s (jtagHighzEff t) := .quiet h

theorem Keeps.syncSendEff (h : Keeps s t) : Keeps s (syncSendEff t) :=
  .ite (.forEach (.quiet (.untilMono h)) .sendLocal) h

theorem Keeps.tryLock (h : Keeps s t) : Keeps s t.tryLock := .ite (.raise (.wr (.quiet h))) h

theorem Keeps.unlockCheck {theta : Int} (h : Keeps s t) : Keeps s (t.unlockCheck theta) :=
  .ite (.toHoldover (.quiet h)) (.quiet h)

theorem Keeps.slew {theta : Int} (h : Keeps s t) : Keeps s (t.slew theta) := .wr (.quiet h)

theorem Keeps.timeStep {theta : Int} (h : Keeps s t) : Keeps s (t.timeStep theta) :=
  .raise (.count (.quiet (.jumpPatterns h)))

theorem Keeps.runServo {theta : Int} (h : Keeps s t) : Keeps s (t.runServo theta) :=
  .ite (.ite (.timeStep (.unlockCheck (.wr h))) (.slew (.quiet (.ite (.unlockCheck (.wr h)) (.raise (.unlockCheck
    (.wr h))))))) (.slew (.quiet (.unlockCheck (.wr h))))

theorem Keeps.syncReceivedEff {n : Nat} {b : Bytes} {rx : Nat} (h : Keeps s t) : Keeps s (syncReceivedEff n b rx t) :=
  .ite h (.ite (.count h) (.ite (.wr (.wr (.quiet (.ite (.toHoldover h) h)))) (.tryLock (.runServo
    (.wr (.wr (.quiet (.ite (.toHoldover h) h))))))))

theorem Keeps.delayExchangeTimerEff (h : Keeps s t) : Keeps s (delayExchangeTimerEff t) := by
  unfold Machine.delayExchangeTimerEff
  split
  · exact .ite (.sendLocal (.quiet (.untilMono h))) h
  · exact h

theorem Keeps.delayReqReceivedEff {n seq : Nat} {b : Bytes} {rx : Nat} (h : Keeps s t) :
    Keeps s (delayReqReceivedEff n seq b rx t) :=
  .ite h (.ite (.count h) (.ite h (.sendLocal h)))

theorem Keeps.delayRespReceivedEff {n : Nat} {b : Bytes} {rx : Nat} (h : Keeps s t) :
    Keeps s (delayRespReceivedEff n b rx t) := by
  unfold Machine.delayRespReceivedEff
  refine .ite h (.ite (.count h) ?_)
  split
  · exact .count h
  · exact .ite (.count (.quiet h)) (.ite (.quiet h) (.wr (.quiet (.quiet h))))

theorem Keeps.delayRespTimeoutEff (h : Keeps s t) : Keeps s (delayRespTimeoutEff t) := by
  unfold Machine.delayRespTimeoutEff
  split
  · exact h
  · exact .ite (.quiet (.untilMono h)) h

theorem Keeps.syncLossEff (h : Keeps s t) : Keeps s (syncLossEff t) := .ite (.toHoldover (.untilMono h)) h

theorem Keeps.holdoverLimitEff (h : Keeps s t) : Keeps s (holdoverLimitEff t) :=
  .ite (.ite (.raise (.wr (.ite h (.untilDisp h)))) (.ite h (.untilDisp h))) h

theorem Keeps.slowWindowEndEff {period : Nat} (h : Keeps s t) : Keeps s (slowWindowEndEff period t) :=
  .ite (.wr (.quiet h)) h

theorem Keeps.sleepAccountingEff (h : Keeps s t) : Keeps s (sleepAccountingEff t) := by
  unfold Machine.sleepAccountingEff
  split
  · exact h
  · exact .ite h (.ite (.wr (.quiet (.ite (.count (.wr (.restartPatterns (.quiet (.slowTicks h)))))
      (.wr (.restartPatterns (.quiet (.slowTicks h))))))) (.ite
      (.raise (.wr (.quiet (.ite (.count (.wr (.restartPatterns (.quiet (.slowTicks h))))) (.wr (.restartPatterns
      (.quiet (.slowTicks h)))))))) (.raise (.wr (.quiet (.ite (.count (.wr (.restartPatterns (.quiet (.slowTicks h)))))
      (.wr (.restartPatterns (.quiet (.slowTicks h))))))))))

theorem Keeps.synciEdgeEff {i : Nat} {falling : Bool} {stamp : BitVec 96} (h : Keeps s t) :
    Keeps s (synciEdgeEff i falling stamp t) :=
  .ite h (.ite (.showCaptures (.setSyncI h)) (.ite (.count h) (.raise (.setSyncI (.count h)))))

theorem Keeps.capturePopBody {i off : Nat} (h : Keeps s t) : Keeps s (capturePopBody i off t).1 := by
  unfold Machine.capturePopBody
  refine .iteFst h ?_
  dsimp only
  split
  · exact h
  · exact .pair (.readReply (.showCaptures (.setSyncI h)))

theorem Keeps.madeReply {e : Ent} {i off : Nat} {b : Bytes} (h : Keeps s t) (hu : Keeps s u) :
    Keeps s (t.madeReply u e i b off).1 := .iteFst h (.pair (.readReply hu))

theorem Keeps.eventPopBody {off : Nat} (h : Keeps s t) : Keeps s (eventPopBody off t).1 := by
  unfold Machine.eventPopBody
  split
  · exact h
  · exact .iteFst h (.pair (.summarise (.quiet (.readReply h))))

theorem Keeps.attestBody {n off : Nat} (h : Keeps s t) : Keeps s (attestBody n off t).1 := by
  unfold Machine.attestBody
  split
  · exact h
  · split
    · exact h
    · exact .madeReply h h

theorem Keeps.savedStateBody {j off : Nat} (h : Keeps s t) : Keeps s (savedStateBody j off t).1 := by
  unfold Machine.savedStateBody
  split <;> exact h

theorem Keeps.readEntry {env : Env} {e : Ent} {i off : Nat} {staged : Bool} (h : Keeps s t) :
    Keeps s (readEntry env e i off staged t).1 := by
  unfold Machine.readEntry
  refine .iteFst h ?_
  split
  · exact .eventPopBody h
  · exact .iteFst h (.capturePopBody h)
  · exact .iteFst h (.authChallengeBody h)
  · exact .attestBody h
  · exact .iteFst h (.savedStateBody h)
  · split
    · refine .iteFst (.madeReply h (.mramScan h)) ?_
      split
      · exact h
      · exact .madeReply h h
    · exact h

theorem Keeps.readBody {env : Env} {m : EntryMsg} (h : Keeps s t) : Keeps s (readBody env m t).1 := by
  unfold Machine.readBody
  refine .iteFst h ?_
  split
  · exact .iteFst h (.iteFst h (.iteFst h h))
  · exact .iteFst h (.iteFst h (.readEntry h))

theorem Keeps.writeWhole {env : Env} {e : Ent} {i : Nat} {staged : Bool} {b : Bytes} (h : Keeps s t) :
    Keeps s (t.writeWhole env e i staged b).1 :=
  .iteFst h (.iteFst (.refused h) (.iteFst (.pair (.stageWrite h)) (.writeEff h)))

theorem Keeps.badSegment {n : Nat} (h : Keeps s t) : Keeps s (t.badSegment n).1 := .pair (.dropSegment h)

theorem Keeps.badSegmentOf {env : Env} {e : Ent} (h : Keeps s t) : Keeps s (t.badSegmentOf env e).1 :=
  .refused (.dropSegment h)

theorem Keeps.firstSegment {env : Env} {e : Ent} {i : Nat} {opStaged staged : Bool} {m : EntryMsg} (h : Keeps s t) :
    Keeps s (t.firstSegment env e i opStaged staged m).1 :=
  .iteFst (.badSegmentOf h) (.iteFst (.writeWhole h) (.pair (.setSession h)))

theorem Keeps.nextSegment {env : Env} {e : Ent} {i : Nat} {opStaged staged : Bool} {m : EntryMsg} {a : SegXfer}
    (h : Keeps s t) :
    Keeps s (t.nextSegment env e i opStaged staged m a).1 :=
  .iteFst (.badSegmentOf h) (.iteFst (.writeWhole (.setSession h)) (.pair (.setSession h)))

theorem Keeps.writeSegments {env : Env} {e : Ent} {i : Nat} {opStaged : Bool} {m : EntryMsg} (h : Keeps s t) :
    Keeps s (t.writeSegments env e i opStaged m).1 := by
  unfold State.writeSegments
  refine .iteFst h (.iteFst (.refused h) ?_)
  split
  · exact .iteFst (.writeWhole h) (.iteFst (.firstSegment h) (.badSegmentOf h))
  · exact .iteFst (.badSegmentOf h) (.nextSegment h)

theorem Keeps.writeBodyOf {env : Env} {opStaged : Bool} {m : EntryMsg} (h : Keeps s t) :
    Keeps s (writeBodyOf env opStaged m t).1 := by
  unfold Machine.writeBodyOf
  refine .iteFst h ?_
  split
  · exact h
  · exact .iteFst h (.iteFst h (.writeSegments h))

theorem Keeps.resetIfDue (h : Keeps s t) : Keeps s t.resetIfDue := .ite (.sourceOf (.trigger h)) h

theorem Keeps.settled (h : Keeps s t) : Keeps s (t.settled u) :=
  .resetIfDue (.nvmKick (.ite (.storeRun (.unassignIfDue h)) (.unassignIfDue h)))

theorem Keeps.writeMsg {e : Env} {opStaged : Bool} {m : EntryMsg} (h : Keeps s t) : Keeps s (t.writeMsg e opStaged m) :=
  .settled (.request h .writeBodyOf)

theorem Keeps.runStaged {env : Env} {l : List (Nat × Val)} (h : Keeps s t) : Keeps s (t.runStaged env l).1 := by
  unfold State.runStaged
  refine .foldlFst h fun h => .iteFst h ?_
  split
  · exact h
  · exact .pair (.writeEff h)

theorem Keeps.commitBody {env : Env} {body : Bytes} (h : Keeps s t) : Keeps s (commitBody env body t).1 := by
  unfold Machine.commitBody
  refine .iteFst h (.iteFst h (.iteFst (.badSegment h) (.iteFst h (.iteFst h ?_))))
  dsimp only
  split
  · exact .refused h
  · split
    · split
      · exact .refused h
      · exact .pair (.releaseStaging (.runStaged (.acceptHost (.runStaged h))))
    · exact h

theorem Keeps.discardBody {env : Env} {body : Bytes} (h : Keeps s t) : Keeps s (discardBody env body t).1 :=
  .iteFst h (.iteFst (.badSegment h) (.pair (.releaseStaging h)))

theorem Keeps.emptySession {n : Nat} (h : Keeps s t) : Keeps s (t.emptySession n) := .setSession (.releaseStaging h)

theorem Keeps.openBody {env : Env} {body : Bytes} (h : Keeps s t) : Keeps s (openBody env body t).1 :=
  .iteFst h (.iteFst h (.iteFst (.pair (.emptySession h)) (.pair (.ite (.ite (.setSession (.emptySession h))
    (.quiet (.setSession (.emptySession h)))) (.raise (.ite (.setSession (.emptySession h)) (.quiet (.setSession
    (.emptySession h)))))))))

theorem Keeps.closeSession {n : Nat} (h : Keeps s t) : Keeps s (t.closeSession n) :=
  .ite (.emptySession h) (.setSession (.muteWaits (.closeXfers (.ite (.quiet (.emptySession h)) (.emptySession h)))))

theorem Keeps.closeBody {env : Env} {body : Bytes} (h : Keeps s t) : Keeps s (closeBody env body t).1 :=
  .iteFst h (.pair (.closeSession h))

theorem Keeps.sessionExpiryEff {n : Nat} (h : Keeps s t) : Keeps s (sessionExpiryEff n t) :=
  .ite h (.raise (.count (.closeSession (.untilMono h))))

theorem Keeps.segmentTimeoutEff {n : Nat} (h : Keeps s t) : Keeps s (segmentTimeoutEff n t) := by
  unfold Machine.segmentTimeoutEff
  split
  · exact h
  · exact .dropSegment (.untilMono h)

theorem Keeps.storeBody {env : Env} {body : Bytes} (h : Keeps s t) : Keeps s (storeBody env body t).1 :=
  .iteFst h (.iteFst h (.iteFst h (.pair (.secure h))))

theorem Keeps.restoreArea {env : Env} {area : Nat} (h : Keeps s t) : Keeps s (t.restoreArea env area).1 := by
  unfold State.restoreArea
  refine .iteFst h (.iteFst h ?_)
  dsimp only
  split
  · exact .pair (.mramScan h)
  · exact .iteFst (.pair (.mramScan h)) (.pair (.ite (.setStaged (.mramScan h)) (.wr (.setStaged (.mramScan h)))))

theorem Keeps.restoreArchive {env : Env} (h : Keeps s t) : Keeps s (t.restoreArchive env).1 :=
  .iteFst h (.iteFst h (.iteFst h (.pair (.setArchive h))))

theorem Keeps.restoreBody {env : Env} {body : Bytes} (h : Keeps s t) : Keeps s (restoreBody env body t).1 :=
  .iteFst h (.iteFst h (.iteFst h (.iteFst (.restoreArchive h) (.restoreArea h))))

theorem Keeps.spiIdle (h : Keeps s t) : Keeps s t.spiIdle := .quiet h

theorem Keeps.spiSendEff {b : Bytes} {early : Bool} (h : Keeps s t) : Keeps s (spiSendEff b early t) := by
  unfold Machine.spiSendEff
  refine .ite (.spiIdle h) ?_
  split
  · exact .quiet h
  · exact .takeIn h

theorem Keeps.spiFetchEff {clocked : Nat} (h : Keeps s t) : Keeps s (spiFetchEff clocked t) :=
  .ite (.spiIdle h) (.resetIfDue (.quiet h))

theorem Keeps.write {q : Req} {staged : Bool} (h : Keeps s t) : Keeps s (q.write staged t).1 := by
  unfold Req.write
  refine .iteFst ?_ (.writeBodyOf h)
  split
  · exact .refused h
  · exact h

end Sys2Proof.Machine
end

section
/-! PROOF. What a step keeps: every command, and every step. -/

namespace Sys2Proof.Machine

variable {s t : State}

/-- What an item that waits for the core does (R277). -/
theorem Keeps.act {q : Req} (h : Keeps s t) : Keeps s (q.act t).1 := by
  generalize hbody : q.act = body
  unfold Req.act at hbody
  split at hbody <;> subst hbody
  · exact .openBody h
  · exact .closeBody h
  · exact .readBody h
  · exact .write h
  · exact .write h
  · exact .commitBody h
  · exact .discardBody h
  · exact .storeBody h
  · exact .restoreBody h
  · exact .domainUpBody h
  · exact .domainDownBody h
  · exact h

/-- Where a step goes on, it keeps the queue and the canonical form. -/
def NextKeeps (s : State) (o : Host.Outcome State Fault Refusal) : Prop := ∀ t, o = .next t → Keeps s t

theorem NextKeeps.next (h : Keeps s t) : NextKeeps s (.next t) := fun _ ht => Host.Outcome.next.inj ht ▸ h

theorem NextKeeps.fault {r : Fault} : NextKeeps s (.fault r) := fun _ ht => by cases ht

theorem NextKeeps.refused {r : Refusal} : NextKeeps s (.refused r) := fun _ ht => by cases ht

theorem NextKeeps.ite {c : Prop} [Decidable c] {o p : Host.Outcome State Fault Refusal} (h : NextKeeps s o)
    (g : NextKeeps s p) : NextKeeps s (if c then o else p) := by
  split
  · exact h
  · exact g

/-- No command touches the queue, and each keeps the canonical form. -/
theorem NextKeeps.exec (c : Instr) (s : State) : NextKeeps s (exec c s) := by
  cases c with
  | portEnableWrite _ _ _ => exact .next (.writeCmd .refl .portEnableEff)
  | detectPulse _ _ => exact .next (.detectPulseEff .refl)
  | rateStepStart _ => exact .next (.rateStepStartEff .refl)
  | serdesPllLock _ => exact .next (.serdesPllLockEff .refl)
  | stateTimeLimit _ => exact .next (.stateTimeLimitEff .refl)
  | trainIdleEnd _ => exact .next (.trainIdleEndEff .refl)
  | blockReceived _ _ _ => exact .next (.blockReceivedEff .refl)
  | alignReceived _ _ _ _ => exact .next (.alignReceivedEff .refl)
  | orderedSetReceived _ _ _ _ => exact .next (.orderedSetReceivedEff .refl)
  | linkDownIdleEnd _ => exact .next (.linkDownIdleEndEff .refl)
  | retrain _ _ _ => exact .next (.writeCmd .refl .retrainEff)
  | packetReceived _ _ _ => exact .next (.packetReceivedEff .refl)
  | egressTransmit _ => exact .next (.resetIfDue (.egressTransmitEff .refl))
  | berWindowEnd _ _ => exact .next (.berWindowEndEff .refl)
  | bipSecondEnd => exact .next (.bipSecondEndEff .refl)
  | adaptWindowEnd _ _ _ => exact .next (.adaptWindowEndEff .refl)
  | eyeBelowFloor _ _ _ => exact .next (.eyeBelowFloorEff .refl)
  | sleepRequest _ _ _ => exact .next (.writeCmd .refl .sleepRequestEff)
  | sleepReqReceived _ => exact .next (.sleepReqReceivedEff .refl)
  | sleepAckReceived _ => exact .next (.sleepAckReceivedEff .refl)
  | sleepNakReceived _ => exact .next (.sleepNakReceivedEff .refl)
  | sleepReqTimeout _ => exact .next (.sleepReqTimeoutEff .refl)
  | sleepEntryDone _ => exact .next (.sleepEntryDoneEff .refl)
  | wakeBeaconQualified _ => exact .next (.wakeBeaconQualifiedEff .refl)
  | portResume _ => exact .next (.portResumeEff .refl)
  | helloTimer => exact .next (.helloTimerEff .refl)
  | helloReceived _ _ => exact .next (.helloReceivedEff .refl)
  | helloTimeout _ => exact .next (.helloTimeoutEff .refl)
  | assignReceived _ _ => exact .next (.assignReceivedEff .refl)
  | relayAssignReceived _ _ => exact .next (.relayAssignReceivedEff .refl)
  | unassign _ _ => exact .next (.unassignIfDue (.writeCmd .refl .unassignEff))
  | sweepReceived _ _ => exact .next (.sweepReceivedEff .refl)
  | sweepReturnReceived _ _ => exact .next (.sweepReturnReceivedEff .refl)
  | sweepReturnTime _ _ => exact .next (.sweepReturnTimeEff .refl)
  | bulkPacketReceived _ _ _ _ => exact .next (.ite (.stalled (.bulkPacketEff .refl)) .refl)
  | bulkAckTimer _ => exact .next (.bulkAckTimerEff .refl)
  | bulkAckReceived _ _ _ => exact .next (.bulkAckEff .refl)
  | bulkSend _ => exact .next (.ite (.stalled (.bulkSendEff .refl)) .refl)
  | syncSend => exact .next (.syncSendEff .refl)
  | syncReceived _ _ _ => exact .next (.syncReceivedEff .refl)
  | delayExchangeTimer => exact .next (.delayExchangeTimerEff .refl)
  | delayReqReceived _ _ _ _ => exact .next (.delayReqReceivedEff .refl)
  | delayRespReceived _ _ _ => exact .next (.delayRespReceivedEff .refl)
  | delayRespTimeout => exact .next (.delayRespTimeoutEff .refl)
  | syncLoss => exact .next (.syncLossEff .refl)
  | holdoverLimit => exact .next (.holdoverLimitEff .refl)
  | slowWindowEnd _ => exact .next (.slowWindowEndEff .refl)
  | sleepAccounting => exact .next (.sleepAccountingEff .refl)
  | launchPush _ _ _ => exact .next (.writeCmd .refl .launchPushEff)
  | launchFlush _ _ _ => exact .next (.writeCmd .refl .launchFlushEff)
  | launchInstant _ => exact .next (.launchInstantEff .refl)
  | synciEdge _ _ _ => exact .next (.synciEdgeEff .refl)
  | capturePop _ _ => exact .next (.request .refl .capturePopBody)
  | syncoPulse _ _ => exact .next (.syncoPulseEff .refl)
  | videoUnit _ _ _ _ => exact .next (.ite (.stalled (.videoUnitEff .refl)) .refl)
  | contextFieldWrite _ _ _ _ => exact .next (.writeCmd .refl .ctxFieldEff)
  | bindContext _ _ => exact .next (.writeCmd .refl .ctxCommandEff)
  | park _ _ => exact .next (.writeCmd .refl .ctxCommandEff)
  | release _ _ => exact .next (.writeCmd .refl .ctxCommandEff)
  | parkTimeout _ => exact .next (.parkTimeoutEff .refl)
  | evictTimeout _ => exact .next (.evictTimeoutEff .refl)
  | allocate _ _ => exact .next (.writeCmd .refl .handleCommandEff)
  | free _ _ => exact .next (.writeCmd .refl .handleCommandEff)
  | storePlacementWrite _ _ _ => exact .next (.writeCmd .refl .storePlacementEff)
  | captureArm _ _ => exact .next (.writeCmd .refl .captureArmEff)
  | captureBoundary => exact .next (.ite (.stalled (.captureBoundaryEff .refl)) .refl)
  | captureDone => exact .next (.captureDoneEff .refl)
  | captureAbort _ _ => exact .next (.writeCmd .refl .captureAbortEff)
  | primaryCountWrite _ _ => exact .next (.writeCmd .refl .primaryCountEff)
  | lrbFrame _ _ => exact .next (.lrbFrameEff .refl)
  | defectVerdict => exact .next (.defectVerdictEff .refl)
  | burstCompute _ => exact .ite .fault (.next (.ite (.stalled (.burstComputeEff .refl)) .refl))
  | burstComputed _ => exact .next (.burstComputedEff .refl)
  | launchLine _ => exact .next (.launchLineEff .refl)
  | commitEffect => exact .next (.commitEffectEff .refl)
  | slateFrameEnd => exact .next (.slateFrameEndEff .refl)
  | modulatorStart _ => exact .next (.writeCmd .refl .modulatorRunEff)
  | modulatorStop _ => exact .next (.writeCmd .refl .modulatorRunEff)
  | modulatorStartEffect => exact .next (.modulatorStartEffectEff .refl)
  | modulatorStopEffect => exact .next (.modulatorStopEffectEff .refl)
  | teEdge _ => exact .next (.teEdgeEff .refl)
  | teTimeout _ => exact .next (.teTimeoutEff .refl)
  | lanePllUnlock _ => exact .next (.lanePllUnlockEff .refl)
  | lanePllRelock _ => exact .next (.lanePllRelockEff .refl)
  | quadrantResume _ => exact .next (.quadrantResumeEff .refl)
  | openSession _ _ => exact .next (.request .refl .openBody)
  | closeSession _ _ => exact .next (.request .refl .closeBody)
  | read _ _ => exact .ite .refused (.next (.request .refl .readBody))
  | write _ _ => exact .ite .refused (.next (.writeMsg .refl))
  | writeStaged _ _ => exact .ite .refused (.next (.writeMsg .refl))
  | commit _ _ => exact .next (.settled (.request .refl .commitBody))
  | discard _ _ => exact .next (.request .refl .discardBody)
  | store _ _ => exact .next (.settled (.request .refl .storeBody))
  | restore _ _ => exact .next (.settled (.request .refl .restoreBody))
  | domainUp _ _ => exact .next (.request .refl .domainUpBody)
  | domainDown _ _ => exact .next (.request .refl .domainDownBody)
  | sessionExpiry _ => exact .next (.sessionExpiryEff .refl)
  | segmentTimeout _ => exact .next (.segmentTimeoutEff .refl)
  | spiSend _ _ => exact .next (.spiSendEff .refl)
  | spiFetch _ => exact .next (.spiFetchEff .refl)
  | spiStatus => exact .next (.ite (.quiet .refl) (.spiIdle .refl))
  | eventPop _ => exact .next (.request .refl .eventPopBody)
  | hostReset _ _ => exact .next (.settled (.writeCmd .refl .resetEff))
  | transferOpen _ _ => exact .next (.writeNvm .refl .transferOpenEff)
  | transferAbort _ _ => exact .next (.nvmKick (.writeCmd .refl .transferAbortEff))
  | transferTimeout _ => exact .next (.transferTimeoutEff .refl)
  | jobStart _ _ => exact .next (.writeCmd .refl .jobCommandEff)
  | jobResume _ _ => exact .next (.writeCmd .refl .jobCommandEff)
  | jobAbort _ _ => exact .next (.writeCmd .refl .jobCommandEff)
  | savedStateWrite _ _ _ => exact .next (.writeMsg .refl)
  | shaleBlock _ => exact .next (.ite (.stalled (.shaleBlockEff .refl)) .refl)
  | archiveAutoload => exact .next (.archiveAutoloadEff .refl)
  | nvmLineDone => exact .next (.ite (.nvmLineDoneEff .refl) .refl)
  | nvmHoldLimit => exact .next (.nvmHoldLimitEff .refl)
  | blackboxRecordWrite => exact .next (.recordWriteEff .refl)
  | blackboxScanDone => exact .next (.scanDoneEff .refl)
  | headRelease _ _ => exact .next (.writeCmd .refl .headReleaseEff)
  | blackboxClear _ _ => exact .next (.writeNvm .refl .blackBoxClearEff)
  | ownerEnrol _ _ => exact .next (.writeNvm .refl .ownerEnrolEff)
  | authChallenge _ => exact .next (.request .refl .authChallengeBody)
  | authoriseSession _ _ => exact .next (.writeNvm .refl .ownerTokenEff)
  | replaceOwnerKey _ _ => exact .next (.writeNvm .refl .ownerTokenEff)
  | removeOwnerKey _ _ => exact .next (.writeNvm .refl .ownerTokenEff)
  | firmwareActivate _ _ => exact .next (.writeNvm .refl .firmwareActivateEff)
  | firmwareConfirm _ _ => exact .next (.writeNvm .refl .firmwareConfirmEff)
  | attestNonce _ _ => exact .next (.writeCmd .refl .attestNonceEff)
  | attestReportReady _ =>
    refine .next ?_
    split
    · exact .refl
    · exact .ite .refl (.setSession (.mramScan .refl))
  | domainQuiesceDone _ => exact .next (.domainQuiesceDoneEff .refl)
  | domainEntryWindowEnd _ => exact .next (.domainEntryWindowEndEff .refl)
  | domainExitDone _ => exact .next (.domainExitDoneEff .refl)
  | powerGoodTimeout _ => exact .next (.powerGoodTimeoutEff .refl)
  | planEnter _ _ => exact .next (.writeCmd .refl .planEnterEff)
  | planExecute => exact .next (.planExecuteEff .refl)
  | wakeBallEdge _ => exact .next (.wakeBallEdgeEff .refl)
  | spiCsWake => exact .next (.spiCsWakeEff .refl)
  | alarmExpiry => exact .next (.alarmExpiryEff .refl)
  | wake => exact .next (.wakeEff .refl)
  | regulatorAck _ _ => exact .next (.regulatorAckEff .refl)
  | regulatorTimeout _ => exact .next (.regulatorTimeoutEff .refl)
  | supplyWarning _ _ => exact .next (.supplyWarningEff .refl)
  | supplyDark => exact .next (.supplyDarkEff .refl)
  | supplyRecover _ => exact .next (.supplyRecoverEff .refl)
  | supplyReset _ _ => exact .next (.supplyResetEff .refl)
  | sensorConversion _ => exact .next (.sensorConversionEff .refl)
  | slowRound _ => exact .next (.slowRoundEff .refl)
  | calPhase1Step _ => exact .next (.calPhase1StepEff .refl)
  | calPhase2Measured _ _ => exact .next (.calPhase2MeasuredEff .refl)
  | calPhase2Apply => exact .next (.calPhase2ApplyEff .refl)
  | calRepeat => exact .next (.calRepeatEff .refl)
  | powerOnReset => exact .next (.fullReset .refl)
  | crystalDetected => exact .next (.crystalDetectedEff .refl)
  | resetRelease => exact .next (.resetReleaseEff .refl)
  | resetBall _ => exact .next (.resetBallEff .refl)
  | watchdogExpiry => exact .next (.watchdogExpiryEff .refl)
  | bootRom => exact .next (.bootRomEff .refl)
  | firmwareBoot => exact .next (.firmwareBootEff .refl)
  | bootComplete => exact .next (.bootCompleteEff .refl)
  | autostart => exact .next (.autostartEff .refl)
  | jtagBypass _ => exact .next (.jtagBypassEff .refl)
  | jtagIdcode _ => exact .next (.jtagIdcodeEff .refl)
  | jtagSamplePreload _ _ => exact .next (.jtagSampleEff .refl)
  | jtagExtest => exact .next (.jtagExtestEff .refl)
  | jtagClamp => exact .next (.jtagClampEff .refl)
  | jtagHighz => exact .next (.jtagHighzEff .refl)
  | testReset => exact .next (.leaveTest .refl)
  | crystalOscillationLost => exact .next (.crystalLostEff .refl)
  | refclkClockChange _ => exact .next (.refclkEff .refl)
  | lrbStartBitLate _ => exact .next (.lrbStartBitLateEff .refl)

/-- The oldest item that waits for the core (R277). -/
theorem NextKeeps.coreItem {m : Msg} {rest : List Msg} (h : Keeps s t) : NextKeeps s (coreItem m rest t) := by
  unfold Machine.coreItem
  dsimp only
  split
  · exact .next (.meetSweep (.quiet h))
  · exact .ite .refused (.next (.settled (.execute (.quiet h) .act)))

theorem NextKeeps.coreStep (h : Keeps s t) : NextKeeps s (coreStep t) := by
  unfold Machine.coreStep
  refine .ite ?_ (.next h)
  split
  · rename_i hsweep
    exact .next (.freeSweep h hsweep)
  · exact .next h
  · exact .coreItem h

/-- A step keeps the canonical form: the first command leaves the queue, which the form does not speak of. -/
theorem step_canonical (hs : s.canonical) (ht : step s = .next t) : t.canonical := by
  unfold step at ht
  split at ht
  · exact (NextKeeps.coreStep (.idleTick .refl) t ht).canonical hs
  · exact (NextKeeps.exec _ _ t ht).canonical hs

/-- Settles O51: every operation of the model keeps both the queue and the canonical form, so every command does. -/
theorem stepsKeepFormAndQueue : Obligations.StepsKeepFormAndQueue := by
  unfold Obligations.StepsKeepFormAndQueue
  exact ⟨fun _ _ => step_canonical, fun c s t ht => (NextKeeps.exec c s t ht).pending⟩

end Sys2Proof.Machine
end

section
/-! PROOF. Allocate and Free, and a placement that moves a store (R20, R153, R154). -/

namespace Sys2Proof.Machine

/-! What an answered write leaves beside the entries. -/

theorem State.writeCmd_bufs {s t : State} {e : Env} {x : Ent} {i : Nat} {v : Bytes} {a : Ans}
    {eff : Val → State → State × Ans} (hmay : s.mayWrite e x i v)
    (heff : eff (x.info.decode v) (s.claimSpi e) = (t, a)) : (s.writeCmd e x i v eff).bufs = t.bufs := by
  rw [State.writeCmd_run hmay, heff, State.finish_bufs]

theorem State.writeCmd_quarry {s t : State} {e : Env} {x : Ent} {i : Nat} {v : Bytes} {a : Ans}
    {eff : Val → State → State × Ans} (hmay : s.mayWrite e x i v)
    (heff : eff (x.info.decode v) (s.claimSpi e) = (t, a)) : (s.writeCmd e x i v eff).quarry = t.quarry := by
  rw [State.writeCmd_run hmay, heff, State.finish_quarry]

theorem State.buf_congr {s t : State} (h : t.bufs = s.bufs) (i : Nat) : t.buf i = s.buf i := by
  rw [State.buf, h, ← State.buf]

/-! A request that comes over SPI changes nothing that these commands ask for. -/

@[simp] theorem State.claimSpi_having (s : State) (e : Env) (x : Ent) (ok : Nat → Bool) :
    (s.claimSpi e).having x ok = s.having x ok := by
  simp [State.having]

@[simp] theorem State.claimSpi_boundCtxs (s : State) (e : Env) : (s.claimSpi e).boundCtxs = s.boundCtxs :=
  State.claimSpi_having ..

@[simp] theorem State.claimSpi_inSet (s : State) (e : Env) (c h : Nat) : (s.claimSpi e).inSet c h = s.inSet c h := by
  simp [State.inSet]

@[simp] theorem State.claimSpi_openJobs (s : State) (e : Env) : (s.claimSpi e).openJobs = s.openJobs := by
  simp [State.openJobs]

@[simp] theorem State.claimSpi_openXfers (s : State) (e : Env) : (s.claimSpi e).openXfers = s.openXfers := by
  simp [State.openXfers]

@[simp] theorem State.claimSpi_held (s : State) (e : Env) (h : Nat) : (s.claimSpi e).held h = s.held h := by
  simp [State.held, State.holdingJobs]

@[simp] theorem State.claimSpi_freePageList (s : State) (e : Env) : (s.claimSpi e).freePageList = s.freePageList := by
  simp [State.freePageList, State.ownedPages, State.framePageCount, State.storeBanks]

@[simp] theorem State.claimSpi_placeOk (s : State) (e : Env) (k w : Nat) :
    (s.claimSpi e).placeOk k w = s.placeOk k w := by
  unfold State.claimSpi
  split <;> rfl

/-! The states and the pages of a handle (R154, R155). -/

@[simp] theorem State.setHandle_bufs (s : State) (h st : Nat) : (s.setHandle h st).bufs = s.bufs :=
  (VideoFrame.setHandle (m := ⟨false, false, false, false⟩) s h st).bufs rfl

theorem State.showRetire_rd (s : State) (x : Ent) (i : Nat) (hx : x ≠ .retirePendingCount) :
    s.showRetire.rd x i = s.rd x i := by
  simp [State.showRetire, hx.symm]

/-- R155: a handle is in the state that it enters. -/
@[simp] theorem State.setHandle_state (s : State) (h st : Nat) : (s.setHandle h st).rd .handleState h = st := by
  unfold State.setHandle
  extract_lets old s1 s2
  have h1 : s1.rd .handleState h = st := by simp [s1, State.showRetire_rd]
  have h2 : s2.rd .handleState h = st := by
    simp only [s2]
    split
    · simp [h1]
    · exact h1
  split
  · assumption
  · split <;> exact h2

/-- R154: an unallocated handle owns no pages. -/
theorem State.unallocate_pages (s : State) (h : Nat) :
    ((s.unallocate h).buf h).pages = [] ∧ (s.unallocate h).rd .pageCount h = 0 := by
  simp [State.unallocate]

theorem State.unallocate_rd (s : State) (h : Nat) (x : Ent) (i : Nat) (hx : x ≠ .pageCount) :
    (s.unallocate h).rd x i = s.rd x i := by
  unfold State.unallocate
  simp only [State.wr_rd, hx.symm, false_and, if_false, State.setBuf_rd]
  split <;> rfl

/-! Allocate and Free (R153, R154, R164). -/

theorem handleCommand_decode (n : Byte) : Ent.handleCommand.info.decode [n] = [n.toNat] := by
  simp [EntInfo.decode, Ent.info, cut, leNat]

theorem handleCommandEff_allocate (h : Nat) (s : State) :
    handleCommandEff h (Ent.handleCommand.info.decode [1]) s = allocateEff h s := by
  simp [handleCommand_decode, handleCommandEff]

theorem handleCommandEff_free (h : Nat) (s : State) :
    handleCommandEff h (Ent.handleCommand.info.decode [2]) s = freeEff h s := by
  simp [handleCommand_decode, handleCommandEff]

/-- What Allocate asks of a handle (R153). -/
structure Allocatable (s : State) (h : Nat) : Prop where
  state : s.rd .handleState h ≠ 4
  empty : s.rd .pageCount h = 0
  low : 1 ≤ s.rd .pageRequest h
  high : s.rd .pageRequest h ≤ 576

/-- R153: the handle takes the lowest free pages. -/
theorem allocateEff_accepted {h : Nat} {s : State} (hok : Allocatable s h)
    (hfree : s.rd .pageRequest h ≤ s.freePageList.length) :
    ∃ t, allocateEff h s = (t, ans .ok) ∧ (t.buf h).pages = s.freePageList.take (s.rd .pageRequest h)
      ∧ t.rd .pageCount h = s.rd .pageRequest h := by
  obtain ⟨hstate, hempty, hlow, hhigh⟩ := hok
  unfold allocateEff
  extract_lets n free
  rw [if_neg hstate, if_neg (not_not.2 hempty), if_neg (by omega), if_neg (Nat.not_lt.2 hfree)]
  exact ⟨_, rfl, by simp [n, free], by simp [n]⟩

theorem allocateEff_noSpace {h : Nat} {s : State} (hok : Allocatable s h)
    (hfree : s.freePageList.length < s.rd .pageRequest h) : allocateEff h s = (s, ans .noSpace) := by
  obtain ⟨hstate, hempty, hlow, hhigh⟩ := hok
  unfold allocateEff
  extract_lets n free
  rw [if_neg hstate, if_neg (not_not.2 hempty), if_neg (by omega), if_pos hfree]

/-- What Free asks of a handle (R154). -/
structure Freeable (s : State) (h : Nat) : Prop where
  owns : s.rd .pageCount h ≠ 0
  unbound : ∀ c ∈ s.boundCtxs, s.inSet c h = false
  unheld : s.held h = false

theorem Freeable.not_busy {s : State} {h : Nat} (hok : Freeable s h) :
    (s.boundCtxs.any (s.inSet · h) || s.held h) = false := by
  rw [hok.unheld, Bool.or_false]
  exact List.any_eq_false.2 (fun c hc => by simp [hok.unbound c hc])

theorem freeEff_unshown {h : Nat} {s : State} (hok : Freeable s h)
    (hstate : s.rd .handleState h = 0 ∨ s.rd .handleState h = 2) :
    freeEff h s = ((s.setHandle h 0).unallocate h, ans .ok) := by
  unfold freeEff
  extract_lets st
  have h4 : st ≠ 4 := by omega
  have h1 : st ≠ 1 := by omega
  have h3 : st ≠ 3 := by omega
  rw [if_neg h4, if_neg hok.owns, Bool.or_assoc, hok.not_busy, if_neg (by simp [h1]), if_neg h3]

theorem freeEff_showing {h : Nat} {s : State} (hok : Freeable s h) (hstate : s.rd .handleState h = 3) :
    freeEff h s = (((s.setHandle h 4).count .earlyFrees 0).raise .bufferEarlyFree [h], ans .ok) := by
  unfold freeEff
  extract_lets st
  have h4 : st ≠ 4 := by omega
  have h1 : st ≠ 1 := by omega
  rw [if_neg h4, if_neg hok.owns, Bool.or_assoc, hok.not_busy, if_neg (by simp [h1]), if_pos hstate]

theorem Allocatable.claimSpi {s : State} {h : Nat} (hok : Allocatable s h) (e : Env) :
    Allocatable (s.claimSpi e) h := by
  obtain ⟨hstate, hempty, hlow, hhigh⟩ := hok
  constructor <;> simpa

theorem Freeable.claimSpi {s : State} {h : Nat} (hok : Freeable s h) (e : Env) : Freeable (s.claimSpi e) h := by
  obtain ⟨howns, hunbound, hunheld⟩ := hok
  constructor <;> simpa

/-! A placement that moves a store (R20). -/

/-- R20: a placement that is allowed and moves the store clears it in its new place. -/
theorem storePlacementEff_moved {k w : Nat} {s : State} (hrun : s.running = false)
    (hidle : s.having .handleState (· ≠ 0) = []) (hjobs : s.openJobs = []) (hxfers : s.openXfers = [])
    (hok : s.placeOk k w = true) (hmoved : s.rd (placeEnt k) 0 ≠ w) :
    ∃ t, storePlacementEff k [w] s = (t, ans .ok) ∧ t.rd (placeEnt k) 0 = w
      ∧ ∀ a, w % 512 * 524288 ≤ a → a < w % 512 * 524288 + w / 65536 % 512 * 524288 → SMap.get t.quarry a 0 = 0 := by
  refine ⟨s.notePages ((s.wr (placeEnt k) 0 w).clearStore k), ?_, ?_⟩
  · simp only [storePlacementEff, hidle]
    simp [hrun, hjobs, hxfers, hok, hmoved]
  · have hplaced : (s.wr (placeEnt k) 0 w).rd (placeEnt k) 0 = w := by simp
    rw [State.clearStore_eq]
    generalize s.wr (placeEnt k) 0 w = x at hplaced ⊢
    have hclear : VideoFrame clearEnts anyPlace 0 ⟨false, false, true, false⟩
        { x with quarry := SMap.clear x.quarry (x.storeAddr k) (x.storeSize k) } _ := .clearTables rfl _ k
    have hplace := hclear.keepsRd _ 0 (placeEnt_not_cleared k)
    have hquarry := hclear.quarry rfl
    generalize State.clearTables _ k = y at hplace hquarry ⊢
    have haddr : x.storeAddr k = w % 512 * 524288 := by rw [State.storeAddr, State.storeBase, hplaced]
    have hsize : x.storeSize k = w / 65536 % 512 * 524288 := by rw [State.storeSize, State.storeBanks, hplaced]
    refine ⟨hplace.trans hplaced, fun a hlow hhigh => ?_⟩
    show SMap.get y.quarry a 0 = 0
    rw [hquarry, Memory.get_clear, haddr, hsize, if_pos ⟨hlow, hhigh⟩]

/-- Settles O13: each command is answered with its own effect, which the five clauses then read. -/
theorem bufferCommands : Obligations.BufferCommands := by
  unfold Obligations.BufferCommands
  refine ⟨?allocated, ?full, ?freed, ?retiring, ?placed⟩
  case allocated =>
    intro e h s hmay hstate hempty hlow hhigh hfree
    have hok : Allocatable s h := ⟨hstate, hempty, hlow, hhigh⟩
    obtain ⟨t, heff, hpages, hcount⟩ := allocateEff_accepted (hok.claimSpi e) (by simpa using hfree)
    rw [← handleCommandEff_allocate] at heff
    have hdone := State.writeCmd_done hmay heff
    simp only [State.claimSpi_freePageList, State.claimSpi_rd] at hpages hcount
    exact ⟨_, rfl, by rw [State.buf_congr (State.writeCmd_bufs hmay heff), hpages], (hdone.rd _ _).trans hcount,
      hdone.answered⟩
  case full =>
    intro e h s hmay hstate hempty hlow hhigh hfull
    have hok : Allocatable s h := ⟨hstate, hempty, hlow, hhigh⟩
    have heff := allocateEff_noSpace (hok.claimSpi e) (by simpa using hfull)
    rw [← handleCommandEff_allocate] at heff
    exact ⟨_, rfl, (State.writeCmd_bufs hmay heff).trans (State.claimSpi_bufs ..),
      (State.writeCmd_done hmay heff).answered⟩
  case freed =>
    intro e h s hmay howns hstate hunbound hunheld
    have hok : Freeable s h := ⟨howns, hunbound, hunheld⟩
    have heff := freeEff_unshown (hok.claimSpi e) (by simpa using hstate)
    rw [← handleCommandEff_free] at heff
    have hdone := State.writeCmd_done hmay heff
    obtain ⟨hpages, hcount⟩ := State.unallocate_pages ((s.claimSpi e).setHandle h 0) h
    refine ⟨_, rfl, ?_, (hdone.rd _ _).trans hcount, (hdone.rd _ _).trans ?_, hdone.answered⟩
    · rw [State.buf_congr (State.writeCmd_bufs hmay heff), hpages]
    · rw [State.unallocate_rd _ _ _ _ (by decide), State.setHandle_state]
  case retiring =>
    intro e h s hmay howns hstate hunbound hunheld
    have hok : Freeable s h := ⟨howns, hunbound, hunheld⟩
    have heff := freeEff_showing (hok.claimSpi e) (by simpa using hstate)
    rw [← handleCommandEff_free] at heff
    have hdone := State.writeCmd_done hmay heff
    have hfrees : ((s.claimSpi e).setHandle h 4).rd .earlyFrees 0 = s.rd .earlyFrees 0 :=
      ((VideoFrame.setHandle (m := ⟨false, false, false, false⟩) ..).keepsRd .earlyFrees 0).trans (State.claimSpi_rd ..)
    refine ⟨_, rfl, (hdone.rd _ _).trans ?_, ?_, (hdone.rd _ _).trans ?_, hdone.answered⟩
    · simp
    · rw [State.buf_congr (State.writeCmd_bufs hmay heff)]
      simp [State.buf_congr (State.setHandle_bufs ..)]
    · simp [hfrees]
  case placed =>
    intro e k v w s hmay hdecode hrun hidle hjobs hxfers hok hmoved
    obtain ⟨t, heff, hplace, hclear⟩ := storePlacementEff_moved (s := s.claimSpi e) (k := k) (w := w) (by simpa)
      (by simpa using hidle) (by simpa) (by simpa) (by simpa) (by simpa)
    rw [← hdecode] at heff
    have hdone := State.writeCmd_done hmay heff
    exact ⟨_, rfl, (hdone.rd _ _ (placeEnt_not_counted k)).trans hplace, hdone.answered,
      fun a hlow hhigh => by rw [State.writeCmd_quarry hmay heff, hclear a hlow hhigh]⟩

end Sys2Proof.Machine
end

section
/-! PROOF. A capture is armed, takes its image at its boundary, is completed or aborted (R182). -/

namespace Sys2Proof.Machine

theorem State.setHandle_rd (s : State) (h st : Nat) (x : Ent) (i : Nat)
    (hx : handleEnts.contains x = false := by decide) : (s.setHandle h st).rd x i = s.rd x i :=
  (VideoFrame.setHandle (m := ⟨false, false, false, false⟩) s h st).keepsRd x i hx

theorem State.writeCmd_cap {s t : State} {e : Env} {x : Ent} {i : Nat} {v : Bytes} {a : Ans}
    {eff : Val → State → State × Ans} (hmay : s.mayWrite e x i v)
    (heff : eff (x.info.decode v) (s.claimSpi e) = (t, a)) : (s.writeCmd e x i v eff).cap = t.cap := by
  rw [State.writeCmd_run hmay, heff, State.finish_cap]

/-! A write to CaptureAt. -/

@[simp] theorem State.claimSpi_captureCheck (s : State) (e : Env) (a : Nat) :
    (s.claimSpi e).captureCheck a = s.captureCheck a := by
  simp [State.captureCheck]

/-- R182: the capture that a write to CaptureAt arms. -/
def State.armedCap (s : State) (a : Nat) : CapArm :=
  { since := a, view := s.rd .captureView 0, handle := s.rd .captureHandle 0, target := s.rd .captureTarget 0 }

@[simp] theorem State.claimSpi_armedCap (s : State) (e : Env) (a : Nat) : (s.claimSpi e).armedCap a = s.armedCap a := by
  simp [State.armedCap]

/-- R182: a write that passes the checks arms the capture, with its handle in WRITING. -/
theorem captureArmEff_armed {a : Nat} {s : State} (hcheck : s.captureCheck a = none) :
    ∃ t, captureArmEff [a] s = (t, ans .ok) ∧ t.rd .captureState 0 = 1
      ∧ t.rd .handleState (s.rd .captureHandle 0) = 1 ∧ t.cap = s.armedCap a := by
  unfold captureArmEff
  extract_lets t h s1
  rw [show s.captureCheck t = none from hcheck]
  have hhandle : s1.rd .handleState h = 1 := by simp [s1]
  have hview : s1.rd .captureView 0 = s.rd .captureView 0 := by simp [s1, State.setHandle_rd _ _ _ .captureView]
  have htarget : s1.rd .captureTarget 0 = s.rd .captureTarget 0 := by simp [s1, State.setHandle_rd _ _ _ .captureTarget]
  refine ⟨_, rfl, by simp, ?_, ?_⟩
  · rw [State.wr_rd, if_neg (by simp)]
    exact hhandle
  · rw [State.wr_cap, hview, htarget]
    rfl

theorem captureArmEff_refused {a : Nat} {st : Status} {s : State} (hcheck : s.captureCheck a = some st) :
    captureArmEff [a] s = (s, ans st) := by
  simp only [captureArmEff, List.headD_cons, hcheck]

/-! The boundary of a capture. -/

/-- R182: a capture is armed, and its boundary has come. -/
structure BoundaryDue (s : State) : Prop where
  armed : s.rd .captureState 0 = 1
  counts : s.timeRuns = true
  come : s.boundaryFrom s.cap.since ≤ s.now

theorem execCaptureBoundary_armed {s : State} (harmed : s.rd .captureState 0 = 1) :
    exec .captureBoundary s = .next (captureBoundaryEff s).stalled :=
  congrArg Host.Outcome.next (if_pos harmed)

/-- R182: when the boundary has come no time passes, and the capture aborts or takes its image. -/
theorem captureBoundaryEff_due {s : State} (hdue : BoundaryDue s) (hstopped : s.alive 12 = true → s.running = false) :
    captureBoundaryEff s = if s.alive 12 = true then
      ((s.consumeDue s.cap.view (s.boundaryFrom s.cap.since) 8).captureImage (s.boundaryFrom s.cap.since)).wr
        .captureState 0 2
      else s.abortCapture 2 := by
  obtain ⟨harmed, hcounts, hcome⟩ := hdue
  unfold captureBoundaryEff
  rw [if_neg (by simp [harmed, hcounts])]
  simp only [State.untilDisp_due _ _ hcome, if_neg (Nat.not_lt.2 hcome)]
  by_cases halive : s.alive 12 = true
  · simp [halive, hstopped halive]
  · simp [halive]

theorem State.consumeDue_empty {s : State} {v : Nat} (hqueue : (s.view v).queue = []) (g n : Nat) :
    s.consumeDue v g n = s := by
  cases n with
  | zero => rfl
  | succ n => simp only [State.consumeDue, hqueue]

/-! The end of a capture. -/

/-- R182: an aborted capture is idle, and its handle is FREE. -/
theorem State.abortCapture_frees {s : State} (hcapture : s.rd .captureState 0 ≠ 0) (cause : Nat) :
    (s.abortCapture cause).rd .captureState 0 = 0 ∧ (s.abortCapture cause).rd .handleState s.cap.handle = 0 := by
  unfold State.abortCapture
  rw [if_neg hcapture]
  constructor <;> simp

/-- R182: a complete capture is idle, and its handle is READY under the capture's number. -/
theorem captureDoneEff_complete {s : State} (hrun : s.rd .captureState 0 = 2) :
    (captureDoneEff s).rd .captureState 0 = 0 ∧ (captureDoneEff s).rd .handleState s.cap.handle = 2
      ∧ (captureDoneEff s).rd .captureNumber 0 = min (s.rd .captureNumber 0 + 1) 0xFFFFFFFF
      ∧ (captureDoneEff s).rd .frameTag s.cap.handle = (captureDoneEff s).rd .captureNumber 0 := by
  unfold captureDoneEff
  rw [if_pos hrun]
  simp [State.makeReady, State.setHandle_rd _ _ _ .captureNumber]

theorem captureAbortEff_one (s : State) :
    captureAbortEff (Ent.captureAbort.info.decode [1]) s = (s.abortCapture 0, ans .ok) := by
  have hdecode : Ent.captureAbort.info.decode [1] = [1] := by
    simp [EntInfo.decode, Ent.info, cut, leNat]
  rw [hdecode]
  exact if_pos rfl

/-- Settles O14: each command by the lemma about its effect. -/
theorem captureRuns : Obligations.CaptureRuns := by
  unfold Obligations.CaptureRuns
  refine ⟨?armed, ?refused, ?stopped, ?image, ?aborts, ?complete, ?abort⟩
  case armed =>
    intro e v a s hmay hdecode hcheck
    obtain ⟨t, heff, hstate, hhandle, hcap⟩ := captureArmEff_armed (s := s.claimSpi e) (by simpa using hcheck)
    rw [← hdecode] at heff
    have hdone := State.writeCmd_done hmay heff
    rw [State.claimSpi_rd] at hhandle
    rw [State.claimSpi_armedCap] at hcap
    exact ⟨_, rfl, (hdone.rd _ _).trans hstate, (hdone.rd _ _).trans hhandle,
      (State.writeCmd_cap hmay heff).trans hcap, hdone.answered⟩
  case refused =>
    intro e v a st s hmay hdecode hcheck
    have heff := captureArmEff_refused (s := s.claimSpi e) (by simpa using hcheck)
    rw [← hdecode] at heff
    have hdone := State.writeCmd_done hmay heff
    exact ⟨_, rfl, hdone.keepsRd _ _, hdone.answered⟩
  case stopped =>
    intro s harmed hcounts hcome hstopped halive
    refine ⟨_, execCaptureBoundary_armed harmed, ?_⟩
    rw [captureBoundaryEff_due ⟨harmed, hcounts, hcome⟩ (fun _ => hstopped), if_pos halive]
    simp
  case image =>
    rintro g w h n f m u s harmed hcounts rfl hcome hstopped halive hqueue rfl rfl rfl rfl rfl rfl
    refine ⟨_, execCaptureBoundary_armed harmed, ?_⟩
    rw [captureBoundaryEff_due ⟨harmed, hcounts, hcome⟩ (fun _ => hstopped), if_pos halive,
      State.consumeDue_empty hqueue, State.stalled_quarry, State.wr_quarry]
    rfl
  case aborts =>
    intro s harmed hcounts hcome haway
    obtain ⟨hstate, hhandle⟩ := State.abortCapture_frees (s := s) (by simp [harmed]) 2
    refine ⟨_, execCaptureBoundary_armed harmed, ?_⟩
    rw [captureBoundaryEff_due ⟨harmed, hcounts, hcome⟩ (by simp [haway]), if_neg (by simp [haway])]
    exact ⟨by simpa using hstate, by simpa using hhandle⟩
  case complete =>
    intro s hrun
    exact ⟨_, rfl, captureDoneEff_complete hrun⟩
  case abort =>
    intro e s hmay hcapture
    obtain ⟨hstate, hhandle⟩ := State.abortCapture_frees (s := s.claimSpi e) (by simpa using hcapture) 0
    have hdone := State.writeCmd_done hmay (captureAbortEff_one _)
    rw [State.claimSpi_cap] at hhandle
    exact ⟨_, rfl, (hdone.rd _ _).trans hstate, (hdone.rd _ _).trans hhandle, hdone.answered⟩

end Sys2Proof.Machine
end

section
/-! PROOF. What an accepted commit leaves of staging and of the write path (R225, R226, R281). -/

namespace Sys2Proof.Machine

/-- From `s` to `t` staging, its owner, the write path and what is due after a request stay as they are. -/
structure StagingKept (s t : State) : Prop where
  owner : t.rdv .stagingOwner 0 = s.rdv .stagingOwner 0
  staged : t.mgmt.staged = s.mgmt.staged
  ops : t.secure.ops = s.secure.ops
  stores : t.secure.stores = s.secure.stores
  resetDue : t.mgmt.resetDue = s.mgmt.resetDue
  unassignDue : t.mgmt.unassignDue = s.mgmt.unassignDue

variable {s t u : State}

theorem StagingKept.refl : StagingKept s s := ⟨rfl, rfl, rfl, rfl, rfl, rfl⟩

theorem StagingKept.trans (h : StagingKept s t) (g : StagingKept t u) : StagingKept s u :=
  ⟨g.owner.trans h.owner, g.staged.trans h.staged, g.ops.trans h.ops, g.stores.trans h.stores,
    g.resetDue.trans h.resetDue, g.unassignDue.trans h.unassignDue⟩

theorem StagingKept.still (h : StagingKept s t) (hs : s.still) : t.still :=
  ⟨h.ops.trans hs.1, h.resetDue.trans hs.2.1, h.unassignDue.trans hs.2.2⟩

/-- What touches no entry, no request and no job of the write path. -/
theorem StagingKept.quiet {revs : SMap Nat} {views : SMap ViewSt} {bufs : SMap BufX} {shown : SMap Shown}
    {quarry : SMap Byte} {fills : SMap Fill} {defects : Defects} {modl : Modulator} {louts : SMap LaneOut}
    {tables : SMap Val} {made : MadeRevs} (h : StagingKept s t) : StagingKept s { t with
      revs := revs, views := views, bufs := bufs, shown := shown, quarry := quarry, fills := fills, defects := defects,
      modl := modl, louts := louts, tables := tables, mgmt := { t.mgmt with made := made } } :=
  ⟨h.owner, h.staged, h.ops, h.stores, h.resetDue, h.unassignDue⟩

theorem StagingKept.ite {c : Prop} [Decidable c] (h : StagingKept s t) (g : StagingKept s u) :
    StagingKept s (if c then t else u) := by
  split
  · exact h
  · exact g

theorem StagingKept.forEach {α : Type} {f : State → α → State} {l : List α} (h : StagingKept s t)
    (hf : ∀ {u a}, StagingKept s u → StagingKept s (f u a)) : StagingKept s (t.forEach l f) := by
  induction l generalizing t with
  | nil => exact h
  | cons a l ih => exact ih (hf h)

theorem StagingKept.wrv {x : Ent} {i : Nat} {v : Val} (h : StagingKept s t) (hx : x ≠ .stagingOwner := by decide) :
    StagingKept s (t.wrv x i v) :=
  h.trans ⟨by rw [State.wrv_rdv, if_neg (fun g => hx g.1)], by simp, by simp, by simp, by simp, by simp⟩

theorem StagingKept.wr {x : Ent} {i n : Nat} (h : StagingKept s t) (hx : x ≠ .stagingOwner := by decide) :
    StagingKept s (t.wr x i n) := .wrv h hx

theorem StagingKept.countBy {x : Ent} {i n : Nat} (h : StagingKept s t) (hx : x ≠ .stagingOwner := by decide) :
    StagingKept s (t.countBy x i n) := .wr h hx

theorem StagingKept.count {x : Ent} {i : Nat} (h : StagingKept s t) (hx : x ≠ .stagingOwner := by decide) :
    StagingKept s (t.count x i) := .countBy h hx

theorem StagingKept.raise {e : Event} {names : List Nat} (h : StagingKept s t) : StagingKept s (t.raise e names) :=
  h.trans ⟨by simp, by simp, by simp, by simp, by simp, by simp⟩

theorem StagingKept.setView {v : Nat} {a : ViewSt} (h : StagingKept s t) : StagingKept s (t.setView v a) := .quiet h

/-! Buffers and launches (R154 to R156, R168). -/

theorem StagingKept.setHandle {a st : Nat} (h : StagingKept s t) : StagingKept s (t.setHandle a st) := by
  unfold State.setHandle
  extract_lets _ s1 s2
  have h1 : StagingKept s s1 := .wr (.wr (.wr h))
  have h2 : StagingKept s s2 := .ite (.wr h1) h1
  exact .ite h (.ite (.quiet h2) h2)

theorem StagingKept.unallocate {a : Nat} (h : StagingKept s t) : StagingKept s (t.unallocate a) :=
  .wr (.quiet (.ite h (.quiet h)))

theorem StagingKept.leaveShowing {a : Nat} (h : StagingKept s t) : StagingKept s (t.leaveShowing a) :=
  .ite h (.ite (.setHandle h) (.ite (.raise (.unallocate (.setHandle h))) h))

theorem StagingKept.flushQueue {v : Nat} {drop : LaunchEnt → Bool} (h : StagingKept s t) :
    StagingKept s (t.flushQueue v drop) := .countBy (.wr (.setView h))

theorem StagingKept.dropStands {v : Nat} (h : StagingKept s t) : StagingKept s (t.dropStands v) :=
  .ite h (.forEach (.setView h) .leaveShowing)

theorem StagingKept.disableView {v : Nat} (h : StagingKept s t) : StagingKept s (t.disableView v) :=
  .forEach (.quiet (.setView (.dropStands (.flushQueue h)))) .leaveShowing

theorem StagingKept.abortCapture {cause : Nat} (h : StagingKept s t) : StagingKept s (t.abortCapture cause) :=
  .ite h (.raise (.wr (.setHandle h)))

theorem StagingKept.disableViews {old new : Nat} (h : StagingKept s t) : StagingKept s (t.disableViews old new) :=
  .ite (.abortCapture (.forEach h .disableView)) (.forEach h .disableView)

theorem StagingKept.dropHidden (h : StagingKept s t) : StagingKept s t.dropHidden :=
  .ite h (.forEach (.quiet h) .leaveShowing)

/-! What a commit brings as it takes effect (R226, R229 to R234). -/

theorem StagingKept.settlePatterns {g : Geo} {n : Nat} (h : StagingKept s t) : StagingKept s (t.settlePatterns g n) :=
  .forEach h fun h => .ite (.setView h) h

theorem StagingKept.configAll {dwell first : Nat} (h : StagingKept s t) : StagingKept s (t.configAll dwell first) :=
  .forEach h fun h => .ite (.quiet h) h

theorem StagingKept.clearPrev (h : StagingKept s t) : StagingKept s t.clearPrev := .quiet h

theorem StagingKept.beginSlate {e cause : Nat} (h : StagingKept s t) : StagingKept s (t.beginSlate e cause) :=
  .ite (.clearPrev (.quiet h)) (.raise (.count (.configAll (.clearPrev (.quiet h)))))

theorem StagingKept.setDef {lamp code : Nat} (h : StagingKept s t) : StagingKept s (t.setDef lamp code) := .quiet h

theorem StagingKept.concealCommitted {v : Val} {kept : List Nat} (h : StagingKept s t) :
    StagingKept s (t.concealCommitted v kept) :=
  .forEach (.quiet h) fun h => .ite h (.raise (.setDef h))

theorem StagingKept.concealDevice {l : List (Nat × Nat)} (h : StagingKept s t) : StagingKept s (t.concealDevice l) :=
  .forEach h fun h => .ite h (.raise (.setDef h))

theorem StagingKept.setThrottle {n e : Nat} (h : StagingKept s t) : StagingKept s (t.setThrottle n e) :=
  .ite (.raise (.quiet h)) (.ite (.raise (.quiet (.wr h))) (.ite (.raise (.quiet (.wr h))) (.quiet (.wr h))))

theorem StagingKept.step2Check (h : StagingKept s t) : StagingKept s t.step2Check :=
  .ite (.quiet h) (.ite (.raise (.wr (.quiet h))) h)

theorem StagingKept.applyDev {d : DevChange} {e : Nat} (h : StagingKept s t) : StagingKept s (t.applyDev d e) := by
  unfold State.applyDev
  dsimp only
  split
  · exact .setThrottle (.concealDevice (.forEach h fun h => .wr h))
  · exact .concealDevice (.forEach h fun h => .wr h)

/-- R225: values of the classes that wait for an effect time. -/
def Deferred (l : List (Nat × Val)) : Prop := ∀ q ∈ l, keyClass q.1 = .refresh ∨ keyClass q.1 = .frame

theorem Deferred.ne_stagingOwner {l : List (Nat × Val)} (hl : Deferred l) {q : Nat × Val} (hq : q ∈ l) :
    q.1 ≠ key .stagingOwner 0 := fun heq => by
  have hclass := hl q hq
  rw [heq] at hclass
  exact absurd hclass (by decide +kernel)

theorem StagingKept.setRaw {k : Nat} {d v : Val} (h : StagingKept s t) (hk : k ≠ key .stagingOwner 0) :
    StagingKept s (t.setRaw k d v) :=
  h.trans ⟨SMap.get_set_ne _ _ _ hk _, rfl, rfl, rfl, rfl, rfl⟩

theorem StagingKept.putValues {l : List (Nat × Val)} (h : StagingKept s t) (hl : Deferred l) :
    StagingKept s (t.putValues l) := by
  induction l generalizing t with
  | nil => exact h
  | cons q l ih =>
    refine ih ?_ (fun p hp => hl p (List.mem_cons_of_mem _ hp))
    dsimp only
    split
    · exact .setRaw h (hl.ne_stagingOwner List.mem_cons_self)
    · exact h

theorem StagingKept.applyPend {p : Pend} {e : Nat} {g0 : Geo} {slate : Option Nat} (h : StagingKept s t)
    (hp : Deferred p.values) : StagingKept s (t.applyPend p [] e g0 slate) := by
  unfold State.applyPend
  extract_lets _ _ _ s1 s2 s3 s4 s5 s6 s7 s8 s9 s10
  have h1 : StagingKept s s1 := .ite (.settlePatterns h) h
  have h3 : StagingKept s s3 := .quiet (.putValues h1 hp)
  have h4 : StagingKept s s4 := .forEach h3 .setView
  have h5 : StagingKept s s5 := .ite (.disableViews h4) h4
  have h6 : StagingKept s s6 := .ite (.forEach h5 .flushQueue) h5
  have h7 : StagingKept s s7 := .dropHidden h6
  have h8 : StagingKept s s8 := by
    dsimp only [s8]
    split
    · exact .beginSlate h7
    · exact h7
  have h9 : StagingKept s s9 := by
    dsimp only [s9]
    split
    · exact .concealCommitted h8
    · exact h8
  have h10 : StagingKept s s10 := .ite (.step2Check h9) h9
  exact .applyDev h10

/-- R226: the last commit takes effect, with no later one over it. -/
theorem StagingKept.effectOf_last {l : List Pend} {p : Pend} {e : Nat} (h : StagingKept s t) (hp : Deferred p.values)
    (hlast : t.modl.commits = l ++ [p]) : StagingKept s (t.effectOf (t.modl.commits.length - 1) e) := by
  have hat : t.modl.commits[t.modl.commits.length - 1]? = some p := by simp [hlast]
  have hlater : t.modl.commits.drop (t.modl.commits.length - 1 + 1) = [] := by simp [hlast]
  unfold State.effectOf
  rw [hat]
  dsimp only
  rw [hlater]
  exact .ite h (.wr (.quiet (.applyPend (.quiet h) hp)))

/-! An accepted commit (R224 to R226). -/

/-- The modulator and the entries once a commit has joined those that wait: of the entries SquashedEntries alone changes. -/
structure JoinedParts (s : State) (p : Pend) (modl : Modulator) (regs : SMap Val) : Prop where
  commits : modl.commits = s.modl.commits ++ [p]
  entries : ∀ x i, x ≠ .squashedEntries → SMap.get regs (key x i) x.dflt = s.rdv x i

theorem State.squash_addPend_form (s : State) (p : Pend) :
    ∃ modl regs revs, (s.squash p.gen p.e none).addPend p = { s with modl := modl, regs := regs, revs := revs }
      ∧ JoinedParts s p modl regs := by
  unfold State.squash State.countBy State.wr
  extract_lets _ cutLed lanes n s1
  rw [State.wrv_form]
  exact ⟨_, _, _, rfl, rfl, fun x i hx => (State.wrv_rdv ..).trans (if_neg (fun g => hx g.1.symm))⟩

/-- R224, R230, R231: what was computed for an accepted commit's refreshes is squashed or discarded, and it waits. -/
theorem State.squashFor_form (s : State) (p : Pend) :
    ∃ modl regs revs, s.squashFor p = { s with modl := modl, regs := regs, revs := revs }
      ∧ JoinedParts s p modl regs := by
  obtain ⟨modl, regs, revs, hform, hparts⟩ := s.squash_addPend_form p
  unfold State.squashFor
  extract_lets _ _ s1
  have hs1 : s1 = { s with modl := modl, regs := regs, revs := revs } := hform
  split
  · exact ⟨_, s.regs, s.revs, rfl, rfl, fun _ _ _ => rfl⟩
  · split
    · exact ⟨_, s.regs, s.revs, rfl, rfl, fun _ _ _ => rfl⟩
    · rw [hs1]
      split
      · exact ⟨_, regs, revs, rfl, hparts.commits, hparts.entries⟩
      · exact ⟨modl, regs, revs, rfl, hparts⟩

theorem State.forEach_revs {α : Type} {f : State → α → State} (hf : ∀ s a, ∃ revs, f s a = { s with revs := revs })
    (l : List α) (s : State) : ∃ revs, s.forEach l f = { s with revs := revs } := by
  induction l generalizing s with
  | nil => exact ⟨s.revs, rfl⟩
  | cons a l ih =>
    obtain ⟨r, ha⟩ := hf s a
    obtain ⟨revs, hl⟩ := ih (f s a)
    exact ⟨revs, hl.trans (by rw [ha])⟩

theorem State.reviseFor_form (s : State) (l : List (Nat × Val)) : ∃ revs, s.reviseFor l = { s with revs := revs } :=
  State.forEach_revs (fun s q => by
    extract_lets old
    split
    · exact ⟨s.revs, rfl⟩
    · exact ⟨_, rfl⟩) l s

/-- R224, R283: the state of an accepted commit before LastCommit shows it. -/
def State.joined (s : State) (p : Pend) : State := ((s.reviseFor p.values).squashFor p).relevel

/-- R224, R230, R231, R283: an accepted commit joins those that wait. -/
theorem State.joined_form (s : State) (p : Pend) :
    ∃ modl louts regs revs, s.joined p = { s with modl := modl, louts := louts, regs := regs, revs := revs }
      ∧ JoinedParts s p modl regs := by
  obtain ⟨_, hrevise⟩ := s.reviseFor_form p.values
  obtain ⟨modl, regs, revs, hform, hparts⟩ := (s.reviseFor p.values).squashFor_form p
  unfold State.joined State.relevel
  rw [hform, hrevise]
  rw [hrevise] at hparts
  exact ⟨modl, _, regs, revs, rfl, hparts.commits, hparts.entries⟩

theorem State.acceptPend_eq (s : State) (p : Pend) (late : Bool) :
    s.acceptPend p late =
      let u := (s.joined p).wrv .lastCommit 0 (commitRecord p late)
      if u.running && decide (u.now < p.e) then u.showPending else u.effectOf (u.modl.commits.length - 1) p.e := rfl

theorem State.joined_rdv (s : State) (p : Pend) {x : Ent} (i : Nat) (hx : x ≠ .squashedEntries := by decide) :
    (s.joined p).rdv x i = s.rdv x i := by
  obtain ⟨_, _, _, _, hform, hparts⟩ := s.joined_form p
  rw [hform]
  exact hparts.entries x i hx

theorem State.joined_commits (s : State) (p : Pend) : (s.joined p).modl.commits = s.modl.commits ++ [p] := by
  obtain ⟨_, _, _, _, hform, hparts⟩ := s.joined_form p
  rw [hform]
  exact hparts.commits

theorem State.joined_now (s : State) (p : Pend) : (s.joined p).now = s.now := by
  obtain ⟨_, _, _, _, hform, -⟩ := s.joined_form p
  rw [hform]
  rfl

theorem State.joined_running (s : State) (p : Pend) : (s.joined p).running = s.running := by
  rw [State.running, State.rd, State.joined_rdv, ← State.rd, ← State.running]

theorem StagingKept.joined {p : Pend} (h : StagingKept s t) : StagingKept s (t.joined p) := by
  have howner : (t.joined p).rdv .stagingOwner 0 = t.rdv .stagingOwner 0 := t.joined_rdv p 0
  obtain ⟨_, _, _, _, hform, -⟩ := t.joined_form p
  rw [hform] at howner ⊢
  exact h.trans ⟨howner, rfl, rfl, rfl, rfl, rfl⟩

theorem StagingKept.acceptPend {p : Pend} {late : Bool} (h : StagingKept s t) (hp : Deferred p.values) :
    StagingKept s (t.acceptPend p late) := by
  rw [State.acceptPend_eq]
  have hshown : StagingKept s ((t.joined p).wrv .lastCommit 0 (commitRecord p late)) := .wrv (.joined h)
  exact .ite (.wr hshown) (hshown.effectOf_last hp (by rw [State.wrv_modl, State.joined_commits]))

/-- R226: on a running modulator a commit whose effect time is still to come waits, and LastCommit shows it. -/
theorem State.acceptPend_waits {s : State} {p : Pend} (late : Bool) (hrun : s.running = true) (hnow : s.now < p.e) :
    (s.acceptPend p late).modl.commits = s.modl.commits ++ [p]
      ∧ (s.acceptPend p late).rdv .lastCommit 0 = commitRecord p late := by
  have hwait : (((s.joined p).wrv .lastCommit 0 (commitRecord p late)).running
      && decide (((s.joined p).wrv .lastCommit 0 (commitRecord p late)).now < p.e)) = true := by
    simp [State.joined_running, State.joined_now, hrun, hnow]
  rw [State.acceptPend_eq]
  dsimp only
  rw [if_pos hwait]
  simp [State.showPending, State.joined_commits]

end Sys2Proof.Machine
end

section
/-! PROOF. COMMIT goes in force or is refused, DISCARD drops what is staged, and staging is released (R225, R226, R281). -/

namespace Sys2Proof.Machine

variable {s t : State}

/-! The number of an accepted COMMIT, and its checks (R221, R224, R225, R279, R281). -/

/-- R224, R225: the state in which an accepted COMMIT joins the others: a new generation, and a late one counted and told. -/
def State.numbered (s : State) (p : Pend) (late : Bool) : State :=
  if late then (s.nextGen.2.count .lateCommits 0).raise .commitLate [p.gen, p.req, p.e] else s.nextGen.2

theorem StagingKept.numbered {p : Pend} {late : Bool} (h : StagingKept s t) : StagingKept s (t.numbered p late) :=
  .ite (.raise (.count (.wr (.quiet h)))) (.wr (.quiet h))

theorem State.numbered_commits (s : State) (p : Pend) (late : Bool) :
    (s.numbered p late).modl.commits = s.modl.commits := by
  unfold State.numbered State.nextGen
  split <;> simp

theorem State.numbered_now (s : State) (p : Pend) (late : Bool) : (s.numbered p late).now = s.now := by
  unfold State.numbered State.nextGen
  split <;> simp <;> rfl

theorem State.numbered_running (s : State) (p : Pend) (late : Bool) : (s.numbered p late).running = s.running := by
  unfold State.numbered State.nextGen
  split <;> simp <;> rfl

/-- R225: an accepted COMMIT brings the staged values of the classes that wait. -/
theorem State.hostCommit_values {s : State} {n : Nat} {st : Status} {p : Pend} {late : Bool}
    (hcommit : s.hostCommit n = (st, some (p, late))) : Deferred p.values := by
  unfold State.hostCommit at hcommit
  extract_lets staged isFrame before after h e late' gridChange gridOk listOk at hcommit
  split at hcommit
  · cases hcommit
  · split at hcommit
    · cases hcommit
    · split at hcommit
      · cases hcommit
      · simp only [Prod.mk.injEq, Option.some.injEq] at hcommit
        obtain ⟨-, rfl, -⟩ := hcommit
        intro q hq
        simpa using (List.mem_filter.1 hq).2

/-- R225: a full queue of commits refuses one more. -/
theorem State.hostCommit_busy {s : State} (n : Nat) (hfull : 16 ≤ s.hostPending) : s.hostCommit n = (.busy, none) :=
  if_pos hfull

@[simp] theorem State.claimSpi_hostCommit (s : State) (e : Env) (n : Nat) :
    (s.claimSpi e).hostCommit n = s.hostCommit n := by
  unfold State.claimSpi
  split <;> rfl

@[simp] theorem State.claimSpi_hostPending (s : State) (e : Env) : (s.claimSpi e).hostPending = s.hostPending := by
  simp [State.hostPending]

@[simp] theorem State.claimSpi_stagingHeld (s : State) (e : Env) (n : Nat) :
    (s.claimSpi e).stagingHeld n = s.stagingHeld n := by
  simp [State.stagingHeld]

/-- R279: values of the classes that wait do not act as the COMMIT is accepted. -/
theorem State.runStaged_deferred (s : State) (e : Env) {l : List (Nat × Val)} (hl : Deferred l) :
    s.runStaged e l = (s, none) := by
  unfold State.runStaged
  induction l with
  | nil => rfl
  | cons q l ih =>
    rw [List.foldl_cons, if_pos (by simpa using hl q List.mem_cons_self)]
    exact ih (fun p hp => hl p (List.mem_cons_of_mem _ hp))

/-- R225, R281: a COMMIT that finds staging its session's own, no segment open, and only values that wait. -/
structure CommitReady (s : State) (e : Env) (b : Bytes) : Prop where
  length : b.length = 8
  owner : s.rd .stagingOwner 0 = sessionOf e
  segment : (s.session (sessionOf e)).seg = none
  deferred : Deferred s.mgmt.staged

theorem CommitReady.claimSpi {e : Env} {b : Bytes} (h : CommitReady s e b) : CommitReady (s.claimSpi e) e b :=
  ⟨h.length, by simpa using h.owner, by simpa using h.segment, by simpa using h.deferred⟩

/-- R221, R225, R281: what the checks of a COMMIT make of it: it goes in force and releases staging, or it is refused. -/
def State.commitAnswer (s : State) (n : Nat) : Status × Option (Pend × Bool) → State × Ans
  | (_, some (p, late)) => ((s.acceptHost p late).releaseStaging n, .now { body := leBytes 8 p.e ++ leBytes 4 p.gen })
  | (st, none) => (s, ans st)

/-- R225, R281: such a COMMIT is judged by the checks of R221 and R225 alone. -/
theorem commitBody_ready {e : Env} {b : Bytes} (h : CommitReady s e b) :
    commitBody e b s = s.commitAnswer (sessionOf e) (s.hostCommit (leNat b)) := by
  have hfilter : ∀ f : Nat × Val → Bool, Deferred (s.mgmt.staged.filter f) :=
    fun f q hq => h.deferred q (List.mem_filter.1 hq).1
  have hheld : s.stagingHeld (sessionOf e) = false := by simp [State.stagingHeld, h.owner]
  unfold commitBody
  extract_lets n push r
  have hr : r = (s, none) := s.runStaged_deferred e (hfilter _)
  rw [if_neg (by simp [h.length]), if_neg (by simp [n, hheld]), if_neg (by simp [n, h.segment]),
    if_neg (by simp [n, h.owner])]
  by_cases hfull : 16 ≤ s.hostPending
  · rw [if_pos hfull, State.hostCommit_busy _ hfull]
    rfl
  · rw [if_neg hfull, hr]
    dsimp only
    split
    · rw [State.runStaged_deferred _ _ (hfilter _)]
      dsimp only
      rename_i heq
      rw [heq]
      rfl
    · rename_i heq
      rw [heq]
      rfl

/-- R281: a COMMIT while none owns staging. -/
theorem commitBody_unowned {e : Env} {b : Bytes} (hlength : b.length = 8) (howner : s.rd .stagingOwner 0 = 0xFFFF)
    (hseg : (s.session (sessionOf e)).seg = none) : commitBody e b s = (s, ans .state) := by
  have hsession : (0xFFFF : Nat) ≠ sessionOf e := by
    unfold sessionOf
    split <;> omega
  unfold commitBody
  rw [if_neg (by simp [hlength]), if_neg (by simp [State.stagingHeld, howner]), if_neg (by simp [hseg]),
    if_pos (by rwa [howner])]

/-! The release of staging (R280, R281). -/

theorem State.setStaged_form (s : State) (l : List (Nat × Val)) :
    ∃ made, s.setStaged l = { s with mgmt := { s.mgmt with staged := l, made := made } } := by
  unfold State.setStaged
  extract_lets t
  split <;> exact ⟨_, rfl⟩

/-- From `s` to `t` staging is released: its values go, none owns it, and nothing else changes. -/
structure Released (s t : State) : Prop where
  staged : t.mgmt.staged = []
  owner : t.rd .stagingOwner 0 = 0xFFFF
  rdv : ∀ x i, x ≠ .stagingOwner → t.rdv x i = s.rdv x i
  modl : t.modl = s.modl
  secure : t.secure = s.secure
  resetDue : t.mgmt.resetDue = s.mgmt.resetDue
  unassignDue : t.mgmt.unassignDue = s.mgmt.unassignDue

theorem State.releaseStaging_own {n : Nat} (howner : s.rd .stagingOwner 0 = n) : Released s (s.releaseStaging n) := by
  obtain ⟨made, hstaged⟩ := s.setStaged_form []
  unfold State.releaseStaging
  rw [if_pos howner, hstaged]
  exact ⟨by simp, by simp, fun x i hx => (State.wrv_rdv ..).trans (if_neg (fun g => hx g.1.symm)), by simp, by simp,
    by simp, by simp⟩

theorem State.releaseStaging_other {n : Nat} (howner : s.rd .stagingOwner 0 ≠ n) : s.releaseStaging n = s :=
  if_neg howner

theorem Released.still (h : Released s t) (hs : s.still) : t.still :=
  ⟨(congrArg (·.ops) h.secure).trans hs.1, h.resetDue.trans hs.2.1, h.unassignDue.trans hs.2.2⟩

/-! The two commands. -/

theorem State.claimSpi_still {e : Env} (h : s.still) : (s.claimSpi e).still := by
  simpa [State.still] using h

theorem State.finish_still {q : Req} {a : Ans} {b : Bool} (h : s.still) : (s.finish q a b).still := by
  simpa [State.still] using h

/-- R69, R285, R291, R315: a COMMIT that leaves nothing to follow ends with its answer, and a job that is held may go on. -/
theorem exec_commit {e : Env} {b : Bytes} {a : Ans} (hruns : s.runs e false false)
    (hbody : commitBody e b (s.claimSpi e) = (t, a)) (hstill : t.still) (hstores : t.secure.stores = s.secure.stores) :
    ∃ x y, exec (.commit e b) s = .next { t.finish (plainReq e 0x13 b) a false with
      secure := { t.secure with held := x, heldBy := y } } := by
  have hrequest : s.request (plainReq e 0x13 b) false false (commitBody e b) = t.finish (plainReq e 0x13 b) a false := by
    rw [State.request_run _ _ _ _ _ hruns.1 hruns.2, show (plainReq e 0x13 b).env = e from rfl, hbody]
  obtain ⟨x, y, hsettled⟩ := State.settled_idle (t.finish (plainReq e 0x13 b) a false) s (State.finish_still hstill).1
    (by simp [hstores]) (State.finish_still hstill).2.2 (State.finish_still hstill).2.1
  refine ⟨x, y, congrArg Host.Outcome.next ?_⟩
  rw [hrequest, hsettled, State.finish_secure]

/-- R225, R226, R281: an accepted COMMIT. -/
theorem exec_commit_accepted {e : Env} {b : Bytes} {st : Status} {p : Pend} {late : Bool} (hruns : s.runs e false false)
    (hready : CommitReady s e b) (hsession : sessionOf e ≠ 255) (hstill : s.still)
    (hcommit : s.hostCommit (leNat b) = (st, some (p, late))) :
    ∃ t r, exec (.commit e b) s = .next t ∧ t.mgmt.staged = [] ∧ t.rd .stagingOwner 0 = 0xFFFF
      ∧ t.mgmt.rep = some r ∧ r.status = .ok ∧ r.body = leBytes 8 p.e ++ leBytes 4 p.gen
      ∧ (s.running = true → s.now < p.e →
          t.modl.commits = s.modl.commits ++ [p] ∧ t.rdv .lastCommit 0 = commitRecord p late) := by
  have hkept : StagingKept (s.claimSpi e) ((s.claimSpi e).acceptHost p late) :=
    .acceptPend (.numbered .refl) (State.hostCommit_values hcommit)
  have howner : ((s.claimSpi e).acceptHost p late).rd .stagingOwner 0 = sessionOf e :=
    (congrArg (·.headD 0) hkept.owner).trans hready.claimSpi.owner
  have hreleased := State.releaseStaging_own howner
  have hbody := commitBody_ready hready.claimSpi
  rw [State.claimSpi_hostCommit, hcommit] at hbody
  obtain ⟨x, y, hexec⟩ := exec_commit hruns hbody (hreleased.still (hkept.still (State.claimSpi_still hstill)))
    ((congrArg (·.stores) hreleased.secure).trans (hkept.stores.trans (by simp)))
  refine ⟨_, _, hexec, (State.finish_mgmt_staged ..).trans hreleased.staged,
    (State.finish_rd _ _ _ _ _ _ rfl).trans hreleased.owner, State.finish_rep _ _ _ _ hsession, rfl, rfl,
    fun hrun hnow => ?_⟩
  obtain ⟨hcommits, hlast⟩ := State.acceptPend_waits (s := (s.claimSpi e).numbered p late) late
    (by simpa [State.numbered_running] using hrun) (by simpa [State.numbered_now] using hnow)
  rw [State.numbered_commits, State.claimSpi_modl] at hcommits
  exact ⟨(congrArg (·.commits) ((State.finish_modl ..).trans hreleased.modl)).trans hcommits,
    ((State.finish_rdv _ _ _ _ _ _ rfl).trans (hreleased.rdv _ _ (by decide))).trans hlast⟩

/-- R281: a COMMIT that only answers changes nothing else. -/
theorem exec_commit_answered {e : Env} {b : Bytes} {st : Status} (hruns : s.runs e false false) (hstill : s.still)
    (hbody : commitBody e b (s.claimSpi e) = (s.claimSpi e, ans st)) :
    ∃ t, exec (.commit e b) s = .next t ∧ t.answered e st ∧ t.mgmt.staged = s.mgmt.staged ∧ t.modl = s.modl
      ∧ ∀ y j, y.dropCounter = false → t.rdv y j = s.rdv y j := by
  obtain ⟨x, y, hexec⟩ := exec_commit hruns hbody (State.claimSpi_still hstill) (by simp)
  exact ⟨_, hexec, State.finish_answered (s.claimSpi e) (plainReq e 0x13 b) st false,
    (State.finish_mgmt_staged ..).trans (State.claimSpi_mgmt_staged ..),
    (State.finish_modl ..).trans (State.claimSpi_modl ..),
    fun z j hz => (State.finish_rdv _ _ _ _ _ _ hz).trans (State.claimSpi_rdv ..)⟩

/-- R281: DISCARD. -/
theorem exec_discard {e : Env} (hruns : s.runs e false false) (hseg : (s.session (sessionOf e)).seg = none) :
    exec (.discard e []) s =
      .next (((s.claimSpi e).releaseStaging (sessionOf e)).finish (plainReq e 0x14 []) (ans .ok) false) := by
  have hbody : discardBody e [] (s.claimSpi e) = ((s.claimSpi e).releaseStaging (sessionOf e), ans .ok) := by
    simp [discardBody, hseg]
  refine congrArg Host.Outcome.next ?_
  rw [State.request_run _ _ _ _ _ hruns.1 hruns.2, show (plainReq e 0x14 []).env = e from rfl, hbody]

/-- Settles O25: a COMMIT by what an accepted one and a refused one leave of staging, a DISCARD by the release. -/
theorem commitAndDiscard : Obligations.CommitAndDiscard := by
  unfold Obligations.CommitAndDiscard
  refine ⟨?accepted, ?unowned, ?discard, ?refused⟩
  case accepted =>
    intro e b st p late s hruns hlength howner hseg hsession hstill hdeferred hcommit
    exact exec_commit_accepted hruns ⟨hlength, howner, hseg, hdeferred⟩ hsession hstill hcommit
  case unowned =>
    intro e b s hruns hlength howner hseg hstill
    obtain ⟨t, hexec, hans, -, hmodl, -⟩ := exec_commit_answered hruns hstill
      (commitBody_unowned hlength (by simpa using howner) (by simpa using hseg))
    exact ⟨t, hexec, hans, hmodl⟩
  case discard =>
    intro e s hruns hseg
    refine ⟨_, exec_discard hruns hseg, State.finish_answered _ (plainReq e 0x14 []) _ _, fun howner => ?_,
      fun howner => ?_, fun x i hx hne => ?_⟩
    · have hreleased := State.releaseStaging_own (s := s.claimSpi e) (n := sessionOf e) (by simpa using howner)
      exact ⟨(State.finish_mgmt_staged ..).trans hreleased.staged,
        (State.finish_rd _ _ _ _ _ _ rfl).trans hreleased.owner⟩
    · rw [State.finish_mgmt_staged, State.releaseStaging_other (by simpa using howner), State.claimSpi_mgmt_staged]
    · rw [State.finish_rdv _ _ _ _ _ _ hx, ← State.claimSpi_rdv s e]
      by_cases howner : (s.claimSpi e).rd .stagingOwner 0 = sessionOf e
      · exact (State.releaseStaging_own howner).rdv x i hne
      · rw [State.releaseStaging_other howner]
  case refused =>
    intro e b st s hruns hlength howner hseg hstill hdeferred hcommit
    have hbody := commitBody_ready (CommitReady.claimSpi ⟨hlength, howner, hseg, hdeferred⟩)
    rw [State.claimSpi_hostCommit, hcommit] at hbody
    obtain ⟨t, hexec, hans, hstaged, hmodl, hrdv⟩ := exec_commit_answered hruns hstill hbody
    exact ⟨t, hexec, hans, hstaged, (congrArg (·.headD 0) (hrdv .stagingOwner 0 rfl)).trans howner, hmodl, hrdv⟩

end Sys2Proof.Machine
end

section
/-! PROOF. Values held for a lane as its restored trims are (R378) that are values of other entries. -/

namespace Sys2Proof.Machine

/-- R232: a running modulator whose stop has come, with a value of ModulatorRun among the trims that lane 0 holds. -/
def heldRunState : State :=
  ({ modl := { stopE := some 0 }, louts := [(0, { held := [(key .modulatorRun 0, [1])] })] } : State).wr .modulatorRun 0 1

theorem heldRunState_shows : heldRunState.modl.stopE = some 0 ∧ heldRunState.running = true
    ∧ heldRunState.modl.commits = [] := by
  decide +kernel

/-- R232, R378: the lane's held value applies as the modulator stops, after ModulatorRun is cleared. -/
theorem modulatorStopEffectEff_heldRun : (modulatorStopEffectEff heldRunState).rd .modulatorRun 0 = 1 := by
  decide +kernel

/-- Refutes O16: its clause on the stop lets a lane hold a value of any entry where the model holds restored trims (R378).
One of ModulatorRun is written as the modulator stops, and the modulator runs on. -/
theorem not_modulatorStartsAndStops : ¬ Obligations.ModulatorStartsAndStops := by
  unfold Obligations.ModulatorStartsAndStops
  rintro ⟨-, -, -, -, hstop, -, -⟩
  obtain ⟨hdue, hrun, hcommits⟩ := heldRunState_shows
  obtain ⟨t, hexec, hcleared, -⟩ := hstop 0 heldRunState hdue hrun (Nat.zero_le _) hcommits
  have ht : modulatorStopEffectEff heldRunState = t := Host.Outcome.next.inj hexec
  rw [← ht, modulatorStopEffectEff_heldRun] at hcleared
  cases hcleared

/-- R214, R261: the first burst of lane 0 stands at its launch line, in a quadrant that is dark for lost lock and counts
what it drops, with a value of UnlockDrops among the trims that the lane holds. -/
def heldDropsState : State :=
  ({ power := { doms := [(5, { st := .on }), (15, { st := .on })] }, quads := [(0, { unlock := true, counting := true })]
     modl := { lanes := [(0, { ents := [{}] })] }
     louts := [(0, { held := [(key .unlockDrops 0, [7])] })] } : State).wr .modulatorRun 0 1

theorem heldDropsState_shows : heldDropsState.running = true ∧ heldDropsState.alive 15 = true
    ∧ heldDropsState.timeRuns = true ∧ SMap.find heldDropsState.modl.lanes 0 = some { ents := [{}] }
    ∧ heldDropsState.lineOf 0 0 ≤ heldDropsState.dispFine ∧ heldDropsState.quadDark 0 = true
    ∧ (heldDropsState.quad 0).counting = true ∧ heldDropsState.rd .unlockDrops 0 = 0 := by
  decide +kernel

/-- R256, R261, R378: a dark lane is idle at its launch line: the held value applies there, and the dropped burst is
counted on top of it. -/
theorem launchLineEff_heldDrops : (launchLineEff 0 heldDropsState).rd .unlockDrops 0 = 8 := by
  decide +kernel

/-- Refutes O17: its clause on the launch line lets a lane hold a value of any entry where the model holds restored trims
(R378). One of UnlockDrops is written at the launch line, before the burst that the dark quadrant drops is counted. -/
theorem not_burstsRunTheirCourse : ¬ Obligations.BurstsRunTheirCourse := by
  unfold Obligations.BurstsRunTheirCourse
  rintro ⟨-, hline, -⟩
  obtain ⟨hrun, halive, htime, hlane, hcome, hdark, hcounting, hnone⟩ := heldDropsState_shows
  obtain ⟨t, hexec, -, -, hdropped⟩ := hline 0 { ents := [{}] } {} [] heldDropsState hrun halive htime hlane rfl hcome
  have hcount := (hdropped hdark hcounting).1
  have ht : launchLineEff 0 heldDropsState = t := Host.Outcome.next.inj hexec
  rw [← ht, launchLineEff_heldDrops, hnone] at hcount
  exact absurd hcount (by decide)

end Sys2Proof.Machine
end

section
/-! PROOF. A lane-quadrant PLL that loses lock, where a lane holds a value of QuadrantLocked as its restored trims are (R261,
R263, R378). -/

namespace Sys2Proof.Machine

/-- R261, R263: quadrant 0 is up and locked, with a value of QuadrantLocked among the trims that its lane 0 holds. -/
def heldLockState : State :=
  ({ power := { doms := [(16, { st := .on })] }, louts := [(0, { held := [(key .quadrantLocked 0, [15])] })] } : State).wr
    .quadrantLocked 0 1

theorem heldLockState_shows : heldLockState.alive 16 = true ∧ (heldLockState.rd .quadrantLocked 0).testBit 0 = true := by
  decide +kernel

/-- R261, R378: the quadrant's lanes are idle as it goes dark: the held value applies there, after the quadrant's bit of
QuadrantLocked is cleared. -/
theorem lanePllUnlockEff_heldLock : (lanePllUnlockEff 0 heldLockState).rd .quadrantLocked 0 = 15 := by
  decide +kernel

/-- Refutes O19: its clause on the loss of lock lets a lane hold a value of any entry where the model holds restored trims
(R378). One of QuadrantLocked is written as the quadrant goes dark, and its bit is set again. -/
theorem not_tearingAndDarkQuadrants : ¬ Obligations.TearingAndDarkQuadrants := by
  unfold Obligations.TearingAndDarkQuadrants
  rintro ⟨-, hunlock, -, -⟩
  obtain ⟨halive, hlocked⟩ := heldLockState_shows
  obtain ⟨t, hexec, hcleared, -⟩ := hunlock 0 heldLockState halive hlocked
  have ht : lanePllUnlockEff 0 heldLockState = t := Host.Outcome.next.inj hexec
  rw [← ht, lanePllUnlockEff_heldLock] at hcleared
  exact absurd hcleared (by decide)

end Sys2Proof.Machine
end

section
/-! PROOF. Power-on reset: every entry at its default, every domain OFF, nothing waiting (R268, R383, R385). -/

namespace Sys2Proof.Machine

/-- R268: no entry is listed at reset, so each reads as its default. -/
theorem State.reset_rdv (x : Ent) (i : Nat) : State.reset.rdv x i = x.dflt := rfl

/-- R341: no domain is listed at reset, and one that is not listed is OFF. -/
theorem State.reset_on (d : Nat) : State.reset.on d = false := rfl

theorem State.reset_canonical : State.reset.canonical := ⟨rfl, rfl, rfl, rfl⟩

/-- Settles O50: at reset every map is empty, so entries, domains and memories read as what is not listed does. -/
theorem resetLeavesDefaults : Obligations.ResetLeavesDefaults := by
  unfold Obligations.ResetLeavesDefaults
  exact ⟨⟨State.reset_rdv, State.reset_on, rfl, rfl, rfl, rfl, rfl⟩, State.reset_canonical⟩

end Sys2Proof.Machine
end

section
/-! PROOF. Where the entries lie in the dictionary: rows that do not overlap, and the highest subindex of an index (R265). -/

namespace Sys2Proof.Machine

/-- The part of the dictionary that a row takes: the indices from `lo` below `hi`, at the subindices from `low` below
`high`. -/
structure Patch where
  lo : Nat
  hi : Nat
  low : Nat
  high : Nat

/-- R265: the instances of a row lie at one index and rising subindices, or at rising indices and one subindex. -/
def EntInfo.patch (r : EntInfo) : Patch :=
  if r.bySub then ⟨r.index, r.index + 1, r.sub, r.sub + r.count⟩ else ⟨r.index, r.index + r.count, r.sub, r.sub + 1⟩

/-- Two patches share no place. -/
def Patch.apart (p q : Patch) : Bool :=
  Nat.ble p.hi q.lo || Nat.ble q.hi p.lo || Nat.ble p.high q.low || Nat.ble q.high p.low

/-- No two of the patches share a place. -/
def allApart : List Patch → Bool
  | [] => true
  | p :: l => l.all p.apart && allApart l

/-- A row has a place, and its addresses are a 16-bit index and an 8-bit subindex of 1 and above (R265). -/
def EntInfo.fits (r : EntInfo) : Bool :=
  Nat.ble 1 r.count && Nat.ble r.patch.hi 65536 && Nat.ble 1 r.sub && Nat.ble r.patch.high 256

/-- The rows of the entry tables, and no others, lie in the dictionary at one place each (R265). -/
theorem Ent.rows_apart : allApart (Ent.all.map (fun x => x.info.patch)) = true := by decide +kernel

theorem Ent.rows_fit : Ent.all.all (fun x => x.info.fits) = true := by decide +kernel

theorem Ent.all_ctorIdx : Ent.all.map Ent.ctorIdx = List.range 413 := by decide +kernel

theorem Ent.ctorIdx_lt (x : Ent) : x.ctorIdx < 413 := by
  cases x <;> exact Nat.le_of_ble_eq_true rfl

/-- The list of the entries names each of them. -/
theorem Ent.mem_all (x : Ent) : x ∈ Ent.all := by
  have hidx : x.ctorIdx ∈ Ent.all.map Ent.ctorIdx := by
    rw [Ent.all_ctorIdx]
    exact List.mem_range.2 x.ctorIdx_lt
  obtain ⟨y, hy, heq⟩ := List.mem_map.1 hidx
  rwa [← Ent.ctorIdx_inj heq]

theorem Patch.apart_comm (p q : Patch) : p.apart q = q.apart p := by
  rw [Bool.eq_iff_iff]
  simp only [Patch.apart, Bool.or_eq_true]
  tauto

theorem allApart_mem {α : Type} {f : α → Patch} {l : List α} (h : allApart (l.map f) = true) {x y : α} (hx : x ∈ l)
    (hy : y ∈ l) (hne : x ≠ y) : (f x).apart (f y) = true := by
  induction l with
  | nil => cases hx
  | cons a l ih =>
    obtain ⟨hhead, htail⟩ := Bool.and_eq_true_iff.1 h
    have hfirst : ∀ z ∈ l, (f a).apart (f z) = true := fun z hz => List.all_eq_true.1 hhead _ (List.mem_map_of_mem hz)
    rcases List.mem_cons.1 hx with rfl | hxl
    · rcases List.mem_cons.1 hy with rfl | hyl
      · exact absurd rfl hne
      · exact hfirst y hyl
    · rcases List.mem_cons.1 hy with rfl | hyl
      · exact (Patch.apart_comm _ _).trans (hfirst x hxl)
      · exact ih htail hxl hyl

/-- R265: the instances of a row, and no other, lie at its addresses. -/
theorem EntInfo.inst_eq_some {r : EntInfo} {n k i : Nat} : r.inst n k = some i ↔ i < r.count ∧ r.address i = (n, k) := by
  unfold EntInfo.inst EntInfo.address
  cases r.bySub
  · simp only [Bool.false_eq_true, if_false, Option.ite_none_right_eq_some, Option.some.injEq, Prod.mk.injEq]
    omega
  · simp only [if_true, Option.ite_none_right_eq_some, Option.some.injEq, Prod.mk.injEq]
    omega

/-- A place of a row lies in its patch. -/
theorem EntInfo.address_in {r : EntInfo} {n k i : Nat} (hi : i < r.count) (h : r.address i = (n, k)) :
    r.patch.lo ≤ n ∧ n < r.patch.hi ∧ r.patch.low ≤ k ∧ k < r.patch.high := by
  unfold EntInfo.address at h
  unfold EntInfo.patch
  cases hby : r.bySub <;> simp only [hby, Bool.false_eq_true, if_false, if_true, Prod.mk.injEq] at h ⊢ <;> omega

/-- R265: two entries have no address in common. -/
theorem Ent.address_inj {x y : Ent} {i j n k : Nat} (hi : i < x.info.count) (hj : j < y.info.count)
    (hx : x.address i = (n, k)) (hy : y.address j = (n, k)) : x = y := by
  by_contra hne
  have hinx := EntInfo.address_in hi hx
  have hiny := EntInfo.address_in hj hy
  have hapart := allApart_mem Ent.rows_apart x.mem_all y.mem_all hne
  simp only [Patch.apart, Bool.or_eq_true, Nat.ble_eq] at hapart
  omega

/-- R265: what a search finds is the entry and the place in it that have the address. -/
theorem Ent.find_eq_some {n k : Nat} {x : Ent} {i : Nat} :
    Ent.find n k = some (x, i) ↔ i < x.info.count ∧ x.address i = (n, k) := by
  refine ⟨fun h => EntInfo.inst_eq_some.1 (Ent.find_inst h), fun ⟨hi, haddr⟩ => ?_⟩
  have hinst : x.info.inst n k = some i := EntInfo.inst_eq_some.2 ⟨hi, haddr⟩
  have hsome : (Ent.find n k).isSome = true := by
    unfold Ent.find
    rw [List.findSome?_isSome_iff]
    exact ⟨x, x.mem_all, by simp [hinst]⟩
  obtain ⟨⟨y, j⟩, hfind⟩ := Option.isSome_iff_exists.1 hsome
  have hfound := Ent.find_inst hfind
  obtain ⟨hj, haddr'⟩ := EntInfo.inst_eq_some.1 hfound
  obtain rfl : x = y := Ent.address_inj hi hj haddr haddr'
  rw [hfind, Option.some.inj (hfound.symm.trans hinst)]

/-- What the tables keep of the two parts of an address (R265). -/
theorem Ent.fits (x : Ent) : 1 ≤ x.info.count ∧ x.info.patch.hi ≤ 65536 ∧ 1 ≤ x.info.sub ∧ x.info.patch.high ≤ 256 := by
  have h := List.all_eq_true.1 Ent.rows_fit x x.mem_all
  simp only [EntInfo.fits, Bool.and_eq_true, Nat.ble_eq] at h
  omega

/-- R265: subindex 0 holds no entry. -/
theorem Ent.find_zero (n : Nat) : Ent.find n 0 = none := by
  rw [Option.eq_none_iff_forall_ne_some]
  rintro ⟨x, i⟩ h
  obtain ⟨hi, haddr⟩ := Ent.find_eq_some.1 h
  obtain ⟨-, -, hsub, -⟩ := x.fits
  have hin := EntInfo.address_in hi haddr
  unfold EntInfo.patch at hin
  split at hin <;> (simp only at hin; omega)

/-! The highest subindex of an index (R265). -/

/-- The greatest of a list's marks is at least each mark and the one to begin with. -/
theorem List.le_foldl_marks {α : Type} (p : α → Bool) (f : α → Nat) (l : List α) (m : Nat) :
    m ≤ l.foldl (fun m a => if p a then max m (f a) else m) m
      ∧ ∀ a ∈ l, p a = true → f a ≤ l.foldl (fun m a => if p a then max m (f a) else m) m := by
  induction l generalizing m with
  | nil => exact ⟨le_refl _, fun _ h => by cases h⟩
  | cons b l ih =>
    obtain ⟨hstart, hmarks⟩ := ih (if p b then max m (f b) else m)
    refine ⟨le_trans (by split <;> omega) hstart, fun a ha hp => ?_⟩
    rcases List.mem_cons.1 ha with rfl | ha
    · exact le_trans (by rw [if_pos hp]; omega) hstart
    · exact hmarks a ha hp

/-- The greatest of a list's marks is one of them, or the one to begin with. -/
theorem List.foldl_marks_mem {α : Type} (p : α → Bool) (f : α → Nat) (l : List α) (m : Nat) :
    l.foldl (fun m a => if p a then max m (f a) else m) m = m
      ∨ ∃ a ∈ l, p a = true ∧ f a = l.foldl (fun m a => if p a then max m (f a) else m) m := by
  induction l generalizing m with
  | nil => exact .inl rfl
  | cons b l ih =>
    rcases ih (if p b then max m (f b) else m) with hsame | ⟨a, ha, hp, heq⟩
    · by_cases hb : p b = true
      · rcases le_total m (f b) with hle | hle
        · exact .inr ⟨b, List.mem_cons_self, hb, by rw [List.foldl_cons, hsame, if_pos hb]; omega⟩
        · exact .inl (by rw [List.foldl_cons, hsame, if_pos hb]; omega)
      · exact .inl (by rw [List.foldl_cons, hsame, if_neg hb])
    · exact .inr ⟨a, List.mem_cons_of_mem _ ha, hp, heq⟩

/-- The highest subindex at an index bounds that of every row there. -/
theorem Ent.top_le_highestSub {x : Ent} {n : Nat} (h : x.info.uses n = true) : x.info.top ≤ Ent.highestSub n :=
  (List.le_foldl_marks (fun y => Ent.info y |>.uses n) (fun y => y.info.top) Ent.all 0).2 x x.mem_all h

/-- A place of a row lies at an index that the row uses, at a subindex up to its highest. -/
theorem EntInfo.uses_of_address {r : EntInfo} {n k i : Nat} (hi : i < r.count) (h : r.address i = (n, k)) :
    r.uses n = true ∧ k ≤ r.top := by
  unfold EntInfo.address at h
  unfold EntInfo.uses EntInfo.top
  cases hby : r.bySub <;>
    simp only [hby, Bool.false_eq_true, if_false, if_true, Prod.mk.injEq, decide_eq_true_eq] at h ⊢ <;> omega

/-- A row has a place at its highest subindex of every index that it uses. -/
theorem EntInfo.exists_top {r : EntInfo} {n : Nat} (hcount : 1 ≤ r.count) (h : r.uses n = true) :
    ∃ i < r.count, r.address i = (n, r.top) := by
  unfold EntInfo.uses at h
  unfold EntInfo.address EntInfo.top
  cases hby : r.bySub <;> simp only [hby, Bool.false_eq_true, if_false, if_true, Prod.mk.injEq, decide_eq_true_eq] at h ⊢
  · exact ⟨n - r.index, by omega, by omega, trivial⟩
  · exact ⟨r.count - 1, by omega, h.symm, by omega⟩

/-- R265: the highest subindex of an index that holds entries is one of theirs. -/
theorem Ent.indexUsed_iff (n : Nat) :
    Ent.indexUsed n = true ↔ ∃ (x : Ent) (i : Nat), i < x.info.count ∧ x.address i = (n, Ent.highestSub n) := by
  constructor
  · intro h
    obtain ⟨x, -, huses⟩ := List.any_eq_true.1 h
    obtain ⟨hcount, -, hsub, -⟩ := x.fits
    have htop : 1 ≤ x.info.top := by unfold EntInfo.top; split <;> omega
    have hle := Ent.top_le_highestSub huses
    rcases List.foldl_marks_mem (fun y => Ent.info y |>.uses n) (fun y => y.info.top) Ent.all 0 with hzero | ⟨y, -, hy, heq⟩
    · have : Ent.highestSub n = 0 := hzero
      omega
    · obtain ⟨i, hi, haddr⟩ := EntInfo.exists_top y.fits.1 hy
      exact ⟨y, i, hi, haddr.trans (by rw [heq]; rfl)⟩
  · rintro ⟨x, i, hi, haddr⟩
    exact List.any_eq_true.2 ⟨x, x.mem_all, (EntInfo.uses_of_address hi haddr).1⟩

end Sys2Proof.Machine
end

section
/-! PROOF. What a READ, a WRITE and a WRITE_STAGED that their session lets run come to: their bodies, then the answer
(R271 to R280). -/

namespace Sys2Proof.Machine

variable {s t : State} {e : Env} {m : EntryMsg}

theorem State.restricted_of_lt (s : State) (e : Env) (isRead : Bool) (hindex : m.index.toNat < 0xF000) :
    s.restricted e isRead m = false := by
  simp [State.restricted, restrictedFor, Nat.not_le.2 hindex]

/-- R283: a READ outside the restricted range is its body, answered. -/
theorem exec_read (hruns : s.runs e false true) (hindex : m.index.toNat < 0xF000) {a : Ans}
    (hbody : readBody e m (s.claimSpi e) = (t, a)) :
    exec (.read e m) s = .next (t.finish (msgReq e 0x10 m) a true) := by
  show execRead e m s = _
  unfold execRead
  rw [State.restricted_of_lt s e true hindex, if_neg Bool.false_ne_true, State.request_run _ _ _ _ _ hruns.1 hruns.2,
    show (msgReq e 0x10 m).env = e from rfl, hbody]

/-- The opcode of a WRITE or a WRITE_STAGED (Table 12.5). -/
def writeOpcode (staged : Bool) : Nat := if staged then 0x12 else 0x11

theorem exec_write (hindex : m.index.toNat < 0xF000) : exec (.write e m) s = .next (s.writeMsg e false m) := by
  show execWrite e m s = _
  unfold execWrite
  rw [State.restricted_of_lt s e false hindex, if_neg Bool.false_ne_true]

theorem exec_writeStaged (hindex : m.index.toNat < 0xF000) :
    exec (.writeStaged e m) s = .next (s.writeMsg e true m) := by
  show execWriteStaged e m s = _
  unfold execWriteStaged
  rw [State.restricted_of_lt s e false hindex, if_neg Bool.false_ne_true]

/-- R69, R285, R291, R315: a write of which nothing follows ends with its answer, and a job that is held may go on. -/
theorem State.writeMsg_settles {staged : Bool} {a : Ans} (hruns : s.runs e false false)
    (hbody : writeBodyOf e staged m (s.claimSpi e) = (t, a)) (hstill : t.still)
    (hstores : t.secure.stores = s.secure.stores) :
    ∃ x y, s.writeMsg e staged m = { t.finish (msgReq e (writeOpcode staged) m) a false with
      secure := { t.secure with held := x, heldBy := y } } := by
  have hrequest : s.request (msgReq e (writeOpcode staged) m) false false (writeBodyOf e staged m)
      = t.finish (msgReq e (writeOpcode staged) m) a false := by
    rw [State.request_run _ _ _ _ _ hruns.1 hruns.2, show (msgReq e (writeOpcode staged) m).env = e from rfl, hbody]
  obtain ⟨hops, hreset, hunassign⟩ := State.finish_still (q := msgReq e (writeOpcode staged) m) (a := a) (b := false) hstill
  obtain ⟨x, y, hsettled⟩ := State.settled_idle (t.finish (msgReq e (writeOpcode staged) m) a false) s hops
    (by simp [hstores]) hunassign hreset
  refine ⟨x, y, ?_⟩
  show (s.request (msgReq e (writeOpcode staged) m) false false (writeBodyOf e staged m)).settled s = _
  rw [hrequest, hsettled, State.finish_secure]

/-- What a write of which nothing follows leaves: its answer, and the entries and the staging that its body left. -/
structure MessageDone (e : Env) (st : Status) (t u : State) : Prop where
  answered : u.answered e st
  staged : u.mgmt.staged = t.mgmt.staged
  rdv : ∀ y j, y.dropCounter = false → u.rdv y j = t.rdv y j

theorem MessageDone.rd {st : Status} {u : State} (h : MessageDone e st t u) {x : Ent} (hx : x.dropCounter = false) (i : Nat) :
    u.rd x i = t.rd x i := by
  unfold State.rd
  rw [h.rdv x i hx]

theorem State.writeMsg_done {staged : Bool} {st : Status} (hruns : s.runs e false false)
    (hbody : writeBodyOf e staged m (s.claimSpi e) = (t, ans st)) (hstill : t.still)
    (hstores : t.secure.stores = s.secure.stores) : MessageDone e st t (s.writeMsg e staged m) := by
  obtain ⟨x, y, heq⟩ := State.writeMsg_settles hruns hbody hstill hstores
  rw [heq]
  exact ⟨State.finish_answered t (msgReq e (writeOpcode staged) m) st false, State.finish_mgmt_staged ..,
    fun z j hz => State.finish_rdv _ _ _ _ _ _ hz⟩

/-- R278: a write that only answers leaves every entry and staging as they were. -/
theorem State.writeMsg_refused {staged : Bool} {st : Status} (hruns : s.runs e false false) (hstill : s.still)
    (hbody : writeBodyOf e staged m (s.claimSpi e) = (s.claimSpi e, ans st)) :
    MessageDone e st s (s.writeMsg e staged m) := by
  obtain ⟨hans, hstaged, hrdv⟩ := State.writeMsg_done hruns hbody (State.claimSpi_still hstill) (by simp)
  exact ⟨hans, hstaged.trans (by simp), fun y j hy => (hrdv y j hy).trans (by simp)⟩

/-! The checks of a write, in their order (R265, R278). -/

variable {staged : Bool} {x : Ent} {i : Nat}

theorem writeBodyOf_unfound (hindex : m.index.toNat < 0xF000) (hfind : Ent.find m.index.toNat m.sub.toNat = none) :
    writeBodyOf e staged m s = (s, ans (if !Ent.indexUsed m.index.toNat then .noObject
      else if m.sub.toNat ≠ 0 then .noSub else .access)) := by
  unfold writeBodyOf
  rw [if_neg (Nat.not_le.2 hindex), hfind]

theorem writeBodyOf_found (hindex : m.index.toNat < 0xF000) (hfind : Ent.find m.index.toNat m.sub.toNat = some (x, i)) :
    writeBodyOf e staged m s =
      if x.guarded && !s.authorised e then (s, ans .auth)
      else if x.info.acc = .ro ∨ x.info.acc = .const then (s, ans .access)
      else s.writeSegments e x i staged m := by
  unfold writeBodyOf
  rw [if_neg (Nat.not_le.2 hindex), hfind]

/-- R278: an entry that needs no authorised session and may be written. -/
theorem writeBodyOf_writable (hindex : m.index.toNat < 0xF000)
    (hfind : Ent.find m.index.toNat m.sub.toNat = some (x, i)) (hguard : x.guarded = false) (hacc : x.info.acc = .rw) :
    writeBodyOf e staged m s = s.writeSegments e x i staged m := by
  rw [writeBodyOf_found hindex hfind, hguard, Bool.false_and, if_neg Bool.false_ne_true, if_neg (by simp [hacc])]

/-- R278: a scalar of a wrong length. -/
theorem State.writeSegments_type (hseg : Machine.EntryMsg.isSegment m = false) (hscalar : x.info.ty.scalar = true)
    (hlength : m.body.length ≠ x.info.elt) : s.writeSegments e x i staged m = (s, ans .type) := by
  unfold State.writeSegments
  exact if_pos (by simp [hseg, hscalar, hlength])

/-- R265: no entry lies at an index that holds none. -/
theorem Ent.find_unused {n k : Nat} (h : Ent.indexUsed n = false) : Ent.find n k = none := by
  rw [Option.eq_none_iff_forall_ne_some]
  rintro ⟨y, j⟩ hfind
  obtain ⟨hj, haddr⟩ := Ent.find_eq_some.1 hfind
  have hused : Ent.indexUsed n = true := List.any_eq_true.2 ⟨y, y.mem_all, (EntInfo.uses_of_address hj haddr).1⟩
  exact absurd (hused.symm.trans h) (by decide)

theorem State.claimSpi_authorised (s : State) (e f : Env) : (s.claimSpi e).authorised f = s.authorised f := by
  unfold State.authorised
  simp

/-- Settles O21: each check by what the body of a WRITE makes of it, and a refused write by the entries that it leaves. -/
theorem writesAreCheckedInOrder : Obligations.WritesAreCheckedInOrder := by
  unfold Obligations.WritesAreCheckedInOrder
  intro e m s hruns hindex hstill
  have refused {st : Status} (hbody : writeBodyOf e false m (s.claimSpi e) = (s.claimSpi e, ans st)) :
      (s.writeMsg e false m).answered e st ∧ ∀ y j, y.dropCounter = false → (s.writeMsg e false m).rdv y j = s.rdv y j :=
    have hdone := State.writeMsg_refused hruns hstill hbody
    ⟨hdone.answered, hdone.rdv⟩
  refine ⟨_, exec_write hindex, fun hunused => ?_, fun hused hnone hsub => ?_, fun x i hfind hguard hauth => ?_,
    fun x i hfind hguard hacc => ?_, fun x i hfind hguard hacc hseg hscalar hlength => ?_⟩
  · exact refused ((writeBodyOf_unfound hindex (Ent.find_unused hunused)).trans (by simp [hunused]))
  · exact refused ((writeBodyOf_unfound hindex hnone).trans (by simp [hused, hsub]))
  · exact refused ((writeBodyOf_found hindex hfind).trans (by simp [hguard, State.claimSpi_authorised, hauth]))
  · exact refused ((writeBodyOf_found hindex hfind).trans (by simp [hguard, hacc]))
  · exact refused ((writeBodyOf_writable hindex hfind hguard hacc).trans
      (State.writeSegments_type hseg hscalar hlength))

/-! A READ always answers (R271, R283). -/

/-- What a body comes to is an answer now, and not one that follows. -/
def AnswersNow (r : State × Ans) : Prop := ∃ t a, r = (t, .now a)

theorem AnswersNow.now {t : State} {r : Reply} : AnswersNow (t, .now r) := ⟨t, r, rfl⟩

theorem AnswersNow.ite {c : Prop} [Decidable c] {a b : State × Ans} (ha : AnswersNow a) (hb : AnswersNow b) :
    AnswersNow (if c then a else b) := by
  split
  · exact ha
  · exact hb

theorem AnswersNow.registerReply {p : Status × Reply} : AnswersNow (s, if p.1 = .ok then .now p.2 else ans p.1) := by
  split
  · exact .now
  · exact .now

theorem AnswersNow.countedReply {y : Ent} {b : Bytes} {n off : Nat} : AnswersNow (s, countedReply y b n off) := by
  unfold Machine.countedReply
  split
  · exact .now
  · exact .now

theorem AnswersNow.madeReply {y : Ent} {b : Bytes} {j off : Nat} : AnswersNow (s.madeReply t y j b off) := .ite .now .now

theorem AnswersNow.eventPop {off : Nat} : AnswersNow (eventPopBody off s) := by
  unfold eventPopBody
  split
  · exact .now
  · exact .ite .now .now

theorem AnswersNow.capturePop {j off : Nat} : AnswersNow (capturePopBody j off s) := by
  unfold capturePopBody
  refine .ite .now ?_
  dsimp only
  split
  · exact .now
  · exact .now

theorem AnswersNow.attest {n off : Nat} : AnswersNow (attestBody n off s) := by
  unfold attestBody
  split
  · exact .now
  · split
    · exact .now
    · exact .madeReply

theorem AnswersNow.savedState {j off : Nat} : AnswersNow (savedStateBody j off s) := by
  unfold savedStateBody
  split
  · exact .now
  · exact .countedReply

theorem AnswersNow.readEntry {off : Nat} {view : Bool} : AnswersNow (readEntry e x i off view s) := by
  unfold Machine.readEntry
  refine .ite .now ?_
  split
  · exact .eventPop
  · exact .ite .now .capturePop
  · exact .ite .now (.ite .now .now)
  · exact .attest
  · exact .ite .registerReply .savedState
  · split
    · refine .ite .madeReply ?_
      split
      · exact .countedReply
      · exact .madeReply
    · exact .registerReply

theorem AnswersNow.readBody : AnswersNow (readBody e m s) := by
  unfold Machine.readBody
  refine .ite .now ?_
  split
  · refine .ite .now (.ite .now (.ite .now ?_))
    unfold subCountReply
    split
    · exact .now
    · exact .now
  · exact .ite .now (.ite .now .readEntry)

/-- R265, R278: a READ where no entry lies. -/
theorem readBody_unfound (hindex : m.index.toNat < 0xF000) (hfind : Ent.find m.index.toNat m.sub.toNat = none) :
    readBody e m s =
      if !Ent.indexUsed m.index.toNat then (s, ans .noObject)
      else if m.sub.toNat ≠ 0 then (s, ans .noSub)
      else if m.body ≠ [] then (s, ans .type)
      else (s, subCountReply m.index.toNat m.offset) := by
  unfold readBody
  rw [if_neg (Nat.not_le.2 hindex), hfind]

/-- Settles O54: addresses by the rows' places, a READ and a write where no entry lies by their bodies. -/
theorem everyEntryHasItsAddress : Obligations.EveryEntryHasItsAddress := by
  unfold Obligations.EveryEntryHasItsAddress
  refine ⟨fun x i hi => ?_, fun n k x i hfind => Ent.find_eq_some.1 hfind, Ent.indexUsed_iff, ?read, ?write⟩
  · obtain ⟨-, hindex, hsub, hhigh⟩ := x.fits
    have hin := EntInfo.address_in (n := (x.address i).1) (k := (x.address i).2) hi rfl
    obtain ⟨huses, htop⟩ := EntInfo.uses_of_address (n := (x.address i).1) (k := (x.address i).2) hi rfl
    have hlow : x.info.patch.low = x.info.sub := by unfold EntInfo.patch; split <;> rfl
    exact ⟨Ent.find_eq_some.2 ⟨hi, rfl⟩, by omega, by omega, by omega, htop.trans (Ent.top_le_highestSub huses)⟩
  case read =>
    intro e m s hruns hindex hsession
    obtain ⟨t, r, hr⟩ := AnswersNow.readBody (e := e) (m := m) (s := s.claimSpi e)
    refine ⟨_, r, exec_read hruns hindex hr, State.finish_rep _ _ _ _ hsession, fun hunused => ?_,
      fun hused hnone hsub => ?_, fun hused hsub hbody hoffset => ?_⟩
    · rw [readBody_unfound hindex (Ent.find_unused hunused), if_pos (by simp [hunused])] at hr
      cases hr
      rfl
    · rw [readBody_unfound hindex hnone, if_neg (by simp [hused]), if_pos hsub] at hr
      cases hr
      rfl
    · rw [readBody_unfound hindex (by rw [hsub]; exact Ent.find_zero _), if_neg (by simp [hused]),
        if_neg (not_not.2 hsub), if_neg (not_not.2 hbody), hoffset] at hr
      cases hr
      exact ⟨rfl, rfl, rfl, rfl⟩
  case write =>
    intro e m c s hruns hstill hindex hc
    obtain ⟨staged, hexec⟩ : ∃ staged, exec c s = .next (s.writeMsg e staged m) := by
      rcases hc with rfl | rfl
      · exact ⟨false, exec_write hindex⟩
      · exact ⟨true, exec_writeStaged hindex⟩
    have answered (st : Status) (hbody : writeBodyOf e staged m (s.claimSpi e) = (s.claimSpi e, ans st)) :
        (s.writeMsg e staged m).answered e st := (State.writeMsg_refused hruns hstill hbody).answered
    refine ⟨_, hexec, fun hunused => ?_, fun hused hnone hsub => ?_, fun hused hsub => ?_⟩
    · exact answered (.noObject) ((writeBodyOf_unfound hindex (Ent.find_unused hunused)).trans (by simp [hunused]))
    · exact answered (.noSub) ((writeBodyOf_unfound hindex hnone).trans (by simp [hused, hsub]))
    · exact answered (.access) ((writeBodyOf_unfound hindex (by rw [hsub]; exact Ent.find_zero _)).trans
        (by simp [hused, hsub]))

end Sys2Proof.Machine
end

section
/-! PROOF. A READ returns the bytes of the value that an entry shows, and nothing else changes (R265, R269, R280, R283,
R300). -/

namespace Sys2Proof.Machine

variable {s t : State} {e : Env} {m : EntryMsg} {x : Ent} {i : Nat}

/-! What a READ shows does not rest on the maintenance port's flags. -/

theorem State.claimSpi_derived (s : State) (e : Env) (x : Ent) (i : Nat) :
    (s.claimSpi e).derived x i = s.derived x i := by
  unfold State.claimSpi
  split <;> rfl

theorem State.claimSpi_shownValue (s : State) (e : Env) (x : Ent) (i : Nat) (staged : Bool) :
    (s.claimSpi e).shownValue x i staged = s.shownValue x i staged := by
  unfold State.claimSpi
  split <;> rfl

theorem State.claimSpi_savedState (s : State) (e : Env) (j : Nat) : (s.claimSpi e).savedState j = s.savedState j := by
  unfold State.claimSpi
  split <;> rfl

/-! The cases of a READ of an entry. -/

/-- R278: a READ that finds an entry. -/
theorem readBody_found (hindex : m.index.toNat < 0xF000) (hfind : Ent.find m.index.toNat m.sub.toNat = some (x, i)) :
    readBody e m s =
      if x.info.acc = .wo then (s, ans .access)
      else if m.body ≠ [] then (s, ans .type)
      else readEntry e x i m.offset m.stagedView s := by
  unfold readBody
  rw [if_neg (Nat.not_le.2 hindex), hfind]

/-- R278: a READ, with no body, of an entry that may be read. -/
theorem readBody_readable (hindex : m.index.toNat < 0xF000)
    (hfind : Ent.find m.index.toNat m.sub.toNat = some (x, i)) (hacc : x.info.acc ≠ .wo) (hbody : m.body = []) :
    readBody e m s = readEntry e x i m.offset m.stagedView s := by
  rw [readBody_found hindex hfind, if_neg hacc, if_neg (not_not.2 hbody)]

/-- R269: an RO entry that no domain serves. -/
theorem readEntry_away {off : Nat} {view : Bool} (hacc : x.info.acc = .ro) (haway : s.served x i = false) :
    readEntry e x i off view s = (s, ans .state) :=
  if_pos ⟨hacc, by simp [haway]⟩

/-- The entries whose READ has an effect or a form of its own. -/
def readSpecials : List Ent := [.savedState, .eventPop, .capturePop, .authChallenge, .attestReport]

/-- R283: a READ of a value that the device makes. -/
def State.derivedReply (s : State) (x : Ent) (i : Nat) (v : Val) (off : Nat) : State × Ans :=
  if x = .blackBoxRecord then
    s.madeReply (s.mramScan (boxBase + 64 * s.rd .blackBoxSelect 0) 64) x i (x.info.encode v) off
  else match s.madeRevision x i with
  | some n => (s, countedReply x (x.info.encode v) n off)
  | none => s.madeReply s x i (x.info.encode v) off

/-- R269, R280, R283: a READ of any other entry that is served: the value that the device makes, or the register's. -/
theorem readEntry_plain {off : Nat} {view : Bool} (hserved : x.info.acc = .ro → s.served x i = true)
    (hx : x ∉ readSpecials) :
    readEntry e x i off view s = match s.derived x i with
      | some v => s.derivedReply x i v off
      | none => (s, if (s.registerReply x i off view).1 = .ok then .now (s.registerReply x i off view).2
          else ans (s.registerReply x i off view).1) := by
  simp only [readSpecials, List.mem_cons, List.not_mem_nil, or_false, not_or] at hx
  obtain ⟨hsaved, hpop, hcapture, hauth, hattest⟩ := hx
  unfold readEntry
  rw [if_neg (by simpa using hserved)]
  split
  · exact absurd rfl hpop
  · exact absurd rfl hcapture
  · exact absurd rfl hauth
  · exact absurd rfl hattest
  · exact absurd rfl hsaved
  · rfl

/-- R280, R283: of an entry that is held, the value that it shows. -/
theorem readEntry_register {off : Nat} {view : Bool} (hserved : x.info.acc = .ro → s.served x i = true)
    (hx : x ∉ readSpecials) (hheld : s.derived x i = none) :
    readEntry e x i off view s =
      if (x.info.encode (s.shownValue x i view)).length ≤ off then (s, ans .range)
      else (s, .now { body := ((x.info.encode (s.shownValue x i view)).drop off).take 4076, type := x.info.ty.code
                      total := (x.info.encode (s.shownValue x i view)).length
                      revision := SMap.get s.revs (key x i) 0 }) := by
  rw [readEntry_plain hserved hx, hheld]
  unfold State.registerReply
  dsimp only
  split <;> rfl

/-- What a reply shows of bytes from an offset, whatever its Revision (R283). -/
structure Shows (x : Ent) (b : Bytes) (off : Nat) (r : Reply) : Prop where
  status : r.status = .ok
  body : r.body = (b.drop off).take 4076
  total : r.total = b.length
  type : r.type = x.info.ty.code

theorem State.madeReply_shows (s t : State) {b : Bytes} {off : Nat} (hoff : off < b.length) :
    ∃ u r, s.madeReply t x i b off = (u, .now r) ∧ Shows x b off r := by
  unfold State.madeReply
  rw [if_neg (Nat.not_le.2 hoff)]
  exact ⟨_, _, rfl, rfl, rfl, rfl, rfl⟩

theorem countedReply_shows {b : Bytes} {n off : Nat} (hoff : off < b.length) :
    ∃ r, countedReply x b n off = .now r ∧ Shows x b off r := by
  unfold countedReply
  rw [if_neg (Nat.not_le.2 hoff)]
  exact ⟨_, rfl, rfl, rfl, rfl, rfl⟩

/-- R283: of an entry whose value the device makes, that value. -/
theorem State.derivedReply_shows (s : State) {v : Val} {off : Nat} (hoff : off < (x.info.encode v).length) :
    ∃ u r, s.derivedReply x i v off = (u, .now r) ∧ Shows x (x.info.encode v) off r := by
  unfold State.derivedReply
  split
  · exact State.madeReply_shows _ _ hoff
  · split
    · obtain ⟨r, hr, hshows⟩ := countedReply_shows (x := x) hoff
      exact ⟨s, r, by rw [hr], hshows⟩
    · exact State.madeReply_shows _ _ hoff

/-- R300: a READ of SavedState that no staged value stands in for. -/
theorem readEntry_savedState {off : Nat} : readEntry e .savedState i off false s = savedStateBody i off s := by
  unfold readEntry
  rw [if_neg (by simp [Ent.info])]
  rfl

theorem not_readSpecial_of_rw (hacc : x.info.acc = .rw) (hx : x ≠ .savedState) : x ∉ readSpecials := by
  simp only [readSpecials, List.mem_cons, List.not_mem_nil, or_false]
  rintro (rfl | rfl | rfl | rfl | rfl)
  · exact hx rfl
  all_goals simp [Ent.info] at hacc

/-- R273 to R277: a READ whose body gives a status alone. -/
theorem exec_read_answered {st : Status} (hruns : s.runs e false true) (hindex : m.index.toNat < 0xF000)
    (hbody : readBody e m (s.claimSpi e) = (s.claimSpi e, ans st)) :
    ∃ t, exec (.read e m) s = .next t ∧ t.answered e st ∧ ∀ y j, y.dropCounter = false → t.rdv y j = s.rdv y j :=
  ⟨_, exec_read hruns hindex hbody, State.finish_answered (s.claimSpi e) (msgReq e 0x10 m) st true,
    fun _ _ hy => (State.finish_rdv _ _ _ _ _ _ hy).trans (State.claimSpi_rdv ..)⟩

/-- Settles O22: each READ by what its body gives: the register's value, the value made, a SavedState, or a refusal. -/
theorem readsReturnValues : Obligations.ReadsReturnValues := by
  unfold Obligations.ReadsReturnValues
  refine ⟨?held, ?beyond, ?made, ?away, ?saved, ?writeOnly⟩
  case held =>
    intro e m x i s hruns hindex hfind hacc hserved hx hbody hheld hoff hsession
    have hread := (readBody_readable (e := e) (s := s.claimSpi e) hindex hfind hacc hbody).trans
      (readEntry_register (by simpa using hserved) hx ((s.claimSpi_derived e x i).trans hheld))
    rw [State.claimSpi_shownValue, if_neg (Nat.not_le.2 hoff)] at hread
    refine ⟨_, _, exec_read hruns hindex hread, State.finish_rep _ _ _ _ hsession, rfl, rfl, rfl, rfl, by simp,
      fun y j hy => (State.finish_rdv _ _ _ _ _ _ hy).trans (State.claimSpi_rdv ..)⟩
  case beyond =>
    intro e m x i s hruns hindex hfind hacc hx hbody hheld hoff
    have hread := (readBody_readable (e := e) (s := s.claimSpi e) hindex hfind (by simp [hacc]) hbody).trans
      (readEntry_register (by simp [hacc]) (not_readSpecial_of_rw hacc hx) ((s.claimSpi_derived e x i).trans hheld))
    rw [State.claimSpi_shownValue, if_pos hoff] at hread
    obtain ⟨t, hexec, hans, -⟩ := exec_read_answered hruns hindex hread
    exact ⟨t, hexec, hans⟩
  case made =>
    intro e m x i v s hruns hindex hfind hacc hserved hx hbody hmade hoff hsession
    have hread := (readBody_readable (e := e) (s := s.claimSpi e) hindex hfind hacc hbody).trans
      (readEntry_plain (by simpa using hserved) hx)
    obtain ⟨u, r, hreply, hstatus, hbytes, htotal, htype⟩ := (s.claimSpi e).derivedReply_shows (x := x) (i := i) hoff
    rw [State.claimSpi_derived, hmade] at hread
    exact ⟨_, r, exec_read hruns hindex (hread.trans hreply), State.finish_rep _ _ _ _ hsession, hstatus, hbytes, htotal,
      htype⟩
  case away =>
    intro e m x i s hruns hindex hfind hacc haway hbody
    have hread := readBody_readable (e := e) (s := s.claimSpi e) hindex hfind (by simp [hacc]) hbody
    exact exec_read_answered hruns hindex (hread.trans (readEntry_away hacc (by simpa using haway)))
  case saved =>
    rintro e m x i b s hruns hindex hfind rfl hbody hview hsaved hoff hsession
    have hread := readBody_readable (e := e) (s := s.claimSpi e) hindex hfind (by simp [Ent.info]) hbody
    obtain ⟨r, hr, hstatus, hbytes, -, -⟩ := countedReply_shows (x := .savedState)
      (n := SMap.get (s.claimSpi e).revs (key .savedState i) 0) hoff
    rw [hview, readEntry_savedState, savedStateBody, State.claimSpi_savedState, hsaved] at hread
    dsimp only at hread
    rw [hr] at hread
    exact ⟨_, r, exec_read hruns hindex hread, State.finish_rep _ _ _ _ hsession, hstatus, hbytes⟩
  case writeOnly =>
    intro e m x i s hruns hindex hfind hacc
    obtain ⟨t, hexec, hans, -⟩ := exec_read_answered hruns hindex
      ((readBody_found (e := e) (s := s.claimSpi e) hindex hfind).trans (if_pos hacc))
    exact ⟨t, hexec, hans⟩

end Sys2Proof.Machine
end

section
/-! PROOF. A write of an IMMEDIATE entry acts at once; one of another class, and a WRITE_STAGED, is staged (R279, R280). -/

namespace Sys2Proof.Machine

variable {s t : State} {e : Env} {m : EntryMsg} {x : Ent} {i : Nat}

theorem State.claimSpi_entryCheck (s : State) (e : Env) (x : Ent) (i : Nat) (v : Val) :
    (s.claimSpi e).entryCheck x i v = s.entryCheck x i v := by
  unfold State.claimSpi
  split <;> rfl

/-- R280: a write of the entry is staged: it is a WRITE_STAGED, or the entry takes effect with a commit. -/
def Ent.stages (x : Ent) (opStaged : Bool) : Bool := opStaged || x.info.cls = .refresh || x.info.cls = .frame

theorem Ent.stages_true : x.stages true = true := rfl

theorem Ent.stages_deferred {staged : Bool} (hcls : x.info.cls = .refresh ∨ x.info.cls = .frame) :
    x.stages staged = true := by
  unfold Ent.stages
  rcases hcls with h | h <;> simp [h]

theorem Ent.stages_immediate (hcls : x.info.cls = .immediate) : x.stages false = false := by
  simp [Ent.stages, hcls]

/-- R267, R278, R282: the message brings a whole value of a length that the entry's type allows, and no segment is open. -/
structure WholeValue (s : State) (e : Env) (m : EntryMsg) (x : Ent) : Prop where
  whole : Machine.EntryMsg.isSegment m = false
  closed : (s.session (sessionOf e)).seg = none
  length : x.info.ty.scalar = true → m.body.length = x.info.elt

theorem WholeValue.claimSpi (h : WholeValue s e m x) : WholeValue (s.claimSpi e) e m x :=
  ⟨h.whole, (congrArg Session.seg (State.claimSpi_session ..)).trans h.closed, h.length⟩

/-- R280: a value that would be staged while another session owns staging. -/
theorem State.writeSegments_busy {staged : Bool} (hlength : x.info.ty.scalar = true → m.body.length = x.info.elt)
    (hstages : x.stages staged = true) (hheld : s.stagingHeld (sessionOf e) = true) :
    s.writeSegments e x i staged m = s.refused e x .busy := by
  have hlen : ¬ (!Machine.EntryMsg.isSegment m ∧ x.info.ty.scalar ∧ m.body.length ≠ x.info.elt) :=
    fun ⟨_, hscalar, hne⟩ => hne (hlength hscalar)
  unfold State.writeSegments
  dsimp only
  rw [if_neg hlen]
  exact if_pos (Bool.and_eq_true_iff.2 ⟨hstages, hheld⟩)

/-- R278, R280: a whole value of an entry that is read and written is staged, or has the entry's effect. -/
theorem State.writeSegments_whole {staged : Bool} (h : WholeValue s e m x) (hacc : x.info.acc = .rw)
    (hfree : x.stages staged = true → s.stagingHeld (sessionOf e) = false) :
    s.writeSegments e x i staged m =
      if x.stages staged then ((s.stageWrite e x i (x.info.decode m.body)).1, ans (s.stageWrite e x i (x.info.decode m.body)).2)
      else writeEff e x i (x.info.decode m.body) s := by
  have hlen : ¬ (x.info.ty.scalar ∧ m.body.length ≠ x.info.elt) := fun ⟨hscalar, hne⟩ => hne (h.length hscalar)
  have hheld : ¬ (x.stages staged && s.stagingHeld (sessionOf e)) = true := by
    rw [Bool.and_eq_true]
    rintro ⟨hstages, hheld⟩
    exact absurd (hheld.symm.trans (hfree hstages)) (by decide)
  unfold State.writeSegments
  dsimp only
  rw [if_neg (fun hc => hlen hc.2), show (staged || decide (x.info.cls = .refresh) || decide (x.info.cls = .frame))
    = x.stages staged from rfl, if_neg hheld, h.closed]
  dsimp only
  rw [h.whole, if_pos (show (!false) = true from rfl)]
  unfold State.writeWhole
  rw [if_neg hlen, if_neg (by simp [hacc])]

/-! What staging a value leaves (R280). -/

/-- R280: the state in which a session has staged a value. -/
def State.stagedBy (s : State) (n : Nat) (x : Ent) (i : Nat) (v : Val) : State :=
  (s.setStaged (restage (key x i) v s.mgmt.staged)).wr .stagingOwner 0 n

/-- R280: what a value must meet to be staged: its entry's own checks, the effect of an IMMEDIATE entry, and room. -/
structure Stageable (s : State) (e : Env) (x : Ent) (i : Nat) (v : Val) : Prop where
  check : s.entryCheck x i v = none
  effect : x.info.cls = .immediate → (writeEff e x i v s).2.refusal = none
  room : ({ s with mgmt := { s.mgmt with staged := restage (key x i) v s.mgmt.staged } } : State).stagedTotal ≤ 524288

theorem State.stageWrite_stageable {v : Val} (h : Stageable s e x i v) :
    s.stageWrite e x i v = (s.stagedBy (sessionOf e) x i v, .ok) := by
  obtain ⟨made, hmade⟩ := s.setStaged_form (restage (key x i) v s.mgmt.staged)
  have hroom : ¬ 524288 < (s.setStaged (restage (key x i) v s.mgmt.staged)).stagedTotal := by
    rw [hmade]
    exact Nat.not_lt.2 h.room
  have hstage : s.stage (sessionOf e) x i v = (s.stagedBy (sessionOf e) x i v, .ok) := by
    unfold State.stage
    rw [h.check]
    exact if_neg hroom
  have hrefused : (if x.info.cls = .immediate then (writeEff e x i v s).2.refusal else none) = none := by
    split
    · exact h.effect ‹_›
    · rfl
  unfold State.stageWrite
  dsimp only
  rw [hrefused]
  dsimp only
  rw [hstage, if_pos rfl]

theorem Stageable.claimSpi {v : Val} (hcheck : s.entryCheck x i v = none)
    (heffect : x.info.cls = .immediate → (writeEff e x i v (s.claimSpi e)).2.refusal = none)
    (hroom : ({ s with mgmt := { s.mgmt with staged := restage (key x i) v s.mgmt.staged } } : State).stagedTotal
      ≤ 524288) : Stageable (s.claimSpi e) e x i v := by
  refine ⟨(State.claimSpi_entryCheck ..).trans hcheck, heffect, ?_⟩
  rw [State.claimSpi_mgmt_staged]
  exact hroom

/-- What a session's staging of a value changes: the values staged and the owner (R280). -/
structure StagedOnce (s t : State) (n : Nat) (x : Ent) (i : Nat) (v : Val) : Prop where
  staged : t.mgmt.staged = restage (key x i) v s.mgmt.staged
  owner : t.rd .stagingOwner 0 = n
  rdv : ∀ y j, y ≠ .stagingOwner → t.rdv y j = s.rdv y j
  still : s.still → t.still
  stores : t.secure.stores = s.secure.stores

theorem State.stagedBy_once (s : State) (n : Nat) (x : Ent) (i : Nat) (v : Val) : StagedOnce s (s.stagedBy n x i v) n x i v := by
  obtain ⟨made, hmade⟩ := s.setStaged_form (restage (key x i) v s.mgmt.staged)
  unfold State.stagedBy
  rw [hmade]
  refine ⟨by simp, by simp, fun y j hy => ?_, fun hstill => by simpa [State.still] using hstill, by simp⟩
  exact (State.wr_rdv ..).trans (if_neg fun h => hy h.1.symm)

/-- R280: a value staged for its session: the message is answered, the value staged, and the session owns staging. -/
structure MessageStaged (s t : State) (e : Env) (x : Ent) (i : Nat) (v : Val) : Prop where
  answered : t.answered e .ok
  staged : t.mgmt.staged = restage (key x i) v s.mgmt.staged
  owner : t.rd .stagingOwner 0 = sessionOf e
  rdv : ∀ y j, y.dropCounter = false → y ≠ .stagingOwner → t.rdv y j = s.rdv y j

/-- R278, R280: a whole value that is staged, and may be. -/
theorem State.writeMsg_staged {staged : Bool} (hruns : s.runs e false false) (hindex : m.index.toNat < 0xF000)
    (hstill : s.still) (hfind : Ent.find m.index.toNat m.sub.toNat = some (x, i)) (hguard : x.guarded = false)
    (hacc : x.info.acc = .rw) (hwhole : WholeValue s e m x) (hstages : x.stages staged = true)
    (hfree : s.stagingHeld (sessionOf e) = false) (hvalue : Stageable (s.claimSpi e) e x i (x.info.decode m.body)) :
    MessageStaged s (s.writeMsg e staged m) e x i (x.info.decode m.body) := by
  have hbody : writeBodyOf e staged m (s.claimSpi e)
      = ((s.claimSpi e).stagedBy (sessionOf e) x i (x.info.decode m.body), ans .ok) := by
    rw [writeBodyOf_writable hindex hfind hguard hacc,
      State.writeSegments_whole hwhole.claimSpi hacc (fun _ => by simpa using hfree), if_pos hstages,
      State.stageWrite_stageable hvalue]
  obtain ⟨hstaged, howner, hrdv, hkeeps, hstores⟩ :=
    (s.claimSpi e).stagedBy_once (sessionOf e) x i (x.info.decode m.body)
  have hdone := State.writeMsg_done hruns hbody (hkeeps (State.claimSpi_still hstill)) (hstores.trans (by simp))
  exact ⟨hdone.answered, hdone.staged.trans (hstaged.trans (by simp)), (hdone.rd rfl 0).trans howner,
    fun y j hdrop hy => (hdone.rdv y j hdrop).trans ((hrdv y j hy).trans (by simp))⟩

/-- R280: a value of an entry that is staged, while another session owns staging. -/
theorem State.writeMsg_busy {staged : Bool} (hruns : s.runs e false false) (hindex : m.index.toNat < 0xF000)
    (hstill : s.still) (hfind : Ent.find m.index.toNat m.sub.toNat = some (x, i)) (hguard : x.guarded = false)
    (hacc : x.info.acc = .rw) (hlength : x.info.ty.scalar = true → m.body.length = x.info.elt)
    (hstages : x.stages staged = true) (hheld : s.stagingHeld (sessionOf e) = true) :
    MessageDone e .busy s (s.writeMsg e staged m) := by
  have htoken : x ≠ .ownerToken := by
    rintro rfl
    simp [Ent.info] at hacc
  refine State.writeMsg_refused hruns hstill ?_
  rw [writeBodyOf_writable hindex hfind hguard hacc, State.writeSegments_busy hlength hstages (by simpa using hheld)]
  unfold State.refused
  rw [if_neg htoken]

/-! A plain write takes effect at once (R279). -/

theorem plainEff_accepted {v : Val} (hcheck : s.entryCheck x i v = none) :
    ∃ u, plainEff x i v s = (u.wrv x i (writtenForm x v), ans .ok) ∧ (u = s ∨ u = s.keepOutput i) := by
  unfold plainEff
  rw [hcheck]
  dsimp only
  split
  · exact ⟨_, rfl, .inr rfl⟩
  · exact ⟨_, rfl, .inl rfl⟩

/-- R279: what an accepted plain write leaves. -/
structure PlainWritten (s t : State) (x : Ent) (i : Nat) (v : Val) : Prop where
  value : t.rdv x i = writtenForm x v
  rdv : ∀ y j, key y j ≠ key x i → t.rdv y j = s.rdv y j
  staged : t.mgmt.staged = s.mgmt.staged
  still : s.still → t.still
  stores : t.secure.stores = s.secure.stores

theorem PlainWritten.of_accepted {v : Val} {u : State} (hu : u = s ∨ u = s.keepOutput i) :
    PlainWritten s (u.wrv x i (writtenForm x v)) x i v := by
  have hsame : (∀ y j, u.rdv y j = s.rdv y j) ∧ u.mgmt = s.mgmt ∧ u.secure = s.secure := by
    rcases hu with rfl | rfl
    · exact ⟨fun _ _ => rfl, rfl, rfl⟩
    · exact ⟨fun _ _ => rfl, rfl, rfl⟩
  obtain ⟨hrdv, hmgmt, hsecure⟩ := hsame
  refine ⟨by simp, fun y j hkey => ?_, by simp [hmgmt], fun h => by simpa [State.still, hmgmt, hsecure] using h,
    by simp [hsecure]⟩
  rw [State.wrv_rdv, if_neg (fun h => hkey ((key_inj ..).2 ⟨h.1.symm, h.2.symm⟩)), hrdv]

/-- R71, R72: the drop counters are written at once. -/
theorem Ent.cls_of_dropCounter (h : x.dropCounter = true) : x.info.cls = .immediate := by
  simp only [Ent.dropCounter, Bool.or_eq_true, decide_eq_true_eq, or_assoc] at h
  rcases h with rfl | rfl | rfl | rfl <;> simp [Ent.info]

/-- Settles O24: a plain write by its effect, a staged value by what staging leaves, another session's by E_BUSY. -/
theorem writesApplyOrStage : Obligations.WritesApplyOrStage := by
  unfold Obligations.WritesApplyOrStage
  refine ⟨?applied, ?deferred, ?stagedBusy, ?writeBusy, ?immediate⟩
  case applied =>
    intro e m x i s hruns hindex hstill hfind hguard hacc hcls hplain hseg hclosed hlength _ hcheck hdrop
    have hwhole : WholeValue s e m x := ⟨hseg, hclosed, hlength⟩
    obtain ⟨u, heff, hu⟩ := plainEff_accepted ((State.claimSpi_entryCheck s e x i _).trans hcheck)
    have hbody : writeBodyOf e false m (s.claimSpi e) = (u.wrv x i (writtenForm x (x.info.decode m.body)), ans .ok) := by
      rw [writeBodyOf_writable hindex hfind hguard hacc, State.writeSegments_whole hwhole.claimSpi hacc
        (by simp [Ent.stages_immediate hcls]), Ent.stages_immediate hcls, if_neg Bool.false_ne_true, hplain, heff]
    obtain ⟨hvalue, hrdv, hstaged, hkeeps, hstores⟩ := PlainWritten.of_accepted (x := x) (v := x.info.decode m.body) hu
    have hdone := State.writeMsg_done hruns hbody (hkeeps (State.claimSpi_still hstill)) (hstores.trans (by simp))
    exact ⟨_, exec_write hindex, (hdone.rdv x i hdrop).trans hvalue, hdone.answered,
      hdone.staged.trans (hstaged.trans (by simp)),
      fun y j hy hkey => (hdone.rdv y j hy).trans ((hrdv y j hkey).trans (by simp))⟩
  case deferred =>
    intro e m x i s hruns hindex hstill hfind hguard hacc hcls hseg hclosed hfree hlength _ hcheck hroom
    have hwhole : WholeValue s e m x := ⟨hseg, hclosed, hlength⟩
    have hvalue : Stageable (s.claimSpi e) e x i (x.info.decode m.body) :=
      Stageable.claimSpi hcheck (fun h => by rw [h] at hcls; simp at hcls) hroom
    have hwrite := State.writeMsg_staged hruns hindex hstill hfind hguard hacc hwhole
      (Ent.stages_deferred (staged := false) hcls) hfree hvalue
    have hstage := State.writeMsg_staged hruns hindex hstill hfind hguard hacc hwhole Ent.stages_true hfree hvalue
    exact ⟨_, _, exec_write hindex, exec_writeStaged hindex, hwrite.staged, hstage.staged.trans hwrite.staged.symm,
      hwrite.owner, hstage.owner, hwrite.answered, hstage.answered,
      fun y j hdrop hy => ⟨hwrite.rdv y j hdrop hy, hstage.rdv y j hdrop hy⟩⟩
  case stagedBusy =>
    intro e m x i s hruns hindex hstill hfind hguard hacc hlength hheld
    have hdone := State.writeMsg_busy hruns hindex hstill hfind hguard hacc hlength Ent.stages_true hheld
    exact ⟨_, exec_writeStaged hindex, hdone.answered, hdone.staged⟩
  case writeBusy =>
    intro e m x i s hruns hindex hstill hfind hguard hacc hcls hlength hheld
    have hdone := State.writeMsg_busy hruns hindex hstill hfind hguard hacc hlength
      (Ent.stages_deferred (staged := false) hcls) hheld
    refine ⟨_, exec_write hindex, hdone.answered, hdone.staged, hdone.rdv x i ?_⟩
    by_contra hdrop
    rw [Ent.cls_of_dropCounter (by simpa using hdrop)] at hcls
    simp at hcls
  case immediate =>
    intro e m x i s hruns hindex hstill hfind hguard hacc hcls hplain hseg hclosed hfree hlength _ hcheck hroom
    have hvalue : Stageable (s.claimSpi e) e x i (x.info.decode m.body) := by
      refine Stageable.claimSpi hcheck (fun _ => ?_) hroom
      obtain ⟨u, heff, -⟩ := plainEff_accepted ((State.claimSpi_entryCheck s e x i _).trans hcheck)
      rw [hplain, heff]
      rfl
    have hstage := State.writeMsg_staged hruns hindex hstill hfind hguard hacc ⟨hseg, hclosed, hlength⟩ Ent.stages_true
      hfree hvalue
    exact ⟨_, exec_writeStaged hindex, hstage.staged, hstage.owner, hstage.answered, hstage.rdv⟩

end Sys2Proof.Machine
end

section
/-! PROOF. Where the model stops: the restricted range of an authorised session, and a burst outside its stores (R187, R203,
R270, R332). -/

namespace Sys2Proof.Machine

variable {s : State} {e : Env} {m : EntryMsg}

/-- R270, R332: on a session that a request runs on, the range stops the model exactly where the session is authorised. -/
theorem State.restricted_of_ge {isRead : Bool} (hindex : 0xF000 ≤ m.index.toNat) (hruns : s.runs e false isRead) :
    s.restricted e isRead m = s.authorised e := by
  obtain ⟨hjudge, hfree⟩ := hruns
  simp [State.restricted, restrictedFor, hindex, hfree, hjudge]

theorem State.restricted_index {isRead : Bool} (h : s.restricted e isRead m = true) : 0xF000 ≤ m.index.toNat := by
  simp only [State.restricted, restrictedFor, Bool.and_eq_true, decide_eq_true_eq] at h
  exact h.1.1.1

/-- R270: a request that may name the restricted range. -/
def Names (e : Env) (m : EntryMsg) (c : Instr) : Prop := c = .read e m ∨ c = .write e m ∨ c = .writeStaged e m

/-- A command ends in a next state, or by one of the two stops. -/
inductive EndsOrStops (c : Instr) : Host.Outcome State Fault Refusal → Prop where
  | ends (t : State) : EndsOrStops c (.next t)
  | outside (l : Fin 512) (h : c = .burstCompute l) : EndsOrStops c (.fault .quarryOutside)
  | restricted (e : Env) (m : EntryMsg) (h : Names e m c) (hindex : 0xF000 ≤ m.index.toNat) :
      EndsOrStops c (.refused .restrictedDiagnostics)

theorem EndsOrStops.request {c : Instr} {isRead : Bool} {t : State} (h : Names e m c) :
    EndsOrStops c (if s.restricted e isRead m then .refused .restrictedDiagnostics else .next t) := by
  split
  · exact .restricted e m h (State.restricted_index ‹_›)
  · exact .ends _

theorem exec_endsOrStops (c : Instr) (s : State) : EndsOrStops c (exec c s) := by
  cases c with
  | read e m => exact .request (.inl rfl)
  | write e m => exact .request (.inr (.inl rfl))
  | writeStaged e m => exact .request (.inr (.inr rfl))
  | burstCompute l =>
    show EndsOrStops _ (execBurstCompute l s)
    unfold execBurstCompute
    split
    · exact .outside l rfl
    · exact .ends _
  | _ => exact .ends _

/-- R270: what a request of the restricted range does on a session that is not authorised. -/
theorem exec_read_restricted (hindex : 0xF000 ≤ m.index.toNat) (hruns : s.runs e false true)
    (hauth : s.authorised e = false) : ∃ t, exec (.read e m) s = .next t ∧ t.answered e .auth := by
  have hbody : readBody e m (s.claimSpi e) = (s.claimSpi e, ans .auth) := if_pos hindex
  refine ⟨(s.claimSpi e).finish (msgReq e 0x10 m) (ans .auth) true, ?_, State.finish_answered _ (msgReq e 0x10 m) _ _⟩
  show execRead e m s = _
  unfold execRead
  rw [State.restricted_of_ge hindex hruns, hauth, if_neg Bool.false_ne_true,
    State.request_run _ _ _ _ _ hruns.1 hruns.2, show (msgReq e 0x10 m).env = e from rfl, hbody]

theorem State.writeMsg_restricted (staged : Bool) (hindex : 0xF000 ≤ m.index.toNat) (hruns : s.runs e false false)
    (hstill : s.still) : (s.writeMsg e staged m).answered e .auth :=
  (State.writeMsg_refused (staged := staged) (st := .auth) hruns hstill (if_pos hindex)).answered

/-- Settles O23: the restricted range by what its requests do there, and every other command by its arm, which ends in a
next state. -/
theorem onlyTwoStops : Obligations.OnlyTwoStops := by
  unfold Obligations.OnlyTwoStops
  refine ⟨⟨fun e m s hindex hruns => ?read, fun e m s hindex hruns => ?write⟩, fun l s hrun hinside => ?burst,
    fun c s f hexec => ?fault, fun c s r hexec => ?refusal⟩
  case read =>
    refine ⟨fun hauth => ?_, exec_read_restricted hindex hruns⟩
    exact if_pos ((State.restricted_of_ge hindex hruns).trans hauth)
  case write =>
    have hrestricted := State.restricted_of_ge (m := m) hindex hruns
    refine ⟨fun hauth => ⟨if_pos (hrestricted.trans hauth), if_pos (hrestricted.trans hauth)⟩, fun hauth hstill => ?_⟩
    have hopen : ¬ s.restricted e false m = true := by simp [hrestricted, hauth]
    exact ⟨_, _, if_neg hopen, State.writeMsg_restricted false hindex hruns hstill, if_neg hopen,
      State.writeMsg_restricted true hindex hruns hstill⟩
  case burst => exact if_pos (by simp [hrun, hinside])
  case fault =>
    have hstop := exec_endsOrStops c s
    rw [hexec] at hstop
    cases hstop with
    | outside l h => exact ⟨rfl, l, h⟩
  case refusal =>
    have hstop := exec_endsOrStops c s
    rw [hexec] at hstop
    cases hstop with
    | restricted e m h hindex => exact ⟨rfl, e, m, h, hindex⟩

end Sys2Proof.Machine
end

section
/-! PROOF. Events are queued, or coalesced and counted, and EventPop takes the oldest (R292, R293). -/

namespace Sys2Proof.Machine

variable {s t : State} {e : Env}

/-! An event that is raised (R293). -/

/-- R326: what the black box takes of an event: of the entries its own counter alone changes, and neither the event queue nor
the coalescing of events. -/
structure BoxTakes (s t : State) : Prop where
  mgmt : t.mgmt = s.mgmt
  coal : t.aon.coal = s.aon.coal
  rdv : ∀ x i, x ≠ .blackBoxCoalesced → t.rdv x i = s.rdv x i

theorem BoxTakes.bbPut (s : State) (kind : Nat) (r : EventRec) : BoxTakes s (s.bbPut kind r) := by
  obtain ⟨q, c, regs, revs, h, hrdv⟩ := s.bbPut_form kind r
  rw [h]
  exact ⟨rfl, rfl, hrdv⟩

theorem BoxTakes.rd (h : BoxTakes s t) {x : Ent} (i : Nat) (hx : x ≠ .blackBoxCoalesced) : t.rd x i = s.rd x i :=
  congrArg (·.headD 0) (h.rdv x i hx)

/-- R292, R326: an event is counted, queued or coalesced, and then shown to the black box. -/
theorem State.raise_boxTakes (s : State) (x : Event) (names : List Nat) :
    BoxTakes ((s.count .eventsRaised 0).queueEvent (s.record x names)) (s.raise x names) := by
  unfold State.raise
  dsimp only
  split
  · exact .bbPut ..
  · exact ⟨rfl, rfl, fun _ _ _ => rfl⟩

theorem State.queueEvent_rd (s : State) (r : EventRec) {x : Ent} (i : Nat) (hx : x ≠ .eventsCoalesced) :
    (s.queueEvent r).rd x i = s.rd x i := by
  obtain ⟨q, c, regs, revs, h, hrdv⟩ := s.queueEvent_form r
  rw [h]
  exact congrArg (·.headD 0) (hrdv x i hx)

/-- R293: each event is counted. -/
theorem State.raise_eventsRaised (s : State) (x : Event) (names : List Nat) :
    (s.raise x names).rd .eventsRaised 0 = min (s.rd .eventsRaised 0 + 1) 0xFFFFFFFF := by
  rw [(s.raise_boxTakes x names).rd 0 (by decide), State.queueEvent_rd _ _ 0 (by decide)]
  simp

/-- R293: the queue has room for an event. -/
def State.takesEvents (s : State) : Bool := s.on 9 && decide (s.mgmt.events.length < 256)

theorem State.queueEvent_room (r : EventRec) (h : s.takesEvents = true) :
    s.queueEvent r = { s with mgmt := s.mgmt.withEvents (s.mgmt.events ++ [r]) } := if_pos h

theorem State.queueEvent_full (r : EventRec) (h : s.takesEvents = false) :
    s.queueEvent r = { s.count .eventsCoalesced 0 with aon := { (s.count .eventsCoalesced 0).aon with
      coal := SMap.put (s.count .eventsCoalesced 0).aon.coal r.ev.cls
        ((SMap.get (s.count .eventsCoalesced 0).aon.coal r.ev.cls {}).add (s.count .eventsCoalesced 0).now) } } :=
  if_neg (by simp only [State.takesEvents] at h; simp [h])

theorem State.count_takesEvents (s : State) : (s.count .eventsRaised 0).takesEvents = s.takesEvents := by
  simp [State.takesEvents]

/-- R293: an event that finds room is queued, and nothing is coalesced. -/
theorem State.raise_queued (x : Event) (names : List Nat) (h : s.takesEvents = true) :
    (s.raise x names).mgmt.events = s.mgmt.events ++ [s.record x names]
      ∧ (s.raise x names).rd .eventsCoalesced 0 = s.rd .eventsCoalesced 0 := by
  have hbox := s.raise_boxTakes x names
  rw [State.queueEvent_room _ (s.count_takesEvents.trans h)] at hbox
  refine ⟨(congrArg (·.events) hbox.mgmt).trans (by simp [Mgmt.withEvents]), (hbox.rd 0 (by decide)).trans ?_⟩
  exact (State.count_rd ..).trans (if_neg (by decide))

/-- R293: an event that finds no room is coalesced under its class and counted. -/
theorem State.raise_coalesced (x : Event) (names : List Nat) (h : s.takesEvents = false) :
    (s.raise x names).mgmt.events = s.mgmt.events
      ∧ (s.raise x names).rd .eventsCoalesced 0 = min (s.rd .eventsCoalesced 0 + 1) 0xFFFFFFFF
      ∧ (SMap.get (s.raise x names).aon.coal x.cls {}).last = s.now := by
  have hbox := s.raise_boxTakes x names
  rw [State.queueEvent_full _ (s.count_takesEvents.trans h)] at hbox
  refine ⟨(congrArg (·.events) hbox.mgmt).trans (by simp), (hbox.rd 0 (by decide)).trans ?_, ?_⟩
  · exact (State.count_rd ..).trans ((if_pos ⟨rfl, rfl⟩).trans (by simp))
  · rw [hbox.coal]
    simp [State.record, Coal.add]

/-! The oldest event is read (R293). -/

theorem cal80_length (n : Int) : (cal80 n).length = 10 := by
  simp [cal80]

theorem EventRec.detail_length (r : EventRec) : r.detail.length = 24 := by
  unfold EventRec.detail
  split
  · simp
  · simp only [List.length_take, List.length_append, List.length_map, List.length_replicate]
    omega
  · simp

/-- Table 12.11. -/
theorem EventRec.bytes_length (r : EventRec) : r.bytes.length = 48 := by
  simp [EventRec.bytes, cal80_length, EventRec.detail_length]

/-- R293: with nothing coalesced no summary takes a freed place. -/
theorem State.summarise_none (n : Nat) (h : s.aon.coal = []) : State.summarise n s = s := by
  cases n with
  | zero => rfl
  | succ n =>
    unfold State.summarise
    rw [h]
    split
    · rfl
    · rfl

theorem eventPopBody_oldest {x : EventRec} {l : List EventRec} (hevents : s.mgmt.events = x :: l) (hcoal : s.aon.coal = []) :
    ∃ (t : State) (r : Reply), eventPopBody 0 s = (t, .now r) ∧ t.mgmt.events = l ∧ t.regs = s.regs ∧ r.status = .ok ∧ r.body = x.bytes
      ∧ r.total = 48 := by
  unfold eventPopBody
  rw [hevents]
  dsimp only
  rw [if_neg (by decide)]
  refine ⟨_, _, rfl, ?_, ?_, rfl, ?_, x.bytes_length⟩
  · rw [State.summarise_none]
    · rfl
    · exact hcoal
  · rw [State.summarise_none]
    · rfl
    · exact hcoal
  · exact List.take_of_length_le (by simp [EventRec.bytes_length])

/-- R273, R277: an EVENT_POP that its session lets run. -/
theorem exec_eventPop {a : Ans} (hruns : s.runs e false true) (hbody : eventPopBody 0 (s.claimSpi e) = (t, a)) :
    exec (.eventPop e) s = .next (t.finish (reqOf e 0x10 .eventPop 0) a true) := by
  refine congrArg Host.Outcome.next ?_
  rw [State.request_run _ _ _ _ _ hruns.1 hruns.2, reqOf_env, hbody]

theorem State.rdv_of_regs (h : t.regs = s.regs) (x : Ent) (i : Nat) : t.rdv x i = s.rdv x i := by
  unfold State.rdv
  rw [h]

/-- Settles O28: EventPop by its body, an event by whether the queue has room. -/
theorem eventsAreKept : Obligations.EventsAreKept := by
  unfold Obligations.EventsAreKept
  refine ⟨⟨fun e x l s hruns hsession hevents hcoal => ?oldest, fun e s hruns hevents => ?empty⟩,
    fun x l s hraised hcoalesced => ?raised⟩
  case oldest =>
    obtain ⟨t, r, hbody, hleft, hregs, hstatus, hbytes, htotal⟩ :=
      eventPopBody_oldest (s := s.claimSpi e) ((s.claimSpi_mgmt_events e).trans hevents) (by simpa using hcoal)
    exact ⟨_, r, exec_eventPop hruns hbody, (State.finish_mgmt_events ..).trans hleft, State.finish_rep _ _ _ _ hsession,
      hstatus, hbytes, htotal, fun y j hy => (State.finish_rdv _ _ _ _ _ _ hy).trans
        ((State.rdv_of_regs hregs y j).trans (State.claimSpi_rdv ..))⟩
  case empty =>
    have hnone : (s.claimSpi e).mgmt.events = [] := (s.claimSpi_mgmt_events e).trans hevents
    have hbody : eventPopBody 0 (s.claimSpi e) = (s.claimSpi e, ans .state) := by
      unfold eventPopBody
      rw [hnone]
    exact ⟨_, exec_eventPop hruns hbody, State.finish_answered (s.claimSpi e) (reqOf e 0x10 .eventPop 0) .state true,
      (State.finish_mgmt_events ..).trans hnone⟩
  case raised =>
    refine ⟨(s.raise_eventsRaised x l).trans (by omega), ?_⟩
    split
    · exact State.raise_queued x l ‹_›
    · obtain ⟨hkept, hcount, hlast⟩ := State.raise_coalesced (s := s) x l (Bool.eq_false_iff.2 ‹_›)
      exact ⟨hkept, hcount.trans (by omega), hlast⟩

end Sys2Proof.Machine
end

section
/-! PROOF. The maintenance port takes SENDs, clocks out FETCHes and reports STATUS (R288, R289). -/

namespace Sys2Proof.Machine

variable {s : State} {b m : Bytes}

/-- R288: a SEND that is good while neither BUSY nor READY holds waits for the core. -/
theorem spiSendEff_good (hon : s.on 9 = true) (hmsg : sendMessage b false = some m) (hbusy : s.mgmt.spiBusy = false)
    (hreply : s.mgmt.spiReply = none) :
    spiSendEff b false s = { s with mgmt := { s.mgmt with
      spiFault := false, spiBusy := true, inbox := s.mgmt.inbox ++ [{ env := spiEnv, bytes := (Req.ofBytes spiEnv m).bytes }] } } := by
  have hjudge (o r : Bool) : s.judge spiEnv o r = .run := by
    simp [State.judge, hon, spiEnv, State.spiFree, hbusy, hreply]
  unfold spiSendEff
  rw [if_neg (by simp [hon]), hmsg]
  dsimp only
  unfold State.takeIn State.arrive
  dsimp only
  rw [show (Req.ofBytes spiEnv m).env = spiEnv from rfl, hjudge]
  rfl

/-- R288: any other SEND sets FAULT. -/
theorem spiSendEff_fault {early : Bool} (hon : s.on 9 = true)
    (hbad : sendMessage b early = none ∨ s.mgmt.spiBusy = true ∨ s.mgmt.spiReply ≠ none) :
    spiSendEff b early s = { s with mgmt := { s.mgmt with spiFault := true } } := by
  unfold spiSendEff
  rw [if_neg (by simp [hon])]
  cases hmsg : sendMessage b early with
  | none => rfl
  | some m =>
    have hfree : s.spiFree = false := by
      rcases hbad with h | h | h
      · rw [hmsg] at h
        cases h
      · simp [State.spiFree, h]
      · simp [State.spiFree, Option.isNone_eq_false_iff, Option.isSome_iff_ne_none, h]
    have hjudge (o r : Bool) : s.judge spiEnv o r = .fault := by simp [State.judge, hon, spiEnv, hfree]
    dsimp only
    unfold State.takeIn State.arrive
    dsimp only
    rw [show (Req.ofBytes spiEnv m).env = spiEnv from rfl, hjudge]

theorem fetchBytes_length (r : Option Bytes) : (fetchBytes r).length = (r.getD []).length + 4 := by
  simp only [fetchBytes, List.length_append, leBytes_length]
  omega

/-- R288, R289: what a FETCH of `n` bytes leaves: the bytes clocked out, and no reply where it was clocked whole. -/
def State.fetched (s : State) (n : Nat) : State :=
  { s with mgmt := { s.mgmt with
    spiOut := (fetchBytes s.mgmt.spiReply).take n
    spiReply := if (s.mgmt.spiReply.getD []).length + 4 ≤ n then none else s.mgmt.spiReply } }

theorem spiFetchEff_on (n : Nat) (hon : s.on 9 = true) : spiFetchEff n s = (s.fetched n).resetIfDue := by
  unfold spiFetchEff State.fetched
  rw [if_neg (by simp [hon])]
  dsimp only
  rw [fetchBytes_length]

/-- Settles O27: each transaction by what it does while D9 is ON, and by a floating output while it is not. -/
theorem spiPort : Obligations.SpiPort := by
  unfold Obligations.SpiPort
  refine ⟨fun b m s hon hmsg hbusy hreply => ?_, fun b early s hon hbad => ?_, fun b => ?_, fun n r s hon hr hdue => ?_,
    fun s hon => ?_, fun b early n s hoff => ?_⟩
  · exact congrArg Host.Outcome.next (spiSendEff_good hon hmsg hbusy hreply)
  · exact congrArg Host.Outcome.next (spiSendEff_fault hon hbad)
  · unfold sendMessage
    simp
  · subst hr
    exact congrArg Host.Outcome.next ((spiFetchEff_on n hon).trans (State.resetIfDue_none _ hdue))
  · refine ⟨_, congrArg Host.Outcome.next (if_pos hon), rfl, ?_⟩
    show leBytes 1 s.spiStatus = _
    simp only [State.spiStatus, Option.isSome_iff_ne_none]
  · refine ⟨congrArg Host.Outcome.next (if_pos ?_), congrArg Host.Outcome.next (if_pos ?_),
      congrArg Host.Outcome.next (if_neg ?_)⟩ <;> simp [hoff]

end Sys2Proof.Machine
end

section
/-! PROOF. A host reset waits for its reply to leave, and then clears what a warm reset clears (R291, R384, R385). -/

namespace Sys2Proof.Machine

variable {s t : State} {e : Env}

/-! The write of Reset (R291). -/

theorem reset_decode (n : Byte) : Ent.reset.info.decode [n] = [n.toNat] := by
  simp [EntInfo.decode, Ent.info, cut, leNat]

/-- R291: the state in which a reset is due. -/
def State.withResetDue (s : State) : State := { s with mgmt := { s.mgmt with resetDue := true } }

theorem resetEff_one (s : State) : resetEff (Ent.reset.info.decode [1]) s = (s.withResetDue, ans .ok) := by
  rw [reset_decode]
  rfl

theorem resetEff_zero (s : State) : resetEff (Ent.reset.info.decode [0]) s = (s, ans .ok) := by
  rw [reset_decode]
  rfl

/-- R289: the answer to a request of the local session waits for FETCH and changes no entry. -/
theorem State.finish_spi {q : Req} (hvia : q.env.via = .spi) (s : State) (r : Reply) (b : Bool) :
    (s.finish q (.now r) b).regs = s.regs ∧ (s.finish q (.now r) b).mgmt.spiReply.isSome = true := by
  have hsession : sessionOf q.env = 256 := by simp [sessionOf, hvia]
  unfold State.finish
  dsimp only
  rw [if_neg (by simp [hsession])]
  unfold State.sendReply
  rw [hvia]
  exact ⟨rfl, rfl⟩

/-- R291: a reset that is due waits while a reply does. -/
theorem State.resetIfDue_waits (h : s.repliesWait = true) : s.resetIfDue = s := by
  simp [State.resetIfDue, h]

/-- R69, R285, R291, R315: nothing follows a request while its reply waits, but a job that is held may go on. -/
theorem State.settled_waits (s b : State) (hops : s.secure.ops = []) (hstores : b.secure.stores = [] → s.secure.stores = [])
    (hunassign : s.mgmt.unassignDue = false) (hreply : s.mgmt.spiReply.isSome = true) :
    ∃ x y, s.settled b = { s with secure := { s.secure with held := x, heldBy := y } } := by
  obtain ⟨x, y, hkick⟩ := State.nvmKick_idle 300 s hops
  have hstay : s.unassignIfDue = s := by simp [State.unassignIfDue, hunassign]
  refine ⟨x, y, ?_⟩
  unfold State.settled
  dsimp only
  rw [hstay, if_neg (fun g => g.2 (hstores g.1)), hkick]
  exact State.resetIfDue_waits (by simp [State.repliesWait, hreply])

/-! The warm reset (R384, R385). -/

theorem key_div (x : Ent) (i : Nat) : key x i / 65536 = x.ctorIdx := by
  unfold key
  omega

/-- R385: an entry that Table 17.2 does not keep reads as its default. -/
theorem State.resetEntries_rdv {kept : List Ent} {x : Ent} (hx : x ∉ kept) (i : Nat) :
    (s.resetEntries kept).rdv x i = x.dflt := by
  refine SMap.get_filter_of_neg s.regs (fun k => kept.any (fun e => e.ctorIdx = k / 65536)) _ _ ?_
  rw [List.any_eq_false]
  intro y hy
  rw [key_div, decide_eq_true_eq]
  exact fun heq => hx (Ent.ctorIdx_inj heq ▸ hy)

/-- R383 to R385: what a warm reset leaves: its cause alone, every domain OFF, the display path empty, and every entry but
the three of Table 17.2 at its default. -/
structure WarmReset (cause : Nat) (t : State) : Prop where
  phase : t.boot.phase = .held
  causes : t.boot.causes = [cause]
  modl : t.modl = {}
  quarry : t.quarry = []
  on : ∀ d, t.on d = false
  rdv : ∀ (x : Ent) (i : Nat), x ∉ keptEnts → t.rdv x i = x.dflt

theorem WarmReset.warmReset (s : State) (cause : Nat) : WarmReset cause (s.warmReset cause) :=
  { phase := rfl
    causes := rfl
    modl := rfl
    quarry := rfl
    on := fun _ => rfl
    rdv := fun x i hx => by
      have hregs : (s.warmReset cause).regs = (s.allOff.resetEntries keptEnts).regs := by
        unfold State.warmReset
        generalize s.allOff.resetEntries keptEnts = u
        rfl
      rw [State.rdv_of_regs hregs, State.resetEntries_rdv hx] }

theorem WarmReset.sourceOf {cause source : Nat} {minimum : Int} (h : WarmReset cause t) (c : Nat) :
    WarmReset cause (t.sourceOf c source minimum) := by
  obtain ⟨hphase, hcauses, hmodl, hquarry, hon, hrdv⟩ := h
  unfold State.sourceOf
  split
  · exact ⟨hphase, hcauses, hmodl, hquarry, hon, hrdv⟩
  · exact ⟨hphase, hcauses, hmodl, hquarry, hon, hrdv⟩

/-- R291: the FETCH that clocks the last reply out starts the reset that is due. -/
theorem spiFetchEff_resets {n : Nat} {b : Bytes} (hon : s.on 9 = true) (hreply : s.mgmt.spiReply = some b)
    (hwhole : b.length + 4 ≤ n) (hdue : s.mgmt.resetDue = true) (hports : ∀ p : Fin 4, (s.port p).queue = [])
    (hphase : s.boot.phase ≠ .held) : WarmReset 6 (spiFetchEff n s) := by
  have hnone : (s.fetched n).mgmt.spiReply = none := if_pos (by simpa [hreply] using hwhole)
  have hqueue : ∀ k ∈ ports4, ((s.fetched n).port k).queue = [] := by
    intro k hk
    have hlt : k < 4 := by
      simp only [ports4, List.mem_cons, List.not_mem_nil, or_false] at hk
      omega
    exact hports ⟨k, hlt⟩
  have hleft : (s.fetched n).repliesWait = false := by
    unfold State.repliesWait
    rw [hnone, Bool.or_eq_false_iff]
    exact ⟨rfl, List.any_eq_false.2 fun k hk => by simp [hqueue k hk]⟩
  have hreset : (s.fetched n).resetIfDue = ((s.fetched n).trigger 6).sourceOf 6 0xFF 0 :=
    if_pos (by rw [hleft]; exact Bool.and_eq_true_iff.2 ⟨hdue, rfl⟩)
  have htrigger : (s.fetched n).trigger 6 = (s.fetched n).warmReset 6 := if_neg hphase
  rw [spiFetchEff_on n hon, hreset, htrigger]
  exact (WarmReset.warmReset _ 6).sourceOf 6

/-- Settles O29: the write of Reset by its answer, the FETCH by the warm reset that it starts. -/
theorem hostResetFollowsItsReply : Obligations.HostResetFollowsItsReply := by
  unfold Obligations.HostResetFollowsItsReply
  refine ⟨fun e s hmay hvia hops hunassign => ?due, fun e s hmay hstill => ?zero,
    fun n b s hon hreply hwhole hdue hports hphase => ?fetch⟩
  case due =>
    have hwrite := State.writeCmd_run hmay resetEff
    rw [resetEff_one] at hwrite
    obtain ⟨hregs, hsome⟩ := State.finish_spi (q := writeReq e .reset 0 [1]) hvia (s.claimSpi e).withResetDue (Reply.of .ok) false
    obtain ⟨x, y, hsettled⟩ := State.settled_waits
      ((s.claimSpi e).withResetDue.finish (writeReq e .reset 0 [1]) (ans .ok) false) s
      (by simp [State.withResetDue, hops]) (by simp [State.withResetDue]) (by simp [State.withResetDue, hunassign]) hsome
    refine ⟨_, congrArg Host.Outcome.next ((congrArg (State.settled · s) hwrite).trans hsettled), ?_, ?_, ?_, ?_⟩
    · simp [State.withResetDue]
    · exact State.finish_answered (s.claimSpi e).withResetDue (writeReq e .reset 0 [1]) .ok false
    · simp [State.withResetDue]
    · exact hregs.trans (s.claimSpi_regs e)
  case zero =>
    have hwrite := State.writeCmd_run hmay resetEff
    rw [resetEff_zero] at hwrite
    obtain ⟨hops, hreset, hunassign⟩ := hstill
    obtain ⟨x, y, hsettled⟩ := State.settled_idle ((s.claimSpi e).finish (writeReq e .reset 0 [0]) (ans .ok) false) s
      (by simp [hops]) (by simp) (by simp [hunassign]) (by simp [hreset])
    refine ⟨_, congrArg Host.Outcome.next ((congrArg (State.settled · s) hwrite).trans hsettled), ?_, ?_, ?_⟩
    · simp [hreset]
    · exact State.finish_answered (s.claimSpi e) (writeReq e .reset 0 [0]) .ok false
    · simp
  case fetch =>
    obtain ⟨hheld, hcauses, hmodl, hquarry, hoff, hrdv⟩ := spiFetchEff_resets hon hreply hwhole hdue hports hphase
    refine ⟨_, rfl, hheld, hcauses, hmodl, hquarry, hoff, fun x i hshut hcounts hsnap => hrdv x i ?_⟩
    simp [keptEnts, hshut, hcounts, hsnap]

end Sys2Proof.Machine
end

section
/-! PROOF. Sessions open, close and expire, and segmented transfers end (R274, R276, R282). -/

namespace Sys2Proof.Machine

variable {s t : State} {e : Env}

/-! The end of a segmented transfer (R282). -/

/-- R282: the session's transfer is discarded, counted and told; staging, its owner and the modulator stay. -/
structure SegmentDropped (s t : State) (n : Nat) : Prop where
  seg : (t.session n).seg = none
  failures : t.rd .segmentFailures 0 = min (s.rd .segmentFailures 0 + 1) 0xFFFFFFFF
  raised : t.rd .eventsRaised 0 = min (s.rd .eventsRaised 0 + 1) 0xFFFFFFFF
  staged : t.mgmt.staged = s.mgmt.staged

theorem SegmentDropped.dropSegment {n : Nat} {g : SegXfer} (hseg : (s.session n).seg = some g) (cause : Nat) :
    SegmentDropped s (s.dropSegment n cause) n := by
  unfold State.dropSegment
  rw [hseg]
  dsimp only
  refine ⟨?_, ?_, ?_, ?_⟩
  · unfold State.session
    rw [State.raise_mgmt_sessions, State.count_mgmt, ← State.session, State.setSession_session, if_pos rfl]
  · simp
  · rw [State.raise_eventsRaised]
    simp
  · simp

/-- R275: a session without an open transfer has none after the answer. -/
theorem State.finish_seg {q : Req} {a : Ans} {b : Bool} (h : (s.session (sessionOf q.env)).seg = none) :
    ((s.finish q a b).session (sessionOf q.env)).seg = none := by
  have hafter : (s.afterSeq q).seg = none := by
    unfold State.afterSeq
    dsimp only
    split
    · rfl
    · exact h
  have hset (x : Session) (hx : x.seg = none) : ((s.setSession (sessionOf q.env) x).session (sessionOf q.env)).seg = none := by
    rw [State.setSession_session, if_pos rfl, hx]
  unfold State.finish
  dsimp only
  split
  · exact hset _ hafter
  · split
    · exact hset _ hafter
    · rw [State.sendReply_session]
      exact hset _ (by split <;> exact hafter)

/-! What a session drops as it opens and as it closes (R274, R276). -/

/-- R274, R276: the staged writes of a session are dropped; another's stay. -/
structure StagingDropped (s t : State) (n : Nat) : Prop where
  own : s.rd .stagingOwner 0 = n → t.mgmt.staged = [] ∧ t.rd .stagingOwner 0 = 0xFFFF
  other : s.rd .stagingOwner 0 ≠ n → t.mgmt.staged = s.mgmt.staged

theorem StagingDropped.keep {u : State} {n : Nat} (h : StagingDropped s t n) (hstaged : u.mgmt.staged = t.mgmt.staged)
    (howner : u.rd .stagingOwner 0 = t.rd .stagingOwner 0) : StagingDropped s u n :=
  ⟨fun ho => ⟨hstaged.trans (h.own ho).1, howner.trans (h.own ho).2⟩, fun ho => hstaged.trans (h.other ho)⟩

theorem StagingDropped.claimSpi {n : Nat} (h : StagingDropped (s.claimSpi e) t n) : StagingDropped s t n :=
  ⟨fun ho => h.own ((s.claimSpi_rd ..).trans ho),
    fun ho => (h.other (fun hc => ho ((s.claimSpi_rd ..).symm.trans hc))).trans (s.claimSpi_mgmt_staged e)⟩

theorem StagingDropped.finish {n : Nat} {q : Req} {a : Ans} {b : Bool} (h : StagingDropped s t n) :
    StagingDropped s (t.finish q a b) n :=
  h.keep (State.finish_mgmt_staged ..) (State.finish_rd _ _ _ _ _ _ rfl)

theorem StagingDropped.emptySession (s : State) (n : Nat) : StagingDropped s (s.emptySession n) n := by
  have hrelease : StagingDropped s (s.releaseStaging n) n := by
    by_cases howner : s.rd .stagingOwner 0 = n
    · have hreleased := State.releaseStaging_own howner
      exact ⟨fun _ => ⟨hreleased.staged, hreleased.owner⟩, fun h => absurd howner h⟩
    · rw [State.releaseStaging_other howner]
      exact ⟨fun h => absurd h howner, fun _ => rfl⟩
  exact hrelease.keep rfl rfl

/-- R274, R276: beside staging and its owner an emptied session changes only itself. -/
structure EmptiedOnly (s t : State) : Prop where
  rd : ∀ x i, x ≠ .stagingOwner → t.rd x i = s.rd x i
  modl : t.modl = s.modl
  xfers : t.xfers = s.xfers
  ops : t.secure.ops = s.secure.ops

theorem EmptiedOnly.emptySession (s : State) (n : Nat) : EmptiedOnly s (s.emptySession n) := by
  have hrelease : EmptiedOnly s (s.releaseStaging n) := by
    obtain ⟨made, hstaged⟩ := s.setStaged_form []
    unfold State.releaseStaging
    rw [hstaged]
    split
    · exact ⟨fun x i hx => (State.wr_rd ..).trans (if_neg fun h => hx h.1.symm), State.wr_modl .., State.wr_xfers ..,
        by simp⟩
    · exact ⟨fun _ _ _ => rfl, rfl, rfl, rfl⟩
  exact ⟨hrelease.rd, hrelease.modl, hrelease.xfers, hrelease.ops⟩

/-! OPEN (R274). -/

/-- R274: what an OPEN makes of its session. -/
def State.openedSession (s : State) (e : Env) (b : Bytes) : Session :=
  { isOpen := true, partner := e.source.toNat, lastSeq := e.seq.toNat, lastAt := s.aon.mono
    link := if e.mode = .linkLocal then (match e.via with | .izsor p => some p.val | .spi => none) else none
    timeout := if leNat b = 0 then s.rd .sessionTimeout 0 else leNat b }

theorem State.session_of_sessions {n : Nat} (h : t.mgmt.sessions = s.mgmt.sessions) : t.session n = s.session n := by
  unfold State.session
  rw [h]

theorem openBody_opens {b : Bytes} (s : State) (hlength : b.length = 4)
    (htime : leNat b = 0 ∨ (1000 ≤ leNat b ∧ leNat b ≤ 600000)) (hn : sessionOf e < 255) :
    ∃ t, openBody e b s = (t, ans .ok) ∧ StagingDropped s t (sessionOf e)
      ∧ t.session (sessionOf e) = (s.emptySession (sessionOf e)).openedSession e b := by
  have hempty := StagingDropped.emptySession s (sessionOf e)
  unfold openBody
  extract_lets n time was u v w
  rw [if_neg (by simp [hlength]), if_neg (by simp only [time]; omega), if_neg (by simp only [n]; omega)]
  have hv : v.session n = u.openedSession e b := by
    simp only [v, State.setSession_session, if_pos]
    rfl
  have hw : w.mgmt.sessions = v.mgmt.sessions ∧ w.mgmt.staged = u.mgmt.staged ∧ w.regs = u.regs := by
    simp only [w]
    split <;> exact ⟨rfl, rfl, rfl⟩
  obtain ⟨hsessions, hstaged, hregs⟩ := hw
  have howner : w.rd .stagingOwner 0 = u.rd .stagingOwner 0 := congrArg (·.headD 0) (State.rdv_of_regs hregs _ _)
  have hsession : w.session n = u.openedSession e b := (State.session_of_sessions hsessions).trans hv
  split
  · exact ⟨w, rfl, hempty.keep hstaged howner, hsession⟩
  · refine ⟨_, rfl, hempty.keep ((State.raise_mgmt_staged ..).trans hstaged) ((State.raise_rd w _ _ .stagingOwner 0 (by decide)
      (by decide) (by decide)).trans howner), (State.session_of_sessions (State.raise_mgmt_sessions ..)).trans hsession⟩

/-- R273, R277: an OPEN that its session lets run. -/
theorem exec_openSession {b : Bytes} {a : Ans} (hruns : s.runs e true false) (hbody : openBody e b (s.claimSpi e) = (t, a)) :
    exec (.openSession e b) s = .next (t.finish (plainReq e 0x01 b) a false) := by
  refine congrArg Host.Outcome.next ?_
  rw [State.request_run _ _ _ _ _ hruns.1 hruns.2, show (plainReq e 0x01 b).env = e from rfl, hbody]

/-! CLOSE and the expiry of a session (R276). -/

/-- R308: without a transfer of the session and without a job in the write path nothing follows a close. -/
theorem State.closeXfers_none {n : Nat} (hops : s.secure.ops = []) (hnone : ∀ k ∈ s.openXfers, (s.xfer k).session ≠ n) :
    ∃ x y, s.closeXfers n = { s with secure := { s.secure with held := x, heldBy := y } } := by
  have hfilter : s.openXfers.filter (fun k => (s.xfer k).session = n) = [] := by
    rw [List.filter_eq_nil_iff]
    intro k hk
    simpa using hnone k hk
  unfold State.closeXfers
  rw [hfilter]
  exact State.nvmKick_idle 300 s hops

/-- R276: what the close of a session leaves. -/
structure SessionClosed (s t : State) (n : Nat) : Prop where
  session : t.session n = {}
  dropped : StagingDropped s t n
  rd : ∀ x i, x ≠ .stagingOwner → t.rd x i = s.rd x i
  modl : t.modl = s.modl

theorem State.muteWaits_rd {p : Env → Bool} {x : Ent} {i : Nat} : (s.muteWaits p).rd x i = s.rd x i := rfl
theorem State.muteWaits_mgmt {p : Env → Bool} : (s.muteWaits p).mgmt = s.mgmt := rfl
theorem State.muteWaits_modl {p : Env → Bool} : (s.muteWaits p).modl = s.modl := rfl

/-- R308: with no transfer and no job in the write path the transfers of a closing session change only what the write
path holds back. -/
structure NothingHeld (s t : State) : Prop where
  rd : ∀ x i, t.rd x i = s.rd x i
  staged : t.mgmt.staged = s.mgmt.staged
  modl : t.modl = s.modl

theorem NothingHeld.closeXfers {n : Nat} (hops : s.secure.ops = [])
    (hnone : ∀ k ∈ s.openXfers, (s.xfer k).session ≠ n) : NothingHeld s (s.closeXfers n) := by
  obtain ⟨x, y, hclose⟩ := State.closeXfers_none hops hnone
  rw [hclose]
  exact ⟨fun _ _ => rfl, rfl, rfl⟩

theorem SessionClosed.closeSession {n : Nat} (hn : n < 255) (hops : s.secure.ops = [])
    (hnone : ∀ k ∈ s.openXfers, (s.xfer k).session ≠ n) : SessionClosed s (s.closeSession n) n := by
  obtain ⟨hrd, hmodl, hxfers, hempty⟩ := EmptiedOnly.emptySession s n
  have hdropped := StagingDropped.emptySession s n
  unfold State.closeSession
  generalize s.emptySession n = u at *
  dsimp only
  rw [if_neg (by omega)]
  generalize hv : (if (u.session n).isOpen = true then { u with mgmt := u.mgmt.sessionsChange } else u) = v
  have hkept : v.mgmt.staged = u.mgmt.staged ∧ v.regs = u.regs ∧ v.modl = u.modl ∧ v.xfers = u.xfers
      ∧ v.secure = u.secure := by
    subst hv
    split <;> exact ⟨rfl, rfl, rfl, rfl, rfl⟩
  obtain ⟨hstaged, hregs, hvmodl, hvxfers, hsecure⟩ := hkept
  have hread (x : Ent) (i : Nat) : v.rd x i = u.rd x i := congrArg (·.headD 0) (State.rdv_of_regs hregs x i)
  have hopen : v.openXfers = s.openXfers := by
    unfold State.openXfers
    exact List.filter_congr fun k _ => by rw [hread, hrd _ _ (by decide)]
  have hxfer (k : Nat) : v.xfer k = s.xfer k := by
    unfold State.xfer
    rw [hvxfers, hxfers]
  obtain ⟨hcrd, hcstaged, hcmodl⟩ := NothingHeld.closeXfers (s := v) (n := n)
    ((congrArg (·.ops) hsecure).trans (hempty.trans hops)) (fun k hk => by rw [hxfer]; exact hnone k (hopen ▸ hk))
  generalize v.closeXfers n = w at *
  refine ⟨(State.setSession_session ..).trans (if_pos rfl), hdropped.keep ?_ ?_, fun x i hx => ?_, ?_⟩
  · simp only [State.setSession_mgmt, State.muteWaits_mgmt, hcstaged, hstaged]
  · simp only [State.setSession_rd, State.muteWaits_rd, hcrd, hread]
  · simp only [State.setSession_rd, State.muteWaits_rd, hcrd, hread, hrd x i hx]
  · simp only [State.setSession_modl, State.muteWaits_modl, hcmodl, hvmodl, hmodl]

theorem exec_closeSession (hruns : s.runs e false false) : exec (.closeSession e []) s =
    .next (((s.claimSpi e).closeSession (sessionOf e)).finish (plainReq e 0x02 []) (ans .ok) false) := by
  refine congrArg Host.Outcome.next ?_
  rw [State.request_run _ _ _ _ _ hruns.1 hruns.2]
  rfl

/-- R275: the answer leaves a closed session closed. -/
theorem State.finish_closed {q : Req} {r : Reply} {b : Bool} (hn : sessionOf q.env < 255)
    (h : s.session (sessionOf q.env) = {}) : (s.finish q (.now r) b).session (sessionOf q.env) = {} := by
  have hafter : s.afterSeq q = {} := by
    unfold State.afterSeq
    exact if_pos ⟨hn, by simp [h]⟩
  unfold State.finish
  dsimp only
  rw [if_neg (by omega), hafter, State.sendReply_session, State.setSession_session, if_pos rfl]
  rfl

/-- R282: a DISCARD that meets an open transfer discards it and is answered E_SEGMENT. -/
theorem exec_discard_segment {g : SegXfer} (hruns : s.runs e false false) (hseg : (s.session (sessionOf e)).seg = some g) :
    exec (.discard e []) s =
      .next (((s.claimSpi e).dropSegment (sessionOf e) 0).finish (plainReq e 0x14 []) (ans .segment) false) := by
  have hbody : discardBody e [] (s.claimSpi e) = ((s.claimSpi e).dropSegment (sessionOf e) 0, ans .segment) := by
    unfold discardBody
    dsimp only
    rw [if_neg (not_not.2 rfl), if_pos (by simp [hseg])]
    rfl
  refine congrArg Host.Outcome.next ?_
  rw [State.request_run _ _ _ _ _ hruns.1 hruns.2, show (plainReq e 0x14 []).env = e from rfl, hbody]

/-- Settles O20: OPEN, CLOSE and the expiry by what they make of their session, the ends of a segmented transfer by its
discard. -/
theorem sessionsAndSegments : Obligations.SessionsAndSegments := by
  unfold Obligations.SessionsAndSegments
  refine ⟨⟨fun e b s hruns hlength htime hn => ?opens, fun e s hruns hn hops hnone => ?closes,
    fun n s hn hon hopen hdue hops hnone => ?expires⟩, fun n g s hseg hdue => ?timeout, fun e g s hruns hseg => ?discard⟩
  case opens =>
    obtain ⟨t, hbody, hdropped, hsession⟩ := openBody_opens (s.claimSpi e) hlength htime hn
    have hopen : (t.afterSeq (plainReq e 0x01 b)).isOpen = true := by
      unfold State.afterSeq
      dsimp only
      rw [show (plainReq e 0x01 b).env = e from rfl, hsession, if_neg (by simp [State.openedSession])]
      rfl
    have hafter : t.afterSeq (plainReq e 0x01 b)
        = { ((s.claimSpi e).emptySession (sessionOf e)).openedSession e b with lastAt := t.aon.mono } := by
      unfold State.afterSeq
      dsimp only
      rw [show (plainReq e 0x01 b).env = e from rfl, hsession, if_neg (by simp [State.openedSession])]
      rfl
    have hdone := State.finish_session t (plainReq e 0x01 b) (Reply.of .ok) false (by
      rw [show (plainReq e 0x01 b).env = e from rfl]
      omega) hopen
    have htimeout : ((s.claimSpi e).emptySession (sessionOf e)).rd .sessionTimeout 0 = s.rd .sessionTimeout 0 :=
      ((EmptiedOnly.emptySession ..).rd _ _ (by decide)).trans (s.claimSpi_rd ..)
    rw [show (plainReq e 0x01 b).env = e from rfl, hafter] at hdone
    refine ⟨_, exec_openSession hruns hbody, ?_, ?_, ?_, ?_, ?_, hdropped.finish.claimSpi.own, hdropped.finish.claimSpi.other,
      State.finish_answered t (plainReq e 0x01 b) .ok false⟩
    all_goals rw [show ans .ok = Ans.now (Reply.of .ok) from rfl, hdone]
    · rfl
    · rfl
    · rfl
    · simp only [State.openedSession, htimeout]
    · rfl
  case closes =>
    obtain ⟨hsession, hdropped, -, hmodl⟩ := SessionClosed.closeSession (s := s.claimSpi e) hn (by simpa using hops)
      (by simpa using hnone)
    have hclosed := State.finish_closed (q := plainReq e 0x02 []) (r := Reply.of .ok) (b := false) hn hsession
    refine ⟨_, exec_closeSession hruns, congrArg Session.isOpen hclosed, congrArg Session.seg hclosed,
      (State.finish_modl ..).trans (hmodl.trans (s.claimSpi_modl e)), hdropped.finish.claimSpi.own,
      hdropped.finish.claimSpi.other, State.finish_answered _ (plainReq e 0x02 []) .ok false⟩
  case expires =>
    obtain ⟨hsession, -, hrd, hmodl⟩ := SessionClosed.closeSession hn hops hnone
    have heff : sessionExpiryEff n s = ((s.closeSession n).count .sessionExpiries 0).raise .sessionExpired
        [n.val, (s.session n).partner] := by
      unfold sessionExpiryEff
      dsimp only
      rw [if_neg (by simp only [hopen, hon]; simp; omega), State.untilMono_due _ _ hdue]
    refine ⟨_, congrArg Host.Outcome.next heff, ?_, ?_, ?_, ?_⟩
    · rw [State.session_of_sessions (State.raise_mgmt_sessions ..),
        State.session_of_sessions (congrArg Mgmt.sessions (State.count_mgmt ..)), hsession]
    · rw [State.raise_modl, State.count_modl, hmodl]
    · rw [State.raise_rd _ _ _ _ _ (by decide) (by decide) (by decide), State.count_rd, if_pos ⟨rfl, rfl⟩,
        hrd _ _ (by decide)]
    · rw [State.raise_eventsRaised, State.count_rd, if_neg (by decide), hrd _ _ (by decide)]
  case timeout =>
    obtain ⟨hnone, hfailures, hraised, -⟩ := SegmentDropped.dropSegment hseg 1
    have heff : segmentTimeoutEff n s = s.dropSegment n 1 := by
      unfold segmentTimeoutEff
      rw [hseg]
      dsimp only
      rw [State.untilMono_due _ _ hdue]
    exact ⟨_, congrArg Host.Outcome.next heff, hnone, hfailures, hraised⟩
  case discard =>
    obtain ⟨hnone, hfailures, -, hstaged⟩ := SegmentDropped.dropSegment (s := s.claimSpi e) (g := g) (by simpa using hseg) 0
    refine ⟨_, exec_discard_segment hruns hseg, State.finish_answered _ (plainReq e 0x14 []) .segment false,
      State.finish_seg (q := plainReq e 0x14 []) hnone, ?_, ?_⟩
    · rw [State.finish_rd _ _ _ _ _ _ rfl, hfailures, State.claimSpi_rd]
    · rw [State.finish_mgmt_staged, hstaged, State.claimSpi_mgmt_staged]

end Sys2Proof.Machine
end
section
/-! PROOF. R275, R276, R277: what the session's judgement makes of every request command. -/

namespace Sys2Proof.Machine

variable {s t : State} {e : Env} {q : Req} {o r : Bool} {body : State → State × Ans}

/-! What a request that is not executed leaves (R275). -/

theorem State.request_dup (h : s.judge q.env o r = .dup) : s.request q o r body = s := by
  unfold State.request State.arrive
  rw [h]

theorem State.request_resend {a : Reply} (h : s.judge q.env o r = .resend)
    (hkept : (s.session (sessionOf q.env)).kept = some a) :
    s.request q o r body = (s.count .resendReplies 0).sendReply q a := by
  unfold State.request State.arrive
  rw [h]
  dsimp only
  rw [hkept]

theorem State.request_refuse {st : Status} (h : s.judge q.env o r = .refuse st) :
    s.request q o r body = (if st = .session then s.count .sessionRefusals 0 else s).sendReply q
      { status := st, body := refusalBody q.opcode } := by
  unfold State.request State.arrive
  rw [h]

theorem State.request_waits (h : s.judge q.env o r = .run) (hcore : s.coreFree = false) :
    s.request q o r body = s.park q := by
  unfold State.request State.arrive
  rw [h]
  exact if_neg (by simp [hcore])

/-! At rest nothing follows such a request, whatever its command (R69, R285, R291, R315). -/

/-- R315: a state has what another has of the write path, and the same reset and change of address are due. -/
structure RestKept (s t : State) : Prop where
  secure : t.secure = s.secure
  unassignDue : t.mgmt.unassignDue = s.mgmt.unassignDue
  resetDue : t.mgmt.resetDue = s.mgmt.resetDue

theorem RestKept.park (s : State) (q : Req) : RestKept s (s.park q) := by
  have hbegins : RestKept s (s.beginsReq q) := by
    unfold State.beginsReq State.claimSpi
    dsimp only
    split
    · split <;> exact ⟨rfl, rfl, rfl⟩
    · exact ⟨rfl, rfl, rfl⟩
  exact ⟨hbegins.secure, hbegins.unassignDue, hbegins.resetDue⟩

theorem RestKept.sendReply {a : Reply} (h : RestKept s t) : RestKept s (t.sendReply q a) :=
  ⟨(State.sendReply_secure ..).trans h.secure, (State.sendReply_mgmt_unassignDue ..).trans h.unassignDue,
    (State.sendReply_mgmt_resetDue ..).trans h.resetDue⟩

theorem RestKept.count (s : State) (x : Ent) (i : Nat) : RestKept s (s.count x i) :=
  ⟨State.count_secure .., congrArg Mgmt.unassignDue (State.count_mgmt ..), congrArg Mgmt.resetDue (State.count_mgmt ..)⟩

theorem RestKept.request (hnot : s.judge q.env o r = .run → s.coreFree = false) :
    RestKept s (s.request q o r body) := by
  have hself : RestKept s s := ⟨rfl, rfl, rfl⟩
  unfold State.request State.arrive
  split
  case h_7 hrun =>
    dsimp only
    rw [if_neg (by simp [hnot hrun])]
    exact .park s q
  case h_1 => exact hself
  case h_2 => exact hself
  case h_3 => exact .count ..
  case h_4 => exact ⟨rfl, rfl, rfl⟩
  case h_5 =>
    refine .sendReply ?_
    split
    · exact .count ..
    · exact hself
  case h_6 =>
    split
    · exact (RestKept.count ..).sendReply
    · exact hself

theorem RestKept.atRest (h : RestKept s t) (hrest : s.atRest) : t.atRest := by
  unfold State.atRest State.still at hrest ⊢
  rw [h.secure, h.unassignDue, h.resetDue]
  exact hrest

theorem State.atRest.unassignIfDue (h : s.atRest) : s.unassignIfDue = s := by
  obtain ⟨⟨-, -, hdue⟩, -⟩ := h
  simp [State.unassignIfDue, hdue]

theorem State.atRest.nvmKick (h : s.atRest) (n : Nat) : State.nvmKick n s = s := by
  obtain ⟨⟨hops, -, -⟩, hheld, hby⟩ := h
  have hnext : s.nextOp = none := by simp [State.nextOp, hops]
  have hunhold : s.unhold = s := by
    unfold State.unhold
    rw [hops, ← hheld, ← hby]
    exact congrArg (fun l => { s with secure := { s.secure with ops := l } }) hops.symm
  cases n with
  | zero => rfl
  | succ n =>
    unfold State.nvmKick
    split
    · rfl
    · split
      · simp only [hunhold, hnext]
      · simp only [hops, List.findIdx?_nil, hnext]

theorem RestKept.settled (h : RestKept s t) (hrest : s.atRest) : t.settled s = t := by
  have ht := h.atRest hrest
  unfold State.settled
  dsimp only
  rw [ht.unassignIfDue, if_neg (by rw [h.secure]; exact fun hs => hs.2 hs.1), ht.nvmKick,
    State.resetIfDue_none _ ht.1.2.1]

/-- R275, R277: at rest a command that is not executed is what its request leaves. -/
structure AsksOnly (c : Instr) (e : Env) (o r : Bool) (s : State) : Prop where
  asks : ∃ q body, q.env = e ∧ exec c s = .next (s.request q o r body)

section
variable {c : Instr} (hnot : s.judge q.env o r = .run → s.coreFree = false) (hrest : s.atRest)
include hnot hrest

theorem AsksOnly.settled (hc : exec c s = .next ((s.request q o r body).settled s)) : AsksOnly c q.env o r s :=
  ⟨q, body, rfl, hc.trans (congrArg _ ((RestKept.request hnot).settled hrest))⟩

theorem AsksOnly.nvmKick (hc : exec c s = .next (State.nvmKick 300 (s.request q o r body))) : AsksOnly c q.env o r s :=
  ⟨q, body, rfl, hc.trans (congrArg _ (((RestKept.request hnot).atRest hrest).nvmKick 300))⟩

theorem AsksOnly.unassign (hc : exec c s = .next (s.request q o r body).unassignIfDue) : AsksOnly c q.env o r s :=
  ⟨q, body, rfl, hc.trans (congrArg _ ((RestKept.request hnot).atRest hrest).unassignIfDue)⟩

end

theorem AsksOnly.plain {c : Instr} (hc : exec c s = .next (s.request q o r body)) : AsksOnly c q.env o r s :=
  ⟨q, body, rfl, hc⟩

/-- R270: the restricted range stops the model only for a request that is executed. -/
theorem State.restricted_waits {isRead : Bool} {m : EntryMsg} (hnot : s.judge e false isRead = .run → s.coreFree = false) :
    s.restricted e isRead m = false := by
  unfold State.restricted
  by_cases hrun : s.judge e false isRead = .run
  · simp [hnot hrun]
  · simp [hrun]

theorem asksOnly {c : Instr} (hc : requestOf c = some (e, o, r)) (hrest : s.atRest)
    (hnot : s.judge e o r = .run → s.coreFree = false) : AsksOnly c e o r s := by
  cases c <;> simp only [requestOf, Option.some.injEq, Prod.mk.injEq, reduceCtorEq] at hc <;>
    obtain ⟨rfl, rfl, rfl⟩ := hc
  case read e m => exact .plain (q := msgReq e 0x10 m) (if_neg (by simp [State.restricted_waits hnot]))
  case write e m => exact .settled (q := msgReq e 0x11 m) hnot hrest (if_neg (by simp [State.restricted_waits hnot]))
  case writeStaged e m => exact .settled (q := msgReq e 0x12 m) hnot hrest (if_neg (by simp [State.restricted_waits hnot]))
  case unassign e v => exact .unassign (q := writeReq e .unassign 0 v) hnot hrest rfl
  case commit e b => exact .settled (q := plainReq e 0x13 b) hnot hrest rfl
  case store e b => exact .settled (q := plainReq e 0x20 b) hnot hrest rfl
  case restore e b => exact .settled (q := plainReq e 0x21 b) hnot hrest rfl
  case hostReset e v => exact .settled (q := writeReq e .reset 0 v) hnot hrest rfl
  case savedStateWrite e j m => exact .settled (q := msgReq e 0x11 _) hnot hrest rfl
  case transferOpen e v => exact .nvmKick (q := writeReq e .transferOpen 0 v) hnot hrest rfl
  case transferAbort e v => exact .nvmKick (q := writeReq e .transferAbort 0 v) hnot hrest rfl
  case blackboxClear e v => exact .nvmKick (q := writeReq e .blackBoxClear 0 v) hnot hrest rfl
  case ownerEnrol e v => exact .nvmKick (q := writeReq e .ownerEnrol 0 v) hnot hrest rfl
  case authoriseSession e v => exact .nvmKick (q := writeReq e .ownerToken 0 v) hnot hrest rfl
  case replaceOwnerKey e v => exact .nvmKick (q := writeReq e .ownerToken 0 v) hnot hrest rfl
  case removeOwnerKey e v => exact .nvmKick (q := writeReq e .ownerToken 0 v) hnot hrest rfl
  case firmwareActivate e v => exact .nvmKick (q := writeReq e .firmwareActivate 0 v) hnot hrest rfl
  case firmwareConfirm e v => exact .nvmKick (q := writeReq e .firmwareConfirm 0 v) hnot hrest rfl
  case openSession e b => exact .plain (q := plainReq e 0x01 b) rfl
  case closeSession e b => exact .plain (q := plainReq e 0x02 b) rfl
  case discard e b => exact .plain (q := plainReq e 0x14 b) rfl
  case domainUp e b => exact .plain (q := domReq e 0x30 b) rfl
  case domainDown e b => exact .plain (q := domReq e 0x31 b) rfl
  all_goals exact ⟨_, _, rfl, rfl⟩

/-! The judgement of a session (R273 to R276). -/

section
variable (hon : s.on 9 = true) (hvia : ∃ p, e.via = .izsor p) (hmode : e.mode = .unicast) (hchannel : e.channel.val < 255)
include hon hvia hmode hchannel

/-- R273: the judgement of a unicast request of a numbered session. -/
theorem State.judge_unicast : s.judge e o r =
    (let a := s.session e.channel.val
     if o && !a.isOpen then
       (if !a.busy then .run else if a.partner = e.source.toNat ∧ e.seq.toNat = a.lastSeq then .dup else .refuse .session)
     else if !a.isOpen || decide (a.partner ≠ e.source.toNat) then .refuse .session
     else if e.seq.toNat = a.lastSeq then (if a.busy then .dup else if r then .run else .resend)
     else if (e.seq.toNat + 65535) % 65536 = a.lastSeq ∨ o then (if a.busy then .refuse .busy else .run)
     else .refuse .session) := by
  obtain ⟨p, hp⟩ := hvia
  unfold State.judge
  rw [hp]
  dsimp only
  rw [if_neg (by simp [hon]), if_neg (by simp [grouped, hmode]; omega), if_neg (by omega)]

theorem State.judge_partner (hopen : (s.session e.channel).isOpen = true)
    (hpartner : (s.session e.channel).partner = e.source.toNat) : s.judge e o r =
    (if e.seq.toNat = (s.session e.channel).lastSeq then
       (if (s.session e.channel).busy then .dup else if r then .run else .resend)
     else if (e.seq.toNat + 65535) % 65536 = (s.session e.channel).lastSeq ∨ o then
       (if (s.session e.channel).busy then .refuse .busy else .run)
     else .refuse .session) := by
  rw [State.judge_unicast hon hvia hmode hchannel]
  dsimp only
  rw [if_neg (by simp [hopen]), if_neg (by simp [hopen, hpartner])]

theorem State.judge_stranger (h : (s.session e.channel).isOpen = false ∨ (s.session e.channel).partner ≠ e.source.toNat) :
    s.judge e false r = .refuse .session := by
  rw [State.judge_unicast hon hvia hmode hchannel]
  dsimp only
  rw [if_neg (by simp), if_pos (by simpa using h)]

end

/-- Settles O26: the judgement by the session's fields, the rest because every request command that is not executed is
its request alone. -/
theorem sequencesAreJudged : Obligations.SequencesAreJudged := by
  unfold Obligations.SequencesAreJudged
  refine ⟨fun e o r s hon hvia hmode hchannel hopen hpartner => ?_,
    fun e r s hon hvia hmode hchannel h => State.judge_stranger hon hvia hmode hchannel h, fun c e o r s hc hrest => ?_⟩
  · rw [State.judge_partner hon hvia hmode hchannel hopen hpartner]
    refine ⟨fun hsame => if_pos hsame, fun hne hnext => ?_, fun hne hnext ho => ?_⟩
    · rw [if_neg hne, if_pos (.inl hnext)]
    · rw [if_neg hne, if_neg (by simp [hnext, ho])]
  · refine ⟨fun hdup => ?dup, fun a hresend hkept => ?resend, fun st hrefuse => ?refuse, fun hrun hcore => ?waits⟩
    case dup =>
      obtain ⟨q, body, rfl, hexec⟩ := asksOnly hc hrest (fun h => by simp [hdup] at h)
      rw [hexec, State.request_dup hdup]
    case resend =>
      obtain ⟨q, body, rfl, hexec⟩ := asksOnly hc hrest (fun h => by simp [hresend] at h)
      refine ⟨_, hexec, ?_⟩
      rw [State.request_resend hresend hkept]
      refine ⟨State.sendReply_rep .., ?_, ?_, fun y j hdrop hy => ?_⟩
      · rw [State.sendReply_mgmt_staged, State.count_mgmt]
      · rw [State.sendReply_rd _ _ _ _ _ rfl, State.count_rd, if_pos ⟨rfl, rfl⟩]
      · rw [State.sendReply_rdv _ _ _ _ _ hdrop, State.count_rdv, if_neg fun h => hy h.1.symm]
    case refuse =>
      obtain ⟨q, body, rfl, hexec⟩ := asksOnly hc hrest (fun h => by simp [hrefuse] at h)
      refine ⟨_, hexec, ?_⟩
      rw [State.request_refuse hrefuse]
      refine ⟨fun _ => ⟨_, State.sendReply_rep .., rfl⟩, ?_, fun hst => ?_, fun y j hdrop hy => ?_⟩
      · rw [State.sendReply_mgmt_staged]
        split <;> simp
      · rw [State.sendReply_rd _ _ _ _ _ rfl, if_pos hst, State.count_rd, if_pos ⟨rfl, rfl⟩]
      · rw [State.sendReply_rdv _ _ _ _ _ hdrop]
        split
        · rw [State.count_rdv, if_neg fun h => hy h.1.symm]
        · rfl
    case waits =>
      obtain ⟨q, body, rfl, hexec⟩ := asksOnly hc hrest (fun _ => hcore)
      exact ⟨q, rfl, hexec.trans (congrArg _ (State.request_waits hrun hcore))⟩

end Sys2Proof.Machine
end
section
/-! PROOF. The limit of a hold fails an owner-bank job whose writer has closed its session meanwhile (R276, R315). -/

namespace Sys2Proof.Machine

/-- R276: the writer of an owner-bank job closed session 3 while it waited, and is answered no more. -/
def mutedWriter : Waiter :=
  { env := ⟨.izsor 0, 0xE001, .unicast, 3, 7⟩, opcode := 0x11, mute := true }

/-- R315: the job of that writer, its lines held since the clock's zero. -/
def mutedJob : NvmOp :=
  { kind := .owner, fresh := false, names := [1], lines := [{}], heldAt := some 0, who := some mutedWriter }

/-- R276, R315: 20 s later session 3 is open again for the same partner and executes a request with the Sequence that the
closed session had; the window is closed. -/
def mutedHoldState : State :=
  ({ power := { doms := [(10, { st := .on })] }, aon := { mono := ms 20000000 }, secure := { ops := [mutedJob] } } : State).setSession
    3 { isOpen := true, partner := 0xE001, lastSeq := 7, busy := true }

theorem mutedHoldState_shows : mutedHoldState.on 10 = true ∧ mutedHoldState.windowOpen = false
    ∧ 0 + ms (mutedHoldState.rd .storeHoldLimit 0) ≤ mutedHoldState.aon.mono := by
  decide +kernel

/-- R276: the failed job leaves no reply. -/
theorem nvmHoldLimitEff_mutedHold : (nvmHoldLimitEff mutedHoldState).mgmt.rep = none := by
  decide +kernel

/-- Refutes O34: its last clause lets the writer be muted. A writer whose session closed while its job was held gets no
answer as the hold reaches its limit (R276), though its session is open again and busy with the same Sequence. -/
theorem not_storeWritesLines : ¬ Obligations.StoreWritesLines := by
  unfold Obligations.StoreWritesLines
  rintro ⟨-, -, -, hlimit⟩
  obtain ⟨hon, hwindow, hdue⟩ := mutedHoldState_shows
  obtain ⟨t, hexec, -, -, hanswered⟩ := hlimit mutedJob mutedWriter 0 mutedHoldState hon hwindow rfl rfl hdue rfl rfl rfl rfl
    (by decide) rfl (by decide) (by decide) (.inr (by decide))
  have ht : nvmHoldLimitEff mutedHoldState = t := Host.Outcome.next.inj hexec
  obtain ⟨r, hrep, -⟩ := hanswered (by decide)
  rw [← ht, nvmHoldLimitEff_mutedHold] at hrep
  cases hrep

end Sys2Proof.Machine
end
section
/-! PROOF. A RESTORE stages what the bank in force holds, or starts the decode of the archive (R286, R321). -/

namespace Sys2Proof.Machine

variable {s t u : State} {e : Env} {q : Req} {r : Bool}

/-! A request whose answer follows when its work ends (R275, R277). -/

/-- R275, R277: from `s` to `t` the request waits for the end of its work. -/
structure AnswerWaits (q : Req) (s t : State) : Prop where
  busy : (t.session (sessionOf q.env)).busy = decide (sessionOf q.env ≠ 255)
  core : t.mgmt.core = if releasesCore q.opcode then s.mgmt.core else some q.env
  staged : t.mgmt.staged = s.mgmt.staged

theorem AnswerWaits.finish (s : State) (q : Req) (r : Bool) : AnswerWaits q s (s.finish q .later r) where
  busy := congrArg Session.busy ((State.setSession_session s (sessionOf q.env) _ (sessionOf q.env)).trans (if_pos rfl))
  core := rfl
  staged := rfl

/-! RESTORE (R286). -/

theorem State.claimSpi_inForce (s : State) (e : Env) (area : Nat) : (s.claimSpi e).inForce area = s.inForce area := by
  unfold State.claimSpi
  split <;> rfl

theorem exec_restore {b : Bytes} {a : Ans} (hruns : s.runs e false false)
    (hbody : restoreBody e b (s.claimSpi e) = (t, a)) (hstill : t.still) (hstores : t.secure.stores = s.secure.stores) :
    ∃ x y, exec (.restore e b) s = .next { t.finish (plainReq e 0x21 b) a false with
      secure := { t.secure with held := x, heldBy := y } } := by
  have hrequest : s.request (plainReq e 0x21 b) false false (restoreBody e b) = t.finish (plainReq e 0x21 b) a false := by
    rw [State.request_run _ _ _ _ _ hruns.1 hruns.2, show (plainReq e 0x21 b).env = e from rfl, hbody]
  obtain ⟨hops, hreset, hunassign⟩ := State.finish_still (q := plainReq e 0x21 b) (a := a) (b := false) hstill
  obtain ⟨x, y, hsettled⟩ := State.settled_idle (t.finish (plainReq e 0x21 b) a false) s hops (by simp [hstores]) hunassign
    hreset
  refine ⟨x, y, congrArg Host.Outcome.next ?_⟩
  rw [hrequest, hsettled, State.finish_secure]

theorem exec_restore_answered {b : Bytes} {st : Status} (hruns : s.runs e false false)
    (hbody : restoreBody e b (s.claimSpi e) = (t, ans st)) (hstill : t.still)
    (hstores : t.secure.stores = s.secure.stores) (hstaged : t.mgmt.staged = s.mgmt.staged) :
    ∃ t, exec (.restore e b) s = .next t ∧ t.answered e st ∧ t.mgmt.staged = s.mgmt.staged := by
  obtain ⟨x, y, hexec⟩ := exec_restore hruns hbody hstill hstores
  exact ⟨_, hexec, State.finish_answered t (plainReq e 0x21 b) st false, (State.finish_mgmt_staged ..).trans hstaged⟩

theorem restoreBody_area (a : Fin 2) (hon : s.on 10 = true) :
    restoreBody e [BitVec.ofNat 8 a] s = s.restoreArea e a := by
  have hnat : leNat [BitVec.ofNat 8 a] = a.val := by
    fin_cases a <;> rfl
  unfold restoreBody
  dsimp only
  rw [hnat, if_neg (by simp), if_neg (by omega), if_neg (by simp [hon]), if_neg (by omega)]

theorem restoreBody_archive (hon : s.on 10 = true) : restoreBody e [2] s = s.restoreArchive e := by
  unfold restoreBody
  dsimp only
  rw [if_neg (by simp), if_neg (by decide), if_neg (by simp [hon]), if_pos (by decide)]

/-- R286: the state in which the records of an area are read (R314). -/
def State.areaRead (s : State) (area : Nat) : State :=
  s.mramScan (bankBase (area + 1) false) (2 * bankSize (area + 1))

/-- R286, R319: the values that a RESTORE of an area finds. -/
def State.restorable (s : State) (area : Nat) : List (Ent × Nat × Val) :=
  (s.areaRecords (area + 1)).filterMap
    (recordTarget (if area = 0 then fun x => x.info.stored else fun x => calEnts.contains x))

/-- R280: staging with more values. -/
def restageAll (l : List (Ent × Nat × Val)) (staged : List (Nat × Val)) : List (Nat × Val) :=
  l.foldl (fun q x => restage (key x.1 x.2.1) x.2.2 q) staged

section
variable {area : Nat} (hfree : s.stagingHeld (sessionOf e) = false)
include hfree

theorem State.restoreArea_empty (hnone : s.inForce (area + 1) = none) : s.restoreArea e area = (s, ans .check) := by
  unfold State.restoreArea
  dsimp only
  rw [hfree, if_neg Bool.false_ne_true, hnone]
  rfl

variable (hforce : (s.inForce (area + 1)).isSome = true)
include hforce

theorem State.restoreArea_found : s.restoreArea e area =
    (match (s.areaRead area).restoreRefusal e ((s.areaRead area).restorable area) with
    | some st => (s.areaRead area, ans st)
    | none =>
      let t := (s.areaRead area).setStaged (restageAll ((s.areaRead area).restorable area) (s.areaRead area).mgmt.staged)
      if 524288 < t.stagedTotal then (s.areaRead area, ans .noSpace)
      else ((if (s.areaRead area).restorable area = [] then t else t.wr .stagingOwner 0 (sessionOf e)),
        .now { body := leBytes 4 ((s.areaRead area).restorable area).length })) := by
  unfold State.restoreArea
  dsimp only
  rw [hfree, if_neg Bool.false_ne_true, if_neg (by simp [Option.isNone_eq_false_iff.2 hforce])]
  rfl

theorem State.restoreArea_refused {st : Status}
    (hrefusal : (s.areaRead area).restoreRefusal e ((s.areaRead area).restorable area) = some st) :
    s.restoreArea e area = (s.areaRead area, ans st) := by
  rw [State.restoreArea_found hfree hforce, hrefusal]

theorem State.restoreArea_staged
    (hrefusal : (s.areaRead area).restoreRefusal e ((s.areaRead area).restorable area) = none)
    (hsome : (s.areaRead area).restorable area ≠ [])
    (hroom : ((s.areaRead area).setStaged
      (restageAll ((s.areaRead area).restorable area) (s.areaRead area).mgmt.staged)).stagedTotal ≤ 524288) :
    s.restoreArea e area =
      (((s.areaRead area).setStaged
          (restageAll ((s.areaRead area).restorable area) (s.areaRead area).mgmt.staged)).wr .stagingOwner 0 (sessionOf e),
        .now { body := leBytes 4 ((s.areaRead area).restorable area).length }) := by
  rw [State.restoreArea_found hfree hforce, hrefusal]
  dsimp only
  rw [if_neg (Nat.not_lt.2 hroom), if_neg hsome]

end

/-- R314: what the reading of a bank keeps of what a RESTORE speaks of. -/
theorem State.areaRead_still {area : Nat} (h : s.still) : (s.areaRead area).still := by
  simpa [State.still, State.areaRead] using h

theorem State.stagedTotal_of_staged (h : t.mgmt.staged = s.mgmt.staged) : t.stagedTotal = s.stagedTotal := by
  unfold State.stagedTotal
  rw [h]

/-- R280, R286: the values of a bank are staged for a session. -/
structure StagedFor (s t : State) (n : Nat) (l : List (Nat × Val)) : Prop where
  staged : t.mgmt.staged = l
  owner : t.rd .stagingOwner 0 = n
  still : s.still → t.still
  stores : t.secure.stores = s.secure.stores
  rdv : ∀ y j, y ≠ .stagingOwner → y ≠ .nvmCorrected → t.rdv y j = s.rdv y j

theorem StagedFor.areaRead (s : State) (area n : Nat) (l : List (Nat × Val)) :
    StagedFor s (((s.areaRead area).setStaged l).wr .stagingOwner 0 n) n l := by
  obtain ⟨made, hset⟩ := (s.areaRead area).setStaged_form l
  rw [hset]
  refine ⟨congrArg Mgmt.staged (State.wr_mgmt ..), (State.wr_rd ..).trans (if_pos ⟨rfl, rfl⟩), fun h => ?_, ?_,
    fun y j howner hcorrected => ?_⟩
  · simpa [State.still, State.areaRead] using h
  · simp [State.areaRead]
  · rw [State.wr_rdv, if_neg fun h => howner h.1.symm]
    exact State.mramScan_rdv s _ _ y j hcorrected

theorem exec_restore_staged {a : Fin 2} {l : List (Nat × Val)} {b : Bytes} (hruns : s.runs e false false)
    (hstill : s.still) (hsession : sessionOf e ≠ 255) (hstaged : StagedFor (s.claimSpi e) t (sessionOf e) l)
    (hbody : restoreBody e [BitVec.ofNat 8 a] (s.claimSpi e) = (t, .now { body := b })) :
    ∃ t, exec (.restore e [BitVec.ofNat 8 a]) s = .next t ∧ t.mgmt.staged = l ∧ t.rd .stagingOwner 0 = sessionOf e
      ∧ (∃ r, t.mgmt.rep = some r ∧ r.status = .ok ∧ r.body = b)
      ∧ ∀ y j, y.dropCounter = false → y ≠ .stagingOwner → y ≠ .nvmCorrected → t.rdv y j = s.rdv y j := by
  obtain ⟨x, y, hexec⟩ := exec_restore hruns hbody (hstaged.still (State.claimSpi_still hstill))
    (hstaged.stores.trans (by simp))
  exact ⟨_, hexec, (State.finish_mgmt_staged ..).trans hstaged.staged, (State.finish_rd _ _ _ _ _ _ rfl).trans hstaged.owner,
    ⟨_, State.finish_rep _ _ _ _ hsession, rfl, rfl⟩, fun z j hz howner hcorrected =>
      (State.finish_rdv _ _ _ _ _ _ hz).trans ((hstaged.rdv z j howner hcorrected).trans (State.claimSpi_rdv ..))⟩

/-- R286, R321: the RESTORE of the archive waits for its decode. -/
theorem State.restoreArchive_begins (hcoder : s.on 8 = true) (hstore : s.storeOn 0 = true) (hslot : s.slotUsed 7 = false)
    (hforce : (s.inForce 4).isSome = true) : ∃ a, s.restoreArchive e = (s.setArchive a, .later) ∧ a.load = true
      ∧ a.auto = false := by
  unfold State.restoreArchive
  rw [hcoder, hstore, hslot, if_neg (by simp), if_neg Bool.false_ne_true,
    if_neg (by simp [Option.isNone_eq_false_iff.2 hforce])]
  exact ⟨_, rfl, rfl, rfl⟩

theorem State.claimSpi_storeOn (s : State) (e : Env) (k : Nat) : (s.claimSpi e).storeOn k = s.storeOn k := by
  unfold State.claimSpi
  split <;> rfl

theorem State.claimSpi_slotUsed (s : State) (e : Env) (n : Nat) : (s.claimSpi e).slotUsed n = s.slotUsed n := by
  unfold State.claimSpi
  split <;> rfl

/-- Settles O35: the reading of the bank and the check of what it holds decide between the refusal and the staging. -/
theorem restoreStages : Obligations.RestoreStages := by
  unfold Obligations.RestoreStages
  refine ⟨fun e a u l s hruns hstill hon hfree hforce hu hl => ?staged,
    fun e a s hruns hstill hon hfree hnone => ?empty, fun e s hruns hstill hon hcoder hstore hslot hforce => ?archive⟩
  case staged =>
    have hread : (s.claimSpi e).areaRead a = u := hu.symm
    have hvalues : u.restorable a = l := hl.symm
    have hfree' : (s.claimSpi e).stagingHeld (sessionOf e) = false := by simpa using hfree
    have hforce' : ((s.claimSpi e).inForce (a + 1)).isSome = true := by rwa [State.claimSpi_inForce]
    have hbody := restoreBody_area (e := e) a (s := s.claimSpi e) (by simpa using hon)
    have hstaged : u.mgmt.staged = s.mgmt.staged := by simp [← hread, State.areaRead]
    cases hrefusal : u.restoreRefusal e l with
    | some st =>
      rw [State.restoreArea_refused (st := st) hfree' hforce' (by rw [hread, hvalues, hrefusal]), hread] at hbody
      obtain ⟨t, hexec, hanswered, hkept⟩ := exec_restore_answered hruns hbody
        (hread ▸ State.areaRead_still (State.claimSpi_still hstill)) (by simp [← hread, State.areaRead]) hstaged
      refine ⟨t, hexec, fun st' h => ?_, fun h => (by cases h)⟩
      cases h
      exact ⟨hanswered, hkept⟩
    | none =>
      by_cases hcase : l ≠ [] ∧ sessionOf e ≠ 255 ∧ ({ s with mgmt := { s.mgmt with
          staged := restageAll l s.mgmt.staged } } : State).stagedTotal ≤ 524288
      · obtain ⟨hsome, hsession, hroom⟩ := hcase
        have hroom' : (u.setStaged (restageAll l u.mgmt.staged)).stagedTotal ≤ 524288 := by
          obtain ⟨made, hset⟩ := u.setStaged_form (restageAll l u.mgmt.staged)
          refine Eq.trans_le (State.stagedTotal_of_staged ?_) hroom
          rw [hset, hstaged]
        rw [State.restoreArea_staged hfree' hforce' (by rw [hread, hvalues, hrefusal]) (by rwa [hread, hvalues])
          (by rwa [hread, hvalues]), hread, hvalues, hstaged] at hbody
        obtain ⟨t, hexec, hdone⟩ := exec_restore_staged hruns hstill hsession
          (hread ▸ StagedFor.areaRead (s.claimSpi e) a (sessionOf e) (restageAll l s.mgmt.staged)) hbody
        exact ⟨t, hexec, fun _ h => (by cases h), fun _ _ _ _ => hdone⟩
      · exact ⟨_, rfl, fun _ h => (by cases h), fun _ hsome hsession hroom => absurd ⟨hsome, hsession, hroom⟩ hcase⟩
  case empty =>
    exact exec_restore_answered hruns ((restoreBody_area a (by simpa using hon)).trans
      (State.restoreArea_empty (by simpa using hfree) (by rwa [State.claimSpi_inForce])))
      (State.claimSpi_still hstill) (by simp) (by simp)
  case archive =>
    obtain ⟨a, hbody, hload, hauto⟩ := State.restoreArchive_begins (e := e) (s := s.claimSpi e) (by simpa using hcoder)
      (by rwa [State.claimSpi_storeOn]) (by rwa [State.claimSpi_slotUsed]) (by rwa [State.claimSpi_inForce])
    obtain ⟨x, y, hexec⟩ := exec_restore hruns ((restoreBody_archive (by simpa using hon)).trans hbody)
      (State.claimSpi_still hstill) (by simp [State.setArchive])
    have hwaits := AnswerWaits.finish ((s.claimSpi e).setArchive a) (plainReq e 0x21 [2]) false
    exact ⟨_, a, hexec, rfl, hload, hauto, hwaits.busy, hwaits.core, hwaits.staged.trans (s.claimSpi_mgmt_staged e)⟩

end Sys2Proof.Machine
end
section
/-! PROOF. A DOMAIN_DOWN of a domain that is OFF, whose rail may now be turned off (R347, R358). -/

namespace Sys2Proof.Machine

/-- R358: D9 alone is ON; the rail of the ports, which RailSleepMask names, is on, and the T9 controls it since its
RailAddress was written. -/
def lateAddressState : State :=
  (({ power := { doms := [(9, { st := .on })] } } : State).wr .railSleepMask 0 4).wrv .railAddress 0 [0, 0, 0x40, 0, 0, 0, 0]

/-- R289: the local session. -/
def localEnv : Env := ⟨.spi, 0, .unicast, 0, 0⟩

theorem lateAddressState_runs : lateAddressState.runs localEnv false false := by
  unfold State.runs
  decide +kernel

theorem lateAddressState_shows : lateAddressState.neededBy 0 = false ∧ (lateAddressState.domain 0).st = .off
    ∧ (lateAddressState.domain 0).next = none ∧ lateAddressState.power.reg = none := by
  decide +kernel

/-- R358: the answered DOMAIN_DOWN asks the regulator for the rail. -/
theorem domainDown_lateAddress :
    (lateAddressState.request (domReq localEnv 0x31 [0, 2]) false false (domainDownBody localEnv [0, 2])).power.reg
      = some { rail := 2, cmd := 1 } := by
  decide +kernel

/-- Refutes O39: its clause on a DOMAIN_DOWN of a domain that is OFF already lets its rail be one that is to be turned off
(R358). The request is answered E_OK, and the regulator is asked to turn the rail off, which is a change of the power
controller. -/
theorem not_domainRequests : ¬ Obligations.DomainRequests := by
  unfold Obligations.DomainRequests
  rintro ⟨⟨-, -, -, -, hdown, -⟩, -⟩
  obtain ⟨hneeded, hoff, hnext, hreg⟩ := lateAddressState_shows
  obtain ⟨t, u, hexec, -, -, hthere⟩ := hdown localEnv 0 lateAddressState lateAddressState_runs
  obtain ⟨-, hpower, -⟩ := hthere hneeded hoff hnext
  have ht : lateAddressState.request (domReq localEnv 0x31 [0, 2]) false false (domainDownBody localEnv [0, 2]) = t :=
    Host.Outcome.next.inj hexec
  have hasked := domainDown_lateAddress
  rw [ht, hpower, hreg] at hasked
  cases hasked

end Sys2Proof.Machine
end
section
/-! PROOF. A STORE behind which a host reset that is due happens (R285, R291, R385). -/

namespace Sys2Proof.Machine

/-- R291: Reset was written, and its reply went with the queue of a port that left the network, so that no reply waits;
Dimmer is not at its default. -/
def dueResetState : State :=
  ({ power := { doms := [(9, { st := .on })] }, mgmt := { resetDue := true }, boot := { phase := .complete } } : State).wr .dimmer 0 7

/-- R75: a request of the group session, which is not answered. -/
def groupEnv : Env := ⟨.izsor 0, 0xE001, .group, 255, 1⟩

/-- R285: a STORE without an AreaMask. -/
def emptyStore : Instr := .store groupEnv []

theorem emptyStore_keepsDimmer : mayChange emptyStore dueResetState .dimmer 0 = false := by
  decide +kernel

theorem dueResetState_dimmer : dueResetState.rdv .dimmer 0 = [7] := by
  decide +kernel

/-- R291, R385: the refused STORE is followed by the reset, which takes Dimmer to its default. -/
theorem emptyStore_resets :
    ((dueResetState.request (plainReq groupEnv 0x20 []) false false (storeBody groupEnv [])).settled dueResetState).rdv
      .dimmer 0 = Ent.dflt .dimmer := by
  decide +kernel

theorem dimmer_dflt : Ent.dflt .dimmer ≠ [7] := by
  decide +kernel

/-- Refutes O59: its frame shuts a reset that is due out of SPI_FETCH alone, though it follows a STORE and a RESTORE too
(R291). A STORE of the group session, refused, leaves Dimmer at its default. -/
theorem not_managementAndStoreFrame : ¬ Obligations.ManagementAndStoreFrame := by
  unfold Obligations.ManagementAndStoreFrame
  rintro ⟨hframe, -⟩
  obtain ⟨hentries, -⟩ := hframe emptyStore dueResetState _ (.inl rfl) (fun n h => by cases h) rfl
  exact dimmer_dflt (emptyStore_resets.symm.trans
    ((hentries .dimmer 0 emptyStore_keepsDimmer).trans dueResetState_dimmer))

end Sys2Proof.Machine
end
